-- ==== Sys2Proof/Word.lean ====
section
/-!
DEFINITION. The plain data types of the model: bytes, and the sparse table in one canonical form that holds
registers, memory and indexed contexts.
-/
namespace Sys2Proof

/-- A byte of memory. -/
abbrev Byte := BitVec 8

/-- A register word (R4: every register is 32 bits wide). -/
abbrev Word := BitVec 32

/-- A sparse table by number: strictly rising keys, no entry equal to what an unlisted key reads as. -/
abbrev Tab (α : Type) := List (Nat × α)

end Sys2Proof
end

