-- ==== Sys2Proof/Syntax.lean ====
section
/-!
DEFINITION. The commands of the block: one constructor per row of spec/opcode_table.json.

The table gives its rows no operand fields and no bits. The operands here are what the row's rule needs from outside the
block: the instance it concerns, a value written, a quantity measured at a pin or a sensor (assumption log, entry 4).
-/
namespace Sys2Proof

/-- Who makes a register access (R20, R33): the host, or Tocsin. -/
inductive Agent where
  | host | tsv
deriving DecidableEq, Repr

/-- Whether a register access reads or writes (R4). -/
inductive Access where
  | read | write
deriving DecidableEq, Repr

/-- A satellite that the almanac places above the horizon (R270): constellation, number, elevation in degrees. -/
structure GnsSat where
  con  : Nat
  svid : Nat
  elev : Nat
deriving DecidableEq, Repr

/-- What a channel measures at an epoch (Table 10.4), as the correlators give it. -/
structure GnsMeas where
  ch    : Nat
  pri   : Nat
  prf   : Nat
  cpstd : Nat
  adr   : Int
  dop   : Int
  dopv  : Bool
  halfc : Bool
  glok  : Int
  cn0   : Nat
  prstd : Nat
deriving DecidableEq, Repr

/-- What an epoch's solutions give (R272–R275): receiver time, clock, the velocity solution, the baseline solution. -/
structure GnsEpoch where
  week   : Nat
  tow    : Nat
  clkv   : Bool
  clkb   : Int
  clkd   : Int
  nsv    : Nat
  speed  : Nat
  course : Nat
  base   : Bool
  blen   : Nat
  hdg    : Nat
  pitch  : Int
  hstd   : Nat
deriving DecidableEq, Repr

/-- A CAN frame (R334): format, identifier, data length code, data bytes. -/
structure CanFrame where
  ide  : Bool := false
  fdf  : Bool := false
  brs  : Bool := false
  rtr  : Bool := false
  id   : Nat := 0
  dlc  : Nat := 0
  data : List Nat := []
deriving DecidableEq, Repr

/-- What happens on an inbound transport session (R339): a peer opens a connection or a broadcast; its last frame arrives
with the message; the peer or a timeout ends it with a reason. -/
inductive CanLong where
  | opens (sa da pgn len : Nat) (bam : Bool)
  | complete (sa da : Nat) (data : List Nat)
  | aborted (sa da reason : Nat)
deriving DecidableEq, Repr

/-- A grandmaster as it announces itself (R342): its priorities and class, whether its identity is lower than the module's,
the time that its sync message carries minus the module time of its receipt, the port that leads to it, and its domain. -/
structure EthGm where
  prio1 : Nat
  cls   : Nat
  prio2 : Nat
  lower : Bool
  ofs   : Int
  port  : Nat
  domain : Nat := 0
deriving DecidableEq, Repr

/-- What the peer of a handshake offers (Table 12.6): the cipher suite, the key exchange group and the signature scheme by their codes in TLS;
the depth of its certificate chain (0: it shows no certificate), the slot of the trust anchor to which the chain leads, whether its dates are
valid; whether the authentication is mutual, and whether it keeps apart from PSK, resumption, 0-RTT and connection IDs. -/
structure DtlsOffer where
  suite  : Nat
  group  : Nat
  sig    : Nat
  depth  : Nat
  anchor : Nat
  dated  : Bool
  shown  : Bool
  plain  : Bool
deriving DecidableEq, Repr

/-- What the conversions of a housekeeping round give (R419): the raw readings of sensors 0–22 in 0.1 °C, the sensors that read open
or shorted as a mask, LOGPWR, IGN, OUTPWR-A, OUTPWR-B and the hold-up store in 10 mV, whether its energy meets R408, and of each
fan the speed in rpm and the drive current in mA. -/
structure ThmRound where
  temps  : List Int
  open_  : Nat
  logpwr : Nat
  ign    : Nat
  outA   : Nat
  outB   : Nat
  vhold  : Nat
  hvok   : Bool
  fans   : List (Nat × Nat)
deriving DecidableEq, Repr

/-- The message of Table 13.6 with the operation's data; in a response STATUS and DETAIL count. -/
structure DictMsg where
  op     : Nat := 0
  status : Nat := 0
  role   : Nat := 0
  sess   : Nat := 0
  seq    : Nat := 0
  pid    : Nat := 0
  ofs    : Nat := 0
  len    : Nat := 0
  detail : Nat := 0
  data   : List Nat := []
deriving DecidableEq, Repr


/-- The commands: one constructor per row of spec/opcode_table.json, in the table's order. Each docstring begins with
the row's mnemonic and its rule. -/
inductive Instr where
  /-- REGISTER_WRITE (R8). A host or TSV write to a register field that has no row of its own takes effect according to its access code. `agent` makes the access, `acc` reads or writes, `addr` is the address, `size` the size in bytes, `v` the value written. -/
  | registerWrite (agent : Agent) (acc : Access) (addr size v : Nat)
  /-- BLOCK_FAULT_DETECTED (R23). A block agent detects a fault, applies the data consequence in the same cycle and reports it to Tocsin within 1 µs. `b` is the block, `inst` the base, channel or slot concerned, `row` the row of Table 14.1 to which the failure belongs, `groups` the groups of the output concerned, `res` the leased resource that is at fault. -/
  | blockFaultDetected (b inst : Nat) (row : Option Nat) (groups : Nat) (res : Option Nat)
  /-- FENCE (R19). Tocsin or a domain manager fences a block, isolating it from the data path. `b` is the block. -/
  | fence (b : Nat)
  /-- BLOCK_HEALTHY (R526). The agent of a block reset under a Reset action reports it healthy, and its fence is lifted. `b` is the block. -/
  | blockHealthy (b : Nat)
  /-- POWER_GOOD_LOST (R27). A domain loses its power-good level; its manager fences the dependent blocks within 1 µs and switches the dependent domains off. `d` is the domain. -/
  | powerGoodLost (d : Nat)
  /-- DOMAIN_POWER_GOOD (R526). A switched-on domain reaches power-good; its blocks come out of reset and the R27 fence is lifted. `d` is the domain. -/
  | domainPowerGood (d : Nat)
  /-- DOMAIN_POWER_FAIL (R410). A domain is not good within 5 ms of switch-on; it is switched off again, FLT is set and EV 0x0024 is emitted. `d` is the domain. -/
  | domainPowerFail (d : Nat)
  /-- EDGE_ACCEPTED (R36). An input edge that has passed the glitch filter assigns the base its exact phase and renews the estimator and the deadline. `n` is the base whose filter the edge has passed, `pin` the TBI input, `high` its new level; the edge lies FILT × 20 ns back. -/
  | edgeAccepted (n pin : Nat) (high : Bool)
  /-- EDGE_DEADLINE (R43). No edge is accepted by the deadline; the base enters LOST, or STILL after STILLTO. `n` is the base. -/
  | edgeDeadline (n : Nat)
  /-- FAILOVER_RETURN (R48). When the base's own source has been in TRACK for 1 s, the base returns to it without a jump and emits EV 0x030C. `n` is the base. -/
  | failoverReturn (n : Nat)
  /-- TBI_WIRE_BREAK (R507). A TBI wire break or short is confirmed; WBRK is set and every base reading the input enters LOST with cause 2. `pin` is the TBI input, `short` tells a short from a break, `ms` is how long the condition has lasted. -/
  | tbiWireBreak (pin : Nat) (short : Bool) (ms : Nat)
  /-- GNSS_RECORD_MISSING (R276). No speed-over-ground record follows within 1.5 epoch periods, and the GNSS-distance base enters LOST. `n` is the base. -/
  | gnssRecordMissing (n : Nat)
  /-- YULIS_UPDATE_MISSING (R480). No valid Yulis update follows within 62,500 ns, and the base enters LOST. `n` is the base. -/
  | yulisUpdateMissing (n : Nat)
  /-- PRESET (R44). A write of TBS_PRESETn sets the phase on the next tick as a jump, or is ignored with EV 0x030D for bases that do not allow it. `n` is the base, `v` the value written. -/
  | preset (n v : Nat)
  /-- SNAP (R37). A write of TBS_SNAP latches phase, velocity, acceleration, time and status of all eight bases on one tick. `v` is the value written; any value strobes. -/
  | snap (v : Nat)
  /-- PHASE_READ (R37). A read of TBS_PHASEn latches VEL, ACC, TSLO, TSHI and STAT of that base, or returns the snapshot after TBS_SNAP. `n` is the base. -/
  | phaseRead (n : Nat)
  /-- PLAUSIBILITY_WINDOW (R46). At the end of each 100 ms window the base's speed is compared with REF times RATIO and the base is flagged or returned to TRACK. `n` is the base. -/
  | plausibilityWindow (n : Nat)
  /-- POST (R61). A POST strobe is checked in order and takes a free slot as a provisional event, or returns a refusal code. `p` is the host port. -/
  | post (p : Nat)
  /-- RETIME (R63). A RETIME strobe moves the target of a provisional event of the same port and generation, or returns a result code. `p` is the host port. -/
  | retime (p : Nat)
  /-- REVOKE (R63). A REVOKE strobe retires a provisional event as REVOKED, or ends a committed repeating event after its committed occurrence. `p` is the host port. -/
  | revoke (p : Nat)
  /-- FLUSH (R64). A FLUSH strobe revokes every provisional event of the port and always reports DONE. `p` is the host port. -/
  | flush (p : Nat)
  /-- PREDICTION_ROUND (R65). Every 1,000 ns CAR applies base transitions, processes port commands and renews predictions and commits of provisional events. -/
  | predictionRound
  /-- EVENT_FIRE (R68). A committed event fires at its frozen time, and its action reaches the target block or is BLOCKED. `bad` are the slots on which the first comparator differs from the second (R83). -/
  | eventFire (bad : List Nat)
  /-- RETIREMENT_WRITE (R77). A decided slot's retirement entry is written to the ring when space allows, and the slot becomes FREE. -/
  | retirementWrite
  /-- CAR_RETRD_WRITE (R77). A write of CAR_RETRD frees ring entries, or is ignored with EV 0x020B if outside RD to WR. `v` is the value written. -/
  | carRetrdWrite (v : Nat)
  /-- WINDOW_MAXLEN (R89). MAXLEN elapses since a window opened; it closes with STATUS TIMEOUT. `n` is the window. -/
  | windowMaxlen (n : Nat)
  /-- TIME_DOMAIN_SLOT (R95). A 50 ms slot in time-domain estimation ends and its estimated mass is formed. -/
  | timeDomainSlot
  /-- TARE (R96). HSN_CMD = TARE starts averaging the plate over 16 paddle periods. -/
  | tare
  /-- CALSTART (R97). HSN_CMD = CALSTART clears the calibration sums and starts adding paddles. -/
  | calstart
  /-- CALSTOP (R97). HSN_CMD = CALSTOP freezes the calibration sums and emits EV 0x0503. -/
  | calstop
  /-- NLRESET (R102). HSN_CMD = NLRESET clears the learned noise of the bands in BANDMASK. `mask` is BANDMASK. -/
  | nlreset (mask : Nat)
  /-- NLSNAP (R103). HSN_CMD = NLSNAP copies the live noise table to the staged bank of P.05.00.300. -/
  | nlsnap
  /-- MOISTURE_AVERAGE (R105). Each 100 ms the cell capacitance and grain temperature are averaged and a moisture reading is formed when the cell is full. `cap` is the mean of C over the 100 ms in 0.01 pF, `tg` that of Tg in 0.1 °C. -/
  | moistureAverage (cap : Nat) (tg : Int)
  /-- MOISTURE_STALE (R106). No moisture reading for 60 s sets STALE and emits EV 0x050A. -/
  | moistureStale
  /-- HISTORY_STEP (R107). Every 100 ms HSN writes a history step with DBASE phase, cut width and the nearest FUS result. -/
  | historyStep
  /-- YIELD_RECORD (R108). 1 ms after each measurement interval HSN forms the yield record and writes it to the ring or drops it. -/
  | yieldRecord
  /-- LOSS_SENSOR_FAULT (R104). A loss channel's bias leaves 2–18 V, sets LFLT and emits EV 0x050B. `c` is the loss channel, `mv` its bias voltage in mV. -/
  | lossSensorFault (c mv : Nat)
  /-- PLATE_BRIDGE_FAULT (R505). The impact-plate bridge reads open or shorted, sets PLATEFLT and emits EV 0x050C. `kind` is what the bridge reads: 0 whole, 1 open, 2 short. -/
  | plateBridgeFault (kind : Nat)
  /-- HSN_RING_READ_WRITE (R110). A write of a HSN ring RD index frees records, or is ignored with EV 0x0510 if out of span. `ring` is 0 for HSN_WRRD and 1 for HSN_YRRD, `v` the value written. -/
  | hsnRingReadWrite (ring v : Nat)
  /-- PORT_SYNCHRONISED (R121). VSYNC has been inactive for 64 PCLK in ARMED; the port enters IDLE and emits EV 0x0601. `p` is the port. -/
  | portSynchronised (p : Nat)
  /-- FRAME_START (R119). VSYNC goes active; the port takes a buffer, pairs a pending trigger and starts capture. `p` is the port. -/
  | frameStart (p : Nat)
  /-- FRAME_END (R122). VSYNC returns inactive; the frame's shape is judged and it is released or marked for queueing. `p` is the port, `lines` the frame's lines as the port sampled them, each the values D of its pixels. -/
  | frameEnd (p : Nat) (lines : List (List Nat))
  /-- FRAME_TIMEOUT (R122). A frame is not ended FTO after its start; it is closed with TIMEOUT and the port returns to ARMED. `p` is the port, `lines` the lines sampled so far. -/
  | frameTimeout (p : Nat) (lines : List (List Nat))
  /-- PIXEL_CLOCK_LOST (R121). No PCLK edge for 10 µs; the port enters NOCLK and emits EV 0x0606. `p` is the port, `lines` the lines sampled so far. -/
  | pixelClockLost (p : Nat) (lines : List (List Nat))
  /-- PIXEL_CLOCK_RETURN (R121). The first PCLK edge in NOCLK returns the port to ARMED. `p` is the port. -/
  | pixelClockReturn (p : Nat)
  /-- TRIGGER_MISSED (R126). A pending trigger is not paired within TRIGWIN; it is discarded with TRIGMISS and EV 0x0608. `p` is the port. -/
  | triggerMissed (p : Nat)
  /-- FRAME_QUEUED (R128). 50 ns after its frame end a frame enters the live queue in frame-end and port order. -/
  | frameQueued
  /-- PROCESSING_START (R128). The head frame of the queue, or a replay frame, starts processing when the pipeline and quiet slot are free. -/
  | processingStart
  /-- PROCESSING_END (R129). A frame's processing ends after its processing time and a quiet slot starts if throttled. -/
  | processingEnd
  /-- QUIET_SLOT_END (R130). The quiet slot after a processed frame ends. -/
  | quietSlotEnd
  /-- RESULT_WRITE (R143). 200 ns after processing ends or a frame is decided, its result is written to the ring or dropped. -/
  | resultWrite
  /-- RPLY (R142). A write to VIS_RPLY queues one replay frame under C3, or is ignored with EV 0x060D. -/
  | rply
  /-- FRAME_MEMORY_ERROR (R146). An uncorrectable ECC error in a frame access ends processing with MEMERR and EV 0x0612. -/
  | frameMemoryError
  /-- VIS_RING_READ_WRITE (R143). A write of VIS_RESRD frees results, or is ignored with EV 0x0610 if out of span. `v` is the value written to VIS_RESRD. -/
  | visRingReadWrite (v : Nat)
  /-- TIMER_TRIGGER (R153). A slot's timer triggers at module times matching PERIOD and OFS. `n` is the slot. -/
  | timerTrigger (n : Nat)
  /-- SWTRIG (R153). A write of a slot number to CEN_SWTRIG triggers that slot. `n` is the value written to SLOT. -/
  | swtrig (n : Nat)
  /-- EVALUATION_ISSUE (R156). The dispatcher issues the oldest eligible pending trigger at an issue opportunity. -/
  | evaluationIssue
  /-- EVALUATION_OUTPUT (R149). An evaluation completes its PID computation and writes its output with its latency, trace and drive frame. -/
  | evaluationOutput
  /-- SAMPLE_TIMEOUT (R163). A slot in MAN or AUTO receives no trigger for STO ms and enters HOLD with cause NOSAMP. `n` is the slot. -/
  | sampleTimeout (n : Nat)
  /-- INTERLOCK_SCAN (R168). Every 10 µs CEN scans the interlocks of armed channels, moves setpoints of open-loop channels and inhibits or holds channels. -/
  | interlockScan
  /-- ARM (R169). CEN_FCMDk = ARM arms a channel from its safe value, or is ignored while a fault persists. `k` is the channel. -/
  | arm (k : Nat)
  /-- DISARM (R169). CEN_FCMDk = DISARM writes SAFEU once and returns the channel to IDLE. `k` is the channel. -/
  | disarm (k : Nat)
  /-- SLOT_OFF (R162). CEN_LCMDn = OFF puts the slot in OFF. `n` is the slot. -/
  | slotOff (n : Nat)
  /-- SLOT_MAN (R150). CEN_LCMDn = MAN puts the slot in manual with first = 1. `n` is the slot. -/
  | slotMan (n : Nat)
  /-- SLOT_AUTO (R149). CEN_LCMDn = AUTO puts the slot in automatic with first = 1. `n` is the slot. -/
  | slotAuto (n : Nat)
  /-- RESET_INTEGRATOR (R162). CEN_LCMDn command 4 resets the slot's integrator to 0. `n` is the slot. -/
  | resetIntegrator (n : Nat)
  /-- RELEASE (R162). CEN_LCMDn = RELEASE clears FBINV or FENCE HOLD of an unbound slot. `n` is the slot. -/
  | release (n : Nat)
  /-- XFB_WRITE (R151). A write of CEN_XFBn sets the external feedback and records its module time for staleness. `n` is the register, `v` the value written. -/
  | xfbWrite (n v : Nat)
  /-- ACTUATOR_FAULT (R171). SOL or LSW reports a fault on a claimed output and the channel enters FAULT with cause ACT. `lsw` is true for LSW and false for SOL, `ch` the channel, `code` the fault reported. -/
  | actuatorFault (lsw : Bool) (ch code : Nat)
  /-- CEN_RING_READ_WRITE (R176). A write of CEN_TRRD frees trace entries, or is ignored with EV 0x040D if out of span. `v` is the value written to CEN_TRRD. -/
  | cenRingReadWrite (v : Nat)
  /-- PLAN (R190). On a newer FUS result or apply point SEC predicts the path, plans row transitions and issues revokes, retimes and posts. -/
  | plan
  /-- CUT_WIDTH_UPDATE (R204). Every 10 ms SEC writes CUTW from the ON rows and the header input. -/
  | cutWidthUpdate
  /-- HOLD_ENTER (R203). A HOLD cause arises in RUN; SEC flushes port 4 and switches rows off with SAFEOFF. -/
  | holdEnter
  /-- HOLD_RELEASE (R202). Every cause has been absent for 500 ms and SEC returns from HOLD to WAIT. -/
  | holdRelease
  /-- REPLAN (R189). SEC_CMD = REPLAN starts a plan. -/
  | replan
  /-- ALLOFF (R203). SEC_CMD = ALLOFF switches every ON row off by late switches. -/
  | alloff
  /-- CLRCOV (R186). SEC_CMD = CLRCOV clears the coverage map in OFF or WAIT, or is ignored with EV 0x0908. -/
  | clrcov
  /-- ROWCLR (R194). SEC_CMD = ROWCLR clears a row from FAULT. `row`: the row. -/
  | rowclr (row : Nat)
  /-- SOL_ON (R224). A host ON to an SV channel books a peak or leaves the channel OFF if it cannot be booked. `n` is the channel. -/
  | solOn (n : Nat)
  /-- SOL_OFF (R221). A host OFF opens the low side, or releases a booked peak in WAIT. `n` is the channel. -/
  | solOff (n : Nat)
  /-- SOL_CLR (R230). A channel CLR returns it from FAULT to OFF when its cause allows. `n` is the channel; `cool`: its driver is below 130 °C; `supply`: OUTB has been above 9.0 V for 10 ms. -/
  | solClr (n : Nat) (cool supply : Bool)
  /-- GROUP_CLR (R230). SOL_GCMDg = CLR clears a group short and ends Tocsin's stuck-output record. `g` is the group. -/
  | groupClr (g : Nat)
  /-- BOOST_CLR (R214). SOL_BCMD = CLR returns the boost from FAULT to WAITLEASE or OFF. -/
  | boostClr
  /-- ISET_WRITE (R218). A host ISET write sets the PROP current, or is ignored on a claimed channel. `n` is the channel, `v` the current written, mA. -/
  | isetWrite (n v : Nat)
  /-- SOL_DUTY_WRITE (R219). A host DUTY write sets the nozzle duty from the next cycle start, or is ignored on a claimed channel. `n` is the channel, `duty` the value written. -/
  | solDutyWrite (n duty : Nat)
  /-- PEAK_START (R217). A booked peak starts; the group rail switches to boost and the channel enters PEAK. `n` is the channel. -/
  | peakStart (n : Nat)
  /-- PEAK_END (R217). TPEAK elapses and the channel enters HOLD from OUTB. `n` is the channel. -/
  | peakEnd (n : Nat)
  /-- PEAK_NOT_REACHED (R217). The current has not reached IPEAK by TPKTO; PKNR is set and the channel holds or faults per PKACT. `i` is the current of channel `n` at TPKTO, mA. -/
  | peakNotReached (n i : Nat)
  /-- NOZZLE_CYCLE_START (R219). A PWMN cycle start begins or extends an on-period of an ON channel. `n` is the channel; 100 µs before a cycle start the step books the peak of the period. -/
  | nozzleCycleStart (n : Nat)
  /-- NOZZLE_ON_END (R219). A PWMN on-period ends and the channel returns to REG. `n` is the channel. -/
  | nozzleOnEnd (n : Nat)
  /-- DECAY_END (R221). The coil current falls below 50 mA and the channel leaves DECAY. `n` is the channel. -/
  | decayEnd (n : Nat)
  /-- BOOST_LEASE_GRANT (R213). Tocsin grants the boost lease and the converter enters START. -/
  | boostLeaseGrant
  /-- BOOST_READY (R214). The boost rail reaches 95 % of its setpoint and the converter enters READY. `v` is the boost rail, 0.1 V. -/
  | boostReady (v : Nat)
  /-- BOOST_LOW (R214). The boost rail falls below 90 % and the converter enters LOW. `v` is the boost rail, 0.1 V. -/
  | boostLow (v : Nat)
  /-- BOOST_TIMEOUT (R214). START exceeds 20 ms or LOW exceeds 5 ms and the boost enters FAULT. -/
  | boostTimeout
  /-- BOOST_FAULT (R214). The rail exceeds 68 V or the converter is over-current; the boost enters FAULT and returns its lease. `ov`: the rail exceeds 68 V; otherwise the converter is over-current. -/
  | boostFault (ov : Bool)
  /-- BOOST_LEASE_REVOKED (R213). Tocsin revokes the boost lease; the converter stops within 10 µs and enters WAITLEASE. -/
  | boostLeaseRevoked
  /-- SOL_SHORT (R229). A channel current above 15 A switches the channel off into FAULT. `i` is the current of channel `n`, mA. -/
  | solShort (n i : Nat)
  /-- GROUP_SHORT (R229). A group current above 33 A opens the group switch and faults all four channels. `i` is the current of group `g`, mA (a common line at GND while the switch is on is a group short at any current). -/
  | groupShort (g i : Nat)
  /-- SOL_OPEN_LOAD (R229). Current below 25 % of its target for 2 ms switches the channel off into FAULT. `i` is the current of channel `n`, mA, for 2 ms at full duty. -/
  | solOpenLoad (n i : Nat)
  /-- SOL_OPEN_LOAD_OFF (R229). The off-state test finds an open load for 20 ms and sets OPENOFF. `n` is the channel. -/
  | solOpenLoadOff (n : Nat)
  /-- SOL_DRIVER_OVERTEMP (R229). A channel driver above 150 °C switches the channel off into FAULT. `t` is the driver temperature of channel `n`, 0.1 °C. -/
  | solDriverOvertemp (n : Nat) (t : Int)
  /-- OUTB_UNDERVOLTAGE (R229). OUTB below 8.0 V for 100 µs faults every active channel and stops the boost. `v` is OUTB, 0.1 V. -/
  | outbUndervoltage (v : Nat)
  /-- LSW_ON (R250). A host ON turns a load switch on, starting an inrush window. `n` is the channel. -/
  | lswOn (n : Nat)
  /-- LSW_OFF (R244). A host OFF turns a load switch off. `n` is the channel. -/
  | lswOff (n : Nat)
  /-- LSW_CLR (R259). A host CLR returns a load switch from FAULT to OFF when its cause allows, or is ignored with EV 0x0B06. `n` is the channel; `below`: its output has been below V_RB for 2 ms; `plausible`: its junction sensor reads plausibly. -/
  | lswClr (n : Nat) (below plausible : Bool)
  /-- LSW_DUTY_WRITE (R244). A host DUTY write sets the PWM duty from the next period, or is ignored on a claimed channel. `n` is the channel, `duty` the value written. -/
  | lswDutyWrite (n duty : Nat)
  /-- PWM_PERIOD_START (R244). A PWM period starts with its on-time and takes a changed duty. `n` is the channel. -/
  | pwmPeriodStart (n : Nat)
  /-- I2T_TRIP (R246). The channel heat reaches K; the channel switches off with cause I2T and EV 0x0B21. The sampling of channel `n`: `i` is the measured current in mA since the last sampling; the trip follows when the heat reaches K. -/
  | i2tTrip (n i : Nat)
  /-- SHORT_TRIP (R248). The current reaches ISC; the channel switches off within 10 µs with cause SHORT. `i` is the current of channel `n` in 10 mA. -/
  | shortTrip (n i : Nat)
  /-- INRUSH_END (R250). TWIN ends and the channel enters ON without current limitation. `n` is the channel. -/
  | inrushEnd (n : Nat)
  /-- LIMIT_TRIP (R250). In INRUSH the channel has been limited with its output below 2 V for TSC and trips with cause LIMIT. `n` is the channel. -/
  | limitTrip (n : Nat)
  /-- BANK_UNDERVOLTAGE (R253). A bank supply below 5.0 V for 1 ms faults every active channel of the bank with cause UV. `b` is the bank, `v` its supply in 10 mV. -/
  | bankUndervoltage (b v : Nat)
  /-- BANK_RECOVERED (R253). The bank supply has been above 7.0 V for 10 ms; EV 0x0B02 is emitted and CLR is accepted. `b` is the bank, `v` its supply in 10 mV. -/
  | bankRecovered (b v : Nat)
  /-- BANK_CURRENT_HIGH (R254). The 1 s average bank current exceeds BANKLIM; HI is set and EV 0x0B03 emitted. `b` is the bank, `i` its 1 s mean current in 10 mA. -/
  | bankCurrentHigh (b i : Nat)
  /-- JUNCTION_OVERTEMP (R255). A junction at 150 °C or more switches the channel off with cause OVT. `tj` is the junction temperature of channel `n` in 0.1 °C. -/
  | junctionOvertemp (n : Nat) (tj : Int)
  /-- JUNCTION_SENSOR_FAIL (R255). A junction sensor reads open or shorted and switches the channel off with cause SENSOR. `n` is the channel. -/
  | junctionSensorFail (n : Nat)
  /-- LSW_OPEN_LOAD (R256). Current below OLTHR for 200 ms sets OPEN and faults the channel with OLACT = 1. `i` is the current of channel `n` in mA. -/
  | lswOpenLoad (n i : Nat)
  /-- LSW_OPEN_LOAD_OFF (R257). An off output above 3.5 V for 20 ms sets OPENOFF. `v` is the output voltage of channel `n` in 10 mV. -/
  | lswOpenLoadOff (n v : Nat)
  /-- STUCK (R258). An off output above V_RB for 2 ms sets STUCK, faults the channel and reports to Tocsin. `v` is the output voltage of channel `n` in 10 mV. -/
  | stuck (n v : Nat)
  /-- NOTON (R258). An on output below V_RB for 2 ms switches off with cause NOTON. `v` is the output voltage of channel `n` in 10 mV. -/
  | noton (n v : Nat)
  /-- MEASUREMENT_EPOCH (R272). At each epoch GNS samples all channels, forms heading and speed and writes the epoch or drops it. `sats` are the satellites that the almanac places above the horizon, `meas` what the channels measure, `e` what the solutions give. -/
  | measurementEpoch (sats : List GnsSat) (meas : List GnsMeas) (e : GnsEpoch)
  /-- SIGNAL_DETECTED (R271). A channel in ACQ or REACQ detects its signal and enters PULLIN. `c` is the channel. -/
  | signalDetected (c : Nat)
  /-- PHASE_LOCK (R271). A channel in PULLIN reaches phase lock with synchronisation and enters TRACK. `c` is the channel. -/
  | phaseLock (c : Nat)
  /-- PULLIN_TIMEOUT (R271). A channel in PULLIN without lock for 2 s returns to ACQ. `c` is the channel. -/
  | pullinTimeout (c : Nat)
  /-- TRACK_LOSS (R271). C/N0 falls below 20 dB-Hz or lock is lost for 200 ms and the channel enters REACQ. `c` is the channel, `cn0` its C/N0 in 0.25 dB-Hz, `ms` how long phase lock has been lost. -/
  | trackLoss (c cn0 ms : Nat)
  /-- REACQ_TIMEOUT (R271). A channel in REACQ for 10 s returns to ACQ. `c` is the channel. -/
  | reacqTimeout (c : Nat)
  /-- TP0_PULSE (R280). A TP0 edge is generated and module time and the label are latched. -/
  | tp0Pulse
  /-- TP1_PULSE (R277). A TP1 pulse is generated at its programmed instant. `t` is the instant, in µs of the week of the time scale. -/
  | tp1Pulse (t : Nat)
  /-- TIMEQ_WRITE (R279). GNS writes the TIMEQ message for the next TP0 pulse and sets TIMEQ. `qerr` is the signed difference of the pulse edge from its ideal instant, in ps. -/
  | timeqWrite (qerr : Int)
  /-- TQWK_READ (R279). A read of GNS_TQWK latches the other five TIMEQ registers. -/
  | tqwkRead
  /-- TIME_SOLUTION (R283). A valid time solution arrives and may lead to LOCKED or a slew or step decision. `nsat` satellites on ANT0, `pdop` in 0.1, `errsol` in ns, `off` the offset of the pulse train in ns, `week` and `tow` the label of the next true second, which starts `ns` ns after the solution, `rate` the rate of TSYS against module time in 0.01 ppb, `leap` an announced leap second (1 inserted, −1 deleted, 0 none) and `leapWeek` and `leapTow` the week and its second at which the new day starts. -/
  | timeSolution (nsat pdop errsol : Nat) (off : Int) (week tow ns : Nat) (rate leap : Int) (leapWeek leapTow : Nat)
  /-- DOLDRUMS_ENTRY (R283). No valid time solution for 1 s; the time state enters DOLDRUMS with EV 0x0702. -/
  | doldrumsEntry
  /-- RETENTION_SAVE (R287). Every 10 minutes while LOCKED GNS writes its retention data to KA memory. -/
  | retentionSave
  /-- SAVE (R287). GNS_CMD = SAVE writes retention data, ignored unless LOCKED. -/
  | save
  /-- CLEAR_RETENTION (R288). GNS_CMD = 2 clears the retention memory. -/
  | clearRetention
  /-- COLD_RESTART (R288). GNS_CMD = 3 makes the receiver cold start. -/
  | coldRestart
  /-- ANTENNA_OPEN (R289). Antenna bias current below 2 mA for 1 s sets ANTnF = 1. `a` is the antenna, `i` its bias current in µA over the last second. -/
  | antennaOpen (a i : Nat)
  /-- ANTENNA_SHORT (R289). Antenna bias above 100 mA switches the bias off and sets ANTnF = 2. `a` is the antenna, `i` its bias current in µA. -/
  | antennaShort (a i : Nat)
  /-- ANTENNA_RETRY (R289). Every 10 s the bias of a shorted antenna is retried. `a` is the antenna, `i` its bias current in µA with the bias on again. -/
  | antennaRetry (a i : Nat)
  /-- INTERFERENCE (R289). A band's AGC outside its window for 1 s sets INTF. `band` is 0 for L1, 1 for L2, 2 for L5, 3 for E6 and B3; `out`: its AGC has been outside its window for 1 s. -/
  | interference (band : Nat) (out : Bool)
  /-- TCXO_FAULT (R289). The TCXO deviates by more than 10 ppm; pulses go inactive and TSTATE becomes NOTIME. `dev` is the deviation of the TCXO from the system oscillator in ppb. -/
  | tcxoFault (dev : Int)
  /-- GNS_RING_READ_WRITE (R273). A write of GNS_EPRD frees epoch slots, or is ignored with EV 0x070E if out of span. `v` is the value written to GNS_EPRD. -/
  | gnsRingReadWrite (v : Nat)
  /-- IMU_SAMPLE (R304). A primary IMU sample propagates the estimator state. `k`: the stream; `sat`: the sample saturates; `w`: angular rate and acceleration of the on-module IMU as words W3–W8 of Table 11.2. -/
  | imuSample (k : Nat) (sat : Bool) (w : List Nat)
  /-- INTERNAL_SAMPLE (R302). FUS samples an internal GNSS, odometry or steering stream and queues it. `k`: the stream. -/
  | internalSample (k : Nat)
  /-- PUSH (R301). A write of FUS_PkPUSH checks and admits a push record, or refuses it with a status. `p`: the port. -/
  | push (p : Nat)
  /-- MEASUREMENT_UPDATE (R307). A queued measurement is gated and fused at its time of measurement. -/
  | measurementUpdate
  /-- RESULT_ISSUE (R311). The live lane issues the result for an output instant to SEC, HSN and the ring. -/
  | resultIssue
  /-- REPLAY_END (R315). A replay revises the newest instant and its state replaces the live state. -/
  | replayEnd
  /-- STREAM_STALE (R302). No usable sample for STALE ms puts the stream in STALE. `k`: the stream. -/
  | streamStale (k : Nat)
  /-- POSITION_TIMEOUT (R305). No position sample used for POSTO ms moves the estimator to COAST. -/
  | positionTimeout
  /-- CALIBRATION_FOCUS (R308). After CALDWELL seconds the calibration focus moves to the next stream. -/
  | calibrationFocus
  /-- RESTART (R316). FUS_CMD = RESTART restarts the estimator and clears its history. -/
  | restart
  /-- CALSNAP (R310). FUS_CMD = CALSNAP copies refined calibrations into the staged nominal fields. `mask`: the value written. -/
  | calsnap (mask : Nat)
  /-- CALRESET (R310). FUS_CMD = CALRESET returns refined calibrations to nominal. `mask`: the value written. -/
  | calreset (mask : Nat)
  /-- ESTIMATOR_FAULT (R322). A covariance or history memory fault restarts the estimator with EV 0x080D. `cause`: the fault's cause. -/
  | estimatorFault (cause : Nat)
  /-- FUS_LAST_READ (R313). A read of FUS + 0x0040 latches the other fifteen words of FUS_LAST. -/
  | fusLastRead
  /-- FUS_RING_READ_WRITE (R313). A write of FUS_RESRD frees results, or is ignored with EV 0x080F if out of span. `v`: the value written. -/
  | fusRingReadWrite (v : Nat)
  /-- CAN_TX_REQ (R329). A REQ strobe copies or replaces the transmit copy of a buffer, or holds it as replacement. `n` is the controller, `b` the buffer, whose REQ the host strobes. -/
  | canTxReq (n b : Nat)
  /-- CAN_TX_CANCEL (R329). A CANCEL strobe removes a pending request or holds the cancel for a frozen frame. `n` is the controller, `b` the buffer, whose CANCEL the host strobes. -/
  | canTxCancel (n b : Nat)
  /-- CAN_TX_ARBITRATION (R328). At a start of frame the controller chooses and freezes one pending buffer. `n` is the controller. -/
  | canTxArbitration (n : Nat)
  /-- CAN_TX_DONE (R329). A frozen frame ends in success, leaving RES = DONE and settling held commands. `n` is the controller. -/
  | canTxDone (n : Nat)
  /-- CAN_TX_ERROR (R329). A frozen frame ends in lost arbitration, error or bus-off and is retried, replaced or cancelled. `n` is the controller, `lec` the error as LEC codes it, 0 for lost arbitration, `dom` whether a dominant bit was seen during a passive error flag, `arb` whether a stuff error lay in the arbitration field, `more` how many bit errors in the error flag and runs of dominant bits after it raised TEC again. -/
  | canTxError (n lec : Nat) (dom arb : Bool) (more : Nat)
  /-- BUS_OFF_RECOVERED (R331). 128 occurrences of 11 recessive bits end bus-off recovery and the node becomes error active. `n` is the controller. -/
  | busOffRecovered (n : Nat)
  /-- RECOVER (R331). CAN_CMDn = RECOVER starts bus-off recovery. `n` is the controller. -/
  | recover (n : Nat)
  /-- CAN_RX_FRAME (R334). A received frame is filtered and stored in a FIFO, rejected, or dropped. `n` is the controller, `f` the frame, `esi` its error state indicator, `age` how long ago its start-of-frame sample point was, in ns. -/
  | canRxFrame (n : Nat) (f : CanFrame) (esi : Bool) (age : Nat)
  /-- RXPOP (R335). A write of CAN_RXPOPnq advances the FIFO. `n` is the controller, `q` the FIFO. -/
  | rxpop (n q : Nat)
  /-- MESSAGE_TIMEOUT (R336). No frame matches a supervised filter for TMO ms; TMOUT is set and reported. `n` is the controller, `f` the filter. -/
  | messageTimeout (n f : Nat)
  /-- ADDRESS_CLAIM (R338). The BPE claims PREF and reaches CLAIMED after 250 ms or moves on or CANNOT on contention. `n` is the controller. -/
  | addressClaim (n : Nat)
  /-- LMTXGO (R339). A write of CAN_LMTXGOn submits a long message, or returns BADLEN, NOADDR or BUSY. `n` is the controller. -/
  | lmtxgo (n : Nat)
  /-- LONG_MESSAGE_END (R339). An outbound transport session ends DONE or ABORT. `n` is the controller, `done` whether the peer has taken the message, `reason` the abort reason otherwise. -/
  | longMessageEnd (n : Nat) (done : Bool) (reason : Nat)
  /-- LONG_MESSAGE_RX (R339). An inbound TP or ETP message is reassembled into the ring or aborted. `n` is the controller, `m` what happens on an inbound session. -/
  | longMessageRx (n : Nat) (m : CanLong)
  /-- CAN_RING_READ_WRITE (R339). A write of CAN_LMRXRDn frees slots, or is ignored with EV 0x0C0E if out of span. `n` is the controller, `v` the value written to CAN_LMRXRDn. -/
  | canRingReadWrite (n v : Nat)
  /-- ETH_FRAME_RX (R341). An ingress frame is switched by VLAN and MAC, delivered to the host ring, to FLT, or dropped. `p` is the port, `bytes` the frame, `err` whether it was received with an error. -/
  | ethFrameRx (p : Nat) (bytes : List Nat) (err : Bool)
  /-- HOST_TX_FRAME (R343). A frame written to the host transmit ring is sent on the switch. -/
  | hostTxFrame
  /-- LINK_CHANGE (R340). An Ethernet port's link comes up or goes down. `p` is the port, `up` the new link state, `sqi` the signal quality. -/
  | linkChange (p : Nat) (up : Bool) (sqi : Nat)
  /-- PTP_SYNC (R342). The 802.1AS sync and peer-delay intervals run and the offset and role are renewed. `gm` is the best other grandmaster announced, if any, `delays` the peer delay of each port in ns. -/
  | ptpSync (gm : Option EthGm) (delays : List (Nat × Nat))
  /-- ETH_RING_INDEX_WRITE (R343). A write of a host ring index releases or submits descriptors, or is ignored with EV 0x0D07. `tx` selects ETH_HTXWR, else ETH_HRXRD; `v` is the value written. -/
  | ethRingIndexWrite (tx : Bool) (v : Nat)
  /-- SUBGO (R349). A write of FLT_SUBGO queues a record in managed flash with the next sequence, displacing or refusing when full. -/
  | subgo
  /-- HANDSHAKE_COMPLETE (R347). A DTLS handshake completes and the session enters UP and resends unacknowledged records. `s` is the session, `o` what the peer has offered. -/
  | handshakeComplete (s : Nat) (o : DtlsOffer)
  /-- AUTHENTICATION_FAILED (R345). A handshake fails authentication; the session enters FAULT with EV 0x0E03. `s` is the session, `alert` the DTLS alert code. -/
  | authenticationFailed (s alert : Nat)
  /-- CONNECT_TIMEOUT (R347). CONNECT lasts 10 s and the session enters BACKOFF. `s` is the session. -/
  | connectTimeout (s : Nat)
  /-- SESSION_TIMEOUT (R347). 45 s without a datagram from the peer moves the session from UP to BACKOFF. `s` is the session. -/
  | sessionTimeout (s : Nat)
  /-- BACKOFF_END (R347). The back-off time ends and the session returns to CONNECT. `s` is the session. -/
  | backoffEnd (s : Nat)
  /-- PING (R348). After 15 s without sending in UP, FLT sends PING. `s` is the session. -/
  | ping (s : Nat)
  /-- FLEET_MESSAGE_RX (R348). A received DATA, ACK, PING or GAP is delivered, acknowledged or removes acknowledged records. `s` is the session, the rest the message (Table 12.8). -/
  | fleetMessageRx (s typ prio seq : Nat) (payload : List Nat)
  /-- FLT_RING_READ_WRITE (R351). A write of FLT_RXRD frees slots and allows ACKs, or is ignored with EV 0x0E08. `v` is the value written to FLT_RXRD. -/
  | fltRingReadWrite (v : Nat)
  /-- GENKEY (R346). FLT_KCMD = GENKEY creates a P-256 key pair in a slot. `slot` is the key slot, `role` the role of the writer. -/
  | genkey (slot role : Nat)
  /-- CSR (R346). FLT_KCMD = CSR writes a certificate signing request for the slot. `slot` is the key slot, `role` the role of the writer. -/
  | csr (slot role : Nat)
  /-- ERASE (R346). FLT_KCMD = ERASE erases a key slot. `slot` is the key slot, `role` the role of the writer. -/
  | erase (slot role : Nat)
  /-- READ (R363). READ returns the staged or current value of a parameter. `path` is the path (R530), `k` the host's mailbox, on CAN the controller, on UDP and the service connector the port, `client` tells the clients of a remote path apart, `node` is the node that a gateway's port names (R484), `m` the message; a host mailbox takes its operands from its registers. -/
  | readParam (path k client : Nat) (node : Option Nat) (m : DictMsg)
  /-- READEFF (R363). READEFF returns the value in effect of a parameter. The operands are those of READ. -/
  | readeff (path k client : Nat) (node : Option Nat) (m : DictMsg)
  /-- WRITE (R364). WRITE writes bytes of a parameter, staging it under a lock or applying a LIVE value. The operands are those of READ. -/
  | writeParam (path k client : Nat) (node : Option Nat) (m : DictMsg)
  /-- COMMIT (R365). COMMIT checks up to 32 PIDs' groups as one transaction and hands them to their blocks or refuses. The operands are those of READ. -/
  | commit (path k client : Nat) (node : Option Nat) (m : DictMsg)
  /-- ABORT (R528). ABORT discards a group's staging and releases its lock. The operands are those of READ. -/
  | abortGroup (path k client : Nat) (node : Option Nat) (m : DictMsg)
  /-- STORE (R369). STORE starts or queues a store of persistent values to an NVM bank. The operands are those of READ. -/
  | storeParams (path k client : Nat) (node : Option Nat) (m : DictMsg)
  /-- INFO (R358). INFO returns a parameter's properties. The operands are those of READ. -/
  | info (path k client : Nat) (node : Option Nat) (m : DictMsg)
  /-- RESTORE (R368). RESTORE stages and commits OEM or factory defaults. The operands are those of READ. -/
  | restoreDefaults (path k client : Nat) (node : Option Nat) (m : DictMsg)
  /-- SAVEDEF (R363). SAVEDEF copies persistent values in effect into the OEM default set. The operands are those of READ. -/
  | savedef (path k client : Nat) (node : Option Nat) (m : DictMsg)
  /-- LOGIN (R362). LOGIN opens a remote session with a nonce and grants the role on a matching response. The operands are those of READ. -/
  | login (path k client : Nat) (node : Option Nat) (m : DictMsg)
  /-- LOGOUT (R362). LOGOUT ends a remote session. The operands are those of READ. -/
  | logout (path k client : Nat) (node : Option Nat) (m : DictMsg)
  /-- LIST (R363). LIST returns up to 64 PIDs following a PID with their types. The operands are those of READ. -/
  | listParams (path k client : Nat) (node : Option Nat) (m : DictMsg)
  /-- UNKNOWN_OP (R528). An unknown OP code is ignored on the host API or answered with RANGE remotely. The operands are those of READ. -/
  | unknownOp (path k client : Nat) (node : Option Nat) (m : DictMsg)
  /-- GROUP_HANDOVER (R366). PDS hands a group to its block once every group it depends on has applied. -/
  | groupHandover
  /-- GROUP_APPLY (R365). A handed-over group applies at its block's apply point and the transaction may become DONE. -/
  | groupApply
  /-- TRANSACTION_WITHDRAW (R365). A group not applied APTO ms after acceptance is withdrawn and the transaction ends PARTIAL. -/
  | transactionWithdraw
  /-- LOCK_EXPIRY (R364). A staging lock without a write for LOCKTO seconds is released with EV 0x1209. -/
  | lockExpiry
  /-- SESSION_EXPIRY (R362). A remote session ends after SESSTO seconds without a message. -/
  | sessionExpiry
  /-- LOGIN_BLOCK_END (R362). A 60 s login block on a path ends. -/
  | loginBlockEnd
  /-- BANK_COPY_DONE (R367). The copy of a swapped table into its staged bank completes and writes are accepted again. -/
  | bankCopyDone
  /-- STORE_LEASE_GRANT (R370). The NVM lease is granted and the store enters WRITE. -/
  | storeLeaseGrant
  /-- STORE_LEASE_TIMEOUT (R370). The NVM lease is not granted within 50 ms and the store ends FAILED. -/
  | storeLeaseTimeout
  /-- STORE_WRITE_DONE (R370). The bank write ends and the store enters VERIFY. -/
  | storeWriteDone
  /-- STORE_VERIFY_DONE (R370). Verification passes, rewrites once, or ends the store FAILED. `good` tells whether the CRC of what was read back is good. -/
  | storeVerifyDone (good : Bool)
  /-- STORE_LEASE_REVOKED (R529). The NVM lease is revoked during a store; PDS returns to LEASE or fails. -/
  | storeLeaseRevoked
  /-- PARAMETER_LOAD (R372). At the parameters-loaded step PDS loads the newest valid bank or defaults and commits every group. -/
  | parameterLoad
  /-- CLOCK_FAULT (R375). A clock is stopped or more than 2 % off; row 0 puts the module in SHUTDOWN. `c` names the clock. -/
  | clockFault (c : Nat)
  /-- LOCKSTEP_MISMATCH (R382). The lockstep comparator finds a mismatch; level ALL and a supervisor reset, or SHUTDOWN at the third in 10 s. -/
  | lockstepMismatch
  /-- HEARTBEAT_LOST (R375). AON finds Tocsin's heartbeat missing and row 1 fires. -/
  | heartbeatLost
  /-- ECC_ERROR (R376). An ECC error is corrected and counted, or an uncorrectable error is reported to its owner. `who` makes the access: a block's code, or 0x20 + k for host core k; `mem` and `addr` say where, `unc` whether the error is uncorrectable. -/
  | eccError (who mem addr : Nat) (unc : Bool)
  /-- MEMORY_SCRUB (R376). Tocsin scrubs SRAM hourly and LPDDR5 daily. `dram` tells LPDDR5 from SRAM. -/
  | memoryScrub (dram : Bool)
  /-- WDKICK (R390). A write of TSV_WDKICKk kicks, starts or faults the core's windowed watchdog. `k` is the core, `v` the value written. -/
  | wdkick (k v : Nat)
  /-- WATCHDOG_EXPIRY (R390). No kick within WMAX; row 3 fires with cause 1. `k` is the core. -/
  | watchdogExpiry (k : Nat)
  /-- BOOT_WATCHDOG_EXPIRY (R391). Core 0 gives no first kick within 2,000 ms of APP power-up and row 3 fires. -/
  | bootWatchdogExpiry
  /-- STUCK_CHECK (R377). Every 10 ms Tocsin compares SV currents of off channels and opens a group switch for a stuck output. -/
  | stuckCheck
  /-- STEERING_CHECK (R378). Every 1 ms Tocsin compares SP with Y of the steering channels and fires row 6. -/
  | steeringCheck
  /-- GROUND_SPEED_CHECK (R379). Every 1 ms row 8 checks ground speed and unintended motion. -/
  | groundSpeedCheck
  /-- SELF_TEST_DONE (R382). Tocsin's self-test at SAF start passes with EV 0x0101 or fails into SHUTDOWN. `fail` is the test that failed, if any. -/
  | selfTestDone (fail : Option Nat)
  /-- ATTACH (R388). A write of TSV_ATTACH with the key releases or refuses the requested groups. `v` is the value written. -/
  | attach (v : Nat)
  /-- SSREQ (R401). A write of TSV_SSREQ with the key holds the named groups or every output. `v` is the value written. -/
  | ssreq (v : Nat)
  /-- RSTREQ (R394). A write of TSV_RSTREQ with the key requests a block, domain or APP reset, or is ignored. `v` is the value written. -/
  | rstreq (v : Nat)
  /-- RESET (R393). Tocsin takes the safe-state level, revokes leases, fences and resets the blocks in scope. `own` is an order of Tocsin or of a domain manager (kind, target, source); with none the next order that waits is taken. -/
  | reset (own : Option (Nat × Nat × Nat))
  /-- SUPERVISOR_RESET_COMMAND (R403). A Service write of 0xA77A to P.01.00.0F0 starts a supervisor reset. `v` is the value written, `role` the role of the writer. -/
  | supervisorResetCommand (v role : Nat)
  /-- COLD_START_COMMAND (R403). A Service write of 0xA77A to P.01.00.0F1 starts a cold start. `v` is the value written, `role` the role of the writer. -/
  | coldStartCommand (v role : Nat)
  /-- ORPHAN_EXPIRY (R386). A group's orphan timer expires and OFF is ordered on its HOLD outputs. `g` is the safety group. -/
  | orphanExpiry (g : Nat)
  /-- TSV_UNAVAILABLE (R385). SAF leaves the on state and the AON managers hold every output at level ALL. -/
  | tsvUnavailable
  /-- LEASE_REQUEST (R397). A holder requests a shared resource and Tocsin grants it in order of arrival. `r` is the resource, `h` the holder's block code. -/
  | leaseRequest (r h : Nat)
  /-- LEASE_RETURN (R397). A holder returns or renews its lease. `r` is the resource, `h` the holder's block code, `renew` tells a renewal from a return. -/
  | leaseReturn (r h : Nat) (renew : Bool)
  /-- LEASE_EXPIRY (R398). A lease time ends without return or renewal and the lease is revoked. `r` is the resource. -/
  | leaseExpiry (r : Nat)
  /-- LEASE_REVOKE (R398). Tocsin revokes a lease and starts its rollback. `r` is the resource, `cause` the cause of R398, `party` the recovering party of R399. -/
  | leaseRevoke (r cause : Nat) (party : Option Nat)
  /-- ROLLBACK_COMPLETE (R398). A lease rollback completes, the lease becomes FREE and the next request is served. `r` is the resource. -/
  | rollbackComplete (r : Nat)
  /-- SUPPLY_LOW (R405). LOGPWR falls into 6–9 V; SUPPLY = LOW and EV 0x0020. `v` is LOGPWR in 10 mV. -/
  | supplyLow (v : Nat)
  /-- SUPPLY_HIGH (R405). LOGPWR rises above 32 V; SUPPLY = HIGH and EV 0x0021. `v` is LOGPWR in 10 mV. -/
  | supplyHigh (v : Nat)
  /-- POWER_FAIL (R407). LOGPWR below 6.0 V for 100 µs; domains are fenced and switched off and AON runs on hold-up. `v` is LOGPWR in 10 mV. -/
  | powerFail (v : Nat)
  /-- HOLDUP_END (R407). No NVM write is left or 250 ms have passed; AON, OUTA and OUTB switch off. `v` is LOGPWR in 10 mV. -/
  | holdupEnd (v : Nat)
  /-- IGN_WAKE (R411). IGN high for 1 ms wakes KA and starts a cold start. `dur` is the time spent in standby, ns, `v` LOGPWR in 10 mV. -/
  | ignWake (dur v : Nat)
  /-- RTC_ALARM (R418). The RTC alarm wakes the module from retention standby into a cold start. `dur` is the time spent in standby, ns, `v` LOGPWR in 10 mV. -/
  | rtcAlarm (dur v : Nat)
  /-- START_STEP (R411). A timed step of the start-up sequence switches on its domains. -/
  | startStep
  /-- BOOTOK (R531). SYS_PWRCMD = BOOTOK with the key completes step 6 and lets parameters load. `key` is KEY of the write. -/
  | bootok (key : Nat)
  /-- IGN_OFF (R414). IGN low for 100 ms starts run-on after step 7, or the immediate shut-down before it. -/
  | ignOff
  /-- SLEEP (R414). SYS_PWRCMD = SLEEP with the key ends run-on, ignored while IGN is high. `key` is KEY of the write. -/
  | sleep (key : Nat)
  /-- RUN_ON_END (R415). RUNON seconds pass and the shut-down sequence begins. -/
  | runOnEnd
  /-- SHUTDOWN_STEP (R415). A step of the shut-down sequence completes and the next one begins. `v` is LOGPWR in 10 mV. -/
  | shutdownStep (v : Nat)
  /-- SHUTDOWN_CANCEL (R416). IGN accepted high before s0 cancels the shut-down and STEP returns to 7. -/
  | shutdownCancel
  /-- HOUSEKEEPING_ROUND (R419). Every 10 ms THM reads sensors and supplies, compensates, throttles and runs the fan loops. `r` is what the round's conversions give. -/
  | housekeepingRound (r : ThmRound)
  /-- GRACE_EXPIRY (R424). The grace time ends without acknowledgement and host cores are capped. -/
  | graceExpiry
  /-- HACK (R424). A write of THM_HACK acknowledges the throttle request. `v` is the value written. -/
  | hack (v : Nat)
  /-- KICK_TIMEOUT (R430). 2 s in KICK without tach pulses moves the fan to FAULT, TACHLOSS or RETRYWAIT. `f` is the fan, `cur` the mean drive current, mA. -/
  | kickTimeout (f cur : Nat)
  /-- FAN_RUNNING (R430). 10 tach pulses at RPMMIN/2 or more move the fan from KICK or TACHLOSS to RUN. `f` is the fan, `rpm` the speed that ten tach pulses show. -/
  | fanRunning (f rpm : Nat)
  /-- TACH_SILENCE (R430). 500 ms without tach in RUN moves the fan to FAULT, TACHLOSS or RETRYWAIT. `f` is the fan, `cur` the mean drive current, mA. -/
  | tachSilence (f cur : Nat)
  /-- TACHLOSS_CURRENT (R430). In TACHLOSS the current stays above ISTALL or below IOPEN for 500 ms. `f` is the fan, `cur` the mean drive current, mA, `ms` how long it has stayed there. -/
  | tachlossCurrent (f cur ms : Nat)
  /-- RETRY_WAIT_END (R430). 3 s of RETRYWAIT end and the fan kicks again. `f` is the fan. -/
  | retryWaitEnd (f : Nat)
  /-- FAN_SHORT (R426). A fan current above 15 A switches the channel off with cause SHORT. `f` is the fan, `cur` its current, mA. -/
  | fanShort (f cur : Nat)
  /-- FAN_CLR (R430). THM_FCMDf = CLR returns the fan from FAULT to OFF. `f` is the fan. -/
  | fanClr (f : Nat)
  /-- PANEL_ON (R439). DSP_PCMD = ON starts the panel's precharge. -/
  | panelOn
  /-- PANEL_OFF (R439). DSP_PCMD = OFF starts the panel's discharge. -/
  | panelOff
  /-- FLIP (R438). DSP_PCMD = FLIP sets FLIPPEND, or exchanges the buffers at once while OFF. -/
  | flip
  /-- PANEL_CLR (R439). DSP_PCMD = CLR returns the panel from FAULT to OFF. -/
  | panelClr
  /-- PANEL_FRAME_START (R438). A panel frame starts and a pending flip exchanges the buffers. `vpan` and `ipan` are the measured panel supply and current. -/
  | panelFrameStart (vpan ipan : Nat)
  /-- PRECHARGE_DONE (R439). Precharge and two black frames end and the panel enters ON. `vpan` is the measured panel supply. -/
  | prechargeDone (vpan : Nat)
  /-- DISCHARGE_DONE (R439). Discharge completes and the panel reaches OFF. -/
  | dischargeDone
  /-- PANEL_FAULT (R439). Panel over-current or low VPANEL enters FAULT by way of discharge. `cause` is the fault (R439), `ipan` the measured current. -/
  | panelFault (cause ipan : Nat)
  /-- UPDATE (R445). DSP_LCMD = UPDATE requests updates of the masked areas, setting or superseding PEND. `mask` is UAMASK. -/
  | update (mask : Nat)
  /-- CLEAN (R442). DSP_LCMD = CLEAN requests CLEAN updates of the masked areas. `mask` is UAMASK. -/
  | clean (mask : Nat)
  /-- CANCEL (R446). DSP_LCMD = CANCEL clears PEND on the masked areas. `mask` is UAMASK. -/
  | cancel (mask : Nat)
  /-- LABEL_FRAME_BOUNDARY (R445). At each 20 ms boundary the label engine ends finished updates and starts pending ones. -/
  | labelFrameBoundary
  /-- LABEL_TEMP_READ (R444). Once per second DSP reads the label thermistor or substitutes board sensor 21. `t` is the thermistor's reading, 0.1 °C. -/
  | labelTempRead (t : Int)
  /-- EVENT_EMIT (R459). An emitted event is filtered, staged, or lost into the summary accumulator. `code` is the event's code, `ps` its parameters in the order of its table. -/
  | eventEmit (code : Nat) (ps : List Nat)
  /-- RECORD_WRITTEN (R459). A staged record's NVM program completes and its place frees. -/
  | recordWritten
  /-- RECORD_WRITE_REVOKED (R462). The lease is revoked during a record write; the place is invalid and the record is rewritten later. `cause` is the cause of R398. -/
  | recordWriteRevoked (cause : Nat)
  /-- LOG_SEARCH (R465). At AON power-up EVR finds the next place to write and counts bad places. -/
  | logSearch
  /-- RDIDX (R466). A write of EVR_RDIDX latches a place's words and status. `i` is the index written. -/
  | rdidx (i : Nat)
  /-- LOG_CLEAR (R467). A write of 0xA77A to P.11.00.0F0 starts erasing the log, or is answered BUSY. `key` is the value written to P.11.00.0F0, `role` the role of the writer as Table 13.6 codes it. -/
  | logClear (key role : Nat)
  /-- SECTOR_ERASED (R467). A log sector erase completes; after the last, EV 0x1103 is written at place 0. -/
  | sectorErased
  /-- HEVGO (R468). A write of EVR_HEVGO stages a host event, or is ignored for invalid codes. `v` is the value written; any value strobes. -/
  | hevgo (v : Nat)
  /-- OPTIME_SAVE (R457). Every 10 minutes EVR stores OPTIME in NVM. -/
  | optimeSave
  /-- CYCLE_START (R475). The master starts a frame at every 25 µs SOC. -/
  | cycleStart
  /-- FRAME_ARRIVAL (R476). Byte 0x000 of a frame arrives at a node, which updates DLYACC, HOPS and its own entries and CRC. `frame` is the frame's 2,596 bytes as they arrive at YUL-IN from now on. -/
  | frameArrival (frame : List Nat)
  /-- MASTER_ENTRY_RECEIVED (R476). A slave receives byte 0x0AF and acts on the master's safety entry. -/
  | masterEntryReceived
  /-- FRAME_RETURN (R486). A frame returns to the master, which checks ECHO of every expected node. `frame` is the frame's 2,596 bytes as they return to YUL-IN from now on. -/
  | frameReturn (frame : List Nat)
  /-- NODE_FRAME_END (R483). At a node's frame end the images taken are copied to the visible area. -/
  | nodeFrameEnd
  /-- SLAVE_MISS (R486). A slave's frame deadline passes without a good frame; a second miss puts it in LOST. -/
  | slaveMiss
  /-- RETURN_MISS (R486). The frame does not return in time; a second miss puts the master in LOST. -/
  | returnMiss
  /-- TXSWAP (R482). A write of YUL_TXSWAP makes an image swap pending for the next arrival. `v` is the value written; any value strobes. -/
  | txswap (v : Nat)
  /-- LINK_TRAINED (R485). Both Yulis links are up and the node moves from LINK to SYNC. -/
  | linkTrained
  /-- STRAP_CHANGE (R473). The straps change while running; STRAPCHG is set and EV 0x1306 emitted. `v` is the binary value of CASC_ID2–CASC_ID0 from now on. -/
  | strapChange (v : Nat)
  /-- DQSET (R509). A write of SYS_DQSET turns DQ outputs on, ignored while Tocsin holds them. `v` is the value written. -/
  | dqset (v : Nat)
  /-- DQCLR (R509). A write of SYS_DQCLR turns DQ outputs off and clears their faults. `v` is the value written. -/
  | dqclr (v : Nat)
  /-- DQ_TRIP (R509). A DQ output above 0.8 A switches off, sets FLT and emits EV 0x0031. `n` is the output, `i` its current in mA. -/
  | dqTrip (n i : Nat)
  /-- SUPPLY_LIMIT (R511). A sensor or camera supply at 125 % for 10 ms switches off with EV 0x0030. `b` is the supply's bit, `i` its current in mA, `ms` how long it has been at the limit. -/
  | supplyLimit (b i ms : Nat)
  /-- SUPPLY_RETRY (R511). Every 1 s a switched-off supply retries. `b` is the supply's bit, `i` its current in mA after the retry, `ms` how long it has stayed there. -/
  | supplyRetry (b i ms : Nat)
  /-- ANALOG_FLAG (R506). An AIN conversion sets OPEN or RANGE and emits EV 0x0033. `n` is the input, `val` the conversion's result, +32,000 at full scale. -/
  | analogFlag (n : Nat) (val : Int)
  /-- DI_LEVEL_CHANGE (R522). A DI input stays at a new level for FILT and the filtered level changes. `n` is the input, `high` its new level, `held` the ns for which it has stayed there. -/
  | diLevelChange (n : Nat) (high : Bool) (held : Nat)
  /-- SAMPLE_CONVERSION (R98). A conversion of the impact plate or a loss channel produces a sample: it is added to the paddle sum, its envelope is formed, and it is tested for an impact, saturation and noise learning. `c` is the loss channel, or 8 for the impact plate; `x` is the converted value, before PGA for a loss channel. -/
  | sampleConversion (c : Nat) (x : Int)
  /-- SYNC_ERROR (R120). Pixels sampled while line-valid is active outside a frame are discarded, setting SYNCERR and emitting EV 0x0611. `p` is the port, `n` how many pixels were discarded. -/
  | syncError (p n : Nat)
  /-- TRIGGER_PULSE_END (R125). VPn_TRIG returns to its inactive level ARG µs after the firing that drove it. `p` is the port. -/
  | triggerPulseEnd (p : Nat)
  /-- TIME_PULSE_END (R277). A TP0 or TP1 pulse ends after TP0W or TP1W µs and the output returns inactive. `p` is 0 for TP0 and 1 for TP1. -/
  | timePulseEnd (p : Nat)
  /-- DBASE_SAMPLE (R190). Every 100 µs SEC samples the DBASE phase into its 2 s history used to find P_ref. -/
  | dbaseSample
  /-- PWM_ON_TIME_END (R244). In MODE 2 the on-time of a PWM period ends and the load switch output turns off until the next period start. `n` is the channel. -/
  | pwmOnTimeEnd (n : Nat)
  /-- REVISION_ISSUE (R315). The replay lane writes a revision with REV + 1 for an output instant and delivers it to SEC, HSN and, per REVDEC, the ring. -/
  | revisionIssue
  /-- CAN_RX_ERROR (R331). An error detected while receiving raises REC and may make the node error passive or active. `n` is the controller, `lec` the error as LEC codes it, `eight` whether ISO 11898-1 raises REC by 8 for it. -/
  | canRxError (n lec : Nat) (eight : Bool)
  /-- ADDRESS_AGEING (R341). A learned MAC address ages out after 300 s and frames to it are flooded within the VLAN again. `mac` and `vid` are the learned address. -/
  | addressAgeing (mac vid : Nat)
  /-- KA_SUPPLY_LOSS (R409). LOGPWR falls below 3.0 V, KA loses its state and retention memory and the over-temperature latch is cleared, so the next start is a power-on reset. -/
  | kaSupplyLoss
  /-- LOGPWR_RECHECK (R412). While IGN stays high with LOGPWR below 9.0 V, KA checks LOGPWR again every 1 s and proceeds with the start once it is at or above 9.0 V. `v` is LOGPWR in 10 mV. -/
  | logpwrRecheck (v : Nat)
  /-- SUPPLY_NORMAL (R405). LOGPWR returns into 9.0–32.0 V and SUPPLY returns to normal. -/
  | supplyNormal
deriving DecidableEq, Repr

end Sys2Proof
end

