-- ==== Sys2Proof/WellFormed.lean ====
section
/-!
DEFINITION. Well-formed commands: an operand names an instance that the spec gives the block (Tables 0.3, 0.6, 1.2 and the
block chapters), a written value is a 32-bit word, a byte a byte. A command that is not well formed has no effect
(assumption log, entry 2).
-/
namespace Sys2Proof

/-- A 32-bit word (R4). -/
def w32 (v : Nat) : Bool := decide (v < 2 ^ 32)

/-- A byte. -/
def byte (v : Nat) : Bool := decide (v < 256)

/-- A 16-bit signed quantity. -/
def s16 (v : Int) : Bool := decide (-32768 ≤ v) && decide (v < 32768)

/-- R334: an identifier of 11 or 29 bits, a DLC of four bits, at most 64 data bytes. -/
def CanFrame.wf (f : CanFrame) : Bool :=
  decide (f.id < if f.ide then 2 ^ 29 else 2 ^ 11) && decide (f.dlc < 16) && decide (f.data.length ≤ 64) && f.data.all byte

/-- A command's operands are in the ranges that the spec gives them. -/
def Instr.wf : Instr → Bool
  | .registerWrite _ _ addr size v => decide (addr < 2 ^ 32) && w32 v && decide (size ≤ 4)
  | .blockFaultDetected b inst row groups res => decide (b ≤ 19) && decide (inst < 256) && row.all (fun x => decide (x < 11)) && byte groups && res.all (fun x => decide (x < 5))
  | .fence b => decide (b ≤ 19)
  | .blockHealthy b => decide (b ≤ 19)
  | .powerGoodLost d => decide (d < 14)
  | .domainPowerGood d => decide (d < 14)
  | .domainPowerFail d => decide (d < 14)
  | .edgeAccepted n pin _ => decide (n < 8) && decide (pin < 16)
  | .edgeDeadline n => decide (n < 8)
  | .failoverReturn n => decide (n < 8)
  | .tbiWireBreak pin _ _ => decide (pin < 16)
  | .gnssRecordMissing n => decide (n < 8)
  | .yulisUpdateMissing n => decide (n < 8)
  | .preset n v => decide (n < 8) && w32 v
  | .snap v => w32 v
  | .phaseRead n => decide (n < 8)
  | .plausibilityWindow n => decide (n < 8)
  | .post p => decide (p < 4)
  | .retime p => decide (p < 4)
  | .revoke p => decide (p < 4)
  | .flush p => decide (p < 4)
  | .predictionRound => true
  | .eventFire bad => bad.all (fun x => decide (x < 256))
  | .retirementWrite => true
  | .carRetrdWrite v => w32 v
  | .windowMaxlen n => decide (n < 16)
  | .timeDomainSlot => true
  | .tare => true
  | .calstart => true
  | .calstop => true
  | .nlreset mask => w32 mask
  | .nlsnap => true
  | .moistureAverage cap tg => decide (cap < 2 ^ 16) && s16 tg
  | .moistureStale => true
  | .historyStep => true
  | .yieldRecord => true
  | .lossSensorFault c _ => decide (c < 8)
  | .plateBridgeFault kind => decide (kind < 4)
  | .hsnRingReadWrite ring v => decide (ring < 2) && w32 v
  | .portSynchronised p => decide (p < 3)
  | .frameStart p => decide (p < 3)
  | .frameEnd p lines => decide (p < 3) && lines.all (fun x => x.all (fun y => decide (y < 4096)))
  | .frameTimeout p lines => decide (p < 3) && lines.all (fun x => x.all (fun y => decide (y < 4096)))
  | .pixelClockLost p lines => decide (p < 3) && lines.all (fun x => x.all (fun y => decide (y < 4096)))
  | .pixelClockReturn p => decide (p < 3)
  | .triggerMissed p => decide (p < 3)
  | .frameQueued => true
  | .processingStart => true
  | .processingEnd => true
  | .quietSlotEnd => true
  | .resultWrite => true
  | .rply => true
  | .frameMemoryError => true
  | .visRingReadWrite v => w32 v
  | .timerTrigger n => decide (n < 96)
  | .swtrig n => decide (n < 96)
  | .evaluationIssue => true
  | .evaluationOutput => true
  | .sampleTimeout n => decide (n < 96)
  | .interlockScan => true
  | .arm k => decide (k < 48)
  | .disarm k => decide (k < 48)
  | .slotOff n => decide (n < 96)
  | .slotMan n => decide (n < 96)
  | .slotAuto n => decide (n < 96)
  | .resetIntegrator n => decide (n < 96)
  | .release n => decide (n < 96)
  | .xfbWrite n v => decide (n < 96) && w32 v
  | .actuatorFault _ ch code => decide (ch < 48) && decide (code < 16)
  | .cenRingReadWrite v => w32 v
  | .plan => true
  | .cutWidthUpdate => true
  | .holdEnter => true
  | .holdRelease => true
  | .replan => true
  | .alloff => true
  | .clrcov => true
  | .rowclr row => decide (row < 512)
  | .solOn n => decide (n < 24)
  | .solOff n => decide (n < 24)
  | .solClr n _ _ => decide (n < 24)
  | .groupClr g => decide (g < 6)
  | .boostClr => true
  | .isetWrite n v => decide (n < 24) && w32 v
  | .solDutyWrite n duty => decide (n < 24) && w32 duty
  | .peakStart n => decide (n < 24)
  | .peakEnd n => decide (n < 24)
  | .peakNotReached n _ => decide (n < 24)
  | .nozzleCycleStart n => decide (n < 24)
  | .nozzleOnEnd n => decide (n < 24)
  | .decayEnd n => decide (n < 24)
  | .boostLeaseGrant => true
  | .boostReady _ => true
  | .boostLow _ => true
  | .boostTimeout => true
  | .boostFault _ => true
  | .boostLeaseRevoked => true
  | .solShort n _ => decide (n < 24)
  | .groupShort g _ => decide (g < 6)
  | .solOpenLoad n _ => decide (n < 24)
  | .solOpenLoadOff n => decide (n < 24)
  | .solDriverOvertemp n t => decide (n < 24) && s16 t
  | .outbUndervoltage _ => true
  | .lswOn n => decide (n < 48)
  | .lswOff n => decide (n < 48)
  | .lswClr n _ _ => decide (n < 48)
  | .lswDutyWrite n duty => decide (n < 48) && w32 duty
  | .pwmPeriodStart n => decide (n < 48)
  | .i2tTrip n _ => decide (n < 48)
  | .shortTrip n _ => decide (n < 48)
  | .inrushEnd n => decide (n < 48)
  | .limitTrip n => decide (n < 48)
  | .bankUndervoltage b _ => decide (b < 2)
  | .bankRecovered b _ => decide (b < 2)
  | .bankCurrentHigh b _ => decide (b < 2)
  | .junctionOvertemp n tj => decide (n < 48) && s16 tj
  | .junctionSensorFail n => decide (n < 48)
  | .lswOpenLoad n _ => decide (n < 48)
  | .lswOpenLoadOff n _ => decide (n < 48)
  | .stuck n _ => decide (n < 48)
  | .noton n _ => decide (n < 48)
  | .measurementEpoch sats meas _ => sats.all (fun x => decide (x.con < 8)) && meas.all (fun x => decide (x.ch < 184))
  | .signalDetected c => decide (c < 184)
  | .phaseLock c => decide (c < 184)
  | .pullinTimeout c => decide (c < 184)
  | .trackLoss c _ _ => decide (c < 184)
  | .reacqTimeout c => decide (c < 184)
  | .tp0Pulse => true
  | .tp1Pulse _ => true
  | .timeqWrite _ => true
  | .tqwkRead => true
  | .timeSolution _ _ _ _ week tow ns _ _ _ _ => decide (week < 65536) && decide (tow < 604800) && decide (ns ≤ 1000000000)
  | .doldrumsEntry => true
  | .retentionSave => true
  | .save => true
  | .clearRetention => true
  | .coldRestart => true
  | .antennaOpen a _ => decide (a < 2)
  | .antennaShort a _ => decide (a < 2)
  | .antennaRetry a _ => decide (a < 2)
  | .interference band _ => decide (band < 4)
  | .tcxoFault _ => true
  | .gnsRingReadWrite v => w32 v
  | .imuSample k _ w => decide (k < 16) && w.all (fun x => decide (x < 4294967296))
  | .internalSample k => decide (k < 16)
  | .push p => decide (p < 4)
  | .measurementUpdate => true
  | .resultIssue => true
  | .replayEnd => true
  | .streamStale k => decide (k < 16)
  | .positionTimeout => true
  | .calibrationFocus => true
  | .restart => true
  | .calsnap mask => w32 mask
  | .calreset mask => w32 mask
  | .estimatorFault _ => true
  | .fusLastRead => true
  | .fusRingReadWrite v => w32 v
  | .canTxReq n b => decide (n < 6) && decide (b < 3)
  | .canTxCancel n b => decide (n < 6) && decide (b < 3)
  | .canTxArbitration n => decide (n < 6)
  | .canTxDone n => decide (n < 6)
  | .canTxError n lec _ _ _ => decide (n < 6) && decide (lec < 8)
  | .busOffRecovered n => decide (n < 6)
  | .recover n => decide (n < 6)
  | .canRxFrame n f _ _ => decide (n < 6) && f.wf
  | .rxpop n q => decide (n < 6) && decide (q < 2)
  | .messageTimeout n f => decide (n < 6) && decide (f < 128)
  | .addressClaim n => decide (n < 6)
  | .lmtxgo n => decide (n < 6)
  | .longMessageEnd n _ _ => decide (n < 6)
  | .longMessageRx n _ => decide (n < 6)
  | .canRingReadWrite n v => decide (n < 6) && w32 v
  | .ethFrameRx p bytes _ => decide (p < 7) && bytes.all byte
  | .hostTxFrame => true
  | .linkChange p _ sqi => decide (p < 6) && byte sqi
  | .ptpSync gm _ => gm.all (fun x => decide (x.port < 7))
  | .ethRingIndexWrite _ v => w32 v
  | .subgo => true
  | .handshakeComplete s _ => decide (s < 64)
  | .authenticationFailed s _ => decide (s < 64)
  | .connectTimeout s => decide (s < 64)
  | .sessionTimeout s => decide (s < 64)
  | .backoffEnd s => decide (s < 64)
  | .ping s => decide (s < 64)
  | .fleetMessageRx s _ _ _ payload => decide (s < 64) && payload.all byte
  | .fltRingReadWrite v => w32 v
  | .genkey slot role => decide (slot < 8) && decide (role < 4)
  | .csr slot role => decide (slot < 8) && decide (role < 4)
  | .erase slot role => decide (slot < 8) && decide (role < 4)
  | .readParam path k _ node m => decide (path < 8) && decide (k < 65536) && node.all (fun x => decide (x < 8)) && m.data.all byte
  | .readeff path k _ node m => decide (path < 8) && decide (k < 65536) && node.all (fun x => decide (x < 8)) && m.data.all byte
  | .writeParam path k _ node m => decide (path < 8) && decide (k < 65536) && node.all (fun x => decide (x < 8)) && m.data.all byte
  | .commit path k _ node m => decide (path < 8) && decide (k < 65536) && node.all (fun x => decide (x < 8)) && m.data.all byte
  | .abortGroup path k _ node m => decide (path < 8) && decide (k < 65536) && node.all (fun x => decide (x < 8)) && m.data.all byte
  | .storeParams path k _ node m => decide (path < 8) && decide (k < 65536) && node.all (fun x => decide (x < 8)) && m.data.all byte
  | .info path k _ node m => decide (path < 8) && decide (k < 65536) && node.all (fun x => decide (x < 8)) && m.data.all byte
  | .restoreDefaults path k _ node m => decide (path < 8) && decide (k < 65536) && node.all (fun x => decide (x < 8)) && m.data.all byte
  | .savedef path k _ node m => decide (path < 8) && decide (k < 65536) && node.all (fun x => decide (x < 8)) && m.data.all byte
  | .login path k _ node m => decide (path < 8) && decide (k < 65536) && node.all (fun x => decide (x < 8)) && m.data.all byte
  | .logout path k _ node m => decide (path < 8) && decide (k < 65536) && node.all (fun x => decide (x < 8)) && m.data.all byte
  | .listParams path k _ node m => decide (path < 8) && decide (k < 65536) && node.all (fun x => decide (x < 8)) && m.data.all byte
  | .unknownOp path k _ node m => decide (path < 8) && decide (k < 65536) && node.all (fun x => decide (x < 8)) && m.data.all byte
  | .groupHandover => true
  | .groupApply => true
  | .transactionWithdraw => true
  | .lockExpiry => true
  | .sessionExpiry => true
  | .loginBlockEnd => true
  | .bankCopyDone => true
  | .storeLeaseGrant => true
  | .storeLeaseTimeout => true
  | .storeWriteDone => true
  | .storeVerifyDone _ => true
  | .storeLeaseRevoked => true
  | .parameterLoad => true
  | .clockFault c => decide (c < 16)
  | .lockstepMismatch => true
  | .heartbeatLost => true
  | .eccError who _ addr _ => decide (who < 64) && w32 addr
  | .memoryScrub _ => true
  | .wdkick k v => decide (k < 4) && w32 v
  | .watchdogExpiry k => decide (k < 4)
  | .bootWatchdogExpiry => true
  | .stuckCheck => true
  | .steeringCheck => true
  | .groundSpeedCheck => true
  | .selfTestDone _ => true
  | .attach v => w32 v
  | .ssreq v => w32 v
  | .rstreq v => w32 v
  | .reset _ => true
  | .supervisorResetCommand v role => w32 v && decide (role < 4)
  | .coldStartCommand v role => w32 v && decide (role < 4)
  | .orphanExpiry g => decide (g < 8)
  | .tsvUnavailable => true
  | .leaseRequest r h => decide (r < 5) && decide (h ≤ 19)
  | .leaseReturn r h _ => decide (r < 5) && decide (h ≤ 19)
  | .leaseExpiry r => decide (r < 5)
  | .leaseRevoke r cause party => decide (r < 5) && decide (cause < 6) && party.all (fun x => decide (x ≤ 19))
  | .rollbackComplete r => decide (r < 5)
  | .supplyLow _ => true
  | .supplyHigh _ => true
  | .powerFail _ => true
  | .holdupEnd _ => true
  | .ignWake _ _ => true
  | .rtcAlarm _ _ => true
  | .startStep => true
  | .bootok key => w32 key
  | .ignOff => true
  | .sleep key => w32 key
  | .runOnEnd => true
  | .shutdownStep _ => true
  | .shutdownCancel => true
  | .housekeepingRound r => decide (r.temps.length = 23) && decide (r.fans.length = 4)
  | .graceExpiry => true
  | .hack v => w32 v
  | .kickTimeout f _ => decide (f < 4)
  | .fanRunning f _ => decide (f < 4)
  | .tachSilence f _ => decide (f < 4)
  | .tachlossCurrent f _ _ => decide (f < 4)
  | .retryWaitEnd f => decide (f < 4)
  | .fanShort f _ => decide (f < 4)
  | .fanClr f => decide (f < 4)
  | .panelOn => true
  | .panelOff => true
  | .flip => true
  | .panelClr => true
  | .panelFrameStart _ _ => true
  | .prechargeDone _ => true
  | .dischargeDone => true
  | .panelFault _ _ => true
  | .update mask => w32 mask
  | .clean mask => w32 mask
  | .cancel mask => w32 mask
  | .labelFrameBoundary => true
  | .labelTempRead _ => true
  | .eventEmit code ps => decide (code < 2 ^ 16) && ps.all w32
  | .recordWritten => true
  | .recordWriteRevoked _ => true
  | .logSearch => true
  | .rdidx i => w32 i
  | .logClear key role => w32 key && decide (role < 4)
  | .sectorErased => true
  | .hevgo v => w32 v
  | .optimeSave => true
  | .cycleStart => true
  | .frameArrival frame => frame.all byte
  | .masterEntryReceived => true
  | .frameReturn frame => frame.all byte
  | .nodeFrameEnd => true
  | .slaveMiss => true
  | .returnMiss => true
  | .txswap v => w32 v
  | .linkTrained => true
  | .strapChange v => decide (v < 16)
  | .dqset v => w32 v
  | .dqclr v => w32 v
  | .dqTrip n _ => decide (n < 16)
  | .supplyLimit b _ _ => decide (b < 10)
  | .supplyRetry b _ _ => decide (b < 10)
  | .analogFlag n _ => decide (n < 16)
  | .diLevelChange n _ _ => decide (n < 32)
  | .sampleConversion c x => decide (c < 9) && s16 x
  | .syncError p _ => decide (p < 3)
  | .triggerPulseEnd p => decide (p < 3)
  | .timePulseEnd p => decide (p < 2)
  | .dbaseSample => true
  | .pwmOnTimeEnd n => decide (n < 48)
  | .revisionIssue => true
  | .canRxError n lec _ => decide (n < 6) && decide (lec < 8)
  | .addressAgeing _ _ => true
  | .kaSupplyLoss => true
  | .logpwrRecheck _ => true
  | .supplyNormal => true

end Sys2Proof
end

