-- ==== Sys2Proof/Decode.lean ====
section
/-!
DEFINITION. Reading a command from bits. spec/opcode_table.json gives no row any bits: commands are events on pins and
buses and accesses of registers, not words. So no word spells a command (assumption log, entry 1).
-/
namespace Sys2Proof

/-- The command that a word spells by the opcode table's bits: none, since the table gives no row bits. -/
def decodeTableWord (_nbits _w : Nat) : Option Instr := none

end Sys2Proof
end

