-- ==== Sys2Proof/Config.lean ====
section
/-!
DEFINITION. The values that the spec leaves open and that the machine goes on with: free values. Nothing in Lean can
evaluate them, and no proof can lean on one (assumption log, entry 3).
-/
namespace Sys2Proof

/-- A value of `w` bits that the spec does not fix. The model takes the `k`-th one, `k` being a counter of the
state, each time it needs a fresh one. -/
opaque Config.freeValue (w : Nat) : Nat → BitVec w

/-- R304: the `i`-th number that an operation of the estimator answers for its operands: the operation with all that it is given, and the
estimator's state. The spec gives the operations and no number format. -/
opaque Config.estimate (operands : List Int) (i : Nat) : Int

/-- R376: what lies in embedded NVM at an address of a memory, by the codes of EV 0x010C, which the spec does not give: 1 and 2 the store's
banks A and B, 3 the OEM default set, 4 + k place k of the event log; 0 nothing of these, or no NVM. -/
opaque Config.nvmAt (mem addr : Nat) : Nat

/-- The fleet engine's own MAC address on the host port (R344); the spec gives no value. -/
opaque Config.fltMac : BitVec 48

end Sys2Proof
end

