-- ==== Sys2Proof/Machine/Store.lean ====
section
/-!
DEFINITION. Register fields (spec/00_scope.md, R4–R8), the sparse table's operations, and the plain arithmetic that
the blocks share: fields of words, two's complement, saturation, roots, CRC-32.
-/
namespace Sys2Proof.Machine

/-- Table 0.4: the access codes. -/
inductive Acc where
  | rw | ro | wo | w1c | ws | rws
deriving DecidableEq, Repr

/-- One field of a register: its register's address, its lowest bit, its width, its reset value, its access code. -/
structure Fld where
  addr : Nat
  lo   : Nat
  wid  : Nat
  rst  : Nat
  acc  : Acc
deriving DecidableEq, Repr

/-- The number that a field has in the register table: its address times 32 plus its lowest bit. -/
def Fld.key (f : Fld) : Nat := f.addr * 32 + f.lo

/-- A register, or an array of registers with one or more index ranges (stride, count). -/
structure RegFam where
  base   : Nat
  dims   : List (Nat × Nat)
  fields : List Nat → List Fld

/-- The indices that an offset has within index ranges; none where the offset falls between registers. -/
def dimIndex : List (Nat × Nat) → Nat → Option (List Nat)
  | [], off => if off = 0 then some [] else none
  | (st, c) :: ds, off =>
    if off / st < c then (dimIndex ds (off % st)).map (fun l => off / st :: l) else none

/-- The fields that a register family has at an address. -/
def RegFam.at (f : RegFam) (a : Nat) : List Fld :=
  if a < f.base then [] else
  match dimIndex f.dims (a - f.base) with
  | some i => f.fields i
  | none => []

/-! ## The sparse table -/

/-- What a table holds under a key, if it lists the key. -/
def tabFind {α : Type} : Tab α → Nat → Option α
  | [], _ => none
  | (k', v) :: r, k => if k = k' then some v else tabFind r k

/-- What a key reads as: its entry, or `d` where it is unlisted. -/
def tabGet {α : Type} (d : α) (t : Tab α) (k : Nat) : α := (tabFind t k).getD d

/-- The table without a key. -/
def tabDel {α : Type} : Tab α → Nat → Tab α
  | [], _ => []
  | (k', v) :: r, k => if k = k' then tabDel r k else (k', v) :: tabDel r k

/-- The table with an entry under a key. -/
def tabPut {α : Type} : Tab α → Nat → α → Tab α
  | [], k, v => [(k, v)]
  | (k', v') :: r, k, v =>
    if k < k' then (k, v) :: (k', v') :: r
    else if k = k' then (k, v) :: r
    else (k', v') :: tabPut r k v

/-- The table in which a key reads as `v`, where an unlisted key reads as `d`: writing `d` removes the entry. -/
def tabSet {α : Type} [DecidableEq α] (d : α) (t : Tab α) (k : Nat) (v : α) : Tab α :=
  if v = d then tabDel t k else tabPut t k v

/-- The table without the keys from `lo` up to, but not with, `hi`. -/
def tabDrop {α : Type} (t : Tab α) (lo hi : Nat) : Tab α :=
  t.filter (fun e => e.1 < lo || hi ≤ e.1)

/-- Every key of the table is above `lo`, and the keys rise strictly. -/
def tabRising {α : Type} : Nat → Tab α → Bool
  | _, [] => true
  | lo, (k, _) :: r => decide (lo ≤ k) && tabRising (k + 1) r

/-- The canonical form of a table whose unlisted keys read as `d`. -/
def tabWf {α : Type} [DecidableEq α] (d : α) (t : Tab α) : Bool :=
  tabRising 0 t && t.all (fun e => decide (e.2 ≠ d))

/-! ## Arithmetic -/

/-- Bits `lo + w - 1 : lo` of a number. -/
def bits (x lo w : Nat) : Nat := (x >>> lo) % 2 ^ w

/-- Bit `i` of a number, as a truth value. -/
def bit (x i : Nat) : Bool := Nat.testBit x i

/-- 1 for true, 0 for false. -/
def b2n (b : Bool) : Nat := if b then 1 else 0

/-- The number with bit `i` set. -/
def setBit (x i : Nat) : Nat := x ||| (1 <<< i)

/-- The number with bit `i` cleared. -/
def clrBit (x i : Nat) : Nat := if bit x i then x - (1 <<< i) else x

/-- The number with bit `i` set to a truth value. -/
def putBit (x i : Nat) (b : Bool) : Nat := if b then setBit x i else clrBit x i

/-- How many of the lowest `n` bits are 1. -/
def popcount (n x : Nat) : Nat := ((List.range n).filter (bit x)).length

/-- The signed value of a `w`-bit two's-complement number. -/
def sx (w : Nat) (x : Nat) : Int :=
  let y := x % 2 ^ w
  if y < 2 ^ (w - 1) then (y : Int) else (y : Int) - (2 ^ w : Nat)

/-- The `w`-bit two's-complement number of an integer. -/
def tc (w : Nat) (i : Int) : Nat := (i % ((2 ^ w : Nat) : Int)).toNat

/-- An integer held within bounds. -/
def clampI (lo hi i : Int) : Int := if i < lo then lo else if hi < i then hi else i

/-- An integer held within the signed `w`-bit range. -/
def satS (w : Nat) (i : Int) : Int := clampI (-((2 ^ (w - 1) : Nat) : Int)) (((2 ^ (w - 1) : Nat) : Int) - 1) i

/-- An integer held within the unsigned `w`-bit range. -/
def satU (w : Nat) (i : Int) : Nat := (clampI 0 (((2 ^ w : Nat) : Int) - 1) i).toNat

/-- A counter one further, saturating at its width. -/
def incSat (w x : Nat) : Nat := if x + 1 < 2 ^ w then x + 1 else 2 ^ w - 1

/-- R13: the difference of two 32-bit phases, read as signed. -/
def phaseDiff (a b : Nat) : Int := sx 32 (tc 32 ((a : Int) - (b : Int)))

/-- The integer quotient rounded to the nearest, halves away from zero. -/
def divRound (a : Int) (b : Nat) : Int :=
  if b = 0 then 0
  else if 0 ≤ a then (a * 2 + b) / (2 * b : Nat) else -((-a * 2 + b) / (2 * b : Nat))

/-- Newton's iteration for the integer square root, with fuel. -/
def isqrtLoop : Nat → Nat → Nat → Nat
  | 0, _, x => x
  | f + 1, n, x =>
    let y := (x + n / x) / 2
    if y < x then isqrtLoop f n y else x

/-- The integer square root, rounded down. -/
def isqrt (n : Nat) : Nat := if n = 0 then 0 else isqrtLoop 200 n (2 ^ ((Nat.log2 n) / 2 + 1))

/-- The byte of a number at byte position `i`, least significant first. -/
def byteOf (x i : Nat) : Nat := (x >>> (8 * i)) % 256

/-- A word's bytes in the module's little-endian order (R4). -/
def wordBytes (x : Nat) : List Nat := [byteOf x 0, byteOf x 1, byteOf x 2, byteOf x 3]

/-- The little-endian number of some bytes. -/
def leNat : List Nat → Nat
  | [] => 0
  | b :: r => b + 256 * leNat r

/-- The `n` little-endian bytes of a number. -/
def leBytes : Nat → Nat → List Nat
  | 0, _ => []
  | n + 1, x => x % 256 :: leBytes n (x / 256)

/-- The `n` bytes of a number, the highest first. -/
def beBytes (n x : Nat) : List Nat := (leBytes n x).reverse

/-- One bit of the reflected CRC-32 of IEEE 802.3. -/
def crcBit (c : Nat) : Nat := if c % 2 = 1 then (c / 2) ^^^ 0xEDB88320 else c / 2

/-- One byte of the reflected CRC-32 of IEEE 802.3. -/
def crcByte (c b : Nat) : Nat := Nat.repeat crcBit 8 (c ^^^ b)

/-- The CRC-32 (IEEE 802.3 polynomial) of some bytes. -/
def crc32 (bs : List Nat) : Nat := (bs.foldl crcByte 0xFFFFFFFF) ^^^ 0xFFFFFFFF

/-- The entry of a list, or a default. -/
def nth {α : Type} (l : List α) (i : Nat) (d : α) : α := l.getD i d

/-- The sum of some integers. -/
def sumI (l : List Int) : Int := l.foldl (· + ·) 0

/-- A value into a list that rises by a key, behind its equals. -/
def insertBy {α : Type} (key : α → Int) (x : α) : List α → List α
  | [] => [x]
  | y :: r => if key x < key y then x :: y :: r else y :: insertBy key x r

/-- A list in rising order of a key, equals in their order. -/
def sortBy {α : Type} (key : α → Int) (l : List α) : List α := l.foldl (fun r x => insertBy key x r) []

end Sys2Proof.Machine
end

