-- ==== Sys2Proof/Machine/Events.lean ====
section
/-!
DEFINITION. The severities of the event codes, as the event tables of the block chapters list them (R15, R25, R469).
-/
namespace Sys2Proof.Machine

/-- The event codes of severity Error. -/
def evErrors : List Nat :=
  [0x0022, 0x0024, 0x0028, 0x0031, 0x0032, 0x0102, 0x0103, 0x0107, 0x010C, 0x010D, 0x010E, 0x0110] ++
  [0x0112, 0x0209, 0x020A, 0x020C, 0x0304, 0x030E, 0x0409, 0x040A, 0x040E, 0x050B, 0x050C, 0x050F] ++
  [0x0606, 0x060C, 0x060F, 0x0612, 0x0706, 0x0708, 0x070C, 0x0710, 0x080A, 0x080C, 0x080D, 0x080E] ++
  [0x0906, 0x0907, 0x090A, 0x0A03, 0x0A06, 0x0A07, 0x0A08, 0x0A0A, 0x0A0B, 0x0A0D, 0x0A0E, 0x0B01] ++
  [0x0B04, 0x0B05, 0x0B20, 0x0B21, 0x0B22, 0x0B23, 0x0B24, 0x0B27, 0x0B28, 0x0C03, 0x0C07, 0x0C0A] ++
  [0x0C0C, 0x0C0D, 0x0D05, 0x0D06, 0x0E03, 0x0E06, 0x0E07, 0x0F05, 0x0F07, 0x0F09, 0x0F0A, 0x0F0C] ++
  [0x0F0E, 0x1003, 0x1008, 0x1009, 0x1201, 0x1204, 0x1302, 0x1303, 0x1305, 0x1308, 0x1309]

/-- The event codes of severity Warning. -/
def evWarnings : List Nat :=
  [0x0010, 0x0011, 0x0020, 0x0021, 0x0030, 0x0033, 0x0104, 0x0106, 0x0108, 0x010A, 0x010B, 0x010F] ++
  [0x0111, 0x0201, 0x0202, 0x0204, 0x0205, 0x0206, 0x0208, 0x020B, 0x0303, 0x0306, 0x0307, 0x0308] ++
  [0x0309, 0x030A, 0x030B, 0x030D, 0x0402, 0x0403, 0x0404, 0x0406, 0x0408, 0x040B, 0x040C, 0x040D] ++
  [0x0502, 0x0504, 0x0506, 0x0507, 0x0508, 0x0509, 0x050A, 0x050E, 0x0510, 0x0602, 0x0603, 0x0604] ++
  [0x0605, 0x0607, 0x0608, 0x0609, 0x060A, 0x060B, 0x060D, 0x060E, 0x0610, 0x0611, 0x0702, 0x0704] ++
  [0x0705, 0x0707, 0x070A, 0x070B, 0x070E, 0x070F, 0x0802, 0x0803, 0x0805, 0x0806, 0x0807, 0x0808] ++
  [0x080B, 0x080F, 0x0810, 0x0902, 0x0903, 0x0905, 0x0908, 0x0909, 0x0A02, 0x0A05, 0x0A09, 0x0A0C] ++
  [0x0A0F, 0x0B03, 0x0B06, 0x0B25, 0x0B26, 0x0C01, 0x0C05, 0x0C06, 0x0C08, 0x0C0B, 0x0C0E, 0x0D02] ++
  [0x0D04, 0x0D07, 0x0E02, 0x0E04, 0x0E05, 0x0E08, 0x0F03, 0x0F04, 0x0F06, 0x0F08, 0x0F0B, 0x1004] ++
  [0x1005, 0x1006, 0x1007, 0x100A, 0x1101, 0x1102, 0x1104, 0x1202, 0x1205, 0x1206, 0x1207, 0x1208] ++
  [0x1304, 0x1306, 0x1307, 0x130A]

/-- The severity that an event table gives a code: 2 Error, 1 Warning, 0 Info (Table 17.1). -/
def evSev (code : Nat) : Nat :=
  if evErrors.contains code then 2 else if evWarnings.contains code then 1 else 0

/-- Table 17.1, SRC: Tocsin for its own codes, the dictionary firmware for PDS, the domain managers for the power and
access events of SYS, the block agent otherwise. DEDUCED (assumption log, entry 9). -/
def evSrc (code : Nat) : Nat :=
  let blk := code / 256
  if blk = 0x01 then 2
  else if blk = 0x12 then 4
  else if blk = 0x00 then (if code < 0x30 then 1 else 0)
  else if code = 0x100A then 1
  else 0

end Sys2Proof.Machine
end

