-- ==== Sys2Proof/Machine/RegEVR.lean ====
section
/-!
DEFINITION. The register fields of EVR, as the register tables of spec/17_event_recorder.md list them:
address, lowest bit, width, access code (Table 0.4) and reset value. Reserved bits (R6) are no field.
-/
namespace Sys2Proof.Machine

def EVR_STAT_FULL : Fld := ⟨0x40110000, 31, 1, 0, .ro⟩
def EVR_STAT_CLEARING : Fld := ⟨0x40110000, 30, 1, 0, .ro⟩
def EVR_STAT_ACC : Fld := ⟨0x40110000, 29, 1, 0, .ro⟩
def EVR_STAT_QFILL : Fld := ⟨0x40110000, 22, 7, 0, .ro⟩
def EVR_STAT_NEXT : Fld := ⟨0x40110000, 0, 17, 0, .ro⟩
def EVR_STAT_fam : RegFam := ⟨0x40110000, [], fun _ => [EVR_STAT_FULL, EVR_STAT_CLEARING, EVR_STAT_ACC, EVR_STAT_QFILL, EVR_STAT_NEXT]⟩

def EVR_INTSTAT_FLAGS : Fld := ⟨0x40110004, 0, 5, 0, .w1c⟩
def EVR_INTSTAT_fam : RegFam := ⟨0x40110004, [], fun _ => [EVR_INTSTAT_FLAGS]⟩

def EVR_INTEN_IEN : Fld := ⟨0x40110008, 0, 5, 0, .rw⟩
def EVR_INTEN_fam : RegFam := ⟨0x40110008, [], fun _ => [EVR_INTEN_IEN]⟩

def EVR_OPTIME_OPTIME : Fld := ⟨0x4011000C, 0, 32, 0, .ro⟩
def EVR_OPTIME_fam : RegFam := ⟨0x4011000C, [], fun _ => [EVR_OPTIME_OPTIME]⟩

def EVR_PCYC_PCYC : Fld := ⟨0x40110010, 0, 32, 0, .ro⟩
def EVR_PCYC_fam : RegFam := ⟨0x40110010, [], fun _ => [EVR_PCYC_PCYC]⟩

def EVR_CNT_LOSTEV : Fld := ⟨0x40110014, 16, 16, 0, .rw⟩
def EVR_CNT_BAD : Fld := ⟨0x40110014, 0, 16, 0, .ro⟩
def EVR_CNT_fam : RegFam := ⟨0x40110014, [], fun _ => [EVR_CNT_LOSTEV, EVR_CNT_BAD]⟩

def EVR_DISCARD_COUNT : Fld := ⟨0x40110018, 0, 32, 0, .rw⟩
def EVR_DISCARD_fam : RegFam := ⟨0x40110018, [], fun _ => [EVR_DISCARD_COUNT]⟩

def EVR_FILTERED_COUNT : Fld := ⟨0x4011001C, 0, 32, 0, .rw⟩
def EVR_FILTERED_fam : RegFam := ⟨0x4011001C, [], fun _ => [EVR_FILTERED_COUNT]⟩

def EVR_RDIDX_IDX : Fld := ⟨0x40110020, 0, 16, 0, .rw⟩
def EVR_RDIDX_fam : RegFam := ⟨0x40110020, [], fun _ => [EVR_RDIDX_IDX]⟩

def EVR_RDST_VALID : Fld := ⟨0x40110024, 31, 1, 0, .ro⟩
def EVR_RDST_ERASED : Fld := ⟨0x40110024, 30, 1, 0, .ro⟩
def EVR_RDST_fam : RegFam := ⟨0x40110024, [], fun _ => [EVR_RDST_VALID, EVR_RDST_ERASED]⟩

def EVR_RDDATA_DATA (n : Nat) : Fld := ⟨0x40110040 + 0x4 * n, 0, 32, 0, .ro⟩
def EVR_RDDATA_fam : RegFam := ⟨0x40110040, [(0x4, 8)], fun i => [EVR_RDDATA_DATA (i.getD 0 0)]⟩

def EVR_HEVCODE_XX : Fld := ⟨0x40110080, 8, 8, 0x80, .rw⟩
def EVR_HEVCODE_SEV : Fld := ⟨0x40110080, 6, 2, 0, .rw⟩
def EVR_HEVCODE_fam : RegFam := ⟨0x40110080, [], fun _ => [EVR_HEVCODE_XX, EVR_HEVCODE_SEV]⟩

def EVR_HEVP_P (n : Nat) : Fld := ⟨0x40110084 + 0x4 * n, 0, 32, 0, .rw⟩
def EVR_HEVP_fam : RegFam := ⟨0x40110084, [(0x4, 4)], fun i => [EVR_HEVP_P (i.getD 0 0)]⟩

def EVR_HEVGO_GO : Fld := ⟨0x40110094, 0, 32, 0, .ws⟩
def EVR_HEVGO_fam : RegFam := ⟨0x40110094, [], fun _ => [EVR_HEVGO_GO]⟩

/-- Every register of EVR that has fields. -/
def EVR_fams : List RegFam :=
  [EVR_STAT_fam, EVR_INTSTAT_fam, EVR_INTEN_fam, EVR_OPTIME_fam, EVR_PCYC_fam, EVR_CNT_fam, EVR_DISCARD_fam, EVR_FILTERED_fam, EVR_RDIDX_fam, EVR_RDST_fam, EVR_RDDATA_fam, EVR_HEVCODE_fam, EVR_HEVP_fam, EVR_HEVGO_fam]

end Sys2Proof.Machine
end

