-- ==== Sys2Proof/Machine/RegSYS.lean ====
section
/-!
DEFINITION. The register fields of SYS, as the register tables of spec/00_scope.md, 15_power_thermal_and_cooling.md and 19_connectors_electrical_and_mechanical.md list them:
address, lowest bit, width, access code (Table 0.4) and reset value. Reserved bits (R6) are no field.
-/
namespace Sys2Proof.Machine

def SYS_IDENT_PART : Fld := ⟨0x40000000, 20, 12, 0x960, .ro⟩
def SYS_IDENT_GRADE : Fld := ⟨0x40000000, 16, 4, 0, .ro⟩
def SYS_IDENT_HWMAJ : Fld := ⟨0x40000000, 12, 4, 1, .ro⟩
def SYS_IDENT_HWMIN : Fld := ⟨0x40000000, 8, 4, 0, .ro⟩
def SYS_IDENT_fam : RegFam := ⟨0x40000000, [], fun _ => [SYS_IDENT_PART, SYS_IDENT_GRADE, SYS_IDENT_HWMAJ, SYS_IDENT_HWMIN]⟩

def SYS_PWRSTAT_STEP : Fld := ⟨0x40000100, 28, 4, 1, .ro⟩
def SYS_PWRSTAT_SUPPLY : Fld := ⟨0x40000100, 26, 2, 0, .ro⟩
def SYS_PWRSTAT_IGN : Fld := ⟨0x40000100, 25, 1, 0, .ro⟩
def SYS_PWRSTAT_WAKESRC : Fld := ⟨0x40000100, 23, 2, 0, .ro⟩
def SYS_PWRSTAT_LASTSTBY : Fld := ⟨0x40000100, 22, 1, 0, .ro⟩
def SYS_PWRSTAT_PARLD : Fld := ⟨0x40000100, 21, 1, 0, .ro⟩
def SYS_PWRSTAT_BOOTOK : Fld := ⟨0x40000100, 20, 1, 0, .ro⟩
def SYS_PWRSTAT_RUNLEFT : Fld := ⟨0x40000100, 0, 10, 0, .ro⟩
def SYS_PWRSTAT_fam : RegFam := ⟨0x40000100, [], fun _ => [SYS_PWRSTAT_STEP, SYS_PWRSTAT_SUPPLY, SYS_PWRSTAT_IGN, SYS_PWRSTAT_WAKESRC, SYS_PWRSTAT_LASTSTBY, SYS_PWRSTAT_PARLD, SYS_PWRSTAT_BOOTOK, SYS_PWRSTAT_RUNLEFT]⟩

def SYS_DOMSTAT_ON : Fld := ⟨0x40000104, 16, 14, 3, .ro⟩
def SYS_DOMSTAT_FLT : Fld := ⟨0x40000104, 0, 14, 0, .ro⟩
def SYS_DOMSTAT_fam : RegFam := ⟨0x40000104, [], fun _ => [SYS_DOMSTAT_ON, SYS_DOMSTAT_FLT]⟩

def SYS_PWRCMD_KEY : Fld := ⟨0x40000108, 16, 16, 0, .wo⟩
def SYS_PWRCMD_CMD : Fld := ⟨0x40000108, 0, 4, 0, .wo⟩
def SYS_PWRCMD_fam : RegFam := ⟨0x40000108, [], fun _ => [SYS_PWRCMD_KEY, SYS_PWRCMD_CMD]⟩

def SYS_PWRCFG_RUNON : Fld := ⟨0x4000010C, 22, 10, 5, .rws⟩
def SYS_PWRCFG_STBY : Fld := ⟨0x4000010C, 21, 1, 1, .rws⟩
def SYS_PWRCFG_STOREOFF : Fld := ⟨0x4000010C, 20, 1, 0, .rws⟩
def SYS_PWRCFG_fam : RegFam := ⟨0x4000010C, [], fun _ => [SYS_PWRCFG_RUNON, SYS_PWRCFG_STBY, SYS_PWRCFG_STOREOFF]⟩

def SYS_RTCALM_ALARM : Fld := ⟨0x40000110, 16, 16, 0, .rws⟩
def SYS_RTCALM_fam : RegFam := ⟨0x40000110, [], fun _ => [SYS_RTCALM_ALARM]⟩

def SYS_PINTSTAT_FLAGS : Fld := ⟨0x40000114, 0, 5, 0, .w1c⟩
def SYS_PINTSTAT_fam : RegFam := ⟨0x40000114, [], fun _ => [SYS_PINTSTAT_FLAGS]⟩

def SYS_PINTEN_IEN : Fld := ⟨0x40000118, 0, 5, 0, .rw⟩
def SYS_PINTEN_fam : RegFam := ⟨0x40000118, [], fun _ => [SYS_PINTEN_IEN]⟩

def SYS_TBIMODE_MODE : Fld := ⟨0x40000200, 0, 32, 0, .rws⟩
def SYS_TBIMODE_fam : RegFam := ⟨0x40000200, [], fun _ => [SYS_TBIMODE_MODE]⟩

def SYS_DIFILT0_FILT : Fld := ⟨0x40000204, 0, 32, 0x55555555, .rws⟩
def SYS_DIFILT0_fam : RegFam := ⟨0x40000204, [], fun _ => [SYS_DIFILT0_FILT]⟩

def SYS_DIFILT1_FILT : Fld := ⟨0x40000208, 0, 32, 0x55555555, .rws⟩
def SYS_DIFILT1_fam : RegFam := ⟨0x40000208, [], fun _ => [SYS_DIFILT1_FILT]⟩

def SYS_DIPULL_PULL : Fld := ⟨0x4000020C, 0, 32, 0, .rws⟩
def SYS_DIPULL_fam : RegFam := ⟨0x4000020C, [], fun _ => [SYS_DIPULL_PULL]⟩

def SYS_AINMODE_RANGE : Fld := ⟨0x40000210, 0, 32, 0, .rws⟩
def SYS_AINMODE_fam : RegFam := ⟨0x40000210, [], fun _ => [SYS_AINMODE_RANGE]⟩

def SYS_DILVL_LEVEL : Fld := ⟨0x40000220, 0, 32, 0, .ro⟩
def SYS_DILVL_fam : RegFam := ⟨0x40000220, [], fun _ => [SYS_DILVL_LEVEL]⟩

def SYS_DQSTAT_FLT : Fld := ⟨0x40000224, 16, 16, 0, .ro⟩
def SYS_DQSTAT_LEVEL : Fld := ⟨0x40000224, 0, 16, 0, .ro⟩
def SYS_DQSTAT_fam : RegFam := ⟨0x40000224, [], fun _ => [SYS_DQSTAT_FLT, SYS_DQSTAT_LEVEL]⟩

def SYS_DQSET_BITS : Fld := ⟨0x40000228, 0, 16, 0, .wo⟩
def SYS_DQSET_fam : RegFam := ⟨0x40000228, [], fun _ => [SYS_DQSET_BITS]⟩

def SYS_DQCLR_BITS : Fld := ⟨0x4000022C, 0, 16, 0, .wo⟩
def SYS_DQCLR_fam : RegFam := ⟨0x4000022C, [], fun _ => [SYS_DQCLR_BITS]⟩

def SYS_VSSTAT_OFF : Fld := ⟨0x40000230, 16, 10, 0, .ro⟩
def SYS_VSSTAT_LIM : Fld := ⟨0x40000230, 0, 10, 0, .ro⟩
def SYS_VSSTAT_fam : RegFam := ⟨0x40000230, [], fun _ => [SYS_VSSTAT_OFF, SYS_VSSTAT_LIM]⟩

def SYS_AIN_VAL (n : Nat) : Fld := ⟨0x40000240 + 0x4 * n, 16, 16, 0, .ro⟩
def SYS_AIN_RANGE (n : Nat) : Fld := ⟨0x40000240 + 0x4 * n, 1, 1, 0, .ro⟩
def SYS_AIN_OPEN (n : Nat) : Fld := ⟨0x40000240 + 0x4 * n, 0, 1, 0, .ro⟩
def SYS_AIN_fam : RegFam := ⟨0x40000240, [(0x4, 16)], fun i => [SYS_AIN_VAL (i.getD 0 0), SYS_AIN_RANGE (i.getD 0 0), SYS_AIN_OPEN (i.getD 0 0)]⟩

/-- Every register of SYS that has fields. -/
def SYS_fams : List RegFam :=
  [SYS_IDENT_fam, SYS_PWRSTAT_fam, SYS_DOMSTAT_fam, SYS_PWRCMD_fam, SYS_PWRCFG_fam, SYS_RTCALM_fam, SYS_PINTSTAT_fam, SYS_PINTEN_fam, SYS_TBIMODE_fam, SYS_DIFILT0_fam, SYS_DIFILT1_fam, SYS_DIPULL_fam, SYS_AINMODE_fam, SYS_DILVL_fam, SYS_DQSTAT_fam, SYS_DQSET_fam, SYS_DQCLR_fam, SYS_VSSTAT_fam, SYS_AIN_fam]

end Sys2Proof.Machine
end

