-- ==== Sys2Proof/Machine/RegTSV.lean ====
section
/-!
DEFINITION. The register fields of TSV, as the register tables of spec/14_safety_supervision_and_reset.md list them:
address, lowest bit, width, access code (Table 0.4) and reset value. Reserved bits (R6) are no field.
-/
namespace Sys2Proof.Machine

def TSV_STAT_SLEVEL : Fld := ⟨0x40010000, 30, 2, 2, .ro⟩
def TSV_STAT_STDONE : Fld := ⟨0x40010000, 29, 1, 0, .ro⟩
def TSV_STAT_SSO0 : Fld := ⟨0x40010000, 28, 1, 0, .ro⟩
def TSV_STAT_SSO1 : Fld := ⟨0x40010000, 27, 1, 0, .ro⟩
def TSV_STAT_WDRUN : Fld := ⟨0x40010000, 23, 4, 0, .ro⟩
def TSV_STAT_GRPSS : Fld := ⟨0x40010000, 8, 8, 0xff, .ro⟩
def TSV_STAT_LASTROW : Fld := ⟨0x40010000, 4, 4, 0xf, .ro⟩
def TSV_STAT_fam : RegFam := ⟨0x40010000, [], fun _ => [TSV_STAT_SLEVEL, TSV_STAT_STDONE, TSV_STAT_SSO0, TSV_STAT_SSO1, TSV_STAT_WDRUN, TSV_STAT_GRPSS, TSV_STAT_LASTROW]⟩

def TSV_INTSTAT_FLAGS : Fld := ⟨0x40010004, 0, 8, 0, .w1c⟩
def TSV_INTSTAT_fam : RegFam := ⟨0x40010004, [], fun _ => [TSV_INTSTAT_FLAGS]⟩

def TSV_INTEN_IEN : Fld := ⟨0x40010008, 0, 8, 0, .rw⟩
def TSV_INTEN_fam : RegFam := ⟨0x40010008, [], fun _ => [TSV_INTEN_IEN]⟩

def TSV_RSTCAUSE_KIND : Fld := ⟨0x4001000C, 28, 4, 1, .ro⟩
def TSV_RSTCAUSE_SRC : Fld := ⟨0x4001000C, 24, 4, 4, .ro⟩
def TSV_RSTCAUSE_ROW : Fld := ⟨0x4001000C, 20, 4, 0xf, .ro⟩
def TSV_RSTCAUSE_NRST : Fld := ⟨0x4001000C, 0, 16, 0, .ro⟩
def TSV_RSTCAUSE_fam : RegFam := ⟨0x4001000C, [], fun _ => [TSV_RSTCAUSE_KIND, TSV_RSTCAUSE_SRC, TSV_RSTCAUSE_ROW, TSV_RSTCAUSE_NRST]⟩

def TSV_WDKICK_KEY (n : Nat) : Fld := ⟨0x40010010 + 0x4 * n, 0, 16, 0, .wo⟩
def TSV_WDKICK_fam : RegFam := ⟨0x40010010, [(0x4, 4)], fun i => [TSV_WDKICK_KEY (i.getD 0 0)]⟩

def TSV_WDCFG_WDEN : Fld := ⟨0x40010020, 28, 4, 1, .rws⟩
def TSV_WDCFG_WDACT : Fld := ⟨0x40010020, 27, 1, 1, .rws⟩
def TSV_WDCFG_WMAX : Fld := ⟨0x40010020, 16, 10, 0x64, .rws⟩
def TSV_WDCFG_WMIN : Fld := ⟨0x40010020, 0, 8, 0, .rws⟩
def TSV_WDCFG_fam : RegFam := ⟨0x40010020, [], fun _ => [TSV_WDCFG_WDEN, TSV_WDCFG_WDACT, TSV_WDCFG_WMAX, TSV_WDCFG_WMIN]⟩

def TSV_ATTACH_GRP : Fld := ⟨0x40010030, 16, 8, 0, .wo⟩
def TSV_ATTACH_KEY : Fld := ⟨0x40010030, 0, 16, 0, .wo⟩
def TSV_ATTACH_fam : RegFam := ⟨0x40010030, [], fun _ => [TSV_ATTACH_GRP, TSV_ATTACH_KEY]⟩

def TSV_ATTRES_BUSY : Fld := ⟨0x40010034, 31, 1, 0, .ro⟩
def TSV_ATTRES_RES : Fld := ⟨0x40010034, 28, 3, 0, .ro⟩
def TSV_ATTRES_REL : Fld := ⟨0x40010034, 16, 8, 0, .ro⟩
def TSV_ATTRES_REF : Fld := ⟨0x40010034, 8, 8, 0, .ro⟩
def TSV_ATTRES_fam : RegFam := ⟨0x40010034, [], fun _ => [TSV_ATTRES_BUSY, TSV_ATTRES_RES, TSV_ATTRES_REL, TSV_ATTRES_REF]⟩

def TSV_SSREQ_ALL : Fld := ⟨0x40010038, 31, 1, 0, .wo⟩
def TSV_SSREQ_GRP : Fld := ⟨0x40010038, 16, 8, 0, .wo⟩
def TSV_SSREQ_KEY : Fld := ⟨0x40010038, 0, 16, 0, .wo⟩
def TSV_SSREQ_fam : RegFam := ⟨0x40010038, [], fun _ => [TSV_SSREQ_ALL, TSV_SSREQ_GRP, TSV_SSREQ_KEY]⟩

def TSV_RSTREQ_KIND : Fld := ⟨0x4001003C, 28, 4, 0, .wo⟩
def TSV_RSTREQ_TARGET : Fld := ⟨0x4001003C, 16, 8, 0, .wo⟩
def TSV_RSTREQ_KEY : Fld := ⟨0x4001003C, 0, 16, 0, .wo⟩
def TSV_RSTREQ_fam : RegFam := ⟨0x4001003C, [], fun _ => [TSV_RSTREQ_KIND, TSV_RSTREQ_TARGET, TSV_RSTREQ_KEY]⟩

def TSV_ECCCNT_CE : Fld := ⟨0x40010040, 16, 16, 0, .ro⟩
def TSV_ECCCNT_UE : Fld := ⟨0x40010040, 0, 16, 0, .ro⟩
def TSV_ECCCNT_fam : RegFam := ⟨0x40010040, [], fun _ => [TSV_ECCCNT_CE, TSV_ECCCNT_UE]⟩

def TSV_GCAUSE_ROWS (n : Nat) : Fld := ⟨0x40010080 + 0x4 * n, 0, 13, 0x1000, .ro⟩
def TSV_GCAUSE_fam : RegFam := ⟨0x40010080, [(0x4, 8)], fun i => [TSV_GCAUSE_ROWS (i.getD 0 0)]⟩

def TSV_MCFG_EN (n : Nat) : Fld := ⟨0x40010100 + 0x10 * n, 31, 1, 1, if n ≤ 4 then .ro else .rws⟩
def TSV_MCFG_ALLGRP (n : Nat) : Fld := ⟨0x40010100 + 0x10 * n, 30, 1, if n = 1 ∨ n = 3 then 1 else 0, if n ≤ 3 then .ro else .rws⟩
def TSV_MCFG_SHUT (n : Nat) : Fld := ⟨0x40010100 + 0x10 * n, 29, 1, if n = 0 then 1 else 0, if n ≤ 2 then .ro else .rws⟩
def TSV_MCFG_GRP (n : Nat) : Fld := ⟨0x40010100 + 0x10 * n, 16, 8, 0xff, if n ≤ 2 then .ro else .rws⟩
def TSV_MCFG_fam : RegFam := ⟨0x40010100, [(0x10, 11)], fun i => [TSV_MCFG_EN (i.getD 0 0), TSV_MCFG_ALLGRP (i.getD 0 0), TSV_MCFG_SHUT (i.getD 0 0), TSV_MCFG_GRP (i.getD 0 0)]⟩

def TSV_MST_ACTIVE (n : Nat) : Fld := ⟨0x40010108 + 0x10 * n, 31, 1, 0, .ro⟩
def TSV_MST_COUNT (n : Nat) : Fld := ⟨0x40010108 + 0x10 * n, 0, 16, 0, .ro⟩
def TSV_MST_fam : RegFam := ⟨0x40010108, [(0x10, 11)], fun i => [TSV_MST_ACTIVE (i.getD 0 0), TSV_MST_COUNT (i.getD 0 0)]⟩

def TSV_MPAR2_CEMAX : Fld := ⟨0x40010124, 0, 16, 0x64, .ro⟩
def TSV_MPAR2_fam : RegFam := ⟨0x40010124, [], fun _ => [TSV_MPAR2_CEMAX]⟩

def TSV_MPAR5_SSOB : Fld := ⟨0x40010154, 1, 1, 0, .rws⟩
def TSV_MPAR5_SSOA : Fld := ⟨0x40010154, 0, 1, 0, .rws⟩
def TSV_MPAR5_fam : RegFam := ⟨0x40010154, [], fun _ => [TSV_MPAR5_SSOB, TSV_MPAR5_SSOA]⟩

def TSV_MPAR6_FCA : Fld := ⟨0x40010164, 26, 6, 0x3f, .rws⟩
def TSV_MPAR6_FCB : Fld := ⟨0x40010164, 20, 6, 0x3f, .rws⟩
def TSV_MPAR6_TOL : Fld := ⟨0x40010164, 8, 12, 0xa, .rws⟩
def TSV_MPAR6_TIME : Fld := ⟨0x40010164, 0, 8, 0xa, .rws⟩
def TSV_MPAR6_fam : RegFam := ⟨0x40010164, [], fun _ => [TSV_MPAR6_FCA, TSV_MPAR6_FCB, TSV_MPAR6_TOL, TSV_MPAR6_TIME]⟩

def TSV_MPAR7_SUSP : Fld := ⟨0x40010174, 8, 1, 0, .rws⟩
def TSV_MPAR7_BASES : Fld := ⟨0x40010174, 0, 8, 0, .rws⟩
def TSV_MPAR7_fam : RegFam := ⟨0x40010174, [], fun _ => [TSV_MPAR7_SUSP, TSV_MPAR7_BASES]⟩

def TSV_MPAR8_GSBASE : Fld := ⟨0x40010184, 28, 4, 0xf, .rws⟩
def TSV_MPAR8_GSREF : Fld := ⟨0x40010184, 24, 4, 0xf, .rws⟩
def TSV_MPAR8_GSTOL : Fld := ⟨0x40010184, 16, 8, 0xa, .rws⟩
def TSV_MPAR8_PROPFC : Fld := ⟨0x40010184, 10, 6, 0x3f, .rws⟩
def TSV_MPAR8_UMOT : Fld := ⟨0x40010184, 0, 10, 0x12c, .rws⟩
def TSV_MPAR8_fam : RegFam := ⟨0x40010184, [], fun _ => [TSV_MPAR8_GSBASE, TSV_MPAR8_GSREF, TSV_MPAR8_GSTOL, TSV_MPAR8_PROPFC, TSV_MPAR8_UMOT]⟩

def TSV_MPAR9_CF : Fld := ⟨0x40010194, 0, 6, 0, .rws⟩
def TSV_MPAR9_fam : RegFam := ⟨0x40010194, [], fun _ => [TSV_MPAR9_CF]⟩

def TSV_SGLSLO_LS (n : Nat) : Fld := ⟨0x40010200 + 0x10 * n, 0, 32, 0, .rws⟩
def TSV_SGLSLO_fam : RegFam := ⟨0x40010200, [(0x10, 8)], fun i => [TSV_SGLSLO_LS (i.getD 0 0)]⟩

def TSV_SGLSHI_LS (n : Nat) : Fld := ⟨0x40010204 + 0x10 * n, 0, 16, 0, .rws⟩
def TSV_SGLSHI_fam : RegFam := ⟨0x40010204, [(0x10, 8)], fun i => [TSV_SGLSHI_LS (i.getD 0 0)]⟩

def TSV_SGSV_SV (n : Nat) : Fld := ⟨0x40010208 + 0x10 * n, 0, 24, 0, .rws⟩
def TSV_SGSV_fam : RegFam := ⟨0x40010208, [(0x10, 8)], fun i => [TSV_SGSV_SV (i.getD 0 0)]⟩

def TSV_SGORP_ORPHT (n : Nat) : Fld := ⟨0x4001020C + 0x10 * n, 0, 16, 0, .rws⟩
def TSV_SGORP_fam : RegFam := ⟨0x4001020C, [(0x10, 8)], fun i => [TSV_SGORP_ORPHT (i.getD 0 0)]⟩

def TSV_LSTAT_STATE (n : Nat) : Fld := ⟨0x40010300 + 0x4 * n, 30, 2, 0, .ro⟩
def TSV_LSTAT_OWNER (n : Nat) : Fld := ⟨0x40010300 + 0x4 * n, 16, 8, 0xff, .ro⟩
def TSV_LSTAT_LEFT (n : Nat) : Fld := ⟨0x40010300 + 0x4 * n, 0, 16, 0xffff, .ro⟩
def TSV_LSTAT_fam : RegFam := ⟨0x40010300, [(0x4, 5)], fun i => [TSV_LSTAT_STATE (i.getD 0 0), TSV_LSTAT_OWNER (i.getD 0 0), TSV_LSTAT_LEFT (i.getD 0 0)]⟩

def TSV_LCNT_GRANTS (n : Nat) : Fld := ⟨0x40010320 + 0x4 * n, 16, 16, 0, .ro⟩
def TSV_LCNT_REVOKES (n : Nat) : Fld := ⟨0x40010320 + 0x4 * n, 0, 16, 0, .ro⟩
def TSV_LCNT_fam : RegFam := ⟨0x40010320, [(0x4, 5)], fun i => [TSV_LCNT_GRANTS (i.getD 0 0), TSV_LCNT_REVOKES (i.getD 0 0)]⟩

/-- Every register of TSV that has fields. -/
def TSV_fams : List RegFam :=
  [TSV_STAT_fam, TSV_INTSTAT_fam, TSV_INTEN_fam, TSV_RSTCAUSE_fam, TSV_WDKICK_fam, TSV_WDCFG_fam, TSV_ATTACH_fam, TSV_ATTRES_fam, TSV_SSREQ_fam, TSV_RSTREQ_fam, TSV_ECCCNT_fam, TSV_GCAUSE_fam, TSV_MCFG_fam, TSV_MST_fam, TSV_MPAR2_fam, TSV_MPAR5_fam, TSV_MPAR6_fam, TSV_MPAR7_fam, TSV_MPAR8_fam, TSV_MPAR9_fam] ++
  [TSV_SGLSLO_fam, TSV_SGLSHI_fam, TSV_SGSV_fam, TSV_SGORP_fam, TSV_LSTAT_fam, TSV_LCNT_fam]

end Sys2Proof.Machine
end

