-- ==== Sys2Proof/Machine/State.lean ====
section
/-!
DEFINITION. The state of the block as plain data, and the state after reset.

Every register field of the spec's tables lives in ONE sparse store `regs` (the value in effect), with a second one,
`staged`, for the staged values of RWS fields (R8); the fields themselves are listed in Machine/Reg*.lean. What the
spec gives a block beside its registers is a structure of that block.
-/
namespace Sys2Proof.Machine

/-- Why a step stops with a fault. No command of this block does: every command the spec describes is given its
effect, and a command whose condition does not hold leaves the state as it is (assumption log, entry 2). The one
reason is kept for an operand that no sender can form. Raised by no meaning; safe. -/
inductive Fault where
  | illFormed
deriving DecidableEq, Repr

/-- Why a step is refused. `notModelled` is raised only by an arm of `exec` whose command has no meaning yet; safe. -/
inductive Refusal where
  | notModelled (mnemonic : String)
deriving DecidableEq, Repr

/-- The answer to the last bus access (R4, R5): whether one was made, whether it was a bus error, what it read; and, while a write
is under way, that it is Tocsin's, to which R20 does not apply. -/
structure BusAnswer where
  done  : Bool := false
  error : Bool := false
  data  : Nat  := 0
  tsv   : Bool := false
deriving DecidableEq, Repr

/-- What one block tells another within a step: the consequences of R23 that reach another block in the same cycle.
A step carries out every signal before it ends. -/
inductive Sig where
  /-- A row of Table 14.1 fires; `groups` are the groups it concerns where the row names its output's. -/
  | rowFires (row groups : Nat)
  /-- SOL or LSW reports a fault on a claimed output to CEN (R171): the path's table, the channel, the code. -/
  | actFault (lsw : Bool) (chan code : Nat)
  /-- LSW reports STUCK on a channel to Tocsin (R258, R377). -/
  | lsStuck (chan : Nat)
  /-- TBS reports a happening on a base: 0 reversal, 1 STILL, 2 LOST, 3 jump, 4 SUSPECT, 5 TRACK, 6 OFF or SEEK; with a
  jump its size in phase LSB. -/
  | base (n what : Nat) (size : Int)
  /-- CAR answers SEC's port: the command's kind, STATUS, the handle, the tag of the post (R60–R64). -/
  | secAnswer (kind status handle tag : Nat)
  /-- An event of SEC's port has been decided: its handle, tag, retirement STATUS and time. -/
  | secOutcome (handle tag status time : Nat)
  /-- A Carillon action reaches its target: type, target, argument. -/
  | firing (typ target arg : Nat)
  /-- CEN hands a frame of drive message `d` with the output `u` to its CAN controller (R167). -/
  | driveFrame (d : Nat) (u : Int)
  /-- SEC's section image has changed in the 64-bit parts of `parts` and is transmitted (R196). -/
  | secImage (parts : Nat)
  /-- A dictionary message has come over CAN: its controller, the source address, the bytes (R361). -/
  | canDict (n sa : Nat) (bytes : List Nat)
  /-- A dictionary message from a node is complete (R484). -/
  | tunnel (node : Nat) (bytes : List Nat)
  /-- Tocsin has entered SHUTDOWN; with IGN low the managers shut down (R413). -/
  | safeShut
deriving DecidableEq, Repr


/-! ### The event recorder (spec/17_event_recorder.md) -/

/-- The fields of a record (Table 17.1); CHECK is computed when the record is written. -/
structure EvRec where
  code   : Nat := 0
  sev    : Nat := 0
  src    : Nat := 0
  tick   : Nat := 0
  optime : Nat := 0
  pcyc   : Nat := 0
  p0     : Nat := 0
  p1     : Nat := 0
  p2     : Nat := 0
  p3     : Nat := 0
deriving DecidableEq, Repr

/-- A staged record, with the module time at which it entered the queue (R459). -/
structure StagedRec where
  at_ : Nat
  ent : EvRec
deriving DecidableEq, Repr

/-- The summary accumulator while it is open (R460). -/
structure EvAcc where
  count   : Nat
  first   : Nat
  last    : Nat
  firstOp : Nat
  firstTk : Nat
  lastOp  : Nat
  lastTk  : Nat
  sev     : Nat
  /-- The cycle in which it opened and that of the last loss, each plus 1; the events lost in the cycle in which it opened; LOST was set
  before it opened (R461). -/
  at_     : Nat := 0
  lastAt  : Nat := 0
  held    : List EvRec := []
  flag    : Bool := false
deriving DecidableEq, Repr

/-- A written place of the log: its eight words, and whether CHECK is good (R456, R462). -/
structure Place where
  words : List Nat
  good  : Bool
deriving DecidableEq, Repr

/-- What EVR holds beside its registers. -/
structure Evr where
  /-- The staging queue of 64 places, oldest first (R459). -/
  queue    : List StagedRec := []
  /-- The summary accumulator, while it is open (R460). -/
  acc      : Option EvAcc := none
  /-- The record EV 0x1102 that closes a full log, until it is written (R464). -/
  closing  : Option EvRec := none
  /-- The log in NVM; an unlisted place is erased (R456). -/
  log      : Tab Place := []
  /-- OPTIME at AON power-up, s: OPTIME continues from there (R457). -/
  optime0  : Nat := 0
  /-- The separate NVM area of OPTIME and PCYC (R457). -/
  nvOptime : Nat := 0
  /-- OPTIME is to be written to NVM, once EVR has the lease. -/
  optDue   : Bool := false
  nvPcyc   : Nat := 0
  /-- PCYC of this start (R457). -/
  pcyc     : Nat := 0
  /-- The module time of the last store of OPTIME (R457). -/
  savedAt  : Nat := 0
  /-- A clear of the log: sectors erased so far, places used before, the role that asked (R467). -/
  sector   : Nat := 0
  clrUsed  : Nat := 0
  clrRole  : Nat := 0
  /-- R465: the search of the log at AON power-up has been made. -/
  searched : Bool := false
deriving DecidableEq, Repr

/-! ### Leases (spec/14_safety_supervision_and_reset.md, R396–R399) -/

/-- One leased resource of Table 14.4. -/
structure Lease where
  /-- 0 FREE, 1 HELD, 2 ROLLBACK. -/
  state   : Nat := 0
  /-- The holder's block code; 0xFF none. -/
  owner   : Nat := 0xFF
  /-- The module time at which the lease time ends; 0 where it has no limit. -/
  expiry  : Nat := 0
  /-- The holders whose requests wait, in the order of their arrival. -/
  waiting : List Nat := []
  /-- The party a recovery serves first (R399). -/
  recover : Option Nat := none
  /-- The holders barred after a cause-1 fault (R398). -/
  barred  : List Nat := []
  /-- When the rollback began. -/
  since   : Nat := 0
  grants  : Nat := 0
  revokes : Nat := 0
deriving DecidableEq, Repr

/-! ### Power, start-up and shut-down (spec/15_power_thermal_and_cooling.md) -/

/-- What KA does while AON is off, or that the module runs (R409, R412, R417). -/
inductive KaMode where
  | running | standby | waitSupply
deriving DecidableEq, Repr

/-- What the domain managers and KA hold beside the SYS registers. -/
structure Mgr where
  ka       : KaMode := .running
  /-- The domains that are on, KA = bit 0 to SOL = bit 13: what ON of SYS_DOMSTAT shows. -/
  on       : Nat := 0x0003
  /-- The domains that failed to come up: what FLT of SYS_DOMSTAT shows (R410). -/
  flt      : Nat := 0
  /-- The domains switched on, good or not yet good, KA = bit 0 to SOL = bit 13 (R410). -/
  swOn     : Nat := 0x0003
  /-- When a domain was switched on. -/
  swAt     : Tab Nat := []
  /-- The domains that wait, after a reset, for the domains they require, to be switched on again (R26). -/
  want     : Nat := 0
  /-- The next timed switching of Table 15.2. -/
  startIx  : Nat := 0
  /-- When run-on ends (R414). -/
  runEnd   : Nat := 0
  /-- When APP was last powered up (R391, R412). -/
  appUpAt  : Option Nat := none
  /-- The over-temperature latch in KA (R425). -/
  otLatch  : Bool := false
  /-- When a power fail was detected (R407). -/
  failAt   : Option Nat := none
  /-- STBY as KA took it at the entry to standby, and ALARM (R417, R418). -/
  stby     : Nat := 1
  alarm    : Nat := 0
  /-- The cause of the wake, for WAKESRC (R418): 1 ignition, 2 RTC. -/
  wakeSrc  : Nat := 0
  /-- The start goes on at a wake by the RTC (R418). -/
  rtcWake  : Bool := false
  /-- IGN is high while KA waits for its supply after a wake by the RTC (R418). -/
  ignUp    : Bool := false
  /-- KA has lost its supply: the next start is a power-on reset (R409). -/
  powerOn  : Bool := false
deriving DecidableEq, Repr

/-- A shut-down that runs (R413, R415): the domain managers begin it, at IGN low or at the entry into SHUTDOWN. -/
structure ShutSeq where
  /-- The next step of Table 15.3: 0 is s0. -/
  ix     : Option Nat := none
  /-- The start-up step that the shut-down left, for a cancel under R413. -/
  left   : Nat := 0
  /-- R413: it started without run-on. -/
  atOnce : Bool := false
  /-- When step s2 began (R449). -/
  dspAt  : Nat := 0
deriving DecidableEq, Repr

/-! ### Tocsin (spec/14_safety_supervision_and_reset.md) -/

/-- One core's windowed watchdog (R390–R392). -/
structure Watchdog where
  running : Bool := false
  /-- false: 0x5A3C comes next; true: 0xC3A5. -/
  second  : Bool := false
  last    : Nat := 0
deriving DecidableEq, Repr

/-- A reset that a reaction or a request has ordered and that has not been carried out yet (R392, R394, R403). -/
structure ResetOrder where
  kind   : Nat
  target : Nat
  source : Nat
  row    : Nat
  /-- Its level is taken and its leases are revoked; it waits for their rollback (R393). -/
  begun  : Bool := false
deriving DecidableEq, Repr

/-- What Tocsin and the AON managers hold beside the TSV registers. -/
structure Tsv where
  wd        : Tab Watchdog := []
  /-- SOL groups with a stuck channel: row 5's condition is present until CLR (R377). -/
  stuckSv   : Nat := 0
  /-- SOL groups whose channels are held as members of row 5's groups, and whose switch Tocsin opened (R377). -/
  openSv    : Nat := 0
  /-- LS channels that reported STUCK and have not recovered (R377, R258). -/
  stuckLs   : Nat := 0
  /-- Consecutive readings above 100 mA, by SV channel (R377). -/
  stuckCnt  : Tab Nat := []
  /-- When each group's orphan timer expires, plus 1, and the load-switch channels of the group as the timer started: the AON
  managers run the timers (R386). -/
  orphan    : Tab Nat := []
  orphLs    : Tab Nat := []
  /-- When a row last held each group, plus 1, and the attaches of this cycle, which are taken last (R387). -/
  rowAt     : Tab Nat := []
  attaches  : List Nat := []
  /-- The lockstep mismatches of the last 10 s, newest first (R382). -/
  mismatch  : List Nat := []
  /-- Row 6: since when, plus 1, a function channel has been beyond TOL at every sample (R378). -/
  steerAt   : Tab Nat := []
  /-- Row 8: since when, plus 1, the speed difference and unintended motion have lasted (R379). -/
  speedAt   : Nat := 0
  motionAt  : Nat := 0
  /-- Errors corrected in the running hour, and its start (R376). -/
  ceHour    : Nat := 0
  hourAt    : Nat := 0
  ceTold    : Bool := false
  /-- Conditions present, by row, as the causes that keep them present. -/
  cond      : Tab Nat := []
  /-- The reset orders that have not been carried out yet. -/
  orders    : List ResetOrder := []
  /-- The last scrubs (R376). -/
  scrubSram : Nat := 0
  scrubDram : Nat := 0
deriving DecidableEq, Repr


/-! ### Load switches (spec/09_load_switch_banks.md) -/

/-- What a load-switch channel holds beside its registers. -/
structure LsChan where
  /-- The heat E, in mA² × 10 µs (R246), and the sampling instant, in 10 µs since 0, up to which it has been formed. -/
  heat     : Nat := 0
  heatAt   : Nat := 0
  /-- The end of the inrush window, and the profile values in effect at its start (R250, R251). -/
  winEnd   : Nat := 0
  olblank  : Nat := 0
  ilim     : Nat := 0
  tsc      : Nat := 0
  /-- When the window started. -/
  winFrom  : Nat := 0
  slew     : Nat := 0
  prof     : Nat := 0
  /-- When the on-state open-load check resumes (R250). -/
  olFrom   : Nat := 0
  /-- The output's level: on, or off (in MODE 2, within a period). -/
  out      : Bool := false
  /-- MODE 2: the next period start, the end of the on-time (0 where it lasts the period), a duty that waits (R244). -/
  pwmNext  : Nat := 0
  pwmOff   : Nat := 0
  dutyNext : Option Nat := none
  /-- When a period last started, plus 1. -/
  perAt    : Nat := 0
  /-- The last happening of this tick: the module time plus 1, and its rank in R243. -/
  tickAt   : Nat := 0
  tickRank : Nat := 0
deriving DecidableEq, Repr

/-- A channel before the first command of a tick: the module time plus 1, STATE, CAUSE, DUTY, the rest. -/
structure LsBack where
  at_   : Nat := 0
  st    : Nat := 0
  cause : Nat := 0
  duty  : Nat := 0
  chan  : LsChan := {}
deriving DecidableEq, Repr

/-- What LSW holds beside its registers. -/
structure Lsw where
  ch : Tab LsChan := []
  /-- The channels before the first command of a tick, with that tick (R243). -/
  back : Tab LsBack := []
  /-- The channels that have lost CEN as their commanding party, and take commands from no other yet (R260). -/
  lost : Nat := 0
  /-- OUTPWR-A and OUTPWR-B as last measured, 10 mV. -/
  volt : Tab Nat := []
deriving DecidableEq, Repr

/-! ### Solenoids (spec/08_solenoid_and_valve_drive.md) -/

/-- A booked peak window [start, stop) of a channel (R226); `owner` is the Carillon slot plus 1 that booked it, or 0. -/
structure PeakWin where
  start : Nat
  stop  : Nat
  chan  : Nat
  owner : Nat
deriving DecidableEq, Repr

/-- What a solenoid channel holds beside its registers. -/
structure SvChan where
  /-- The booked start that a channel in WAIT awaits. -/
  book     : Nat := 0
  /-- The present or last peak: its start, its end, and the instant of TPKTO (R217). -/
  peakAt   : Nat := 0
  peakEnd  : Nat := 0
  peakTo   : Nat := 0
  /-- The end of the PWMN on-period, and whether it lasts without end (DUTY = 1,000) (R219). -/
  onEnd    : Nat := 0
  endless  : Bool := false
  /-- A PWMN on-period runs. -/
  period   : Bool := false
  /-- PWMN: the duty in use until the first cycle start from the last write of DUTY on, and when that write was, plus 1. -/
  dutyUse  : Nat := 0
  dutyAt   : Nat := 0
  /-- The peak in progress runs from the boost rail (R212, R214). -/
  boost    : Bool := false
  /-- The instant, plus 1, at which a command has last acted first in its tick, and the state before it (R225). -/
  cmdAt    : Nat := 0
  cmdSt    : Nat := 0
  /-- PWMN: the start booked for the next regular on-period, plus 1. -/
  nozzle   : Nat := 0
  /-- The last happening of this tick: the module time plus 1, and its rank in R225. -/
  tickAt   : Nat := 0
  tickRank : Nat := 0
deriving DecidableEq, Repr

/-- A command or request of the tick that happenings still in the queue come before (R225, R226): 0 host ON, 1 host OFF, 2 host CLR, 3 ON
by CEN, 4 the booking of a nozzle cycle. -/
structure SvAsk where
  chan   : Nat
  kind   : Nat
  cool   : Bool := false
  supply : Bool := false
deriving DecidableEq, Repr

/-- What SOL holds beside its registers. -/
structure Sol where
  ch     : Tab SvChan := []
  /-- The calendar of each group (R226). -/
  cal    : Tab (List PeakWin) := []
  /-- The largest delay since EV 0x0A04 was last emitted, by group (R228). -/
  serMax : Tab Nat := []
  /-- When the converter entered START or LOW (R214). -/
  since  : Nat := 0
  /-- The ramp of VBST: from which setpoint, 0.1 V, and since when, plus 1 (R232). -/
  ramp   : Nat × Nat := (0, 0)
  /-- OUTB has not been above 9.0 V for 10 ms since an undervoltage (R230); the last measurement was above it. -/
  low    : Bool := false
  above  : Bool := false
  /-- What waits for happenings of its tick that come before it (R225, R226). -/
  later : List SvAsk := []
deriving DecidableEq, Repr



/-! ### Time bases (spec/02_time_bases.md) -/

/-- The window of the reference check that runs (R46): its start, and both phases there, in 2^−16 LSB. -/
structure TbWin where
  from_ : Nat
  /-- The reference base of the window. -/
  base  : Nat
  own   : Int
  ref   : Int
deriving DecidableEq, Repr

/-- The substitution under failover (R48): the phases of the base and of REF at its start, in 2^−16 LSB, and since when
the base's own source has been in TRACK again. -/
structure TbSub where
  own   : Int
  ref   : Int
  since : Option Nat
  /-- The reference base and RATIO of the substitution. -/
  base  : Nat
  ratio : Nat
  /-- The phase already reported, which does not fall back as REF stops (R38). -/
  floor : Option Int
deriving DecidableEq, Repr

/-- The model of R37 from one edge or update on: P_e, t_e, v, a, the direction, the next expected edge, the phase already reported. -/
structure TbModel where
  pe    : Int
  te    : Nat
  v     : Int
  a     : Int
  fwd   : Bool
  limit : Option Int
  floor : Option Int
deriving DecidableEq, Repr

/-- What a base holds beside its registers. Phases are in 2^−16 of a phase LSB (assumption log, entry 20). -/
structure TbBase where
  /-- The models of the latest edges and updates, newest first: when the base reached a phase that it has passed (R69). -/
  models  : List TbModel := []
  /-- Table 2.2. -/
  st      : Nat := 0
  /-- When the state was entered. -/
  since   : Nat := 0
  fwd     : Bool := true
  noidx   : Bool := false
  /-- The last signed edge prediction error, ns (R41). -/
  perr    : Int := 0
  /-- P_e and t_e (R37). -/
  pe      : Int := 0
  te      : Nat := 0
  /-- v in 2^−16 LSB per µs, a in 2^−16 LSB per µs per ms (R39). -/
  v       : Int := 0
  a       : Int := 0
  /-- The edges of the estimator, newest first: time and phase (R39). -/
  hist    : List (Nat × Int) := []
  /-- The model in force since the last accepted edge, by which the next one was predicted (R41). -/
  edge    : Option TbModel := none
  /-- The speed of the last record, before the trim of R47. -/
  raw     : Int := 0
  /-- The phase of the next expected edge, where the source has edges. -/
  limit   : Option Int := none
  /-- The phase of count 0, and the count (R36); for a tooth wheel, the phase of turn 0 and the turn; for a Yulis base, what its phase is
  ahead of the master's (R44, R48). -/
  origin  : Int := 0
  count   : Int := 0
  /-- Tooth wheel: the edge position, the edges counted since the last gap, whether a gap has been seen while seeking. -/
  pos     : Nat := 0
  edges   : Nat := 0
  gapSeen : Bool := false
  /-- The last edge and the interval before it: tooth wheel (R45), and count edges while an encoder seeks its index (R527). -/
  lastT   : Option Nat := none
  lastIv  : Option Nat := none
  /-- Consecutive turns with correct gaps, and TOOTHERR since the last correct turn (R45). -/
  good    : Nat := 0
  errs    : Nat := 0
  /-- Uninterrupted counts against DIR (R42), and in one direction in STILL. -/
  revRun  : Nat := 0
  stRun   : Nat := 0
  stFwd   : Bool := true
  /-- R527: the boundary count edge that is not counted a second time: its direction. -/
  skip    : Option Bool := none
  /-- The causes that keep the base in SUSPECT, by the codes of EV 0x0303. -/
  causes  : List Nat := []
  /-- The deadline of R43, and whether it is one of LOST. -/
  dueAt   : Option Nat := none
  dueLost : Bool := false
  /-- The base has been in TRACK since it left OFF (R50). -/
  known   : Bool := false
  /-- The last update of a source without edges (R43, R276). -/
  updAt   : Nat := 0
  /-- The phase already reported, which does not fall back in the direction of motion (R38). -/
  floor   : Option Int := none
  win     : Option TbWin := none
  sub     : Option TbSub := none
  /-- The trim of R47 in 10^−12, and whether it is at its limit. -/
  trim    : Int := 0
  atLimit : Bool := false
deriving DecidableEq, Repr

/-- The values that a snapshot holds for a base until its first read. -/
structure TbSnap where
  phase : Nat
  vel   : Nat
  acc   : Nat
  time  : Nat
  stat  : Nat
deriving DecidableEq, Repr

/-- What TBS holds beside its registers. -/
structure Tbs where
  base  : Tab TbBase := []
  snap  : Tab TbSnap := []
  /-- When each input was last edged, plus 1 (R35). -/
  pinAt : Tab Nat := []
  /-- The bases that a structure commit has put in LOST and that enter SEEK on the next tick (R51, Table 2.2). -/
  seek  : List Nat := []
deriving DecidableEq, Repr


/-! ### Harvest sensing (spec/04_harvest_sensing.md) -/

/-- A loss channel: its envelope in 2^−16 counts, the samples since its impact began plus 1 while one is held off (R98,
R99). -/
structure HsnCh where
  env  : Nat := 0
  held : Nat := 0
deriving DecidableEq, Repr

/-- A bin of the noise table: μ_b and σ_b in 2^−16 counts, and the updates it has received (R101, R102). -/
structure HsnBin where
  mean : Nat := 0
  dev  : Nat := 0
  upd  : Nat := 0
deriving DecidableEq, Repr

/-- What an occurrence of a loss window keeps per channel (R99). -/
structure HsnAcc where
  n     : Nat := 0
  count : Nat := 0
  peak  : Nat := 0
  sq    : Nat := 0
  floor : Nat := 0
  sat   : Bool := false
  flt   : Bool := false
  bad   : Bool := false
deriving DecidableEq, Repr

/-- A capture window (Table 4.2) and its present occurrence. -/
structure HsnWin where
  isOpen  : Bool := false
  /-- The next close action belongs to an occurrence that was closed before it (Table 4.2). -/
  skip    : Bool := false
  openAt  : Nat := 0
  /-- Time spent in STILL, and since when it is in STILL, plus 1. -/
  stillNs : Nat := 0
  stillAt : Nat := 0
  /-- The conversion instant of the first sample. -/
  first   : Option Nat := none
  phOpen  : Nat := 0
  band    : Nat := 0
  susp    : Bool := false
  sat     : Bool := false
  bandchg : Bool := false
  nobin   : Bool := false
  jump    : Bool := false
  rev     : Bool := false
  still   : Bool := false
  /-- NOBIN came from R103. -/
  norot   : Bool := false
  ch      : Tab HsnAcc := []
deriving DecidableEq, Repr

/-- A paddle or a time-domain slot that has ended: when, its mass in 0.1 g, what it carries (R94, R95, R108); `flt`: the plate was in
fault (R22, R29). -/
structure HsnPiece where
  at_    : Nat
  mass   : Nat
  paddle : Bool
  susp   : Bool := false
  sat    : Bool := false
  rev    : Bool := false
  flt    : Bool := false
deriving DecidableEq, Repr

/-- A position of a history step (R107), with the validity of the FUS result it comes from (R22). -/
structure HsnPos where
  t   : Nat
  lat : Nat
  lon : Nat
  rev : Nat
  age : Nat
  valid : Bool := true
deriving DecidableEq, Repr

/-- A history step (R107); `ok` is false where DBASE or the cut-width report was not available (R22). -/
structure HsnStep where
  at_   : Nat
  phase : Nat
  width : Nat
  ok    : Bool
  pos   : Option HsnPos
deriving DecidableEq, Repr

/-- A measurement interval with what its record takes from the configuration in effect in it (R108), and HSN_MOIST at its end. -/
structure HsnIval where
  ts      : Nat := 0
  te      : Nat := 0
  crop    : Nat := 0
  tdly    : Nat := 0
  mstd    : Nat := 0
  cropchg : Bool := false
  moist   : Nat := 0
  valid   : Bool := false
  stale   : Bool := false
  /-- The yield base moved in reverse in it (REV of Table 4.4). -/
  rev     : Bool := false
deriving DecidableEq, Repr

/-- What HSN holds beside its registers. -/
structure Hsn where
  wins     : Tab HsnWin := []
  chs      : Tab HsnCh := []
  /-- The live noise table: bin + 256 · channel + 2048 · band. -/
  noise    : Tab HsnBin := []
  /-- The bands whose NLDONE has been reported. -/
  told     : Nat := 0
  /-- The paddle in progress: its start, the impulse sum, its flags. -/
  padStart : Nat := 0
  padSum   : Int := 0
  padSat   : Bool := false
  padRev   : Bool := false
  padSusp  : Bool := false
  padFlt   : Bool := false
  /-- The impulse of the paddle in progress by slots of 50 ms of module time, newest first: the slot's number, its sum (R94). -/
  padSlots : List (Nat × Int) := []
  /-- The last 16 paddles, newest first: start, end, mass in 0.1 g. -/
  pads     : List (Nat × Nat × Nat) := []
  /-- Time-domain estimation runs: the paddles of the rate and the time they took, the sum of the slot in progress (R95). -/
  tdom     : Bool := false
  rateK    : Nat := 0
  rateT    : Nat := 0
  slotSum  : Int := 0
  slotRev  : Bool := false
  slotFlt  : Bool := false
  /-- The tare: raw sum, samples, paddle periods left, and whether its first paddle has begun. -/
  tareSum  : Int := 0
  tareN    : Nat := 0
  tareLeft : Nat := 0
  tareOn   : Bool := false
  /-- The calibration mass in 0.1 g. -/
  cal      : Nat := 0
  /-- Paddles and slots that have ended and are not yet in a record. -/
  pieces   : List HsnPiece := []
  /-- The cell full since, plus 1; the readings, newest first; when the last was made. -/
  fullAt   : Nat := 0
  moist    : List (Nat × Nat) := []
  readAt   : Nat := 0
  /-- The history, newest first, and the latest FUS results. -/
  hist     : List HsnStep := []
  fus      : List HsnPos := []
  /-- The start of the measurement interval, the interval whose record is due, TDLY of the last record. -/
  ts       : Nat := 0
  due      : Option HsnIval := none
  lastDly  : Option Nat := none
  cropchg  : Bool := false
  /-- The yield base has moved in reverse in the interval (REV of Table 4.4). -/
  rev      : Bool := false
  /-- The turn count of RBASE that HSN saw last (R111). -/
  turn     : Nat := 0
  seq      : Nat := 0
  wring    : Tab (List Nat) := []
  yring    : Tab (List Nat) := []
deriving DecidableEq, Repr


/-! ### Grain vision (spec/05_grain_vision.md) -/

/-- A frame: its port (3 for a replay), where it lies, the format with which it was captured, what Table 5.3 and R126
gave it. -/
structure VisFrame where
  port    : Nat := 0
  frno    : Nat := 0
  ts      : Nat := 0
  buf     : Nat := 0
  addr    : Nat := 0
  w       : Nat := 0
  h       : Nat := 0
  cfa     : Nat := 0
  trig    : Option Nat := none
  untrig  : Bool := false
  fe      : Nat := 0
  lines   : Nat := 0
  short   : Bool := false
  long    : Bool := false
  lineerr : Bool := false
  timeout : Bool := false
  /-- A fault of the port was detected while the frame was under way: its result is invalid (R29). -/
  bad     : Bool := false
deriving DecidableEq, Repr

/-- What the pipeline makes of a frame (R132–R136). -/
structure VisOut where
  nobj   : Nat := 0
  nedge  : Nat := 0
  novf   : Nat := 0
  uncert : Nat := 0
  frac   : List Nat := []
  conf   : List Nat := []
  satpx  : Nat := 0
  area   : Nat := 0
  /-- The analysis image to be written: its offset and its words. -/
  img    : Option (Nat × List Nat) := none
  imgb   : Nat := 0
  skip   : Bool := false
deriving DecidableEq, Repr

/-- The frame in processing: the context's revision, whether it is the first under it, when it ends. -/
structure VisProc where
  frame  : VisFrame
  out    : VisOut
  parrev : Nat
  parchg : Bool
  begun  : Nat
  ends   : Nat
deriving DecidableEq, Repr

/-- A result that waits for its write: when that is due, and its words but for RDLO. -/
structure VisRes where
  due   : Nat
  ctx   : Nat
  words : List Nat
deriving DecidableEq, Repr

/-- What VIS holds beside its registers. -/
structure Vis where
  /-- The frame that a port captures. -/
  cur     : Tab VisFrame := []
  /-- A port has started a frame since it left OFF, so that FRNO counts on. -/
  counted : Nat := 0
  /-- The pending trigger of a port: its firing time; and the trigger pins that are active, with when they end. -/
  trig    : Tab Nat := []
  pulse   : Tab Nat := []
  /-- Frames that have ended and enter the live queue 50 ns later; the live queue; the replay frame. -/
  ended   : List VisFrame := []
  queue   : List VisFrame := []
  replay  : Option VisFrame := none
  replays : Nat := 0
  proc    : Option VisProc := none
  /-- The end of the quiet slot that runs. -/
  quiet   : Option Nat := none
  /-- The throttle level that THM ordered, until it takes effect. -/
  level   : Nat := 0
  results : List VisRes := []
  ring    : Tab (List Nat) := []
  /-- Contexts with a new set that no result has carried yet; the image index of each context. -/
  fresh   : Nat := 0
  imgb    : Nat := 0
  /-- Processing and quiet time: start, end, whether quiet; newest first. -/
  spans   : List (Nat × Nat × Bool) := []
deriving DecidableEq, Repr


/-! ### The control engine (spec/06_control_engine_and_function_channels.md) -/

/-- What a slot holds between evaluations (R149) beside its registers; 16.16 values as integers. -/
structure CenSlot where
  first  : Bool := true
  i      : Int := 0
  yf     : Int := 0
  df     : Int := 0
  u      : Int := 0
  tt     : Nat := 0
  /-- The r in use, and the setpoint that an outer slot has given it. -/
  r      : Int := 0
  setp   : Int := 0
  /-- i is preset so that the next u equals this (R169, Table 6.4). -/
  preset : Option Int := none
  /-- KP before the apply that the next evaluation takes (R174). -/
  kpOld  : Option Int := none
  /-- PARREV of the set of the last trace entry (R173). -/
  traced : Nat := 0
  /-- The state that HOLD came from. -/
  prev   : Nat := 2
  /-- The last trigger or entry, from which STO counts (R163). -/
  seen   : Nat := 0
  /-- How often the slot has entered HOLD or OFF: an evaluation of before does not write (R170). -/
  gen    : Nat := 0
  /-- The largest LAT since EV 0x0404; consecutive outputs with LATE (R378). -/
  latMax : Nat := 0
  lateRun : Nat := 0
  /-- The output time of the last evaluation, in 1/24 ns. -/
  free24 : Nat := 0
deriving DecidableEq, Repr

/-- A pending trigger (R155). -/
structure CenPend where
  slot : Nat
  tt   : Nat
  /-- When the host last wrote each external feedback before the trigger, plus 1 (Table 6.1). -/
  xfb  : Tab Nat := []
deriving DecidableEq, Repr

/-- An evaluation in flight (R156, R157): its output time in 1/24 ns and what it will write. -/
structure CenFlight where
  slot  : Nat
  tt    : Nat
  out24 : Nat
  gen   : Nat
  /-- It reads and checks its feedback only (HOLD). -/
  idle  : Bool := false
  u     : Int := 0
  yf    : Int := 0
  i     : Int := 0
  r     : Int := 0
  dt    : Nat := 0
  hi    : Bool := false
  lo    : Bool := false
  frz   : Bool := false
  rlim  : Bool := false
  inv   : Bool := false
  /-- Of the set it started with (R173): PARREV, TRACE, PRIO, LATMAX in ns, the inner slot or the channel that takes its output. -/
  rev    : Nat := 0
  trace  : Bool := false
  prio   : Bool := false
  latMax : Nat := 0
  inner  : Option Nat := none
  chan   : Option Nat := none
deriving DecidableEq, Repr

/-- What a function channel holds beside its registers. -/
structure CenChan where
  /-- ARM has been given in IDLE; the first scan decides the state (Table 6.7). -/
  arming : Bool := false
  /-- Interlocks whose effect is latched; the latch of Tocsin's safe state (R168, R169). -/
  lat    : Nat := 0
  tsvLat : Bool := false
  /-- The last on/off command of path 1 (Table 6.5). -/
  lastOn : Option Bool := none
  /-- What SP has still to move of its ramp, in 10^−9 LSB (R165). -/
  part   : Int := 0
deriving DecidableEq, Repr

/-- What CEN holds beside its registers. -/
structure Cen where
  slots  : Tab CenSlot := []
  chans  : Tab CenChan := []
  pend   : List CenPend := []
  flight : List CenFlight := []
  /-- The last issue, the last PRIO = 0 issue with its quiet slot in quarters of 250 cycles, the output that freed the last
  of eight places; in 1/24 ns, plus 1 (0: none). -/
  last24 : Nat := 0
  norm24 : Nat := 0
  quiet4 : Nat := 0
  full24 : Nat := 0
  /-- The throttle level that THM ordered. -/
  level  : Nat := 0
  /-- Issues and quarters of opportunities inside quiet slots, in the second `sec` and in the one before. -/
  sec    : Nat := 0
  issues : Nat := 0
  quiets : Nat := 0
  issue1 : Nat := 0
  quiet1 : Nat := 0
  /-- When each CEN_XFBn was last written, plus 1. -/
  xfb    : Tab Nat := []
  /-- The drive messages that have been committed (R167). -/
  drives : Nat := 0
  ring   : Tab (List Nat) := []
deriving DecidableEq, Repr


/-! ### GNSS (spec/10_gnss_baseband_and_time_pulse.md) -/

/-- What a channel holds beside its register: since when it is in its state, when its carrier lock began, and whether the
lock restarted since the last epoch (R271, Table 10.4). -/
structure GnsCh where
  since  : Nat := 0
  lockAt : Nat := 0
  slip   : Bool := false
deriving DecidableEq, Repr

/-- A TIMEQ message (R279). -/
structure TimeqMsg where
  week   : Nat := 0
  tow    : Nat := 0
  tstate : Nat := 0
  dol    : Bool := false
  slew   : Bool := false
  step_  : Bool := false
  errlim : Bool := false
  nofix  : Bool := false
  leap   : Bool := false
  tsys   : Nat := 0
  qerr   : Int := 0
  resid  : Int := 0
  errest : Nat := 0
  step   : Int := 0
  /-- Beside the registers: when it was written, the module time of its pulse's ideal instant (none: the first pulse of a train), the
  elapsed seconds of the week that its pulse adds (R281), and whether its label starts a chain of labels. -/
  wrote  : Nat := 0
  at_    : Option Nat := none
  secs   : Int := 1
  fresh  : Bool := false
deriving DecidableEq, Repr

/-- An item of GNSS retention memory (R287): its words, and their CRC. -/
structure GnsItem where
  words : List Nat := []
  crc   : Nat := 0
deriving DecidableEq, Repr

/-- GNSS retention memory in KA (R287): the items kept, keyed by their bit of VALID in GNS_RET, and the RTC time of the save, ns. -/
structure GnsRet where
  items : Tab GnsItem := []
  at_   : Nat := 0
deriving DecidableEq, Repr

/-- What GNS holds beside its registers. -/
structure Gns where
  ch       : Tab GnsCh := []
  /-- The epoch number since GNS domain reset, and the slots of the epoch ring as their words (R273). -/
  seq      : Nat := 0
  slots    : Tab (List Nat) := []
  /-- When the last epoch was taken, plus 1. -/
  epAt     : Nat := 0
  /-- The bands with interference, and when each shorted antenna's bias was switched off or retried, plus 1. -/
  bands    : Nat := 0
  shortAt  : Tab Nat := []
  /-- The last valid time solution: its module time, ERRSOL in ns. -/
  solAt    : Nat := 0
  errSol   : Nat := 0
  /-- The offsets of consecutive valid solutions since the loss, newest first (R283). -/
  offs     : List Int := []
  /-- The agreed offset, and the late leap seconds in it (R285, R281). -/
  delta    : Int := 0
  leapPart : Int := 0
  /-- RESID now, ns. -/
  resid    : Int := 0
  /-- The label of the last pulse, the elapsed seconds of its week, and whether a train of pulses runs; a true second as the last solution
  gave it: its label, its module time, the time scale. -/
  week     : Nat := 0
  tow      : Nat := 0
  elapsed  : Nat := 0
  labelled : Bool := false
  solWeek  : Nat := 0
  solTow   : Nat := 0
  solSys   : Nat := 0
  solSec   : Nat := 0
  /-- The correction in the frequency model of the TCXO, ppb (R421). -/
  tcxo     : Int := 0
  /-- The message of the next pulse, once it is written; the last message; the last pulse's ideal instant. -/
  next     : Option TimeqMsg := none
  msg      : TimeqMsg := {}
  pulseAt  : Nat := 0
  /-- An announced leap second: its sense and the week and second at which the new day starts; the late ones that wait for their step;
  the last one that has been taken (R281). -/
  leap     : Int := 0
  leapWeek : Nat := 0
  leapTow  : Nat := 0
  late     : Int := 0
  leapDone : Option (Int × Nat × Nat) := none
  /-- The HLIM event has been emitted in this entry; the outputs are stopped under HSTOP (R284). -/
  told     : Bool := false
  stopped  : Bool := false
  /-- TP0 and TP1 active, and until when. -/
  tp       : Tab Nat := []
  /-- The last retention save (R287) and the last steering of the clock (R282). -/
  savedAt  : Nat := 0
  rateAt   : Nat := 0
  /-- The retained items that the last start uses (bits as VALID of GNS_RET), and the module time by which, under the open sky of R288,
  its first valid solution comes. -/
  taken    : Nat := 0
  startBy  : Option Nat := none
deriving DecidableEq, Repr


/-! ### Carillon (spec/03_carillon_event_engine.md) -/

/-- What a post asks for: the descriptor of a port, or of SEC (R57, CAR_HPn registers). -/
structure CarDesc where
  tgt     : Nat := 0
  per     : Nat := 0
  typ     : Nat := 0
  target  : Nat := 0
  arg     : Nat := 0
  base    : Nat := 0
  rev     : Bool := false
  onrev   : Bool := false
  onstall : Bool := false
  onjump  : Nat := 0
  retend  : Bool := false
  count   : Nat := 1
  horizon : Nat := 1000
  tag     : Nat := 0
deriving DecidableEq, Repr

/-- A port's command: 0 POST, 1 RETIME, 2 REVOKE, 3 FLUSH; the descriptor and the handle at its strobe (R60). -/
structure CarCmd where
  kind   : Nat
  desc   : CarDesc
  handle : Nat
deriving DecidableEq, Repr

/-- A slot (Table 3.1). -/
structure CarSlot where
  st     : Nat := 0
  gen    : Nat := 0
  port   : Nat := 0
  desc   : CarDesc := {}
  /-- Occurrences that have fired. -/
  occ    : Nat := 0
  /-- The prediction in PROV, and the frozen firing time in COMMIT. -/
  pred   : Option Nat := none
  fireAt : Nat := 0
  /-- The round in which it committed. -/
  commit : Nat := 0
  /-- The committed occurrence is the last (R63, R64). -/
  last   : Bool := false
  moved  : Bool := false
  jshift : Bool := false
  late   : Bool := false
  /-- When the base reached the target, for LATENESS. -/
  lateAt : Nat := 0
deriving DecidableEq, Repr

/-- A retirement entry that waits for the ring: when it was decided, its slot, whether it is final, its words. -/
structure CarRet where
  at_   : Nat
  slot  : Nat
  final : Bool
  words : List Nat
deriving DecidableEq, Repr

/-- A base transition that the next round applies: what (as in Sig.base), its time, the phase after it, a jump's size. -/
structure CarTrans where
  what  : Nat
  at_   : Nat
  phase : Nat
  size  : Int
deriving DecidableEq, Repr

/-- What CAR holds beside its registers. -/
structure Car where
  slots   : Tab CarSlot := []
  /-- The command that runs, by host port; SEC's port takes one command of its queue per round. -/
  ports   : Tab (Option CarCmd) := []
  secq    : List CarCmd := []
  trans   : Tab (List CarTrans) := []
  wait    : List CarRet := []
  ring    : Tab (List Nat) := []
  /-- The CAR event inputs that the interrupt controller of the host complex has latched, by core, and the DMA channels started, by
  channel (R72). -/
  irq     : Nat := 0
  dma     : Nat := 0
  /-- The throttle level that THM has given to the DMA engine of the host complex (R423). -/
  dmaLvl  : Nat := 0
  /-- The largest lateness since EV 0x0205. -/
  lateMax : Nat := 0
  /-- The last prediction round, plus 1. -/
  round   : Nat := 0
deriving DecidableEq, Repr


/-! ### Inputs and outputs of SYS (spec/19_connectors_electrical_and_mechanical.md) -/

/-- What SYS's inputs and outputs hold beside their registers. -/
structure SysIo where
  /-- When a new filter time of an input was applied, plus 1 (R522). -/
  filtAt : Tab Nat := []
  /-- The last happening of this tick on a DQ output: the module time plus 1, and its rank in R509. -/
  dqTick : Tab (Nat × Nat) := []
  /-- The outputs that were on when the first happening of a tick came: the module time plus 1, and the levels (R509). -/
  dqWas  : Nat × Nat := (0, 0)
  /-- When a supply was switched off, or last retried (R511). -/
  vsAt   : Tab Nat := []
deriving DecidableEq, Repr


/-! ### Fusion (spec/11_fusion_engine.md) -/

/-- What the estimator gives for an instant (Table 11.5): latitude and longitude in 10^−10 degree, the rest in the record's
units. -/
structure FusEst where
  lat    : Int := 0
  lon    : Int := 0
  hgt    : Int := 0
  vn     : Int := 0
  ve     : Int := 0
  vu     : Int := 0
  spd    : Int := 0
  roll   : Int := 0
  pitch  : Int := 0
  yaw    : Nat := 0
  yawr   : Int := 0
  hstd   : Nat := 0
  vstd   : Nat := 0
  velstd : Nat := 0
  hdgstd : Nat := 0
deriving DecidableEq, Repr

/-- The estimator's state (R304): the 24 states (position: latitude and longitude, 10^−10 degree, height, mm; velocity north, east and up,
mm/s; roll, pitch and yaw, 0.01°; gyro biases; accelerometer biases; nine calibration states), their covariance (the lower triangle, row by
row, of the errors in mm, mm/s, 0.01°), and yaw rate, forward speed and the velocity's deviation. What is not listed is 0. -/
structure FusCore where
  x   : List Int := []
  p   : List Int := []
  out : List Int := []
deriving DecidableEq, Repr

/-- The settings of a stream with which a sample is processed (R318): TYPE, NS1, NS2, GATE, the refined calibration. -/
structure FusSet where
  typ  : Nat := 0
  ns1  : Nat := 0
  ns2  : Nat := 0
  gate : Nat := 0
  cal  : List Int := []
deriving DecidableEq, Repr

/-- A result as the consumers inside the module see it. -/
structure FusRes where
  tv   : Nat := 0
  oseq : Nat := 0
  rev  : Nat := 0
  ok   : Bool := false
  age  : Nat := 0
  est  : FusEst := {}
deriving DecidableEq, Repr

/-- A sample that waits in the input queue or is held (R300, R303): its stream, time of measurement, own time, whether it
only opens a chain, and its data words. -/
structure FusSamp where
  strm  : Nat
  tm    : Nat
  s     : Nat := 0
  qual  : Nat := 0
  opens : Bool := false
  words : List Nat := []
deriving DecidableEq, Repr

/-- An operation of the estimator, as the history keeps it (R314, R315): its time, its kind (0 a propagation, 1 a measurement, 2 a focus that
loads the calibration states, 3 a change of the primary IMU), the stream and its settings, whether the gate tests it, the operands, the
intervals of the calibration states that it refines, and the sample of a measurement that its first replay has still to judge. -/
structure FusOp where
  tm    : Nat
  kind  : Nat
  strm  : Nat
  set   : FusSet := {}
  gated : Bool := true
  args  : List Int := []
  bnds  : List (Option (Int × Int)) := []
  late  : Option FusSamp := none
deriving DecidableEq, Repr

/-- What a stream holds beside its registers. -/
structure FusStr where
  /-- When a usable sample last arrived. -/
  seen   : Nat := 0
  /-- The next type-8 record opens a chain (R297). -/
  chain  : Bool := true
  /-- The clock model (R299): whether it is seeded, s_ref, θ in ns, ρ in 10^−12, the samples (s, o) of the last 10 s, newest
  first, the s of the previous sample, and since when a fit has required a ρ beyond ±200 ppm, plus 1. -/
  seeded : Bool := false
  sref   : Nat := 0
  theta  : Int := 0
  rho    : Int := 0
  pts    : List (Nat × Int) := []
  prevS  : Nat := 0
  overAt : Nat := 0
  /-- Held samples, or in RESYNC the samples kept since the re-seeding, oldest first (R300); the consecutive good ones. -/
  held   : List FusSamp := []
  good   : Nat := 0
  /-- Consecutive rejections (R307). -/
  rej    : Nat := 0
  /-- The standard deviations of the eight calibration components, in 2^−16 of a unit of FUS_RCALs (R308). -/
  sigma  : Tab Nat := []
deriving DecidableEq, Repr

/-- An output instant in the history, with the estimator's state there (R314). -/
structure FusInst where
  tv   : Nat
  oseq : Nat
  rev  : Nat
  core : FusCore := {}
deriving DecidableEq, Repr

/-- A replay (R315): the instant it started from, the instant it has reached and when, in 1/120 ns, and the t_m it started
for. -/
structure FusReplay where
  from_ : Nat
  point : Nat
  at120 : Nat
  tm    : Nat
  /-- The estimator's state at the instant it has reached, and the time from which operations are still to be processed. -/
  core  : FusCore := {}
  lo    : Nat := 0
deriving DecidableEq, Repr

/-- What FUS holds beside its registers. -/
structure Fus where
  str    : Tab FusStr := []
  queue  : List FusSamp := []
  /-- The live lane's state, its state at the last restart, the operations of the window in order of time (R314), and the settings that
  streams had, newest first, with the stream and the time until which they held (R318). -/
  core   : FusCore := {}
  base   : FusCore := {}
  ops    : List FusOp := []
  olds   : List (Nat × Nat × FusSet) := []
  /-- The IMU streams that have been left as primary since the restart, newest first (R306). -/
  left   : List Nat := []
  /-- The last sample of the primary IMU; consecutive usable ones (R305). -/
  imuAt  : Nat := 0
  align  : Nat := 0
  /-- When ALIGN was entered; heading and position initialised; since when type-5 samples have been at 1.0 m/s or more, plus
  1; the last type-3 position and the track covered, in mm (R305). -/
  alnAt  : Nat := 0
  hdg    : Bool := false
  pos    : Bool := false
  fast5  : Nat := 0
  last3  : Option (Nat × Int × Int) := none
  track  : Nat := 0
  /-- When a type-3 sample was last used. -/
  posAt  : Nat := 0
  /-- IMUSW is set in every result; the next result is the first after a restart. -/
  imusw  : Bool := false
  first  : Bool := false
  /-- The instant last counted and the number of the next (R311). -/
  anchor : Nat := 0
  oseq   : Nat := 0
  /-- The output instants of the window, newest first, and (stream, t_m) of the samples used, newest first. -/
  hist   : List FusInst := []
  used   : List (Nat × Nat) := []
  rp     : Option FusReplay := none
  /-- The stream in focus, and since when (R308); EV 0x0808 has been emitted in this period, by component. -/
  focus  : Option Nat := none
  focAt  : Nat := 0
  bndTold : Nat := 0
  /-- The newest result, at its highest revision; the words of the newest REV 0 result; the ring. -/
  res    : Option FusRes := none
  last   : List Nat := []
  ring   : Tab (List Nat) := []
  /-- The throttle level that THM ordered. -/
  level  : Nat := 0
  /-- Until when a push port runs a push, plus 1 (R301). -/
  busy   : Tab Nat := []
  /-- Since when EN has had its value, and TLVL; the second that FUS_LOAD shows, plus 1, and its word (R317). -/
  enAt   : Nat := 0
  lvAt   : Nat := 0
  loadAt : Nat := 0
  loadW  : Nat := 0
deriving DecidableEq, Repr



/-! ### Section and row control (spec/07_section_and_row_control.md) -/

/-- An event that SEC has posted, or whose post CAR has not answered yet: its rows, the new state it gives them, its target
phase, whether it is an image batch, a late switch, and how far it has come: 0 asked for, 1 in CAR, 2 committed or firing
(stood). -/
structure SecEv where
  tag    : Nat
  rows   : List Nat
  on_    : Bool
  target : Nat
  batch  : Bool := false
  late   : Bool := false
  handle : Nat := 0
  st     : Nat := 0
  /-- The new target of a RETIME that runs; the change is still wanted after a revoke (R200). -/
  move   : Nat := 0
  again  : Bool := false
deriving DecidableEq, Repr

/-- The counts of a plan (R201). -/
structure SecCount where
  revoked : Nat := 0
  retimed : Nat := 0
  stood   : Nat := 0
  posted  : Nat := 0
  late    : Nat := 0
  refused : Nat := 0
deriving DecidableEq, Repr

/-- What a plan rests on (R190): the result, P_ref. -/
structure SecPlan where
  res  : FusRes := {}
  pref : Nat := 0
deriving DecidableEq, Repr

/-- A change that a plan wants: the row, its new state, the target as travel from P_ref in 0.1 mm; `how`: 0 as its target asks, 1 only
where it is late, 2 as a late switch (R197, R200). -/
structure SecWant where
  row : Nat
  on_ : Bool
  rel : Int
  how : Nat := 0
deriving DecidableEq, Repr

/-- What SEC holds beside its registers. -/
structure Sec where
  evs     : List SecEv := []
  /-- The posts of the plan that runs, which wait for the answers to its revokes and retimes; whether they have been made (R200). -/
  todo    : List SecWant := []
  posting : Bool := false
  /-- At a fence: the answers up to that of its FLUSH, and the events revoked so far (R208). -/
  cut     : Option (Nat × Nat) := none
  /-- The events of port 4 that the fence found in PROV (R208). -/
  cutAll  : Nat := 0
  /-- The DBASE samples of the last 2 s, newest first (R190). -/
  samples : List (Nat × Nat) := []
  /-- The newest result; the one of the last plan, by TV and REV; the last one from which coverage was marked. -/
  res     : Option FusRes := none
  planned : Option (Nat × Nat) := none
  marked  : Option FusRes := none
  /-- When a row covers ground (R188): from and until, newest first; until 0 is open. -/
  cover   : Tab (List (Nat × Nat)) := []
  /-- ALLOFF, or the switch-off on entering HOLD, has stopped the marking of coverage. -/
  nomark  : Bool := false
  /-- When the last plan started, plus 1; a plan has been asked for; the plan that runs; its answers outstanding. -/
  planAt  : Nat := 0
  replan  : Bool := false
  plan    : SecPlan := {}
  busy    : Bool := false
  out     : Nat := 0
  count   : SecCount := {}
  /-- Revoked, retimed and stood since EV 0x0904 was last emitted. -/
  sum     : SecCount := {}
  /-- When a cause of HOLD was last present (R202). -/
  causeAt : Nat := 0
deriving DecidableEq, Repr



/-! ### Buses and the fleet link (spec/12_field_buses_and_fleet_link.md) -/

/-- A transmit buffer beside its registers (R327–R329): the transmit copy, a held replacement, a held cancel. -/
structure CanBuf where
  copy : CanFrame := {}
  repl : Option CanFrame := none
  canc : Bool := false
deriving DecidableEq, Repr

/-- A transmit buffer before the first strobe of a CAN clock cycle, and the strobes of that cycle: REQ with its frame, or CANCEL; the
cycle's number plus 1 (R329). -/
structure CanWas where
  cyc  : Nat := 0
  pend : Nat := 0
  res  : Nat := 0
  late : Nat := 0
  repl : Nat := 0
  copy : CanFrame := {}
  strobes : List (Option CanFrame) := []
deriving DecidableEq, Repr

/-- A stored frame (R335). -/
structure CanRx where
  frame  : CanFrame
  esi    : Bool
  ts     : Nat
  filter : Nat
  estate : Nat
  valid  : Bool
deriving DecidableEq, Repr

/-- An inbound transport session (R339): ETP or TP, the packets and bytes received, the last packet that the sender has been cleared to send,
the packet offset of ETP, how many packets a clearance may give. -/
structure CanSess where
  sa   : Nat
  da   : Nat
  pgn  : Nat
  len  : Nat
  bam  : Bool
  etp  : Bool := false
  got  : Nat := 0
  data : List Nat := []
  upTo : Nat := 0
  base : Nat := 0
  max  : Nat := 255
deriving DecidableEq, Repr

/-- The outbound session (R339): 0 a single frame, 1 BAM, 2 RTS/CTS, 3 ETP; its PGN, destination, bytes. -/
structure CanOut where
  kind : Nat
  pgn  : Nat
  da   : Nat
  data : List Nat
deriving DecidableEq, Repr

/-- What the bus protocol engine holds: when the claim began, the address that is claimed, the addresses seen claimed by others, the inbound
sessions, the outbound one, those of the dictionary's responses (R361), the frames that wait for buffer 0 and whether one of them, or the one in the buffer, is the last of a message. -/
structure CanBpe where
  at_   : Nat := 0
  addr  : Nat := 0xFE
  seen  : List Nat := []
  sess  : List CanSess := []
  out   : Option CanOut := none
  dict  : List CanOut := []
  outq  : List (CanFrame × Bool) := []
  fin   : Bool := false
deriving DecidableEq, Repr

/-- What CAN holds beside its registers: buffers by controller · 3 + buffer, FIFOs by controller · 2 + FIFO, when a
supervised filter applied or last matched plus 1 by controller · 128 + filter, consecutive ACK errors, the count of each
EV 0x0C08's ignored writes being kept with the event. -/
structure Can where
  buf   : Tab CanBuf := []
  fifo  : Tab (List CanRx) := []
  match_ : Tab Nat := []
  acks  : Tab Nat := []
  bpe   : Tab CanBpe := []
  /-- By controller: the parts of SEC's classic image that wait for buffer 1, with their frames (R196). -/
  parts : Tab (List (Nat × CanFrame)) := []
  /-- By controller · 3 + buffer: the strobes of the present CAN clock cycle. -/
  was   : Tab CanWas := []
  /-- By controller: until when a node that was taken off the bus integrates (R352). -/
  integ : Tab Nat := []
deriving DecidableEq, Repr

/-- A learned address (R341). -/
structure EthMac where
  mac  : Nat
  vid  : Nat
  port : Nat
  at_  : Nat
deriving DecidableEq, Repr

/-- A frame at its egress: port, queue, tagged, and its bytes as they leave (R341). -/
structure EthOut where
  port   : Nat
  queue  : Nat
  tagged : Bool
  bytes  : List Nat
deriving DecidableEq, Repr

/-- What a port sends: the frame, and until when (R341). -/
structure EthWire where
  until_ : Nat := 0
  frame  : Option EthOut := none
deriving DecidableEq, Repr

/-- What ETH holds beside its registers. -/
structure Eth where
  macs : List EthMac := []
  /-- Where the last switched frame went. -/
  out  : List EthOut := []
  /-- The frames that wait in the egress queues, oldest first, and by port what is sent (R341). -/
  wait : List EthOut := []
  wire : Tab EthWire := []
  /-- The last frame went to FLT. -/
  toFlt : Bool := false
  /-- gPTP or network time minus module time, ns (R342). -/
  ofs  : Int := 0
  /-- When the last sync interval and the last peer-delay interval ran, and by port the delay measured (R342). -/
  syncAt : Option Nat := none
  peerAt : Option Nat := none
  delay  : Tab Nat := []
  /-- The last frame that FLT sent of itself, and where it went (R344). -/
  reply : List Nat := []
  replyOut : List EthOut := []
deriving DecidableEq, Repr

/-- A record of the store-and-forward queue (R349, R350). -/
structure FltRec where
  sess : Nat
  seq  : Nat
  prio : Nat
  data : List Nat
  gap  : Bool := false
deriving DecidableEq, Repr

/-- A fleet message (Table 12.8). -/
structure FltMsg where
  typ     : Nat
  prio    : Nat
  seq     : Nat
  payload : List Nat
deriving DecidableEq, Repr

/-- A session beside its registers: when its state was entered, when a datagram last came from the peer and one was last
sent, its back-off times (present and next), the sequence numbers assigned and delivered, the last one acknowledged to the peer; whether an acknowledgement is owed, the
next sequence number to send, and the last message sent. -/
structure FltSess where
  at_   : Nat := 0
  rx    : Nat := 0
  tx    : Nat := 0
  wait  : Nat := 2
  next  : Nat := 2
  seq   : Nat := 0
  last  : Nat := 0
  acked : Nat := 0
  owed  : Bool := false
  nxt   : Nat := 0
  sent  : Option FltMsg := none
deriving DecidableEq, Repr

/-- What FLT holds beside its registers; the queue and the key slots are kept at every reset (R354). -/
structure Flt where
  sess  : Tab FltSess := []
  queue : List FltRec := []
  /-- The key pairs, by slot. -/
  keys  : Tab Nat := []
  /-- When FLT was fenced (R355). -/
  fencedAt : Nat := 0
  /-- The MAC addresses that ARP has found, by IPv4 address, and the datagrams that wait for one (R344). -/
  arp  : Tab Nat := []
  wait : List (Nat × List Nat) := []
deriving DecidableEq, Repr



/-! ### Displays (spec/16_displays.md) -/

/-- A label update that runs (R442–R445): CLEAN, its waveform band and N, the frames driven, the copy of the area's bytes. -/
structure DspRun where
  clean  : Bool
  band   : Nat
  n      : Nat
  frames : Nat := 0
  copy   : List (Nat × Nat) := []
deriving DecidableEq, Repr

/-- An update area: its request and when that was made, and the update that runs. -/
structure DspArea where
  pend  : Bool := false
  clean : Bool := false
  at_   : Nat := 0
  run   : Option DspRun := none
deriving DecidableEq, Repr

/-- What DSP holds beside its registers; buffers are bytes by offset, an unlisted byte is 0. -/
structure Dsp where
  front  : Tab Nat := []
  back   : Tab Nat := []
  label  : Tab Nat := []
  /-- The pixels on the glass, and the bytes of it that are known (R442). -/
  shown  : Tab Nat := []
  known  : Tab Bool := []
  area   : Tab DspArea := []
  /-- When the panel entered its state, and started its last frame. -/
  since  : Nat := 0
  frame  : Nat := 0
  /-- The last reading of the label thermistor, when it was taken, and when one was last tried; the last frame boundary of the label; each
time plus 1 (R444, R445). -/
  temp   : Int := 0
  tempAt : Nat := 0
  readAt : Nat := 0
  bound  : Nat := 0
  /-- When the bus lease for a reading that has not been taken was asked for, plus 1; 0 none (R444). -/
  asked  : Nat := 0
  /-- The panel supply in mV from which it approaches a changed VPANEL while ON, and since when (Table 16.2). -/
  vFrom  : Nat := 0
  vAt    : Nat := 0
  /-- The discharge that runs was begun by a fault (R439). -/
  fault  : Bool := false
  /-- Shut-down step s2 has begun (R449). -/
  closing : Bool := false
deriving DecidableEq, Repr



/-! ### The Yulis link (spec/18_yulis_cascade_link.md) -/

/-- A frame that passes this node: when byte 0x000 arrived, its bytes, whether the cycle already has a miss, whether the
master's entry has been judged. -/
structure YulIn where
  at_    : Nat
  bytes  : List Nat
  miss   : Bool
  judged : Bool := false
deriving DecidableEq, Repr

/-- A tunnel message: the other node, its number, and the bytes that are still to be sent or have been received; whether its
first fragment is still to be sent; the cycle of the last fragment received. -/
structure YulMsg where
  node  : Nat
  mseq  : Nat
  bytes : List Nat
  first : Bool := true
  cycle : Nat := 0
deriving DecidableEq, Repr

/-- What YUL holds beside its registers. -/
structure Yul where
  /-- The straps, and the node number read at RT power-up (R473). -/
  straps : Nat := 0
  id     : Nat := 0
  /-- The image that is sent and the back buffer (R482), bytes by offset; when the swap was asked. -/
  tx     : Tab Nat := []
  back   : Tab Nat := []
  swapAt : Nat := 0
  /-- Master: SEC's section image as it stood when byte 0x000 last came back (R482). -/
  sec    : List Nat := []
  /-- The images visible to the host and the newest taken, by node (R483). -/
  rx     : Tab (List Nat) := []
  newest : Tab (List Nat) := []
  /-- The frame last put on YUL-OUT. -/
  out    : List Nat := []
  inc    : Option YulIn := none
  /-- The last good arrival, and how many cycles after it have been judged (R486). -/
  arr    : Option Nat := none
  judged : Nat := 0
  /-- The HB of the master last taken, and the arrival of its frame. -/
  hbIn   : Option (Nat × Nat) := none
  /-- Consecutive misses or return misses, and consecutive clean cycles. -/
  missRun : Nat := 0
  clean  : Nat := 0
  /-- This node's HB and the safety entry last written. -/
  hb     : Nat := 0
  own    : List Nat := []
  /-- Master: the last SOC and the first one since LINK, CYCLE of the next frame, whether the header has returned, whether
  the cycle has a return miss. -/
  soc    : Option Nat := none
  soc0   : Nat := 0
  cyc    : Nat := 0
  home   : Bool := false
  missed : Bool := false
  /-- Master: consecutive absences by node; the slots of the last returned frame; a return miss has voided them (R477). -/
  absent : Tab Nat := []
  slots  : List Nat := []
  void   : Bool := true
  /-- Jumps of this module's bases, and JCNT last seen by entry, plus 1 (R479). -/
  jumps  : Tab Nat := []
  jcnt   : Tab Nat := []
  /-- R481: MTOFS, two's complement in 64 bits. -/
  mtofs  : Nat := 0
  /-- HB last taken with an image, plus 1, by node (R483). -/
  imgHb  : Tab Nat := []
  /-- Tunnel messages to send, the next MSEQ, and messages in reassembly by sender (R484). -/
  tunQ   : List YulMsg := []
  mseq   : Nat := 0
  reasm  : Tab YulMsg := []
deriving DecidableEq, Repr



/-! ### The dictionary and the store (spec/13_parameter_dictionary_and_store.md) -/

/-- The consistency groups of every block (Tables 4.7 to 16.2 and the rules beside them). -/
inductive Grp where
  | power | io
  | tsvWd | tsvRow (m : Nat) | tsvGrp (g : Nat)
  | quota
  | tbStruct (n : Nat) | tbLimits (n : Nat)
  | slot (n : Nat) | chan (k : Nat) | drive (d : Nat)
  | hsnCtl | hsnRec | hsnCrop (p : Nat) | hsnLoss | hsnWin (n : Nat) | hsnMoi | hsnNoise
  | visFmt (p : Nat) | visMem (p : Nat) | visCtx (c : Nat)
  | gnsRx | gnsTp | gnsMotion
  | fusCtl | fusStream (k : Nat)
  | secCtl | secMap | secImage | secRow (r : Nat)
  | solCtl | solChan (n : Nat)
  | lsBank (b : Nat) | lsProf (p : Nat) | lsChan (n : Nat)
  | canCtl (n : Nat) | canFilter (n f : Nat) | canIso (n : Nat) | canRing (n : Nat)
  | ethPort (p : Nat) | ethVlan | ethPtp | ethRing
  | fltNet | fltSess (k : Nat) | fltRing
  | thmThr | thmFan (f : Nat) | thmComp
  | dspPanel | dspLabel
  | yul
deriving DecidableEq, Repr

/-- A group of a transaction (R365, R366): what of its snapshot has not applied yet, by field and by PID, the groups it depends
on, when it was handed over plus 1, whether the hand-over has not been looked at yet, whether it has applied, when it finished. -/
structure TxnGrp where
  grp    : Grp
  vals   : List (Fld × Nat)
  blobs  : Tab (List Nat)
  deps   : List Grp := []
  handed : Nat := 0
  fresh  : Bool := true
  /-- 0 waiting, 1 applied, 2 withdrawn. -/
  done   : Nat := 0
  doneAt : Nat := 0
deriving DecidableEq, Repr

/-- A transaction (R365): its number, its party and the path, when it was accepted. -/
structure Txn where
  num    : Nat
  party  : Nat
  path   : Nat
  at_    : Nat
  groups : List TxnGrp
deriving DecidableEq, Repr

/-- A staging lock (R364): its group, its party, when the party last wrote. -/
structure Lock where
  grp   : Grp
  party : Nat
  at_   : Nat
deriving DecidableEq, Repr

/-- A remote session (R362): its number, its path and client, the role granted, the last message; the nonce while the second
LOGIN is awaited. -/
structure PdsSess where
  num    : Nat
  path   : Nat
  client : Nat
  role   : Option Nat
  want   : Nat
  nonce  : List Nat
  at_    : Nat
deriving DecidableEq, Repr

/-- The last response to a client of a path, by which a repeated SEQ is answered (R363). -/
structure PdsReply where
  path   : Nat
  client : Nat
  msg    : DictMsg
deriving DecidableEq, Repr

/-- A bank of the store in embedded NVM (R369, Table 13.8): valid, its header and its records; `erased` has never been written. -/
structure NvBank where
  good    : Bool := false
  erased  : Bool := true
  seq     : Nat := 0
  records : Tab (List Nat) := []
  fmt     : Nat := 0
  len     : Nat := 0
  count   : Nat := 0
  crc     : Nat := 0
  /-- An uncorrectable error has been read in it since it was last written (R376). -/
  spoilt  : Bool := false
deriving DecidableEq, Repr

/-- Who waits for the result of a STORE: a mailbox of the host, or a message of a client. -/
structure StoreWait where
  path   : Nat
  client : Nat
  msg    : DictMsg
deriving DecidableEq, Repr

/-- What PDS holds beside its registers. The banks, the OEM default set and the role keys are NVM and are kept. -/
structure Pds where
  txns    : List Txn := []
  nextTxn : Nat := 1
  locks   : List Lock := []
  sess    : List PdsSess := []
  nextSess : Nat := 1
  /-- Failed logins and the end of a block, by path (R362). -/
  fails   : Tab (List Nat) := []
  blocked : Tab Nat := []
  replies : List PdsReply := []
  /-- The response that PDS sent last on a remote path. -/
  out     : Option PdsReply := none
  /-- Messages of this node's gateway forwarded over Yulis whose response is awaited: node, client, SEQ (R484). -/
  fwd     : List (Nat × Nat × Nat) := []
  /-- Tables whose bank copy runs, with the module time by which 64 MiB/s have completed it (R367). -/
  copying : Tab Nat := []
  bankA   : NvBank := {}
  bankB   : NvBank := {}
  /-- The OEM default set, where it is valid. -/
  oem     : Option (Tab (List Nat)) := none
  /-- Role keys by role (R362). -/
  keys    : Tab (List Nat) := []
  /-- The store that runs: its records, the bank, when it asked for the lease, its start, its waiting parties, revocations,
  rewrites; the parties of the queued store. -/
  snap    : Tab (List Nat) := []
  bank    : Bool := false
  leaseAt : Nat := 0
  startAt : Nat := 0
  waits   : List StoreWait := []
  queued  : List StoreWait := []
  revoked : Nat := 0
  rewrote : Bool := false
  /-- The store that runs has been granted its lease. -/
  started : Bool := false
  /-- A power fail was detected while the store ran (R371). -/
  holdup  : Bool := false
  /-- The groups of blocks that were reset, with the values that were in effect before, which PDS commits anew (R395). -/
  keep    : List TxnGrp := []
  /-- The LIVE parameters of such blocks, with the values that were in effect before (R395). -/
  keepLive : List (Fld × Nat) := []
  /-- The groups that the load could not commit yet, their block being off or fenced (R372). -/
  late    : List TxnGrp := []
  /-- The last response that PDS sent on a remote path, as its bytes (Table 13.6). -/
  outBytes : List Nat := []
  /-- The parameters have been loaded in this start (R372). -/
  loadDone : Bool := false
deriving DecidableEq, Repr




/-! ### Thermal management (spec/15_power_thermal_and_cooling.md) -/

/-- A fan channel: when it entered its state, the integrator in 0.001 rpm, the correction C in 0.01 %, the demand in 0.001 rpm; a skip
band is being crossed. -/
structure ThmFan where
  at_   : Nat := 0
  i     : Int := 0
  c     : Int := 0
  dem   : Nat := 0
  cross : Bool := false
deriving DecidableEq, Repr

/-- What THM holds beside its registers: the fans, since when DIEMAX has been below the lowering threshold plus 1, the rounds
missed in a row, the last round plus 1, the end of the grace time plus 1, the sensors whose EV 0x0F04 has been emitted, the level to
which the host cores are capped (0: none), the grace time has ended in this tick, an acknowledgement lifts the cap at the next round, the level by
the thresholds alone (R422), the analog-reference correction in use in ppm (R421). -/
structure Thm where
  fans  : Tab ThmFan := []
  below : Nat := 0
  miss  : Nat := 0
  round : Nat := 0
  grace : Nat := 0
  told  : Nat := 0
  cap   : Nat := 0
  due   : Bool := false
  lift  : Bool := false
  under : Nat := 0
  ref   : Int := 0
  loaded : Bool := false
deriving DecidableEq, Repr

/-- The state of the module. -/
structure State where
  /-- Module time, ns (R9, R10). -/
  now     : Nat := 0
  /-- The commands that wait, first in, first out. -/
  pending : List Instr := []
  /-- The register fields in effect, by field number; a field unlisted has its reset value. -/
  regs    : Tab Nat := []
  /-- The staged values of RWS fields (R8): a field unlisted has nothing staged and reads as its value in effect. -/
  staged  : Tab Nat := []
  /-- The module time at which the module last set a W1C flag, plus 1, by flag number (R8). -/
  flagAt  : Tab Nat := []
  /-- Events limited in rate: when last emitted plus 1, and how many since, by event and instance. -/
  rate    : Tab (Nat × Nat) := []
  /-- Parameters that are no register field: the values in effect, by PID. -/
  params  : Tab Nat := []
  /-- Parameters of type TABLE, BYTES and STRING: the bytes in effect, by PID. -/
  blobs   : Tab (List Nat) := []
  /-- LPDDR5, by offset; a byte unlisted reads 0. -/
  mem     : List Host.Cell := []
  /-- The blocks that are fenced, one bit a block code (R19, R20, R526). -/
  fenced  : Nat := 0
  /-- The blocks whose first ignored write of this fence has been reported, one bit a block code (R20). -/
  fenceEv : Nat := 0
  /-- The last bus access's answer. -/
  bus     : BusAnswer := {}
  /-- THE MODEL'S OWN: how many free values have been taken (assumption log, entry 3). -/
  free    : Nat := 0
  mgr     : Mgr := {}
  sd      : ShutSeq := {}
  leases  : Tab Lease := []
  evr     : Evr := {}
  tsv     : Tsv := {}
  /-- What blocks have told each other within the step; empty between steps. -/
  sigs    : List Sig := []
  tbs     : Tbs := {}
  car     : Car := {}
  hsn     : Hsn := {}
  vis     : Vis := {}
  cen     : Cen := {}
  sol     : Sol := {}
  lsw     : Lsw := {}
  gns     : Gns := {}
  /-- The KA state that outlives AON: GNSS retention memory, and the RTC at module time 0, ns (R417). -/
  ret     : GnsRet := {}
  rtc0    : Nat := 0
  /-- The staged banks and staged values of TABLE, BYTES and STRING parameters: their bytes, by PID. -/
  banks   : Tab (List Nat) := []
  io      : SysIo := {}
  fus     : Fus := {}
  sec     : Sec := {}
  can     : Can := {}
  eth     : Eth := {}
  flt     : Flt := {}
  dsp     : Dsp := {}
  yul     : Yul := {}
  pds     : Pds := {}
  thm     : Thm := {}
deriving DecidableEq, Repr

/-- The module right after a cold start, as AON comes up: module time 0 (R10), KA and AON on (SYS_DOMSTAT), every
register at its reset value, nothing listed in memory, no command waiting. -/
def State.reset : State := {}

end Sys2Proof.Machine
end

