-- ==== Sys2Proof/Machine/Ops.lean ====
section
/-!
DEFINITION. The operations that every block shares: reading and writing register fields and memory, free values,
emitting an event (spec/17_event_recorder.md), leases (R396–R399), power domains and fences (R17–R29).
-/
namespace Sys2Proof.Machine

/-! ## Register fields -/

/-- The value in effect of a register field. -/
def State.rd (s : State) (f : Fld) : Nat := tabGet f.rst s.regs f.key

/-- A register field in effect set to a value, which is cut to the field's width. -/
def State.wr (f : Fld) (v : Nat) (s : State) : State :=
  { s with regs := tabSet f.rst s.regs f.key (v % 2 ^ f.wid) }

/-- A one-bit field in effect, as a truth value. -/
def State.on (s : State) (f : Fld) : Bool := s.rd f != 0

/-- The signed value in effect of a field. -/
def State.rdS (s : State) (f : Fld) : Int := sx f.wid (s.rd f)

/-- A signed value written to a field, saturating. -/
def State.wrS (f : Fld) (i : Int) (s : State) : State := s.wr f (tc f.wid (satS f.wid i))

/-- A counter field one further, saturating. -/
def State.inc (f : Fld) (s : State) : State := s.wr f (incSat f.wid (s.rd f))

/-- A counter field further by `n`, saturating. -/
def State.incBy (f : Fld) (n : Nat) (s : State) : State := s.wr f (min (s.rd f + n) (2 ^ f.wid - 1))

/-- A field set to its reset value. -/
def State.clr (f : Fld) (s : State) : State := s.wr f f.rst

/-- R8: what a read of an RWS field returns: the staged value, or the value in effect where none is staged. -/
def State.stagedVal (s : State) (f : Fld) : Nat := (tabFind s.staged f.key).getD (s.rd f)

/-- R8: a value staged in an RWS field. -/
def State.stage (f : Fld) (v : Nat) (s : State) : State :=
  { s with staged := tabPut s.staged f.key (v % 2 ^ f.wid) }

/-- The staged value of a field given up. -/
def State.unstage (f : Fld) (s : State) : State := { s with staged := tabDel s.staged f.key }

/-- A scalar parameter that is no register field: its value in effect, or its factory default. -/
def State.param (s : State) (pid dflt : Nat) : Nat := tabGet dflt s.params pid

/-- A free value of `w` bits, and the state that has taken it. -/
def State.takeFree (w : Nat) (s : State) : Nat × State :=
  ((Config.freeValue w s.free).toNat, { s with free := s.free + 1 })

/-- `k` free values of `w` bits. -/
def State.takeFrees (w : Nat) : Nat → State → List Nat × State
  | 0, s => ([], s)
  | k + 1, s =>
    let r := State.takeFrees w k (s.takeFree w).2
    ((s.takeFree w).1 :: r.1, r.2)

/-- A state transformation under a condition. -/
def State.when (c : Bool) (f : State → State) (s : State) : State := if c then f s else s

/-- A state transformation for each number of a list, in order. -/
def State.each {α : Type} (l : List α) (f : α → State → State) (s : State) : State :=
  l.foldl (fun t a => f a t) s

/-- A signal to another block, carried out before the step ends. -/
def State.signal (g : Sig) (s : State) : State := { s with sigs := s.sigs ++ [g] }

/-- A one-bit W1C flag set by the module, with the time at which it was set (R8). -/
def State.setFlag (f : Fld) (s : State) : State :=
  let t := s.wr f 1
  { t with flagAt := tabSet 0 t.flagAt f.key (s.now + 1) }

/-- Bit `i` of a W1C flag field set by the module, with the time at which it was set (R8). -/
def State.setFlagBit (f : Fld) (i : Nat) (s : State) : State :=
  let t := s.wr f (setBit (s.rd f) i)
  { t with flagAt := tabSet 0 t.flagAt (f.key + i) (s.now + 1) }

/-! ## Memory (LPDDR5) -/

/-- A byte of LPDDR5; a byte that nothing has written reads 0 (assumption log, entry 5). -/
def State.ldb (s : State) (a : Nat) : Nat := (tabGet (0 : Byte) s.mem a).toNat

/-- A byte written to LPDDR5. -/
def State.stb (a v : Nat) (s : State) : State := { s with mem := tabSet (0 : Byte) s.mem a (BitVec.ofNat 8 v) }

/-- Bytes written to LPDDR5 from an offset upwards. -/
def State.stBytes : Nat → List Nat → State → State
  | _, [], s => s
  | a, b :: r, s => State.stBytes (a + 1) r (s.stb a b)

/-- `n` bytes of LPDDR5 from an offset upwards. -/
def State.ldBytes (s : State) (a n : Nat) : List Nat := (List.range n).map (fun i => s.ldb (a + i))

/-- A 32-bit little-endian word of LPDDR5. -/
def State.ldw (s : State) (a : Nat) : Nat := leNat (s.ldBytes a 4)

/-- A 32-bit little-endian word written to LPDDR5. -/
def State.stw (a v : Nat) (s : State) : State := s.stBytes a (wordBytes v)

/-- Words written to LPDDR5 from an offset upwards. -/
def State.stWords (a : Nat) (ws : List Nat) (s : State) : State := s.stBytes a (ws.flatMap wordBytes)

/-! ## Leases (R396–R399) -/

/-- Table 14.4: the holders that may request a resource, by block code. -/
def leaseHolders : Nat → List Nat
  | 0 => [0x12, 0x11, 0x01]
  | 1 => [0x0F, 0x01]
  | 2 => [0x08, 0x0F, 0x10, 0x01]
  | 3 => [0x13]
  | 4 => [0x0A]
  | _ => []

/-- Table 14.4: the lease time of a resource, ns; 0 where it has none. -/
def leaseTime : Nat → Nat
  | 0 => 200000000
  | 1 => 1000000
  | 2 => 5000000
  | 3 => 25000
  | _ => 0

def State.lease (s : State) (r : Nat) : Lease := tabGet {} s.leases r

def State.setLease (r : Nat) (l : Lease) (s : State) : State := { s with leases := tabSet {} s.leases r l }

/-- Who waits next for a resource: the party of a recovery (R399), then Tocsin, then the first to arrive (R397) of those that no fault
bars (R398). -/
def Lease.next (l : Lease) : Option Nat :=
  match l.recover with
  | some h => some h
  | none =>
    let w := l.waiting.filter (fun h => !l.barred.contains h)
    if w.contains 0x01 then some 0x01 else w.head?

/-- A resource granted to a holder. -/
def Lease.grantTo (l : Lease) (h now time : Nat) : Lease :=
  { l with state := 1, owner := h, expiry := if time = 0 then 0 else now + time,
           waiting := l.waiting.erase h, recover := if l.recover = some h then none else l.recover,
           grants := incSat 16 l.grants }

/-- A free resource granted to the next party that waits (R397); the boost converter is not granted while the level is
SHUTDOWN (R398). -/
def State.serveLease (r : Nat) (s : State) : State :=
  let l := s.lease r
  if l.state = 0 && !(r = 4 && s.rd TSV_STAT_SLEVEL = 3) then
    match l.next with
    | some h => s.setLease r (l.grantTo h s.now (leaseTime r))
    | none => s
  else s

/-- R396, R397: a holder requests a resource, or renews its lease. The request of a holder barred by R398 waits until it is barred no
longer. -/
def State.requestLease (r h : Nat) (s : State) : State :=
  let l := s.lease r
  if !(leaseHolders r).contains h then s
  else if l.state = 1 && l.owner = h then
    s.setLease r { l with expiry := if leaseTime r = 0 then 0 else s.now + leaseTime r }
  else if l.waiting.contains h then s
  else (s.setLease r { l with waiting := l.waiting ++ [h] }).serveLease r

/-- R397: a holder returns its lease, and the next request is served. -/
def State.returnLease (r h : Nat) (s : State) : State :=
  let l := s.lease r
  if l.state = 1 && l.owner = h then
    (s.setLease r { l with state := 0, owner := 0xFF, expiry := 0 }).serveLease r
  else s.setLease r { l with waiting := l.waiting.erase h }

/-- R398, cause 1: a block whose agent has reported a fault gets no lease of any resource. -/
def State.barHolder (b : Nat) (s : State) : State :=
  s.each (List.range 5) (fun r s =>
    if (s.lease r).barred.contains b then s else s.setLease r { s.lease r with barred := (s.lease r).barred ++ [b] })

/-- A holder has the lease of a resource. -/
def State.holds (s : State) (r h : Nat) : Bool := (s.lease r).state = 1 && (s.lease r).owner = h

/-! ## Domains (Table 1.2) -/

/-- Table 1.4: the domain of a block; LSW's common registers live in AON, its banks in OUTA and OUTB. -/
def blockDom : Nat → Nat
  | 0x01 => 2 | 0x02 => 4 | 0x03 => 4 | 0x04 => 5 | 0x05 => 4 | 0x06 => 7 | 0x07 => 8 | 0x08 => 6 | 0x09 => 4
  | 0x0A => 13 | 0x0C => 9 | 0x0D => 9 | 0x0E => 9 | 0x10 => 10 | 0x13 => 4 | _ => 1

/-- SYS_DOMSTAT: a domain is on. -/
def State.domOn (s : State) (d : Nat) : Bool := bit s.mgr.on d

/-- A block's domain is on. -/
def State.blockOn (s : State) (b : Nat) : Bool := s.domOn (blockDom b)

/-- R421: a housekeeping, HSN or analog-input result with the analog-reference correction in use. -/
def State.refCorr (s : State) (v : Int) : Int := v + v * s.thm.ref / 1000000

/-! ## The event recorder: emission (R457–R464) -/

/-- R457: the operating time in seconds, saturating. -/
def State.optime (s : State) : Nat := min (s.evr.optime0 + s.now / 1000000000) 0xFFFFFFFF

/-- Table 17.1, TICK: the fraction of the operating second in 1/256 s. -/
def State.optick (s : State) : Nat := (s.now % 1000000000) * 256 / 1000000000

/-- R458: an event's parameters in the words P0–P3. More than four: the first stays whole, the others follow as
saturating 16-bit values, two to a word, the earlier one in the upper half. -/
def packParams (ps : List Nat) : List Nat :=
  if ps.length ≤ 4 then ps
  else
    let h (i : Nat) : Nat := min (ps.getD i 0) 0xFFFF
    [ps.getD 0 0, h 1 * 0x10000 + h 2, h 3 * 0x10000 + h 4, h 5 * 0x10000 + h 6]

/-- The words of a record as they are written (Table 17.1), with CHECK over bytes 0x00–0x1B (R456). -/
def EvRec.words (r : EvRec) : List Nat :=
  let w := [(r.code % 2 ^ 16) * 0x10000 + (r.sev % 4) * 0x4000 + (r.src % 8) * 0x800 + r.tick % 256,
            r.optime % 2 ^ 32, r.pcyc % 2 ^ 32, r.p0 % 2 ^ 32, r.p1 % 2 ^ 32, r.p2 % 2 ^ 32, r.p3 % 2 ^ 32]
  w ++ [crc32 (w.flatMap wordBytes)]

/-- The record of an event emitted now. -/
def State.mkRec (s : State) (code sev src : Nat) (ps : List Nat) : EvRec :=
  let p := packParams ps
  { code := code, sev := sev, src := src, tick := s.optick, optime := s.optime, pcyc := s.evr.pcyc,
    p0 := p.getD 0 0 % 2 ^ 32, p1 := p.getD 1 0 % 2 ^ 32, p2 := p.getD 2 0 % 2 ^ 32, p3 := p.getD 3 0 % 2 ^ 32 }

/-- R459: a record enters the queue; among records of the same AON cycle the order is that of CODE. -/
def stageIn (now : Nat) (r : EvRec) : List StagedRec → List StagedRec
  | [] => [⟨now + 1, r⟩]
  | e :: q => if e.at_ = now + 1 && r.code < e.ent.code then ⟨now + 1, r⟩ :: e :: q else e :: stageIn now r q

/-- R460: an accumulator that opens with an event lost now. -/
def EvAcc.of (now : Nat) (flag : Bool) (r : EvRec) : EvAcc :=
  { count := 1, first := r.code, last := r.code, firstOp := r.optime, firstTk := r.tick, lastOp := r.optime, lastTk := r.tick, sev := r.sev,
    at_ := now + 1, lastAt := now + 1, held := [r], flag := flag }

/-- R460: one more event lost now; events of one cycle count in the order of CODE (R459). -/
def EvAcc.more (now : Nat) (a : EvAcc) (r : EvRec) : EvAcc :=
  { a with
    count := min (a.count + 1) 0xFFFFFFFF, first := if a.at_ = now + 1 then min a.first r.code else a.first,
    last := if a.lastAt = now + 1 then max a.last r.code else r.code, lastOp := r.optime, lastTk := r.tick, sev := max a.sev r.sev,
    lastAt := now + 1, held := if a.at_ = now + 1 then a.held ++ [r] else [] }

/-- R460: an event lost into the summary accumulator. -/
def State.loseEvent (r : EvRec) (s : State) : State :=
  let a : EvAcc :=
    match s.evr.acc with
    | none => EvAcc.of s.now (bit (s.rd EVR_INTSTAT_FLAGS) 1) r
    | some a => a.more s.now r
  ({ s with evr := { s.evr with acc := some a } }.inc EVR_CNT_LOSTEV).setFlagBit EVR_INTSTAT_FLAGS 1

/-- R459, R460: an event that finds all 64 places taken in the cycle in which the last of them was taken: the events of one cycle take the
places in the order of CODE. -/
def State.crowdOut (r : EvRec) (s : State) : State :=
  match s.evr.queue.getLast? with
  | some e =>
    if e.at_ = s.now + 1 && r.code < e.ent.code then
      State.loseEvent e.ent { s with evr := { s.evr with queue := stageIn s.now r s.evr.queue.dropLast } }
    else s.loseEvent r
  | none => s.loseEvent r

/-- R460: the queue has no place for an event: all 64 are taken, or the accumulator is open. -/
def State.evrCrowded (s : State) : Bool := s.evr.acc.isSome || decide (64 ≤ s.evr.queue.length)

/-- R460: the accumulator opened in an earlier cycle. -/
def State.accOld (s : State) : Bool := match s.evr.acc with | some a => a.at_ != s.now + 1 | none => false

/-- P.11.00.001 MINSEV (R459, R471). -/
def State.minSev (s : State) : Nat := s.param 0x01100001 0

/-- R459–R461, R464: an emitted event is filtered, discarded, lost, or staged; with AON off there is no recorder. -/
def State.stageEvent (r : EvRec) (s : State) : State :=
  if !s.domOn 1 then s
  else if r.sev < s.minSev then s.wr EVR_FILTERED_COUNT (min (s.rd EVR_FILTERED_COUNT + 1) 0xFFFFFFFF)
  else if s.on EVR_STAT_FULL && !s.on EVR_STAT_CLEARING then
    s.wr EVR_DISCARD_COUNT (min (s.rd EVR_DISCARD_COUNT + 1) 0xFFFFFFFF)
  else if s.accOld then s.loseEvent r
  else if s.evrCrowded then s.crowdOut r
  else
    let t := { s with evr := { s.evr with queue := stageIn s.now r s.evr.queue } }
    if t.on EVR_STAT_CLEARING then t else t.requestLease 0 0x11

/-- R25, R458: an event is emitted with the severity and the source of its code. -/
def State.emit (code : Nat) (ps : List Nat) (s : State) : State :=
  s.stageEvent (s.mkRec code (evSev code) (evSrc code) ps)

/-- An event that is emitted at most once in `per` ns for one instance, after `k` more happenings: `mk` forms its parameters
from the number of happenings since it was last emitted. -/
def State.emitRateN (k code inst per : Nat) (mk : Nat → List Nat) (s : State) : State :=
  let key := code * 0x10000 + inst
  let e := tabGet (0, 0) s.rate key
  let n := e.2 + k
  if e.1 = 0 || decide (e.1 - 1 + per ≤ s.now) then
    ({ s with rate := tabSet (0, 0) s.rate key (s.now + 1, 0) }).emit code (mk n)
  else { s with rate := tabSet (0, 0) s.rate key (e.1, n) }

/-- An event that is emitted at most once in `per` ns for one instance. -/
def State.emitRate (code inst per : Nat) (mk : Nat → List Nat) (s : State) : State := s.emitRateN 1 code inst per mk

/-- An event emitted at most once per second. -/
def State.emitSec (code inst : Nat) (mk : Nat → List Nat) (s : State) : State := s.emitRate code inst 1000000000 mk

/-! ## Power domains and fences (R17–R29) -/

/-- Table 1.2: the domains that a domain requires. -/
def domRequires : Nat → List Nat
  | 1 => [0] | 2 => [1] | 3 => [2] | 4 => [2] | 5 => [4] | 6 => [4, 3] | 7 => [4, 3] | 8 => [2] | 9 => [2]
  | 10 => [2] | 11 => [1] | 12 => [1] | 13 => [4, 12] | _ => []

/-- Table 1.2: every domain that requires a domain, directly or through others, in the order in which the managers
switch them off (the reverse of the table). -/
def domDependents : Nat → List Nat
  | 0 => [13, 12, 11, 10, 9, 8, 7, 6, 5, 4, 3, 2, 1]
  | 1 => [13, 12, 11, 10, 9, 8, 7, 6, 5, 4, 3, 2]
  | 2 => [13, 10, 9, 8, 7, 6, 5, 4, 3]
  | 3 => [7, 6]
  | 4 => [13, 7, 6, 5]
  | 12 => [13]
  | _ => []

/-- The blocks of a domain (Table 1.2). -/
def domBlocks : Nat → List Nat
  | 1 => [0x00, 0x0F, 0x11, 0x12] | 2 => [0x01] | 4 => [0x02, 0x03, 0x05, 0x09, 0x13] | 5 => [0x04] | 6 => [0x08]
  | 7 => [0x06] | 8 => [0x07] | 9 => [0x0C, 0x0D, 0x0E] | 10 => [0x10] | 13 => [0x0A] | _ => []

/-- A block is fenced (R19). -/
def State.isFenced (s : State) (b : Nat) : Bool := bit s.fenced b

/-- A block's domain is on and the block is not fenced: it acts. -/
def State.live (s : State) (b : Nat) : Bool := s.blockOn b && !s.isFenced b

/-- Something a block does by itself: it happens only while the block's domain is on and the block is not fenced. -/
def State.ifLive (b : Nat) (f : State → State) (s : State) : State := if s.live b then f s else s

/-- Something a block does by itself, fenced or not, while its domain is on. -/
def State.ifOn (b : Nat) (f : State → State) (s : State) : State := if s.blockOn b then f s else s

/-- R20: a host write to a fenced block is ignored; EV 0x0011 is emitted once per fence. -/
def State.fencedWrite (b off : Nat) (s : State) : State :=
  if bit s.fenceEv b then s else { s with fenceEv := setBit s.fenceEv b }.emit 0x0011 [b, off]

/-- Table 0.3: the block whose window an address lies in, by block code. -/
def addrBlock (a : Nat) : Nat := (a - 0x40000000) / 0x10000

/-- The offset of an address within its block's window. -/
def addrOff (a : Nat) : Nat := a % 0x10000

/-- R28, R240: the registers at an address are powered: the block's domain is on; for LSW, AON for the common
registers and the profiles, and the bank's domain for its bank and channel registers. -/
def State.windowOn (s : State) (a : Nat) : Bool :=
  let off := addrOff a
  if addrBlock a = 0x0B then
    if 0x400 ≤ off ∧ off < 0x1000 then s.domOn (if (off - 0x400) / 0x40 < 20 then 11 else 12)
    else if 0x100 ≤ off ∧ off < 0x110 then s.domOn 11
    else if 0x110 ≤ off ∧ off < 0x120 then s.domOn 12
    else s.domOn 1
  else s.blockOn (addrBlock a)

/-- A domain and every domain that requires it, in the reverse order of Table 1.2; OUTA and OUTB are never switched off through R27. -/
def domScope (d : Nat) : List Nat := ((domDependents d).filter (fun x => x != 11 && x != 12)) ++ [d]

/-- R393, R19: a reset that Tocsin (source 0) or a domain manager (3) may give of itself: of a domain that is reset in operation by Tocsin, of a
block by either. -/
def ownReset (kind target src : Nat) : Bool :=
  (kind = 3 && src = 0 && [3, 4, 5, 6, 7, 8, 9, 10, 13].contains target) || (kind = 4 && (src = 0 || src = 3) && decide (target < 20))

/-- R27, R393: a reset fences a block: every block at a cold start, those of the domains of its scope, or its own. -/
def ResetOrder.fences (o : ResetOrder) (b : Nat) : Bool :=
  match o.kind with
  | 1 => true
  | 2 => (domScope 2).any (fun d => (domBlocks d).contains b)
  | 3 => (domScope o.target).any (fun d => (domBlocks d).contains b)
  | _ => o.target = b

/-- R20, R24: a block is fenced, or a decision of Tocsin that fences it stands in the queue at the same module time: a fence, or
a reset. -/
def State.fencing (s : State) (b : Nat) : Bool :=
  s.isFenced b || s.pending.contains (.fence b) || (s.tsv.orders.take (s.pending.count (.reset none))).any (fun o => o.fences b) ||
  s.pending.any (fun c => match c with | .reset (some (k, t, src)) => ownReset k t src && ResetOrder.fences ⟨k, t, src, 0xF, false⟩ b | _ => false)

/-- R20, R24, R28: a host write to a register at address `a`: it has its effect `f` unless the register's domain is off
(EV 0x0010) or the block is fenced (EV 0x0011), from the cycle in which Tocsin decides it on. A write of Tocsin's takes effect on
a fenced block too (assumption log, entry 8). -/
def State.hostWrite (a : Nat) (f : State → State) (s : State) : State :=
  if !s.windowOn a then s.emit 0x0010 [addrBlock a, addrOff a, 1]
  else if s.fencing (addrBlock a) && !s.bus.tsv then s.fencedWrite (addrBlock a) (addrOff a)
  else f s

/-- R20, R28: a host read of a register at address `a`: `f` answers with the value and the state after the read; a
fenced block answers with live values. -/
def State.hostRead (a : Nat) (f : State → Nat × State) (s : State) : State :=
  if !s.windowOn a then { s.emit 0x0010 [addrBlock a, addrOff a, 0] with bus := { done := true } }
  else let r := f s; { r.2 with bus := { done := true, data := r.1 } }

/-! ## Groups that wait for their apply point (R365) -/

/-- A group has been handed to its block at an earlier instant, or for the limits of a base (R51) at this one, and has not
finished. -/
def TxnGrp.waits (now : Nat) (x : TxnGrp) : Bool :=
  x.handed != 0 && (decide (x.handed ≤ now) || (match x.grp with | .tbLimits _ => true | _ => false)) && x.done = 0

/-- Values of a waiting group that may apply now take effect. -/
def State.takeFlds (g : Grp) (sel : Fld → Bool) (s : State) : State :=
  let mine := ((s.pds.txns.flatMap Txn.groups).filter (fun x => x.grp = g && x.waits s.now)).flatMap
    (fun x => x.vals.filter (fun e => sel e.1))
  if mine.isEmpty then s
  else
    let cut (x : TxnGrp) : TxnGrp :=
      if x.grp = g && x.waits s.now then { x with vals := x.vals.filter (fun e => !sel e.1) } else x
    let s := mine.foldl (fun t e => t.wr e.1 e.2) s
    { s with pds := { s.pds with txns := s.pds.txns.map (fun t => { t with groups := t.groups.map cut }) } }

/-- The value that a group which has been handed over and waits would give a field; the value in effect where none does. -/
def State.toApply (g : Grp) (f : Fld) (s : State) : Nat :=
  (((s.pds.txns.flatMap Txn.groups).filter (fun x => x.grp = g && x.handed != 0 && x.done = 0)).flatMap (·.vals)).foldl
    (fun v e => if e.1 = f then e.2 else v) (s.rd f)

/-! ## Fault reports (R23) -/

/-- R23: a block agent's fault report reaches Tocsin: FAULT of TSV_INTSTAT. -/
def State.toTocsin (s : State) : State := s.when (s.domOn 2) (State.setFlagBit TSV_INTSTAT_FLAGS 0)

/-! ## The form of every meaning -/

/-- The state after a command of the data hierarchy whose effects, and what they led to, give `t`. It neither advances module time
nor touches the queue of commands, and it switches no power domain (R18: only the domain managers do). -/
def State.fin (s t : State) : State := { t with now := s.now, pending := s.pending, mgr := s.mgr, sigs := [] }

/-- What a command of the data hierarchy answers. -/
def State.done (s t : State) : Host.Outcome State Fault Refusal := .next (s.fin t)

/-- R26: a domain is on only while every domain that it requires is: the mask of `on` with the others cleared, in the order of
Table 1.2. -/
def closeOn (on : Nat) : Nat :=
  (List.range 14).foldl (fun acc d => if bit on d && (domRequires d).all (bit acc) then setBit acc d else acc) 0

/-- The state after a power command; it does not touch the queue of commands. Module time goes on, or starts at 0 with AON (R10), and
no domain is on without those that it requires (R26). -/
def State.finMgr (s t : State) : State :=
  { t with now := if t.now = 0 then 0 else s.now, pending := s.pending, mgr := { t.mgr with on := closeOn t.mgr.on }, sigs := [] }

/-- What a power command answers. -/
def State.doneMgr (s t : State) : Host.Outcome State Fault Refusal := .next (s.finMgr t)

end Sys2Proof.Machine
end

