-- ==== Sys2Proof/Machine/RegDSP.lean ====
section
/-!
DEFINITION. The register fields of DSP, as the register tables of spec/16_displays.md list them:
address, lowest bit, width, access code (Table 0.4) and reset value. Reserved bits (R6) are no field.
-/
namespace Sys2Proof.Machine

def DSP_STAT_PSTATE : Fld := ⟨0x40100000, 29, 3, 0, .ro⟩
def DSP_STAT_FLIPPEND : Fld := ⟨0x40100000, 28, 1, 0, .ro⟩
def DSP_STAT_LRUN : Fld := ⟨0x40100000, 20, 8, 0, .ro⟩
def DSP_STAT_LPEND : Fld := ⟨0x40100000, 12, 8, 0, .ro⟩
def DSP_STAT_PCAUSE : Fld := ⟨0x40100000, 9, 3, 0, .ro⟩
def DSP_STAT_fam : RegFam := ⟨0x40100000, [], fun _ => [DSP_STAT_PSTATE, DSP_STAT_FLIPPEND, DSP_STAT_LRUN, DSP_STAT_LPEND, DSP_STAT_PCAUSE]⟩

def DSP_INTSTAT_FLAGS : Fld := ⟨0x40100004, 0, 7, 0, .w1c⟩
def DSP_INTSTAT_fam : RegFam := ⟨0x40100004, [], fun _ => [DSP_INTSTAT_FLAGS]⟩

def DSP_INTEN_IEN : Fld := ⟨0x40100008, 0, 7, 0, .rw⟩
def DSP_INTEN_fam : RegFam := ⟨0x40100008, [], fun _ => [DSP_INTEN_IEN]⟩

def DSP_PCFG_EN : Fld := ⟨0x40100010, 31, 1, 0, .rws⟩
def DSP_PCFG_COLS : Fld := ⟨0x40100010, 23, 8, 0xff, .rws⟩
def DSP_PCFG_ROWS : Fld := ⟨0x40100010, 16, 7, 0x7f, .rws⟩
def DSP_PCFG_FRATE : Fld := ⟨0x40100010, 8, 8, 0x64, .rws⟩
def DSP_PCFG_UEN : Fld := ⟨0x40100010, 7, 1, 0, .rws⟩
def DSP_PCFG_fam : RegFam := ⟨0x40100010, [], fun _ => [DSP_PCFG_EN, DSP_PCFG_COLS, DSP_PCFG_ROWS, DSP_PCFG_FRATE, DSP_PCFG_UEN]⟩

def DSP_PTIM_PRET : Fld := ⟨0x40100014, 24, 8, 0x14, .rws⟩
def DSP_PTIM_VPRE : Fld := ⟨0x40100014, 16, 8, 0x28, .rws⟩
def DSP_PTIM_VPANEL : Fld := ⟨0x40100014, 8, 8, 0x8c, .rws⟩
def DSP_PTIM_PCHT : Fld := ⟨0x40100014, 0, 8, 5, .rws⟩
def DSP_PTIM_fam : RegFam := ⟨0x40100014, [], fun _ => [DSP_PTIM_PRET, DSP_PTIM_VPRE, DSP_PTIM_VPANEL, DSP_PTIM_PCHT]⟩

def DSP_PCUR_ICOL : Fld := ⟨0x40100018, 24, 8, 0x80, .rws⟩
def DSP_PCUR_fam : RegFam := ⟨0x40100018, [], fun _ => [DSP_PCUR_ICOL]⟩

def DSP_PCMD_CMD : Fld := ⟨0x4010001C, 0, 3, 0, .wo⟩
def DSP_PCMD_fam : RegFam := ⟨0x4010001C, [], fun _ => [DSP_PCMD_CMD]⟩

def DSP_PMEAS_VPAN : Fld := ⟨0x40100020, 16, 16, 0, .ro⟩
def DSP_PMEAS_IPAN : Fld := ⟨0x40100020, 0, 16, 0, .ro⟩
def DSP_PMEAS_fam : RegFam := ⟨0x40100020, [], fun _ => [DSP_PMEAS_VPAN, DSP_PMEAS_IPAN]⟩

def DSP_LCFG_LEN : Fld := ⟨0x40100030, 31, 1, 0, .rws⟩
def DSP_LCFG_LTSRC : Fld := ⟨0x40100030, 30, 1, 0, .rws⟩
def DSP_LCFG_fam : RegFam := ⟨0x40100030, [], fun _ => [DSP_LCFG_LEN, DSP_LCFG_LTSRC]⟩

def DSP_LTEMP_T : Fld := ⟨0x40100034, 16, 16, 0, .ro⟩
def DSP_LTEMP_TEMPHI : Fld := ⟨0x40100034, 2, 1, 0, .ro⟩
def DSP_LTEMP_TEMPLO : Fld := ⟨0x40100034, 1, 1, 0, .ro⟩
def DSP_LTEMP_SUBST : Fld := ⟨0x40100034, 0, 1, 0, .ro⟩
def DSP_LTEMP_fam : RegFam := ⟨0x40100034, [], fun _ => [DSP_LTEMP_T, DSP_LTEMP_TEMPHI, DSP_LTEMP_TEMPLO, DSP_LTEMP_SUBST]⟩

def DSP_LCMD_UAMASK : Fld := ⟨0x40100038, 16, 8, 0, .wo⟩
def DSP_LCMD_CMD : Fld := ⟨0x40100038, 0, 4, 0, .wo⟩
def DSP_LCMD_fam : RegFam := ⟨0x40100038, [], fun _ => [DSP_LCMD_UAMASK, DSP_LCMD_CMD]⟩

def DSP_LCNT_SUPER : Fld := ⟨0x4010003C, 16, 16, 0, .rw⟩
def DSP_LCNT_DONE : Fld := ⟨0x4010003C, 0, 16, 0, .rw⟩
def DSP_LCNT_fam : RegFam := ⟨0x4010003C, [], fun _ => [DSP_LCNT_SUPER, DSP_LCNT_DONE]⟩

def DSP_UAGEO_EN (n : Nat) : Fld := ⟨0x40100100 + 0x10 * n, 31, 1, 0, .rws⟩
def DSP_UAGEO_X0 (n : Nat) : Fld := ⟨0x40100100 + 0x10 * n, 24, 5, 0, .rws⟩
def DSP_UAGEO_W (n : Nat) : Fld := ⟨0x40100100 + 0x10 * n, 16, 5, 1, .rws⟩
def DSP_UAGEO_Y0 (n : Nat) : Fld := ⟨0x40100100 + 0x10 * n, 8, 7, 0, .rws⟩
def DSP_UAGEO_H (n : Nat) : Fld := ⟨0x40100100 + 0x10 * n, 0, 7, 1, .rws⟩
def DSP_UAGEO_fam : RegFam := ⟨0x40100100, [(0x10, 8)], fun i => [DSP_UAGEO_EN (i.getD 0 0), DSP_UAGEO_X0 (i.getD 0 0), DSP_UAGEO_W (i.getD 0 0), DSP_UAGEO_Y0 (i.getD 0 0), DSP_UAGEO_H (i.getD 0 0)]⟩

def DSP_UASTAT_RUN (n : Nat) : Fld := ⟨0x40100104 + 0x10 * n, 31, 1, 0, .ro⟩
def DSP_UASTAT_PEND (n : Nat) : Fld := ⟨0x40100104 + 0x10 * n, 30, 1, 0, .ro⟩
def DSP_UASTAT_UNKNOWN (n : Nat) : Fld := ⟨0x40100104 + 0x10 * n, 29, 1, 1, .ro⟩
def DSP_UASTAT_CLEAN (n : Nat) : Fld := ⟨0x40100104 + 0x10 * n, 28, 1, 0, .ro⟩
def DSP_UASTAT_BAND (n : Nat) : Fld := ⟨0x40100104 + 0x10 * n, 25, 3, 0, .ro⟩
def DSP_UASTAT_FRAMES (n : Nat) : Fld := ⟨0x40100104 + 0x10 * n, 0, 8, 0, .ro⟩
def DSP_UASTAT_fam : RegFam := ⟨0x40100104, [(0x10, 8)], fun i => [DSP_UASTAT_RUN (i.getD 0 0), DSP_UASTAT_PEND (i.getD 0 0), DSP_UASTAT_UNKNOWN (i.getD 0 0), DSP_UASTAT_CLEAN (i.getD 0 0), DSP_UASTAT_BAND (i.getD 0 0), DSP_UASTAT_FRAMES (i.getD 0 0)]⟩

/-- Every register of DSP that has fields. -/
def DSP_fams : List RegFam :=
  [DSP_STAT_fam, DSP_INTSTAT_fam, DSP_INTEN_fam, DSP_PCFG_fam, DSP_PTIM_fam, DSP_PCUR_fam, DSP_PCMD_fam, DSP_PMEAS_fam, DSP_LCFG_fam, DSP_LTEMP_fam, DSP_LCMD_fam, DSP_LCNT_fam, DSP_UAGEO_fam, DSP_UASTAT_fam]

end Sys2Proof.Machine
end

