-- ==== Sys2Proof/Machine/RegTHM.lean ====
section
/-!
DEFINITION. The register fields of THM, as the register tables of spec/15_power_thermal_and_cooling.md list them:
address, lowest bit, width, access code (Table 0.4) and reset value. Reserved bits (R6) are no field.
-/
namespace Sys2Proof.Machine

def THM_STAT_TLVL : Fld := ⟨0x400F0000, 30, 2, 0, .ro⟩
def THM_STAT_HREQ : Fld := ⟨0x400F0000, 28, 2, 0, .ro⟩
def THM_STAT_HENF : Fld := ⟨0x400F0000, 27, 1, 0, .ro⟩
def THM_STAT_STALE : Fld := ⟨0x400F0000, 26, 1, 0, .ro⟩
def THM_STAT_NBROKEN : Fld := ⟨0x400F0000, 21, 5, 0, .ro⟩
def THM_STAT_GRLEFT : Fld := ⟨0x400F0000, 0, 16, 0, .ro⟩
def THM_STAT_fam : RegFam := ⟨0x400F0000, [], fun _ => [THM_STAT_TLVL, THM_STAT_HREQ, THM_STAT_HENF, THM_STAT_STALE, THM_STAT_NBROKEN, THM_STAT_GRLEFT]⟩

def THM_INTSTAT_FLAGS : Fld := ⟨0x400F0004, 0, 8, 0, .w1c⟩
def THM_INTSTAT_fam : RegFam := ⟨0x400F0004, [], fun _ => [THM_INTSTAT_FLAGS]⟩

def THM_INTEN_IEN : Fld := ⟨0x400F0008, 0, 8, 0, .rw⟩
def THM_INTEN_fam : RegFam := ⟨0x400F0008, [], fun _ => [THM_INTEN_IEN]⟩

def THM_THR_THR1 : Fld := ⟨0x400F0010, 24, 8, 0x73, .rws⟩
def THM_THR_THR2 : Fld := ⟨0x400F0010, 16, 8, 0x78, .rws⟩
def THM_THR_THR3 : Fld := ⟨0x400F0010, 8, 8, 0x7d, .rws⟩
def THM_THR_HYST : Fld := ⟨0x400F0010, 4, 4, 5, .rws⟩
def THM_THR_fam : RegFam := ⟨0x400F0010, [], fun _ => [THM_THR_THR1, THM_THR_THR2, THM_THR_THR3, THM_THR_HYST]⟩

def THM_HTCTL_HTEN : Fld := ⟨0x400F0014, 31, 1, 1, .rws⟩
def THM_HTCTL_GRACE : Fld := ⟨0x400F0014, 0, 16, 0x1f4, .rws⟩
def THM_HTCTL_fam : RegFam := ⟨0x400F0014, [], fun _ => [THM_HTCTL_HTEN, THM_HTCTL_GRACE]⟩

def THM_HACK_ACK : Fld := ⟨0x400F0018, 0, 2, 0, .wo⟩
def THM_HACK_fam : RegFam := ⟨0x400F0018, [], fun _ => [THM_HACK_ACK]⟩

def THM_TSUM0_DIEMAX : Fld := ⟨0x400F0020, 16, 16, 0, .ro⟩
def THM_TSUM0_PLATE : Fld := ⟨0x400F0020, 0, 16, 0, .ro⟩
def THM_TSUM0_fam : RegFam := ⟨0x400F0020, [], fun _ => [THM_TSUM0_DIEMAX, THM_TSUM0_PLATE]⟩

def THM_TSUM1_CHMAXA : Fld := ⟨0x400F0024, 16, 16, 0, .ro⟩
def THM_TSUM1_CHMAXB : Fld := ⟨0x400F0024, 0, 16, 0, .ro⟩
def THM_TSUM1_fam : RegFam := ⟨0x400F0024, [], fun _ => [THM_TSUM1_CHMAXA, THM_TSUM1_CHMAXB]⟩

def THM_VSUP0_LOGPWR : Fld := ⟨0x400F0028, 16, 16, 0, .ro⟩
def THM_VSUP0_IGN : Fld := ⟨0x400F0028, 0, 16, 0, .ro⟩
def THM_VSUP0_fam : RegFam := ⟨0x400F0028, [], fun _ => [THM_VSUP0_LOGPWR, THM_VSUP0_IGN]⟩

def THM_VSUP1_OUTPWRA : Fld := ⟨0x400F002C, 16, 16, 0, .ro⟩
def THM_VSUP1_OUTPWRB : Fld := ⟨0x400F002C, 0, 16, 0, .ro⟩
def THM_VSUP1_fam : RegFam := ⟨0x400F002C, [], fun _ => [THM_VSUP1_OUTPWRA, THM_VSUP1_OUTPWRB]⟩

def THM_VHOLD_VHOLD : Fld := ⟨0x400F0030, 16, 16, 0, .ro⟩
def THM_VHOLD_HVOK : Fld := ⟨0x400F0030, 0, 1, 0, .ro⟩
def THM_VHOLD_fam : RegFam := ⟨0x400F0030, [], fun _ => [THM_VHOLD_VHOLD, THM_VHOLD_HVOK]⟩

def THM_COMP_OSC : Fld := ⟨0x400F0034, 16, 16, 0, .ro⟩
def THM_COMP_TCXO : Fld := ⟨0x400F0034, 0, 16, 0, .ro⟩
def THM_COMP_fam : RegFam := ⟨0x400F0034, [], fun _ => [THM_COMP_OSC, THM_COMP_TCXO]⟩

def THM_MISS_COUNT : Fld := ⟨0x400F0038, 0, 32, 0, .rw⟩
def THM_MISS_fam : RegFam := ⟨0x400F0038, [], fun _ => [THM_MISS_COUNT]⟩

def THM_SENS_T (n : Nat) : Fld := ⟨0x400F0100 + 0x4 * n, 16, 16, 0, .ro⟩
def THM_SENS_SUBST (n : Nat) : Fld := ⟨0x400F0100 + 0x4 * n, 1, 1, 0, .ro⟩
def THM_SENS_BROKEN (n : Nat) : Fld := ⟨0x400F0100 + 0x4 * n, 0, 1, 0, .ro⟩
def THM_SENS_fam : RegFam := ⟨0x400F0100, [(0x4, 23)], fun i => [THM_SENS_T (i.getD 0 0), THM_SENS_SUBST (i.getD 0 0), THM_SENS_BROKEN (i.getD 0 0)]⟩

def THM_FCFG_MODE (n : Nat) : Fld := ⟨0x400F0200 + 0x40 * n, 30, 2, 0, .rws⟩
def THM_FCFG_SRC (n : Nat) : Fld := ⟨0x400F0200 + 0x40 * n, 24, 6, 1, .rws⟩
def THM_FCFG_PPR (n : Nat) : Fld := ⟨0x400F0200 + 0x40 * n, 20, 4, 2, .rws⟩
def THM_FCFG_KICKD (n : Nat) : Fld := ⟨0x400F0200 + 0x40 * n, 12, 8, 0x64, .rws⟩
def THM_FCFG_DPR (n : Nat) : Fld := ⟨0x400F0200 + 0x40 * n, 0, 12, 0x21, .rws⟩
def THM_FCFG_fam : RegFam := ⟨0x400F0200, [(0x40, 4)], fun i => [THM_FCFG_MODE (i.getD 0 0), THM_FCFG_SRC (i.getD 0 0), THM_FCFG_PPR (i.getD 0 0), THM_FCFG_KICKD (i.getD 0 0), THM_FCFG_DPR (i.getD 0 0)]⟩

def THM_FLOOP_TSET (n : Nat) : Fld := ⟨0x400F0204 + 0x40 * n, 24, 8, 0x50, .rws⟩
def THM_FLOOP_KP (n : Nat) : Fld := ⟨0x400F0204 + 0x40 * n, 12, 12, 0x64, .rws⟩
def THM_FLOOP_KI (n : Nat) : Fld := ⟨0x400F0204 + 0x40 * n, 0, 12, 0xa, .rws⟩
def THM_FLOOP_fam : RegFam := ⟨0x400F0204, [(0x40, 4)], fun i => [THM_FLOOP_TSET (i.getD 0 0), THM_FLOOP_KP (i.getD 0 0), THM_FLOOP_KI (i.getD 0 0)]⟩

def THM_FLIM_RPMMAX (n : Nat) : Fld := ⟨0x400F0208 + 0x40 * n, 16, 16, 0xbb8, .rws⟩
def THM_FLIM_RPMMIN (n : Nat) : Fld := ⟨0x400F0208 + 0x40 * n, 0, 16, 0x258, .rws⟩
def THM_FLIM_fam : RegFam := ⟨0x400F0208, [(0x40, 4)], fun i => [THM_FLIM_RPMMAX (i.getD 0 0), THM_FLIM_RPMMIN (i.getD 0 0)]⟩

def THM_FCUR_ISTALL (n : Nat) : Fld := ⟨0x400F020C + 0x40 * n, 16, 16, 0x1d4c, .rws⟩
def THM_FCUR_IOPEN (n : Nat) : Fld := ⟨0x400F020C + 0x40 * n, 0, 16, 0x190, .rws⟩
def THM_FCUR_fam : RegFam := ⟨0x400F020C, [(0x40, 4)], fun i => [THM_FCUR_ISTALL (i.getD 0 0), THM_FCUR_IOPEN (i.getD 0 0)]⟩

def THM_FRAMP_RAMP (n : Nat) : Fld := ⟨0x400F0210 + 0x40 * n, 16, 16, 0x1f4, .rws⟩
def THM_FRAMP_fam : RegFam := ⟨0x400F0210, [(0x40, 4)], fun i => [THM_FRAMP_RAMP (i.getD 0 0)]⟩

def THM_FSKIP_HI (n : Nat) (k : Nat) : Fld := ⟨0x400F0214 + 0x40 * n + 0x4 * k, 16, 16, 0, .rws⟩
def THM_FSKIP_LO (n : Nat) (k : Nat) : Fld := ⟨0x400F0214 + 0x40 * n + 0x4 * k, 0, 16, 0, .rws⟩
def THM_FSKIP_fam : RegFam := ⟨0x400F0214, [(0x40, 4), (0x4, 4)], fun i => [THM_FSKIP_HI (i.getD 0 0) (i.getD 1 0), THM_FSKIP_LO (i.getD 0 0) (i.getD 1 0)]⟩

def THM_FSET_SET (n : Nat) : Fld := ⟨0x400F0224 + 0x40 * n, 0, 16, 0, .rw⟩
def THM_FSET_fam : RegFam := ⟨0x400F0224, [(0x40, 4)], fun i => [THM_FSET_SET (i.getD 0 0)]⟩

def THM_FSTAT_STATE (n : Nat) : Fld := ⟨0x400F0228 + 0x40 * n, 29, 3, 0, .ro⟩
def THM_FSTAT_CAUSE (n : Nat) : Fld := ⟨0x400F0228 + 0x40 * n, 26, 3, 0, .ro⟩
def THM_FSTAT_TRIES (n : Nat) : Fld := ⟨0x400F0228 + 0x40 * n, 24, 2, 0, .ro⟩
def THM_FSTAT_DUTY (n : Nat) : Fld := ⟨0x400F0228 + 0x40 * n, 0, 14, 0, .ro⟩
def THM_FSTAT_fam : RegFam := ⟨0x400F0228, [(0x40, 4)], fun i => [THM_FSTAT_STATE (i.getD 0 0), THM_FSTAT_CAUSE (i.getD 0 0), THM_FSTAT_TRIES (i.getD 0 0), THM_FSTAT_DUTY (i.getD 0 0)]⟩

def THM_FMEAS_RPM (n : Nat) : Fld := ⟨0x400F022C + 0x40 * n, 16, 16, 0, .ro⟩
def THM_FMEAS_IDRV (n : Nat) : Fld := ⟨0x400F022C + 0x40 * n, 0, 16, 0, .ro⟩
def THM_FMEAS_fam : RegFam := ⟨0x400F022C, [(0x40, 4)], fun i => [THM_FMEAS_RPM (i.getD 0 0), THM_FMEAS_IDRV (i.getD 0 0)]⟩

def THM_FDEM_DEMAND (n : Nat) : Fld := ⟨0x400F0230 + 0x40 * n, 16, 16, 0, .ro⟩
def THM_FDEM_fam : RegFam := ⟨0x400F0230, [(0x40, 4)], fun i => [THM_FDEM_DEMAND (i.getD 0 0)]⟩

def THM_FCMD_CMD (n : Nat) : Fld := ⟨0x400F0234 + 0x40 * n, 0, 2, 0, .wo⟩
def THM_FCMD_fam : RegFam := ⟨0x400F0234, [(0x40, 4)], fun i => [THM_FCMD_CMD (i.getD 0 0)]⟩

def THM_FFLAG_FLAGS (n : Nat) : Fld := ⟨0x400F0238 + 0x40 * n, 0, 6, 0, .w1c⟩
def THM_FFLAG_fam : RegFam := ⟨0x400F0238, [(0x40, 4)], fun i => [THM_FFLAG_FLAGS (i.getD 0 0)]⟩

/-- Every register of THM that has fields. -/
def THM_fams : List RegFam :=
  [THM_STAT_fam, THM_INTSTAT_fam, THM_INTEN_fam, THM_THR_fam, THM_HTCTL_fam, THM_HACK_fam, THM_TSUM0_fam, THM_TSUM1_fam, THM_VSUP0_fam, THM_VSUP1_fam, THM_VHOLD_fam, THM_COMP_fam, THM_MISS_fam, THM_SENS_fam, THM_FCFG_fam, THM_FLOOP_fam, THM_FLIM_fam, THM_FCUR_fam, THM_FRAMP_fam, THM_FSKIP_fam] ++
  [THM_FSET_fam, THM_FSTAT_fam, THM_FMEAS_fam, THM_FDEM_fam, THM_FCMD_fam, THM_FFLAG_fam]

end Sys2Proof.Machine
end

