-- ==== Sys2Proof/Machine/DspOps.lean ====
section
/-!
DEFINITION. The operations of the displays (spec/16_displays.md).
-/
namespace Sys2Proof.Machine

def State.dspFlag (i : Nat) (s : State) : State := s.setFlagBit DSP_INTSTAT_FLAGS i
def State.pst (s : State) : Nat := s.rd DSP_STAT_PSTATE
def dspAreas : List Nat := List.range 8
def State.area (s : State) (n : Nat) : DspArea := tabGet {} s.dsp.area n

/-- An area's state, and what the registers show of it. -/
def State.setArea (n : Nat) (x : DspArea) (s : State) : State :=
  let t := { s with dsp := { s.dsp with area := tabSet {} s.dsp.area n x } }
  let t := (t.wr DSP_STAT_LRUN (putBit (t.rd DSP_STAT_LRUN) n x.run.isSome)).wr DSP_STAT_LPEND (putBit (t.rd DSP_STAT_LPEND) n x.pend)
  let t := (t.wr (DSP_UASTAT_RUN n) (b2n x.run.isSome)).wr (DSP_UASTAT_PEND n) (b2n x.pend)
  match x.run with
  | some r =>
    ((t.wr (DSP_UASTAT_CLEAN n) (b2n r.clean)).wr (DSP_UASTAT_BAND n) r.band).wr (DSP_UASTAT_FRAMES n) (min r.frames 255)
  | none => t.wr (DSP_UASTAT_FRAMES n) 0

/-! ## The panel (R436–R440) -/

/-- The panel enters a state (Table 16.1). -/
def State.panelTo (st : Nat) (s : State) : State := { s.wr DSP_STAT_PSTATE st with dsp := { s.dsp with since := s.now } }

/-- DISCHG is entered from PRECHG or ON. -/
def State.panelDischarge (s : State) : State := s.when (s.pst = 1 || s.pst = 2) (State.panelTo 3)

/-- R439: a fault of the panel with its cause: EV 0x1003, and FAULT by way of the discharge. -/
def State.panelFault (cause ipan : Nat) (s : State) : State :=
  let t := (((s.wr DSP_STAT_PCAUSE cause).dspFlag 2).emit 0x1003 [cause, ipan]).panelDischarge
  { t with dsp := { t.dsp with fault := true } }

/-- R438: the front and back buffers exchange. -/
def State.dspFlip (s : State) : State :=
  (({ s with dsp := { s.dsp with front := s.dsp.back, back := s.dsp.front } }).wr DSP_STAT_FLIPPEND 0).dspFlag 1

/-- The panel's supply as it is set, mV: off but in PRECHG and ON; in ON a changed VPANEL is approached at 1 V/ms (Table 16.2). -/
def State.dspSupply (s : State) : Nat :=
  let v := 100 * s.rd DSP_PTIM_VPANEL
  let d := (s.now - s.dsp.vAt) / 1000
  if s.pst = 2 then (if s.dsp.vFrom ≤ v then min v (s.dsp.vFrom + d) else max v (s.dsp.vFrom - d)) else if s.pst = 1 then v else 0

/-- The supply goes on from a value at this time. -/
def State.dspSupplyFrom (v : Nat) (s : State) : State := { s with dsp := { s.dsp with vFrom := v, vAt := s.now } }

/-- A panel frame, ns. -/
def State.dspFrame (s : State) : Nat := 1000000000 / max 1 (s.rd DSP_PCFG_FRATE)

/-- R436: Trow and Tdrv, ps. -/
def State.dspTrow (s : State) : Nat := 1000000000000 / (max 1 (s.rd DSP_PCFG_FRATE) * (s.rd DSP_PCFG_ROWS + 1))
def State.dspTdrv (s : State) : Int := (s.dspTrow : Int) - s.rd DSP_PTIM_PRET * 100000 - 1000000

/-- R437: a pixel's on-time in units of 12.5 ns, for a grey level and a uniformity factor, from the exact Tdrv of R436. -/
def State.dspOn (s : State) (g u : Nat) : Nat :=
  let rows := max 1 (s.rd DSP_PCFG_FRATE) * (s.rd DSP_PCFG_ROWS + 1)
  (1000000000000 - (s.rd DSP_PTIM_PRET * 100000 + 1000000) * rows) * g * u / (rows * (15 * 255) * 12500)

/-- R436: the current that a conducting column sources, in 0.1 nA. -/
def State.dspColumn (s : State) : Nat := s.rd DSP_PCUR_ICOL * 15625

/-- The grey level of a pixel of the front buffer. -/
def State.dspGrey (s : State) (x y : Nat) : Nat := bits (tabGet 0 s.dsp.front (y * 128 + x / 2)) (4 * (x % 2)) 4

/-- P.10.00.100: the uniformity factor of a pixel. -/
def State.dspUniform (s : State) (x y : Nat) : Nat :=
  if s.on DSP_PCFG_UEN then (tabGet [] s.blobs 0x01000100).getD (y * 256 + x) 0 else 255

/-- The on-time that a pixel gets in a frame while the panel is ON. -/
def State.dspPixel (s : State) (x y : Nat) : Nat :=
  if s.pst = 2 && decide (x ≤ s.rd DSP_PCFG_COLS) && decide (y ≤ s.rd DSP_PCFG_ROWS) then s.dspOn (s.dspGrey x y) (s.dspUniform x y)
  else 0

/-! ## The label (R441–R447) -/

/-- The bytes of an area on the glass. -/
def State.areaBytes (s : State) (n : Nat) : List Nat :=
  (List.range (s.rd (DSP_UAGEO_H n))).flatMap (fun y =>
    (List.range (s.rd (DSP_UAGEO_W n))).map (fun x => (s.rd (DSP_UAGEO_Y0 n) + y) * 25 + s.rd (DSP_UAGEO_X0 n) + x))

/-- R442: an area holds an unknown pixel. -/
def State.areaUnknown (s : State) (n : Nat) : Bool := (s.areaBytes n).any (fun a => !tabGet false s.dsp.known a)

/-- A word of the waveform table P.10.00.200. -/
def State.dspWave (s : State) (w : Nat) : Nat := leNat (((tabGet [] s.blobs 0x01000200).drop (4 * w)).take 4)

/-- R443: TLOW of a band, 0.1 °C, and its N. -/
def State.dspTlow (s : State) (b : Nat) : Int := sx 8 (bits (s.dspWave (128 * b)) 24 8) * 10
def State.dspN (s : State) (b : Nat) : Nat := bits (s.dspWave (128 * b)) 0 8

/-- R442, R443: the drive code of a kind in a frame of a band. -/
def State.dspCode (s : State) (b f kind : Nat) : Nat := bits (s.dspWave (128 * b + f + 1)) (2 * kind) 2

/-- R442: the drive code of a pixel of a running update in its present frame: 0 0 V, 1 towards black, 2 towards white. -/
def State.dspDrive (s : State) (r : DspRun) (byte i : Nat) : Nat :=
  let want := bit (tabGet 0 r.copy byte) i
  if r.clean && decide (r.frames < r.n) then s.dspCode r.band r.frames 4
  else
    let old := if r.clean then false else bit (tabGet 0 s.dsp.shown byte) i
    s.dspCode r.band (if r.clean then r.frames - r.n else r.frames) (b2n old * 2 + b2n want)

/-- R444: the temperature in use: the thermistor's, or board sensor 21's when the reading is older than 10 s, when there is none yet, or
when LTSRC selects it. The first substitution after a valid reading emits EV 0x1006. -/
def State.dspTemp (s : State) : State :=
  let age := s.now + 1 - s.dsp.tempAt
  if s.on DSP_LCFG_LTSRC || s.dsp.tempAt = 0 || decide (10000000000 < age) then
    let t := s.wr DSP_LTEMP_T (s.rd (THM_SENS_T 21))
    if s.on DSP_LTEMP_SUBST then t
    else ((t.wr DSP_LTEMP_SUBST 1).dspFlag 5).when (s.dsp.tempAt != 0) (State.emit 0x1006 [age / 1000000000])
  else (s.wr DSP_LTEMP_T (tc 16 (satS 16 s.dsp.temp))).wr DSP_LTEMP_SUBST 0

/-- R443: the band for the temperature in use, with TEMPLO and TEMPHI. -/
def State.dspBand (s : State) : Nat × State :=
  let t := s.rdS DSP_LTEMP_T
  let fit := (List.range 8).filter (fun b => decide (s.dspTlow b ≤ t))
  let lo := fit.isEmpty; let hi := decide (600 < t)
  let u := (s.wr DSP_LTEMP_TEMPLO (b2n lo)).wr DSP_LTEMP_TEMPHI (b2n hi)
  (fit.foldl max 0, u.when (lo || hi) (fun u => (u.dspFlag 5).emit 0x1005 [tc 32 t]))

/-- R445: an update starts on an area. -/
def State.areaStart (n : Nat) (s : State) : State :=
  let x := s.area n
  let b := s.dspTemp.dspBand
  let t := b.2
  let copy := (t.areaBytes n).map (fun a => (a, tabGet 0 t.dsp.label a))
  t.setArea n { x with pend := false, clean := false,
                       run := some { clean := x.clean || t.areaUnknown n, band := b.1, n := t.dspN b.1, copy := copy } }

/-- R442: an update completes: its pixels take the target values and become known. -/
def State.areaDone (n : Nat) (r : DspRun) (s : State) : State :=
  let shown := r.copy.foldl (fun m p => tabSet 0 m p.1 p.2) s.dsp.shown
  let known := r.copy.foldl (fun m p => tabSet false m p.1 true) s.dsp.known
  let t := { s with dsp := { s.dsp with shown := shown, known := known } }
  ((t.setArea n { t.area n with run := none }).inc DSP_LCNT_DONE).dspFlag 3

/-- R445, 1: a boundary has passed on a running update: it ends, or goes on. -/
def State.areaStep (n : Nat) (s : State) : State :=
  let x := s.area n
  match x.run with
  | none => s
  | some r =>
    let k := r.frames + 1
    if (if r.clean then 2 * r.n else r.n) ≤ k then s.areaDone n r
    else s.setArea n { x with run := some { r with frames := k } }

/-- No area is running or pending. -/
def State.labelIdle (s : State) : Bool := dspAreas.all (fun n => !(s.area n).pend && (s.area n).run.isNone)

/-- R445–R447: a request on an area. -/
def State.areaRequest (n : Nat) (clean : Bool) (s : State) : State :=
  let x := s.area n
  let t := s.setArea n { x with pend := true, clean := clean, at_ := s.now }
  if x.pend then ((t.inc DSP_LCNT_SUPER).dspFlag 4).emitSec 0x1004 n (fun k => [n, k]) else t

/-- R447, R449: UPDATE or CLEAN on the areas of a mask. -/
def State.labelRequest (mask : Nat) (clean : Bool) (s : State) : State :=
  let m := mask % 256
  if s.dsp.closing then s.emit 0x1007 [m, 2]
  else
    let ok (n : Nat) : Bool := s.on DSP_LCFG_LEN && s.on (DSP_UAGEO_EN n)
    let good := dspAreas.filter (fun n => bit m n && ok n)
    let bad := dspAreas.foldl (fun b n => if bit m n && !ok n then setBit b n else b) 0
    let t := s.each good (fun n s => s.areaRequest n clean)
    t.when (bad != 0) (State.emit 0x1007 [bad, 1])

/-- CANCEL. -/
def State.labelCancel (mask : Nat) (s : State) : State :=
  s.each (dspAreas.filter (bit mask)) (fun n s => s.setArea n { s.area n with pend := false, clean := false })

/-- R445: a frame boundary; a request made on this very tick is taken at the next one. -/
def State.labelBoundary (s : State) : State :=
  let s := s.each dspAreas (fun n s => s.areaStep n)
  s.each dspAreas (fun n s =>
    let x := s.area n
    if x.pend && x.run.isNone && decide (x.at_ < s.now) then s.areaStart n else s)

/-- R444: a reading of the thermistor is due once per second; the lease of the bus is asked for. -/
def State.dspAsk (s : State) : State :=
  s.when (s.dsp.readAt = 0 || decide (s.dsp.readAt + 1000000000 ≤ s.now + 1)) (fun s =>
    { s with dsp := { s.dsp with readAt := s.now + 1, asked := s.now + 1 } }.requestLease 2 0x10)

/-- R444: the reading under the lease, at most 5 ms after it was asked for; one that is refused, revoked or late is not taken, and one whose
lease is still to come waits. -/
def State.dspRead (t : Int) (s : State) : State :=
  let cease (s : State) : State := { s with dsp := { s.dsp with asked := 0 } }.returnLease 2 0x10
  if s.dsp.asked = 0 then s
  else if s.dsp.asked + 5000000 < s.now + 1 then cease s
  else if s.holds 2 0x10 then cease { s with dsp := { s.dsp with temp := t, tempAt := s.now + 1 } }
  else if (s.lease 2).waiting.contains 0x10 then s
  else cease s

/-! ## Shut-down, power, reset, fence (R448–R451) -/

/-- The areas whose update runs, as a mask. -/
def State.labelRunning (s : State) : Nat := dspAreas.foldl (fun m n => if (s.area n).run.isSome then setBit m n else m) 0

/-- R450: updates that run are cut: EV 0x100A with the frames each had driven. -/
def State.labelCut (s : State) : State :=
  let m := s.labelRunning
  if m = 0 then s
  else
    let fr := dspAreas.filterMap (fun n => (s.area n).run.map (·.frames))
    let s := s.emit 0x100A (m :: fr)
    s.each (dspAreas.filter (bit m)) (fun n s =>
      let a := match (s.area n).run with | some r => r.copy | none => []
      let s := s.setArea n { s.area n with run := none }
      { s with dsp := { s.dsp with known := a.foldl (fun k p => tabSet false k p.1 false) s.dsp.known } })

/-- R449: shut-down step s2 begins. -/
def State.dspClose (s : State) : State := { s.panelDischarge with dsp := { s.panelDischarge.dsp with closing := true } }

/-- R449: step s2 may end. -/
def State.dspClosed (s : State) : Bool := s.pst != 1 && s.pst != 2 && s.pst != 3 && s.labelIdle

/-- R448. -/
def State.dspReset (s : State) : State := { s with dsp := {} }

/-- R451. -/
def State.dspFence (s : State) : State :=
  let s := s.panelDischarge
  let s := s.each dspAreas (fun n s => s.setArea n { s.area n with pend := false, clean := false })
  (s.dspFlag 6).emit 0x1009 [s.labelRunning]

end Sys2Proof.Machine
end

