-- ==== Sys2Proof/Machine/RegCAN.lean ====
section
/-!
DEFINITION. The register fields of CAN, as the register tables of spec/12_field_buses_and_fleet_link.md list them:
address, lowest bit, width, access code (Table 0.4) and reset value. Reserved bits (R6) are no field.
-/
namespace Sys2Proof.Machine

def CAN_CTL_EN (n : Nat) : Fld := ⟨0x400C0000 + 0x1000 * n, 31, 1, 0, .rws⟩
def CAN_CTL_FDEN (n : Nat) : Fld := ⟨0x400C0000 + 0x1000 * n, 30, 1, 0, .rws⟩
def CAN_CTL_BRSEN (n : Nat) : Fld := ⟨0x400C0000 + 0x1000 * n, 29, 1, 0, .rws⟩
def CAN_CTL_TXPRIO (n : Nat) : Fld := ⟨0x400C0000 + 0x1000 * n, 28, 1, 0, .rws⟩
def CAN_CTL_BOAUTO (n : Nat) : Fld := ⟨0x400C0000 + 0x1000 * n, 27, 1, 1, .rws⟩
def CAN_CTL_TERM (n : Nat) : Fld := ⟨0x400C0000 + 0x1000 * n, 26, 1, 0, .rws⟩
def CAN_CTL_MODE (n : Nat) : Fld := ⟨0x400C0000 + 0x1000 * n, 24, 2, 0, .rws⟩
def CAN_CTL_ISOEN (n : Nat) : Fld := ⟨0x400C0000 + 0x1000 * n, 23, 1, 0, .rws⟩
def CAN_CTL_ISOKIND (n : Nat) : Fld := ⟨0x400C0000 + 0x1000 * n, 22, 1, 0, .rws⟩
def CAN_CTL_fam : RegFam := ⟨0x400C0000, [(0x1000, 6)], fun i => [CAN_CTL_EN (i.getD 0 0), CAN_CTL_FDEN (i.getD 0 0), CAN_CTL_BRSEN (i.getD 0 0), CAN_CTL_TXPRIO (i.getD 0 0), CAN_CTL_BOAUTO (i.getD 0 0), CAN_CTL_TERM (i.getD 0 0), CAN_CTL_MODE (i.getD 0 0), CAN_CTL_ISOEN (i.getD 0 0), CAN_CTL_ISOKIND (i.getD 0 0)]⟩

def CAN_NBT_BRP (n : Nat) : Fld := ⟨0x400C0004 + 0x1000 * n, 24, 8, 3, .rws⟩
def CAN_NBT_TSEG1 (n : Nat) : Fld := ⟨0x400C0004 + 0x1000 * n, 16, 8, 0x3e, .rws⟩
def CAN_NBT_TSEG2 (n : Nat) : Fld := ⟨0x400C0004 + 0x1000 * n, 8, 7, 0xf, .rws⟩
def CAN_NBT_SJW (n : Nat) : Fld := ⟨0x400C0004 + 0x1000 * n, 0, 7, 0xf, .rws⟩
def CAN_NBT_fam : RegFam := ⟨0x400C0004, [(0x1000, 6)], fun i => [CAN_NBT_BRP (i.getD 0 0), CAN_NBT_TSEG1 (i.getD 0 0), CAN_NBT_TSEG2 (i.getD 0 0), CAN_NBT_SJW (i.getD 0 0)]⟩

def CAN_DBT_TDCEN (n : Nat) : Fld := ⟨0x400C0008 + 0x1000 * n, 31, 1, 1, .rws⟩
def CAN_DBT_TDCO (n : Nat) : Fld := ⟨0x400C0008 + 0x1000 * n, 24, 7, 0x1e, .rws⟩
def CAN_DBT_BRP (n : Nat) : Fld := ⟨0x400C0008 + 0x1000 * n, 19, 5, 0, .rws⟩
def CAN_DBT_TSEG1 (n : Nat) : Fld := ⟨0x400C0008 + 0x1000 * n, 14, 5, 0x1c, .rws⟩
def CAN_DBT_TSEG2 (n : Nat) : Fld := ⟨0x400C0008 + 0x1000 * n, 10, 4, 9, .rws⟩
def CAN_DBT_SJW (n : Nat) : Fld := ⟨0x400C0008 + 0x1000 * n, 6, 4, 9, .rws⟩
def CAN_DBT_fam : RegFam := ⟨0x400C0008, [(0x1000, 6)], fun i => [CAN_DBT_TDCEN (i.getD 0 0), CAN_DBT_TDCO (i.getD 0 0), CAN_DBT_BRP (i.getD 0 0), CAN_DBT_TSEG1 (i.getD 0 0), CAN_DBT_TSEG2 (i.getD 0 0), CAN_DBT_SJW (i.getD 0 0)]⟩

def CAN_STAT_ESTATE (n : Nat) : Fld := ⟨0x400C000C + 0x1000 * n, 30, 2, 0, .ro⟩
def CAN_STAT_NOACK (n : Nat) : Fld := ⟨0x400C000C + 0x1000 * n, 29, 1, 0, .ro⟩
def CAN_STAT_RESTR (n : Nat) : Fld := ⟨0x400C000C + 0x1000 * n, 28, 1, 0, .ro⟩
def CAN_STAT_LEC (n : Nat) : Fld := ⟨0x400C000C + 0x1000 * n, 25, 3, 0, .ro⟩
def CAN_STAT_TEC (n : Nat) : Fld := ⟨0x400C000C + 0x1000 * n, 16, 9, 0, .ro⟩
def CAN_STAT_REC (n : Nat) : Fld := ⟨0x400C000C + 0x1000 * n, 8, 8, 0, .ro⟩
def CAN_STAT_fam : RegFam := ⟨0x400C000C, [(0x1000, 6)], fun i => [CAN_STAT_ESTATE (i.getD 0 0), CAN_STAT_NOACK (i.getD 0 0), CAN_STAT_RESTR (i.getD 0 0), CAN_STAT_LEC (i.getD 0 0), CAN_STAT_TEC (i.getD 0 0), CAN_STAT_REC (i.getD 0 0)]⟩

def CAN_INTSTAT_FLAGS (n : Nat) : Fld := ⟨0x400C0010 + 0x1000 * n, 0, 12, 0, .w1c⟩
def CAN_INTSTAT_fam : RegFam := ⟨0x400C0010, [(0x1000, 6)], fun i => [CAN_INTSTAT_FLAGS (i.getD 0 0)]⟩

def CAN_INTEN_IEN (n : Nat) : Fld := ⟨0x400C0014 + 0x1000 * n, 0, 12, 0, .rw⟩
def CAN_INTEN_fam : RegFam := ⟨0x400C0014, [(0x1000, 6)], fun i => [CAN_INTEN_IEN (i.getD 0 0)]⟩

def CAN_CMD_CMD (n : Nat) : Fld := ⟨0x400C0018 + 0x1000 * n, 0, 2, 0, .wo⟩
def CAN_CMD_fam : RegFam := ⟨0x400C0018, [(0x1000, 6)], fun i => [CAN_CMD_CMD (i.getD 0 0)]⟩

def CAN_CNT_NOMATCH (n : Nat) : Fld := ⟨0x400C001C + 0x1000 * n, 16, 16, 0, .rw⟩
def CAN_CNT_DROP (n : Nat) : Fld := ⟨0x400C001C + 0x1000 * n, 0, 16, 0, .rw⟩
def CAN_CNT_fam : RegFam := ⟨0x400C001C, [(0x1000, 6)], fun i => [CAN_CNT_NOMATCH (i.getD 0 0), CAN_CNT_DROP (i.getD 0 0)]⟩

def CAN_TXID_IDE (n : Nat) (k : Nat) : Fld := ⟨0x400C0100 + 0x1000 * n + 0x80 * k, 31, 1, 0, .rw⟩
def CAN_TXID_FDF (n : Nat) (k : Nat) : Fld := ⟨0x400C0100 + 0x1000 * n + 0x80 * k, 30, 1, 0, .rw⟩
def CAN_TXID_ID (n : Nat) (k : Nat) : Fld := ⟨0x400C0100 + 0x1000 * n + 0x80 * k, 0, 29, 0, .rw⟩
def CAN_TXID_fam : RegFam := ⟨0x400C0100, [(0x1000, 6), (0x80, 3)], fun i => [CAN_TXID_IDE (i.getD 0 0) (i.getD 1 0), CAN_TXID_FDF (i.getD 0 0) (i.getD 1 0), CAN_TXID_ID (i.getD 0 0) (i.getD 1 0)]⟩

def CAN_TXCTL_BRS (n : Nat) (k : Nat) : Fld := ⟨0x400C0104 + 0x1000 * n + 0x80 * k, 31, 1, 0, .rw⟩
def CAN_TXCTL_RTR (n : Nat) (k : Nat) : Fld := ⟨0x400C0104 + 0x1000 * n + 0x80 * k, 30, 1, 0, .rw⟩
def CAN_TXCTL_DLC (n : Nat) (k : Nat) : Fld := ⟨0x400C0104 + 0x1000 * n + 0x80 * k, 25, 4, 0, .rw⟩
def CAN_TXCTL_fam : RegFam := ⟨0x400C0104, [(0x1000, 6), (0x80, 3)], fun i => [CAN_TXCTL_BRS (i.getD 0 0) (i.getD 1 0), CAN_TXCTL_RTR (i.getD 0 0) (i.getD 1 0), CAN_TXCTL_DLC (i.getD 0 0) (i.getD 1 0)]⟩

def CAN_TXREQ_GO (n : Nat) (k : Nat) : Fld := ⟨0x400C0108 + 0x1000 * n + 0x80 * k, 0, 32, 0, .ws⟩
def CAN_TXREQ_fam : RegFam := ⟨0x400C0108, [(0x1000, 6), (0x80, 3)], fun i => [CAN_TXREQ_GO (i.getD 0 0) (i.getD 1 0)]⟩

def CAN_TXCAN_GO (n : Nat) (k : Nat) : Fld := ⟨0x400C010C + 0x1000 * n + 0x80 * k, 0, 32, 0, .ws⟩
def CAN_TXCAN_fam : RegFam := ⟨0x400C010C, [(0x1000, 6), (0x80, 3)], fun i => [CAN_TXCAN_GO (i.getD 0 0) (i.getD 1 0)]⟩

def CAN_TXSTAT_PEND (n : Nat) (k : Nat) : Fld := ⟨0x400C0110 + 0x1000 * n + 0x80 * k, 31, 1, 0, .ro⟩
def CAN_TXSTAT_FROZEN (n : Nat) (k : Nat) : Fld := ⟨0x400C0110 + 0x1000 * n + 0x80 * k, 30, 1, 0, .ro⟩
def CAN_TXSTAT_RES (n : Nat) (k : Nat) : Fld := ⟨0x400C0110 + 0x1000 * n + 0x80 * k, 28, 2, 0, .ro⟩
def CAN_TXSTAT_CANLATE (n : Nat) (k : Nat) : Fld := ⟨0x400C0110 + 0x1000 * n + 0x80 * k, 27, 1, 0, .ro⟩
def CAN_TXSTAT_REPL (n : Nat) (k : Nat) : Fld := ⟨0x400C0110 + 0x1000 * n + 0x80 * k, 0, 16, 0, .rw⟩
def CAN_TXSTAT_fam : RegFam := ⟨0x400C0110, [(0x1000, 6), (0x80, 3)], fun i => [CAN_TXSTAT_PEND (i.getD 0 0) (i.getD 1 0), CAN_TXSTAT_FROZEN (i.getD 0 0) (i.getD 1 0), CAN_TXSTAT_RES (i.getD 0 0) (i.getD 1 0), CAN_TXSTAT_CANLATE (i.getD 0 0) (i.getD 1 0), CAN_TXSTAT_REPL (i.getD 0 0) (i.getD 1 0)]⟩

def CAN_TXD_DATA (n : Nat) (k : Nat) (w : Nat) : Fld := ⟨0x400C0140 + 0x1000 * n + 0x80 * k + 0x4 * w, 0, 32, 0, .rw⟩
def CAN_TXD_fam : RegFam := ⟨0x400C0140, [(0x1000, 6), (0x80, 3), (0x4, 16)], fun i => [CAN_TXD_DATA (i.getD 0 0) (i.getD 1 0) (i.getD 2 0)]⟩

def CAN_FID_IDE (n : Nat) (k : Nat) : Fld := ⟨0x400C0400 + 0x1000 * n + 0x10 * k, 31, 1, 0, .rws⟩
def CAN_FID_RTR (n : Nat) (k : Nat) : Fld := ⟨0x400C0400 + 0x1000 * n + 0x10 * k, 30, 1, 0, .rws⟩
def CAN_FID_ID (n : Nat) (k : Nat) : Fld := ⟨0x400C0400 + 0x1000 * n + 0x10 * k, 0, 29, 0, .rws⟩
def CAN_FID_fam : RegFam := ⟨0x400C0400, [(0x1000, 6), (0x10, 128)], fun i => [CAN_FID_IDE (i.getD 0 0) (i.getD 1 0), CAN_FID_RTR (i.getD 0 0) (i.getD 1 0), CAN_FID_ID (i.getD 0 0) (i.getD 1 0)]⟩

def CAN_FMSK_IDE (n : Nat) (k : Nat) : Fld := ⟨0x400C0404 + 0x1000 * n + 0x10 * k, 31, 1, 0, .rws⟩
def CAN_FMSK_RTR (n : Nat) (k : Nat) : Fld := ⟨0x400C0404 + 0x1000 * n + 0x10 * k, 30, 1, 0, .rws⟩
def CAN_FMSK_ID (n : Nat) (k : Nat) : Fld := ⟨0x400C0404 + 0x1000 * n + 0x10 * k, 0, 29, 0, .rws⟩
def CAN_FMSK_fam : RegFam := ⟨0x400C0404, [(0x1000, 6), (0x10, 128)], fun i => [CAN_FMSK_IDE (i.getD 0 0) (i.getD 1 0), CAN_FMSK_RTR (i.getD 0 0) (i.getD 1 0), CAN_FMSK_ID (i.getD 0 0) (i.getD 1 0)]⟩

def CAN_FCFG_EN (n : Nat) (k : Nat) : Fld := ⟨0x400C0408 + 0x1000 * n + 0x10 * k, 31, 1, 0, .rws⟩
def CAN_FCFG_ACT (n : Nat) (k : Nat) : Fld := ⟨0x400C0408 + 0x1000 * n + 0x10 * k, 29, 2, 0, .rws⟩
def CAN_FCFG_TSUP (n : Nat) (k : Nat) : Fld := ⟨0x400C0408 + 0x1000 * n + 0x10 * k, 28, 1, 0, .rws⟩
def CAN_FCFG_TMOUT (n : Nat) (k : Nat) : Fld := ⟨0x400C0408 + 0x1000 * n + 0x10 * k, 27, 1, 0, .ro⟩
def CAN_FCFG_TMO (n : Nat) (k : Nat) : Fld := ⟨0x400C0408 + 0x1000 * n + 0x10 * k, 0, 16, 0, .rws⟩
def CAN_FCFG_fam : RegFam := ⟨0x400C0408, [(0x1000, 6), (0x10, 128)], fun i => [CAN_FCFG_EN (i.getD 0 0) (i.getD 1 0), CAN_FCFG_ACT (i.getD 0 0) (i.getD 1 0), CAN_FCFG_TSUP (i.getD 0 0) (i.getD 1 0), CAN_FCFG_TMOUT (i.getD 0 0) (i.getD 1 0), CAN_FCFG_TMO (i.getD 0 0) (i.getD 1 0)]⟩

def CAN_RXH_IDE (n : Nat) (k : Nat) : Fld := ⟨0x400C0C00 + 0x1000 * n + 0x100 * k, 31, 1, 0, .ro⟩
def CAN_RXH_FDF (n : Nat) (k : Nat) : Fld := ⟨0x400C0C00 + 0x1000 * n + 0x100 * k, 30, 1, 0, .ro⟩
def CAN_RXH_RTR (n : Nat) (k : Nat) : Fld := ⟨0x400C0C00 + 0x1000 * n + 0x100 * k, 29, 1, 0, .ro⟩
def CAN_RXH_ID (n : Nat) (k : Nat) : Fld := ⟨0x400C0C00 + 0x1000 * n + 0x100 * k, 0, 29, 0, .ro⟩
def CAN_RXH_fam : RegFam := ⟨0x400C0C00, [(0x1000, 6), (0x100, 2)], fun i => [CAN_RXH_IDE (i.getD 0 0) (i.getD 1 0), CAN_RXH_FDF (i.getD 0 0) (i.getD 1 0), CAN_RXH_RTR (i.getD 0 0) (i.getD 1 0), CAN_RXH_ID (i.getD 0 0) (i.getD 1 0)]⟩

def CAN_RXI_VALID (n : Nat) (k : Nat) : Fld := ⟨0x400C0C04 + 0x1000 * n + 0x100 * k, 31, 1, 0, .ro⟩
def CAN_RXI_BRS (n : Nat) (k : Nat) : Fld := ⟨0x400C0C04 + 0x1000 * n + 0x100 * k, 30, 1, 0, .ro⟩
def CAN_RXI_ESI (n : Nat) (k : Nat) : Fld := ⟨0x400C0C04 + 0x1000 * n + 0x100 * k, 29, 1, 0, .ro⟩
def CAN_RXI_DLC (n : Nat) (k : Nat) : Fld := ⟨0x400C0C04 + 0x1000 * n + 0x100 * k, 25, 4, 0, .ro⟩
def CAN_RXI_ESTATE (n : Nat) (k : Nat) : Fld := ⟨0x400C0C04 + 0x1000 * n + 0x100 * k, 23, 2, 0, .ro⟩
def CAN_RXI_FILTER (n : Nat) (k : Nat) : Fld := ⟨0x400C0C04 + 0x1000 * n + 0x100 * k, 16, 7, 0, .ro⟩
def CAN_RXI_fam : RegFam := ⟨0x400C0C04, [(0x1000, 6), (0x100, 2)], fun i => [CAN_RXI_VALID (i.getD 0 0) (i.getD 1 0), CAN_RXI_BRS (i.getD 0 0) (i.getD 1 0), CAN_RXI_ESI (i.getD 0 0) (i.getD 1 0), CAN_RXI_DLC (i.getD 0 0) (i.getD 1 0), CAN_RXI_ESTATE (i.getD 0 0) (i.getD 1 0), CAN_RXI_FILTER (i.getD 0 0) (i.getD 1 0)]⟩

def CAN_RXTL_TS (n : Nat) (k : Nat) : Fld := ⟨0x400C0C08 + 0x1000 * n + 0x100 * k, 0, 32, 0, .ro⟩
def CAN_RXTL_fam : RegFam := ⟨0x400C0C08, [(0x1000, 6), (0x100, 2)], fun i => [CAN_RXTL_TS (i.getD 0 0) (i.getD 1 0)]⟩

def CAN_RXTH_TS (n : Nat) (k : Nat) : Fld := ⟨0x400C0C0C + 0x1000 * n + 0x100 * k, 0, 32, 0, .ro⟩
def CAN_RXTH_fam : RegFam := ⟨0x400C0C0C, [(0x1000, 6), (0x100, 2)], fun i => [CAN_RXTH_TS (i.getD 0 0) (i.getD 1 0)]⟩

def CAN_RXPOP_GO (n : Nat) (k : Nat) : Fld := ⟨0x400C0C10 + 0x1000 * n + 0x100 * k, 0, 32, 0, .ws⟩
def CAN_RXPOP_fam : RegFam := ⟨0x400C0C10, [(0x1000, 6), (0x100, 2)], fun i => [CAN_RXPOP_GO (i.getD 0 0) (i.getD 1 0)]⟩

def CAN_RXFSTAT_FILL (n : Nat) (k : Nat) : Fld := ⟨0x400C0C14 + 0x1000 * n + 0x100 * k, 25, 7, 0, .ro⟩
def CAN_RXFSTAT_OVF (n : Nat) (k : Nat) : Fld := ⟨0x400C0C14 + 0x1000 * n + 0x100 * k, 24, 1, 0, .ro⟩
def CAN_RXFSTAT_fam : RegFam := ⟨0x400C0C14, [(0x1000, 6), (0x100, 2)], fun i => [CAN_RXFSTAT_FILL (i.getD 0 0) (i.getD 1 0), CAN_RXFSTAT_OVF (i.getD 0 0) (i.getD 1 0)]⟩

def CAN_ISOADDR_PREF (n : Nat) : Fld := ⟨0x400C0E00 + 0x1000 * n, 24, 8, 0x80, .rws⟩
def CAN_ISOADDR_ADDR (n : Nat) : Fld := ⟨0x400C0E00 + 0x1000 * n, 16, 8, 0xfe, .ro⟩
def CAN_ISOADDR_CSTATE (n : Nat) : Fld := ⟨0x400C0E00 + 0x1000 * n, 14, 2, 0, .ro⟩
def CAN_ISOADDR_fam : RegFam := ⟨0x400C0E00, [(0x1000, 6)], fun i => [CAN_ISOADDR_PREF (i.getD 0 0), CAN_ISOADDR_ADDR (i.getD 0 0), CAN_ISOADDR_CSTATE (i.getD 0 0)]⟩

def CAN_NAMELO_NAME (n : Nat) : Fld := ⟨0x400C0E04 + 0x1000 * n, 0, 32, 0, .rws⟩
def CAN_NAMELO_fam : RegFam := ⟨0x400C0E04, [(0x1000, 6)], fun i => [CAN_NAMELO_NAME (i.getD 0 0)]⟩

def CAN_NAMEHI_NAME (n : Nat) : Fld := ⟨0x400C0E08 + 0x1000 * n, 0, 32, 0, .rws⟩
def CAN_NAMEHI_fam : RegFam := ⟨0x400C0E08, [(0x1000, 6)], fun i => [CAN_NAMEHI_NAME (i.getD 0 0)]⟩

def CAN_LMTXA_ADDR (n : Nat) : Fld := ⟨0x400C0E10 + 0x1000 * n, 0, 32, 0, .rw⟩
def CAN_LMTXA_fam : RegFam := ⟨0x400C0E10, [(0x1000, 6)], fun i => [CAN_LMTXA_ADDR (i.getD 0 0)]⟩

def CAN_LMTXC_DA (n : Nat) : Fld := ⟨0x400C0E14 + 0x1000 * n, 24, 8, 0xff, .rw⟩
def CAN_LMTXC_PRIO (n : Nat) : Fld := ⟨0x400C0E14 + 0x1000 * n, 21, 3, 6, .rw⟩
def CAN_LMTXC_PGN (n : Nat) : Fld := ⟨0x400C0E14 + 0x1000 * n, 0, 18, 0, .rw⟩
def CAN_LMTXC_fam : RegFam := ⟨0x400C0E14, [(0x1000, 6)], fun i => [CAN_LMTXC_DA (i.getD 0 0), CAN_LMTXC_PRIO (i.getD 0 0), CAN_LMTXC_PGN (i.getD 0 0)]⟩

def CAN_LMTXL_LEN (n : Nat) : Fld := ⟨0x400C0E18 + 0x1000 * n, 0, 17, 0, .rw⟩
def CAN_LMTXL_fam : RegFam := ⟨0x400C0E18, [(0x1000, 6)], fun i => [CAN_LMTXL_LEN (i.getD 0 0)]⟩

def CAN_LMTXGO_GO (n : Nat) : Fld := ⟨0x400C0E1C + 0x1000 * n, 0, 32, 0, .ws⟩
def CAN_LMTXGO_fam : RegFam := ⟨0x400C0E1C, [(0x1000, 6)], fun i => [CAN_LMTXGO_GO (i.getD 0 0)]⟩

def CAN_LMTXS_BUSY (n : Nat) : Fld := ⟨0x400C0E20 + 0x1000 * n, 31, 1, 0, .ro⟩
def CAN_LMTXS_RES (n : Nat) : Fld := ⟨0x400C0E20 + 0x1000 * n, 28, 3, 0, .ro⟩
def CAN_LMTXS_REASON (n : Nat) : Fld := ⟨0x400C0E20 + 0x1000 * n, 0, 8, 0, .ro⟩
def CAN_LMTXS_fam : RegFam := ⟨0x400C0E20, [(0x1000, 6)], fun i => [CAN_LMTXS_BUSY (i.getD 0 0), CAN_LMTXS_RES (i.getD 0 0), CAN_LMTXS_REASON (i.getD 0 0)]⟩

def CAN_LMRXB_BASE (n : Nat) : Fld := ⟨0x400C0E30 + 0x1000 * n, 16, 16, 0, .rws⟩
def CAN_LMRXB_fam : RegFam := ⟨0x400C0E30, [(0x1000, 6)], fun i => [CAN_LMRXB_BASE (i.getD 0 0)]⟩

def CAN_LMRXWR_IDX (n : Nat) : Fld := ⟨0x400C0E34 + 0x1000 * n, 0, 5, 0, .ro⟩
def CAN_LMRXWR_fam : RegFam := ⟨0x400C0E34, [(0x1000, 6)], fun i => [CAN_LMRXWR_IDX (i.getD 0 0)]⟩

def CAN_LMRXRD_IDX (n : Nat) : Fld := ⟨0x400C0E38 + 0x1000 * n, 0, 5, 0, .rw⟩
def CAN_LMRXRD_fam : RegFam := ⟨0x400C0E38, [(0x1000, 6)], fun i => [CAN_LMRXRD_IDX (i.getD 0 0)]⟩

/-- Every register of CAN that has fields. -/
def CAN_fams : List RegFam :=
  [CAN_CTL_fam, CAN_NBT_fam, CAN_DBT_fam, CAN_STAT_fam, CAN_INTSTAT_fam, CAN_INTEN_fam, CAN_CMD_fam, CAN_CNT_fam, CAN_TXID_fam, CAN_TXCTL_fam, CAN_TXREQ_fam, CAN_TXCAN_fam, CAN_TXSTAT_fam, CAN_TXD_fam, CAN_FID_fam, CAN_FMSK_fam, CAN_FCFG_fam, CAN_RXH_fam, CAN_RXI_fam, CAN_RXTL_fam] ++
  [CAN_RXTH_fam, CAN_RXPOP_fam, CAN_RXFSTAT_fam, CAN_ISOADDR_fam, CAN_NAMELO_fam, CAN_NAMEHI_fam, CAN_LMTXA_fam, CAN_LMTXC_fam, CAN_LMTXL_fam, CAN_LMTXGO_fam, CAN_LMTXS_fam, CAN_LMRXB_fam, CAN_LMRXWR_fam, CAN_LMRXRD_fam]

end Sys2Proof.Machine
end

