-- ==== Sys2Proof/Machine/RegCAR.lean ====
section
/-!
DEFINITION. The register fields of CAR, as the register tables of spec/03_carillon_event_engine.md list them:
address, lowest bit, width, access code (Table 0.4) and reset value. Reserved bits (R6) are no field.
-/
namespace Sys2Proof.Machine

def CAR_STAT_INUSE : Fld := ⟨0x40020000, 16, 9, 0, .ro⟩
def CAR_STAT_HELD : Fld := ⟨0x40020000, 0, 9, 0, .ro⟩
def CAR_STAT_fam : RegFam := ⟨0x40020000, [], fun _ => [CAR_STAT_INUSE, CAR_STAT_HELD]⟩

def CAR_INTSTAT_RETFULL : Fld := ⟨0x40020004, 8, 1, 0, .w1c⟩
def CAR_INTSTAT_DROP : Fld := ⟨0x40020004, 7, 1, 0, .w1c⟩
def CAR_INTSTAT_FENCE : Fld := ⟨0x40020004, 6, 1, 0, .w1c⟩
def CAR_INTSTAT_BASELOSS : Fld := ⟨0x40020004, 5, 1, 0, .w1c⟩
def CAR_INTSTAT_JUMP : Fld := ⟨0x40020004, 4, 1, 0, .w1c⟩
def CAR_INTSTAT_BLOCK : Fld := ⟨0x40020004, 3, 1, 0, .w1c⟩
def CAR_INTSTAT_COLL : Fld := ⟨0x40020004, 2, 1, 0, .w1c⟩
def CAR_INTSTAT_LATE : Fld := ⟨0x40020004, 1, 1, 0, .w1c⟩
def CAR_INTSTAT_RETTHR : Fld := ⟨0x40020004, 0, 1, 0, .w1c⟩
def CAR_INTSTAT_fam : RegFam := ⟨0x40020004, [], fun _ => [CAR_INTSTAT_RETFULL, CAR_INTSTAT_DROP, CAR_INTSTAT_FENCE, CAR_INTSTAT_BASELOSS, CAR_INTSTAT_JUMP, CAR_INTSTAT_BLOCK, CAR_INTSTAT_COLL, CAR_INTSTAT_LATE, CAR_INTSTAT_RETTHR]⟩

def CAR_INTEN_IEN : Fld := ⟨0x40020008, 0, 9, 0, .rw⟩
def CAR_INTEN_fam : RegFam := ⟨0x40020008, [], fun _ => [CAR_INTEN_IEN]⟩

def CAR_RETWR_WR : Fld := ⟨0x40020010, 0, 10, 0, .ro⟩
def CAR_RETWR_fam : RegFam := ⟨0x40020010, [], fun _ => [CAR_RETWR_WR]⟩

def CAR_RETRD_RD : Fld := ⟨0x40020014, 0, 10, 0, .rw⟩
def CAR_RETRD_fam : RegFam := ⟨0x40020014, [], fun _ => [CAR_RETRD_RD]⟩

def CAR_RETTHR_THR : Fld := ⟨0x40020018, 0, 10, 1, .rw⟩
def CAR_RETTHR_fam : RegFam := ⟨0x40020018, [], fun _ => [CAR_RETTHR_THR]⟩

def CAR_LATECNT_COUNT : Fld := ⟨0x4002001C, 0, 32, 0, .rw⟩
def CAR_LATECNT_fam : RegFam := ⟨0x4002001C, [], fun _ => [CAR_LATECNT_COUNT]⟩

def CAR_MAXLATE_NS : Fld := ⟨0x40020020, 0, 32, 0, .rw⟩
def CAR_MAXLATE_fam : RegFam := ⟨0x40020020, [], fun _ => [CAR_MAXLATE_NS]⟩

def CAR_QUOTA_QUOTA (n : Nat) : Fld := ⟨0x40020040 + 0x4 * n, 0, 9, if n = 4 then 64 else 48, .rws⟩
def CAR_QUOTA_fam : RegFam := ⟨0x40020040, [(0x4, 5)], fun i => [CAR_QUOTA_QUOTA (i.getD 0 0)]⟩

def CAR_INUSE_INUSE (n : Nat) : Fld := ⟨0x40020060 + 0x4 * n, 0, 9, 0, .ro⟩
def CAR_INUSE_fam : RegFam := ⟨0x40020060, [(0x4, 5)], fun i => [CAR_INUSE_INUSE (i.getD 0 0)]⟩

def CAR_HPTGT_TGT (n : Nat) : Fld := ⟨0x40020100 + 0x40 * n, 0, 32, 0, .rw⟩
def CAR_HPTGT_fam : RegFam := ⟨0x40020100, [(0x40, 4)], fun i => [CAR_HPTGT_TGT (i.getD 0 0)]⟩

def CAR_HPPER_PER (n : Nat) : Fld := ⟨0x40020104 + 0x40 * n, 0, 32, 0, .rw⟩
def CAR_HPPER_fam : RegFam := ⟨0x40020104, [(0x40, 4)], fun i => [CAR_HPPER_PER (i.getD 0 0)]⟩

def CAR_HPACT_TYPE (n : Nat) : Fld := ⟨0x40020108 + 0x40 * n, 28, 4, 0, .rw⟩
def CAR_HPACT_TARGET (n : Nat) : Fld := ⟨0x40020108 + 0x40 * n, 20, 8, 0, .rw⟩
def CAR_HPACT_ARG (n : Nat) : Fld := ⟨0x40020108 + 0x40 * n, 0, 16, 0, .rw⟩
def CAR_HPACT_fam : RegFam := ⟨0x40020108, [(0x40, 4)], fun i => [CAR_HPACT_TYPE (i.getD 0 0), CAR_HPACT_TARGET (i.getD 0 0), CAR_HPACT_ARG (i.getD 0 0)]⟩

def CAR_HPCTL_BASE (n : Nat) : Fld := ⟨0x4002010C + 0x40 * n, 28, 4, 0, .rw⟩
def CAR_HPCTL_EDIR (n : Nat) : Fld := ⟨0x4002010C + 0x40 * n, 27, 1, 0, .rw⟩
def CAR_HPCTL_ONREV (n : Nat) : Fld := ⟨0x4002010C + 0x40 * n, 26, 1, 0, .rw⟩
def CAR_HPCTL_ONSTALL (n : Nat) : Fld := ⟨0x4002010C + 0x40 * n, 25, 1, 0, .rw⟩
def CAR_HPCTL_ONJUMP (n : Nat) : Fld := ⟨0x4002010C + 0x40 * n, 23, 2, 0, .rw⟩
def CAR_HPCTL_RETEND (n : Nat) : Fld := ⟨0x4002010C + 0x40 * n, 22, 1, 0, .rw⟩
def CAR_HPCTL_COUNT (n : Nat) : Fld := ⟨0x4002010C + 0x40 * n, 15, 7, 1, .rw⟩
def CAR_HPCTL_HORIZON (n : Nat) : Fld := ⟨0x4002010C + 0x40 * n, 0, 15, 0x3e8, .rw⟩
def CAR_HPCTL_fam : RegFam := ⟨0x4002010C, [(0x40, 4)], fun i => [CAR_HPCTL_BASE (i.getD 0 0), CAR_HPCTL_EDIR (i.getD 0 0), CAR_HPCTL_ONREV (i.getD 0 0), CAR_HPCTL_ONSTALL (i.getD 0 0), CAR_HPCTL_ONJUMP (i.getD 0 0), CAR_HPCTL_RETEND (i.getD 0 0), CAR_HPCTL_COUNT (i.getD 0 0), CAR_HPCTL_HORIZON (i.getD 0 0)]⟩

def CAR_HPTAG_TAG (n : Nat) : Fld := ⟨0x40020110 + 0x40 * n, 0, 16, 0, .rw⟩
def CAR_HPTAG_fam : RegFam := ⟨0x40020110, [(0x40, 4)], fun i => [CAR_HPTAG_TAG (i.getD 0 0)]⟩

def CAR_HPHDL_HANDLE (n : Nat) : Fld := ⟨0x40020114 + 0x40 * n, 0, 16, 0, .rw⟩
def CAR_HPHDL_fam : RegFam := ⟨0x40020114, [(0x40, 4)], fun i => [CAR_HPHDL_HANDLE (i.getD 0 0)]⟩

def CAR_HPPOST_GO (n : Nat) : Fld := ⟨0x40020118 + 0x40 * n, 0, 32, 0, .ws⟩
def CAR_HPPOST_fam : RegFam := ⟨0x40020118, [(0x40, 4)], fun i => [CAR_HPPOST_GO (i.getD 0 0)]⟩

def CAR_HPRETIME_GO (n : Nat) : Fld := ⟨0x4002011C + 0x40 * n, 0, 32, 0, .ws⟩
def CAR_HPRETIME_fam : RegFam := ⟨0x4002011C, [(0x40, 4)], fun i => [CAR_HPRETIME_GO (i.getD 0 0)]⟩

def CAR_HPREVOKE_GO (n : Nat) : Fld := ⟨0x40020120 + 0x40 * n, 0, 32, 0, .ws⟩
def CAR_HPREVOKE_fam : RegFam := ⟨0x40020120, [(0x40, 4)], fun i => [CAR_HPREVOKE_GO (i.getD 0 0)]⟩

def CAR_HPFLUSH_GO (n : Nat) : Fld := ⟨0x40020124 + 0x40 * n, 0, 32, 0, .ws⟩
def CAR_HPFLUSH_fam : RegFam := ⟨0x40020124, [(0x40, 4)], fun i => [CAR_HPFLUSH_GO (i.getD 0 0)]⟩

def CAR_HPRES_BUSY (n : Nat) : Fld := ⟨0x40020128 + 0x40 * n, 31, 1, 0, .ro⟩
def CAR_HPRES_DROP (n : Nat) : Fld := ⟨0x40020128 + 0x40 * n, 30, 1, 0, .ro⟩
def CAR_HPRES_STATUS (n : Nat) : Fld := ⟨0x40020128 + 0x40 * n, 24, 4, 0, .ro⟩
def CAR_HPRES_HANDLE (n : Nat) : Fld := ⟨0x40020128 + 0x40 * n, 0, 16, 0, .ro⟩
def CAR_HPRES_fam : RegFam := ⟨0x40020128, [(0x40, 4)], fun i => [CAR_HPRES_BUSY (i.getD 0 0), CAR_HPRES_DROP (i.getD 0 0), CAR_HPRES_STATUS (i.getD 0 0), CAR_HPRES_HANDLE (i.getD 0 0)]⟩

def CAR_SLOTST_STATE (n : Nat) : Fld := ⟨0x40021000 + 0x8 * n, 30, 2, 0, .ro⟩
def CAR_SLOTST_PORT (n : Nat) : Fld := ⟨0x40021000 + 0x8 * n, 27, 3, 0, .ro⟩
def CAR_SLOTST_BASE (n : Nat) : Fld := ⟨0x40021000 + 0x8 * n, 23, 4, 0, .ro⟩
def CAR_SLOTST_EDIR (n : Nat) : Fld := ⟨0x40021000 + 0x8 * n, 22, 1, 0, .ro⟩
def CAR_SLOTST_PREDV (n : Nat) : Fld := ⟨0x40021000 + 0x8 * n, 21, 1, 0, .ro⟩
def CAR_SLOTST_GEN (n : Nat) : Fld := ⟨0x40021000 + 0x8 * n, 8, 8, 0, .ro⟩
def CAR_SLOTST_fam : RegFam := ⟨0x40021000, [(0x8, 256)], fun i => [CAR_SLOTST_STATE (i.getD 0 0), CAR_SLOTST_PORT (i.getD 0 0), CAR_SLOTST_BASE (i.getD 0 0), CAR_SLOTST_EDIR (i.getD 0 0), CAR_SLOTST_PREDV (i.getD 0 0), CAR_SLOTST_GEN (i.getD 0 0)]⟩

def CAR_SLOTPRED_TIME (n : Nat) : Fld := ⟨0x40021004 + 0x8 * n, 0, 32, 0xffffffff, .ro⟩
def CAR_SLOTPRED_fam : RegFam := ⟨0x40021004, [(0x8, 256)], fun i => [CAR_SLOTPRED_TIME (i.getD 0 0)]⟩

/-- Every register of CAR that has fields. -/
def CAR_fams : List RegFam :=
  [CAR_STAT_fam, CAR_INTSTAT_fam, CAR_INTEN_fam, CAR_RETWR_fam, CAR_RETRD_fam, CAR_RETTHR_fam, CAR_LATECNT_fam, CAR_MAXLATE_fam, CAR_QUOTA_fam, CAR_INUSE_fam, CAR_HPTGT_fam, CAR_HPPER_fam, CAR_HPACT_fam, CAR_HPCTL_fam, CAR_HPTAG_fam, CAR_HPHDL_fam, CAR_HPPOST_fam, CAR_HPRETIME_fam, CAR_HPREVOKE_fam, CAR_HPFLUSH_fam] ++
  [CAR_HPRES_fam, CAR_SLOTST_fam, CAR_SLOTPRED_fam]

end Sys2Proof.Machine
end

