-- ==== Sys2Proof/Machine/RegCEN.lean ====
section
/-!
DEFINITION. The register fields of CEN, as the register tables of spec/06_control_engine_and_function_channels.md list them:
address, lowest bit, width, access code (Table 0.4) and reset value. Reserved bits (R6) are no field.
-/
namespace Sys2Proof.Machine

def CEN_STAT_INFLT : Fld := ⟨0x40040000, 28, 4, 0, .ro⟩
def CEN_STAT_QHI : Fld := ⟨0x40040000, 21, 7, 0, .ro⟩
def CEN_STAT_QNORM : Fld := ⟨0x40040000, 14, 7, 0, .ro⟩
def CEN_STAT_TLVL : Fld := ⟨0x40040000, 12, 2, 0, .ro⟩
def CEN_STAT_fam : RegFam := ⟨0x40040000, [], fun _ => [CEN_STAT_INFLT, CEN_STAT_QHI, CEN_STAT_QNORM, CEN_STAT_TLVL]⟩

def CEN_INTSTAT_FENCE : Fld := ⟨0x40040004, 10, 1, 0, .w1c⟩
def CEN_INTSTAT_DMREPL : Fld := ⟨0x40040004, 9, 1, 0, .w1c⟩
def CEN_INTSTAT_FAULT : Fld := ⟨0x40040004, 8, 1, 0, .w1c⟩
def CEN_INTSTAT_INHIB : Fld := ⟨0x40040004, 7, 1, 0, .w1c⟩
def CEN_INTSTAT_SAT : Fld := ⟨0x40040004, 6, 1, 0, .w1c⟩
def CEN_INTSTAT_FBINV : Fld := ⟨0x40040004, 5, 1, 0, .w1c⟩
def CEN_INTSTAT_NOSAMP : Fld := ⟨0x40040004, 4, 1, 0, .w1c⟩
def CEN_INTSTAT_LATE : Fld := ⟨0x40040004, 3, 1, 0, .w1c⟩
def CEN_INTSTAT_OVR : Fld := ⟨0x40040004, 2, 1, 0, .w1c⟩
def CEN_INTSTAT_TRDROP : Fld := ⟨0x40040004, 1, 1, 0, .w1c⟩
def CEN_INTSTAT_TRC : Fld := ⟨0x40040004, 0, 1, 0, .w1c⟩
def CEN_INTSTAT_fam : RegFam := ⟨0x40040004, [], fun _ => [CEN_INTSTAT_FENCE, CEN_INTSTAT_DMREPL, CEN_INTSTAT_FAULT, CEN_INTSTAT_INHIB, CEN_INTSTAT_SAT, CEN_INTSTAT_FBINV, CEN_INTSTAT_NOSAMP, CEN_INTSTAT_LATE, CEN_INTSTAT_OVR, CEN_INTSTAT_TRDROP, CEN_INTSTAT_TRC]⟩

def CEN_INTEN_IEN : Fld := ⟨0x40040008, 0, 11, 0, .rw⟩
def CEN_INTEN_fam : RegFam := ⟨0x40040008, [], fun _ => [CEN_INTEN_IEN]⟩

def CEN_LOAD_ISSUE : Fld := ⟨0x4004000C, 16, 16, 0, .ro⟩
def CEN_LOAD_QUIET : Fld := ⟨0x4004000C, 0, 16, 0, .ro⟩
def CEN_LOAD_fam : RegFam := ⟨0x4004000C, [], fun _ => [CEN_LOAD_ISSUE, CEN_LOAD_QUIET]⟩

def CEN_SWTRIG_SLOT : Fld := ⟨0x40040010, 0, 7, 0, .wo⟩
def CEN_SWTRIG_fam : RegFam := ⟨0x40040010, [], fun _ => [CEN_SWTRIG_SLOT]⟩

def CEN_HOSTPERM_PERM : Fld := ⟨0x40040014, 0, 16, 0, .rw⟩
def CEN_HOSTPERM_fam : RegFam := ⟨0x40040014, [], fun _ => [CEN_HOSTPERM_PERM]⟩

def CEN_TRWR_IDX : Fld := ⟨0x40040018, 0, 9, 0, .ro⟩
def CEN_TRWR_fam : RegFam := ⟨0x40040018, [], fun _ => [CEN_TRWR_IDX]⟩

def CEN_TRRD_IDX : Fld := ⟨0x4004001C, 0, 9, 0, .rw⟩
def CEN_TRRD_fam : RegFam := ⟨0x4004001C, [], fun _ => [CEN_TRRD_IDX]⟩

def CEN_TRDROP_COUNT : Fld := ⟨0x40040020, 0, 32, 0, .rw⟩
def CEN_TRDROP_fam : RegFam := ⟨0x40040020, [], fun _ => [CEN_TRDROP_COUNT]⟩

def CEN_TSEL_BANK : Fld := ⟨0x40040024, 31, 1, 0, .rw⟩
def CEN_TSEL_TBL : Fld := ⟨0x40040024, 30, 1, 0, .rw⟩
def CEN_TSEL_SLOT : Fld := ⟨0x40040024, 23, 7, 0, .rw⟩
def CEN_TSEL_IDX : Fld := ⟨0x40040024, 0, 10, 0, .rw⟩
def CEN_TSEL_fam : RegFam := ⟨0x40040024, [], fun _ => [CEN_TSEL_BANK, CEN_TSEL_TBL, CEN_TSEL_SLOT, CEN_TSEL_IDX]⟩

def CEN_TDATA_VAL : Fld := ⟨0x40040028, 0, 32, 0, .ro⟩
def CEN_TDATA_fam : RegFam := ⟨0x40040028, [], fun _ => [CEN_TDATA_VAL]⟩

def CEN_XFB_RAW (n : Nat) : Fld := ⟨0x40040040 + 0x4 * n, 0, 32, 0, .rw⟩
def CEN_XFB_fam : RegFam := ⟨0x40040040, [(0x4, 16)], fun i => [CEN_XFB_RAW (i.getD 0 0)]⟩

def CEN_LCTL_TRIG (n : Nat) : Fld := ⟨0x40041000 + 0x80 * n, 30, 2, 0, .rws⟩
def CEN_LCTL_PRIO (n : Nat) : Fld := ⟨0x40041000 + 0x80 * n, 29, 1, 0, .rws⟩
def CEN_LCTL_TRACE (n : Nat) : Fld := ⟨0x40041000 + 0x80 * n, 28, 1, 0, .rws⟩
def CEN_LCTL_FFEN (n : Nat) : Fld := ⟨0x40041000 + 0x80 * n, 27, 1, 0, .rws⟩
def CEN_LCTL_FRICEN (n : Nat) : Fld := ⟨0x40041000 + 0x80 * n, 26, 1, 0, .rws⟩
def CEN_LCTL_COGEN (n : Nat) : Fld := ⟨0x40041000 + 0x80 * n, 25, 1, 0, .rws⟩
def CEN_LCTL_RLEN (n : Nat) : Fld := ⟨0x40041000 + 0x80 * n, 24, 1, 0, .rws⟩
def CEN_LCTL_BLESS (n : Nat) : Fld := ⟨0x40041000 + 0x80 * n, 23, 1, 0, .rws⟩
def CEN_LCTL_FRICSGN (n : Nat) : Fld := ⟨0x40041000 + 0x80 * n, 22, 1, 0, .rws⟩
def CEN_LCTL_CASCEN (n : Nat) : Fld := ⟨0x40041000 + 0x80 * n, 21, 1, 0, .rws⟩
def CEN_LCTL_INNER (n : Nat) : Fld := ⟨0x40041000 + 0x80 * n, 14, 7, 0, .rws⟩
def CEN_LCTL_IDXSRC (n : Nat) : Fld := ⟨0x40041000 + 0x80 * n, 10, 4, 0xf, .rws⟩
def CEN_LCTL_IDXSH (n : Nat) : Fld := ⟨0x40041000 + 0x80 * n, 5, 5, 0, .rws⟩
def CEN_LCTL_FBTC (n : Nat) : Fld := ⟨0x40041000 + 0x80 * n, 0, 5, 0, .rws⟩
def CEN_LCTL_fam : RegFam := ⟨0x40041000, [(0x80, 96)], fun i => [CEN_LCTL_TRIG (i.getD 0 0), CEN_LCTL_PRIO (i.getD 0 0), CEN_LCTL_TRACE (i.getD 0 0), CEN_LCTL_FFEN (i.getD 0 0), CEN_LCTL_FRICEN (i.getD 0 0), CEN_LCTL_COGEN (i.getD 0 0), CEN_LCTL_RLEN (i.getD 0 0), CEN_LCTL_BLESS (i.getD 0 0), CEN_LCTL_FRICSGN (i.getD 0 0), CEN_LCTL_CASCEN (i.getD 0 0), CEN_LCTL_INNER (i.getD 0 0), CEN_LCTL_IDXSRC (i.getD 0 0), CEN_LCTL_IDXSH (i.getD 0 0), CEN_LCTL_FBTC (i.getD 0 0)]⟩

def CEN_LFB_FBSRC (n : Nat) : Fld := ⟨0x40041004 + 0x80 * n, 24, 8, 0xff, .rws⟩
def CEN_LFB_DTC (n : Nat) : Fld := ⟨0x40041004 + 0x80 * n, 0, 16, 0, .rws⟩
def CEN_LFB_fam : RegFam := ⟨0x40041004, [(0x80, 96)], fun i => [CEN_LFB_FBSRC (i.getD 0 0), CEN_LFB_DTC (i.getD 0 0)]⟩

def CEN_LFBG_FBGAIN (n : Nat) : Fld := ⟨0x40041008 + 0x80 * n, 0, 32, 0x10000, .rws⟩
def CEN_LFBG_fam : RegFam := ⟨0x40041008, [(0x80, 96)], fun i => [CEN_LFBG_FBGAIN (i.getD 0 0)]⟩

def CEN_LFBO_FBOFS (n : Nat) : Fld := ⟨0x4004100C + 0x80 * n, 0, 32, 0, .rws⟩
def CEN_LFBO_fam : RegFam := ⟨0x4004100C, [(0x80, 96)], fun i => [CEN_LFBO_FBOFS (i.getD 0 0)]⟩

def CEN_LKP_KP (n : Nat) : Fld := ⟨0x40041010 + 0x80 * n, 0, 32, 0, .rws⟩
def CEN_LKP_fam : RegFam := ⟨0x40041010, [(0x80, 96)], fun i => [CEN_LKP_KP (i.getD 0 0)]⟩

def CEN_LKI_KI (n : Nat) : Fld := ⟨0x40041014 + 0x80 * n, 0, 32, 0, .rws⟩
def CEN_LKI_fam : RegFam := ⟨0x40041014, [(0x80, 96)], fun i => [CEN_LKI_KI (i.getD 0 0)]⟩

def CEN_LKD_KD (n : Nat) : Fld := ⟨0x40041018 + 0x80 * n, 0, 32, 0, .rws⟩
def CEN_LKD_fam : RegFam := ⟨0x40041018, [(0x80, 96)], fun i => [CEN_LKD_KD (i.getD 0 0)]⟩

def CEN_LKFF_KFF (n : Nat) : Fld := ⟨0x4004101C + 0x80 * n, 0, 32, 0, .rws⟩
def CEN_LKFF_fam : RegFam := ⟨0x4004101C, [(0x80, 96)], fun i => [CEN_LKFF_KFF (i.getD 0 0)]⟩

def CEN_LFFO_FFO (n : Nat) : Fld := ⟨0x40041020 + 0x80 * n, 0, 32, 0, .rws⟩
def CEN_LFFO_fam : RegFam := ⟨0x40041020, [(0x80, 96)], fun i => [CEN_LFFO_FFO (i.getD 0 0)]⟩

def CEN_LUMAX_UMAX (n : Nat) : Fld := ⟨0x40041024 + 0x80 * n, 0, 32, 0, .rws⟩
def CEN_LUMAX_fam : RegFam := ⟨0x40041024, [(0x80, 96)], fun i => [CEN_LUMAX_UMAX (i.getD 0 0)]⟩

def CEN_LUMIN_UMIN (n : Nat) : Fld := ⟨0x40041028 + 0x80 * n, 0, 32, 0, .rws⟩
def CEN_LUMIN_fam : RegFam := ⟨0x40041028, [(0x80, 96)], fun i => [CEN_LUMIN_UMIN (i.getD 0 0)]⟩

def CEN_LSHP_RATE (n : Nat) : Fld := ⟨0x4004102C + 0x80 * n, 16, 16, 0, .rws⟩
def CEN_LSHP_DB (n : Nat) : Fld := ⟨0x4004102C + 0x80 * n, 0, 16, 0, .rws⟩
def CEN_LSHP_fam : RegFam := ⟨0x4004102C, [(0x80, 96)], fun i => [CEN_LSHP_RATE (i.getD 0 0), CEN_LSHP_DB (i.getD 0 0)]⟩

def CEN_LTIM_PERIOD (n : Nat) : Fld := ⟨0x40041030 + 0x80 * n, 16, 16, 0x3e8, .rws⟩
def CEN_LTIM_OFS (n : Nat) : Fld := ⟨0x40041030 + 0x80 * n, 0, 16, 0, .rws⟩
def CEN_LTIM_fam : RegFam := ⟨0x40041030, [(0x80, 96)], fun i => [CEN_LTIM_PERIOD (i.getD 0 0), CEN_LTIM_OFS (i.getD 0 0)]⟩

def CEN_LSUP_STO (n : Nat) : Fld := ⟨0x40041034 + 0x80 * n, 24, 8, 0, .rws⟩
def CEN_LSUP_LATMAX (n : Nat) : Fld := ⟨0x40041034 + 0x80 * n, 12, 12, 0x190, .rws⟩
def CEN_LSUP_DTMAX (n : Nat) : Fld := ⟨0x40041034 + 0x80 * n, 0, 12, 0x64, .rws⟩
def CEN_LSUP_fam : RegFam := ⟨0x40041034, [(0x80, 96)], fun i => [CEN_LSUP_STO (i.getD 0 0), CEN_LSUP_LATMAX (i.getD 0 0), CEN_LSUP_DTMAX (i.getD 0 0)]⟩

def CEN_LSETP_SETP (n : Nat) : Fld := ⟨0x40041038 + 0x80 * n, 0, 32, 0, .rw⟩
def CEN_LSETP_fam : RegFam := ⟨0x40041038, [(0x80, 96)], fun i => [CEN_LSETP_SETP (i.getD 0 0)]⟩

def CEN_LMAN_MANOUT (n : Nat) : Fld := ⟨0x4004103C + 0x80 * n, 0, 32, 0, .rw⟩
def CEN_LMAN_fam : RegFam := ⟨0x4004103C, [(0x80, 96)], fun i => [CEN_LMAN_MANOUT (i.getD 0 0)]⟩

def CEN_LCMD_CMD (n : Nat) : Fld := ⟨0x40041040 + 0x80 * n, 0, 3, 0, .wo⟩
def CEN_LCMD_fam : RegFam := ⟨0x40041040, [(0x80, 96)], fun i => [CEN_LCMD_CMD (i.getD 0 0)]⟩

def CEN_LSTAT_STATE (n : Nat) : Fld := ⟨0x40041044 + 0x80 * n, 29, 3, 0, .ro⟩
def CEN_LSTAT_CAUSE (n : Nat) : Fld := ⟨0x40041044 + 0x80 * n, 26, 3, 0, .ro⟩
def CEN_LSTAT_SATH (n : Nat) : Fld := ⟨0x40041044 + 0x80 * n, 25, 1, 0, .ro⟩
def CEN_LSTAT_SATL (n : Nat) : Fld := ⟨0x40041044 + 0x80 * n, 24, 1, 0, .ro⟩
def CEN_LSTAT_IFRZ (n : Nat) : Fld := ⟨0x40041044 + 0x80 * n, 23, 1, 0, .ro⟩
def CEN_LSTAT_IDXINV (n : Nat) : Fld := ⟨0x40041044 + 0x80 * n, 22, 1, 0, .ro⟩
def CEN_LSTAT_PARREV (n : Nat) : Fld := ⟨0x40041044 + 0x80 * n, 0, 16, 0, .ro⟩
def CEN_LSTAT_fam : RegFam := ⟨0x40041044, [(0x80, 96)], fun i => [CEN_LSTAT_STATE (i.getD 0 0), CEN_LSTAT_CAUSE (i.getD 0 0), CEN_LSTAT_SATH (i.getD 0 0), CEN_LSTAT_SATL (i.getD 0 0), CEN_LSTAT_IFRZ (i.getD 0 0), CEN_LSTAT_IDXINV (i.getD 0 0), CEN_LSTAT_PARREV (i.getD 0 0)]⟩

def CEN_LOUT_U (n : Nat) : Fld := ⟨0x40041048 + 0x80 * n, 0, 32, 0, .ro⟩
def CEN_LOUT_fam : RegFam := ⟨0x40041048, [(0x80, 96)], fun i => [CEN_LOUT_U (i.getD 0 0)]⟩

def CEN_LY_Y (n : Nat) : Fld := ⟨0x4004104C + 0x80 * n, 0, 32, 0, .ro⟩
def CEN_LY_fam : RegFam := ⟨0x4004104C, [(0x80, 96)], fun i => [CEN_LY_Y (i.getD 0 0)]⟩

def CEN_LI_I (n : Nat) : Fld := ⟨0x40041050 + 0x80 * n, 0, 32, 0, .ro⟩
def CEN_LI_fam : RegFam := ⟨0x40041050, [(0x80, 96)], fun i => [CEN_LI_I (i.getD 0 0)]⟩

def CEN_LLAT_LAT (n : Nat) : Fld := ⟨0x40041054 + 0x80 * n, 16, 16, 0, .ro⟩
def CEN_LLAT_LATPK (n : Nat) : Fld := ⟨0x40041054 + 0x80 * n, 0, 16, 0, .rw⟩
def CEN_LLAT_fam : RegFam := ⟨0x40041054, [(0x80, 96)], fun i => [CEN_LLAT_LAT (i.getD 0 0), CEN_LLAT_LATPK (i.getD 0 0)]⟩

def CEN_LTRG_TRG (n : Nat) : Fld := ⟨0x40041058 + 0x80 * n, 0, 32, 0, .ro⟩
def CEN_LTRG_fam : RegFam := ⟨0x40041058, [(0x80, 96)], fun i => [CEN_LTRG_TRG (i.getD 0 0)]⟩

def CEN_LCNT_CNT (n : Nat) : Fld := ⟨0x4004105C + 0x80 * n, 0, 32, 0, .ro⟩
def CEN_LCNT_fam : RegFam := ⟨0x4004105C, [(0x80, 96)], fun i => [CEN_LCNT_CNT (i.getD 0 0)]⟩

def CEN_LFLAG_FBINV (n : Nat) : Fld := ⟨0x40041060 + 0x80 * n, 4, 1, 0, .w1c⟩
def CEN_LFLAG_NOSAMP (n : Nat) : Fld := ⟨0x40041060 + 0x80 * n, 3, 1, 0, .w1c⟩
def CEN_LFLAG_LATE (n : Nat) : Fld := ⟨0x40041060 + 0x80 * n, 2, 1, 0, .w1c⟩
def CEN_LFLAG_OVR (n : Nat) : Fld := ⟨0x40041060 + 0x80 * n, 1, 1, 0, .w1c⟩
def CEN_LFLAG_SAT (n : Nat) : Fld := ⟨0x40041060 + 0x80 * n, 0, 1, 0, .w1c⟩
def CEN_LFLAG_fam : RegFam := ⟨0x40041060, [(0x80, 96)], fun i => [CEN_LFLAG_FBINV (i.getD 0 0), CEN_LFLAG_NOSAMP (i.getD 0 0), CEN_LFLAG_LATE (i.getD 0 0), CEN_LFLAG_OVR (i.getD 0 0), CEN_LFLAG_SAT (i.getD 0 0)]⟩

def CEN_LOVR_LATECNT (n : Nat) : Fld := ⟨0x40041064 + 0x80 * n, 16, 16, 0, .rw⟩
def CEN_LOVR_OVRCNT (n : Nat) : Fld := ⟨0x40041064 + 0x80 * n, 0, 16, 0, .rw⟩
def CEN_LOVR_fam : RegFam := ⟨0x40041064, [(0x80, 96)], fun i => [CEN_LOVR_LATECNT (i.getD 0 0), CEN_LOVR_OVRCNT (i.getD 0 0)]⟩

def CEN_FCFG_APATH (n : Nat) : Fld := ⟨0x40044000 + 0x40 * n, 29, 3, 0, .rws⟩
def CEN_FCFG_OUTA (n : Nat) : Fld := ⟨0x40044000 + 0x40 * n, 22, 7, 0, .rws⟩
def CEN_FCFG_OUTB (n : Nat) : Fld := ⟨0x40044000 + 0x40 * n, 15, 7, 0x7f, .rws⟩
def CEN_FCFG_LOOP (n : Nat) : Fld := ⟨0x40044000 + 0x40 * n, 8, 7, 0x7f, .rws⟩
def CEN_FCFG_FAILACT (n : Nat) : Fld := ⟨0x40044000 + 0x40 * n, 6, 2, 1, .rws⟩
def CEN_FCFG_PWM (n : Nat) : Fld := ⟨0x40044000 + 0x40 * n, 5, 1, 0, .rws⟩
def CEN_FCFG_fam : RegFam := ⟨0x40044000, [(0x40, 48)], fun i => [CEN_FCFG_APATH (i.getD 0 0), CEN_FCFG_OUTA (i.getD 0 0), CEN_FCFG_OUTB (i.getD 0 0), CEN_FCFG_LOOP (i.getD 0 0), CEN_FCFG_FAILACT (i.getD 0 0), CEN_FCFG_PWM (i.getD 0 0)]⟩

def CEN_FSPMAX_SPMAX (n : Nat) : Fld := ⟨0x40044004 + 0x40 * n, 0, 32, 0, .rws⟩
def CEN_FSPMAX_fam : RegFam := ⟨0x40044004, [(0x40, 48)], fun i => [CEN_FSPMAX_SPMAX (i.getD 0 0)]⟩

def CEN_FSPMIN_SPMIN (n : Nat) : Fld := ⟨0x40044008 + 0x40 * n, 0, 32, 0, .rws⟩
def CEN_FSPMIN_fam : RegFam := ⟨0x40044008, [(0x40, 48)], fun i => [CEN_FSPMIN_SPMIN (i.getD 0 0)]⟩

def CEN_FSPRATE_SPRATE (n : Nat) : Fld := ⟨0x4004400C + 0x40 * n, 0, 32, 0, .rws⟩
def CEN_FSPRATE_fam : RegFam := ⟨0x4004400C, [(0x40, 48)], fun i => [CEN_FSPRATE_SPRATE (i.getD 0 0)]⟩

def CEN_FSAFE_SAFEU (n : Nat) : Fld := ⟨0x40044010 + 0x40 * n, 0, 32, 0, .rws⟩
def CEN_FSAFE_fam : RegFam := ⟨0x40044010, [(0x40, 48)], fun i => [CEN_FSAFE_SAFEU (i.getD 0 0)]⟩

def CEN_FIL0_SRCA (n : Nat) : Fld := ⟨0x40044014 + 0x40 * n, 24, 8, 0, .rws⟩
def CEN_FIL0_SRCB (n : Nat) : Fld := ⟨0x40044014 + 0x40 * n, 8, 8, 0, .rws⟩
def CEN_FIL0_POLA (n : Nat) : Fld := ⟨0x40044014 + 0x40 * n, 23, 1, 0, .rws⟩
def CEN_FIL0_POLB (n : Nat) : Fld := ⟨0x40044014 + 0x40 * n, 7, 1, 0, .rws⟩
def CEN_FIL0_ACTA (n : Nat) : Fld := ⟨0x40044014 + 0x40 * n, 22, 1, 0, .rws⟩
def CEN_FIL0_ACTB (n : Nat) : Fld := ⟨0x40044014 + 0x40 * n, 6, 1, 0, .rws⟩
def CEN_FIL0_LATCHA (n : Nat) : Fld := ⟨0x40044014 + 0x40 * n, 21, 1, 0, .rws⟩
def CEN_FIL0_LATCHB (n : Nat) : Fld := ⟨0x40044014 + 0x40 * n, 5, 1, 0, .rws⟩
def CEN_FIL0_fam : RegFam := ⟨0x40044014, [(0x40, 48)], fun i => [CEN_FIL0_SRCA (i.getD 0 0), CEN_FIL0_SRCB (i.getD 0 0), CEN_FIL0_POLA (i.getD 0 0), CEN_FIL0_POLB (i.getD 0 0), CEN_FIL0_ACTA (i.getD 0 0), CEN_FIL0_ACTB (i.getD 0 0), CEN_FIL0_LATCHA (i.getD 0 0), CEN_FIL0_LATCHB (i.getD 0 0)]⟩

def CEN_FIL1_SRCA (n : Nat) : Fld := ⟨0x40044018 + 0x40 * n, 24, 8, 0, .rws⟩
def CEN_FIL1_SRCB (n : Nat) : Fld := ⟨0x40044018 + 0x40 * n, 8, 8, 0, .rws⟩
def CEN_FIL1_POLA (n : Nat) : Fld := ⟨0x40044018 + 0x40 * n, 23, 1, 0, .rws⟩
def CEN_FIL1_POLB (n : Nat) : Fld := ⟨0x40044018 + 0x40 * n, 7, 1, 0, .rws⟩
def CEN_FIL1_ACTA (n : Nat) : Fld := ⟨0x40044018 + 0x40 * n, 22, 1, 0, .rws⟩
def CEN_FIL1_ACTB (n : Nat) : Fld := ⟨0x40044018 + 0x40 * n, 6, 1, 0, .rws⟩
def CEN_FIL1_LATCHA (n : Nat) : Fld := ⟨0x40044018 + 0x40 * n, 21, 1, 0, .rws⟩
def CEN_FIL1_LATCHB (n : Nat) : Fld := ⟨0x40044018 + 0x40 * n, 5, 1, 0, .rws⟩
def CEN_FIL1_fam : RegFam := ⟨0x40044018, [(0x40, 48)], fun i => [CEN_FIL1_SRCA (i.getD 0 0), CEN_FIL1_SRCB (i.getD 0 0), CEN_FIL1_POLA (i.getD 0 0), CEN_FIL1_POLB (i.getD 0 0), CEN_FIL1_ACTA (i.getD 0 0), CEN_FIL1_ACTB (i.getD 0 0), CEN_FIL1_LATCHA (i.getD 0 0), CEN_FIL1_LATCHB (i.getD 0 0)]⟩

def CEN_FTGT_TARGET (n : Nat) : Fld := ⟨0x4004401C + 0x40 * n, 0, 32, 0, .rw⟩
def CEN_FTGT_fam : RegFam := ⟨0x4004401C, [(0x40, 48)], fun i => [CEN_FTGT_TARGET (i.getD 0 0)]⟩

def CEN_FCMD_CMD (n : Nat) : Fld := ⟨0x40044020 + 0x40 * n, 0, 2, 0, .wo⟩
def CEN_FCMD_fam : RegFam := ⟨0x40044020, [(0x40, 48)], fun i => [CEN_FCMD_CMD (i.getD 0 0)]⟩

def CEN_FSTAT_STATE (n : Nat) : Fld := ⟨0x40044024 + 0x40 * n, 29, 3, 0, .ro⟩
def CEN_FSTAT_CAUSE (n : Nat) : Fld := ⟨0x40044024 + 0x40 * n, 25, 4, 0, .ro⟩
def CEN_FSTAT_TCLAMP (n : Nat) : Fld := ⟨0x40044024 + 0x40 * n, 24, 1, 0, .ro⟩
def CEN_FSTAT_ILBLK (n : Nat) : Fld := ⟨0x40044024 + 0x40 * n, 20, 4, 0, .ro⟩
def CEN_FSTAT_fam : RegFam := ⟨0x40044024, [(0x40, 48)], fun i => [CEN_FSTAT_STATE (i.getD 0 0), CEN_FSTAT_CAUSE (i.getD 0 0), CEN_FSTAT_TCLAMP (i.getD 0 0), CEN_FSTAT_ILBLK (i.getD 0 0)]⟩

def CEN_FSP_SP (n : Nat) : Fld := ⟨0x40044028 + 0x40 * n, 0, 32, 0, .ro⟩
def CEN_FSP_fam : RegFam := ⟨0x40044028, [(0x40, 48)], fun i => [CEN_FSP_SP (i.getD 0 0)]⟩

def CEN_DMID_IDE (n : Nat) : Fld := ⟨0x40045000 + 0x10 * n, 31, 1, 0, .rws⟩
def CEN_DMID_FDF (n : Nat) : Fld := ⟨0x40045000 + 0x10 * n, 30, 1, 0, .rws⟩
def CEN_DMID_ID (n : Nat) : Fld := ⟨0x40045000 + 0x10 * n, 0, 29, 0, .rws⟩
def CEN_DMID_fam : RegFam := ⟨0x40045000, [(0x10, 8)], fun i => [CEN_DMID_IDE (i.getD 0 0), CEN_DMID_FDF (i.getD 0 0), CEN_DMID_ID (i.getD 0 0)]⟩

def CEN_DMFMT_CF (n : Nat) : Fld := ⟨0x40045004 + 0x10 * n, 29, 3, 0, .rws⟩
def CEN_DMFMT_DLC (n : Nat) : Fld := ⟨0x40045004 + 0x10 * n, 25, 4, 8, .rws⟩
def CEN_DMFMT_BOFS (n : Nat) : Fld := ⟨0x40045004 + 0x10 * n, 19, 6, 0, .rws⟩
def CEN_DMFMT_WIDTH (n : Nat) : Fld := ⟨0x40045004 + 0x10 * n, 17, 2, 1, .rws⟩
def CEN_DMFMT_BE (n : Nat) : Fld := ⟨0x40045004 + 0x10 * n, 16, 1, 0, .rws⟩
def CEN_DMFMT_FILL (n : Nat) : Fld := ⟨0x40045004 + 0x10 * n, 8, 8, 0xff, .rws⟩
def CEN_DMFMT_fam : RegFam := ⟨0x40045004, [(0x10, 8)], fun i => [CEN_DMFMT_CF (i.getD 0 0), CEN_DMFMT_DLC (i.getD 0 0), CEN_DMFMT_BOFS (i.getD 0 0), CEN_DMFMT_WIDTH (i.getD 0 0), CEN_DMFMT_BE (i.getD 0 0), CEN_DMFMT_FILL (i.getD 0 0)]⟩

def CEN_DMSCL_SCL (n : Nat) : Fld := ⟨0x40045008 + 0x10 * n, 0, 32, 0x10000, .rws⟩
def CEN_DMSCL_fam : RegFam := ⟨0x40045008, [(0x10, 8)], fun i => [CEN_DMSCL_SCL (i.getD 0 0)]⟩

def CEN_DMSTAT_SENT (n : Nat) : Fld := ⟨0x4004500C + 0x10 * n, 16, 16, 0, .ro⟩
def CEN_DMSTAT_REPL (n : Nat) : Fld := ⟨0x4004500C + 0x10 * n, 0, 16, 0, .rw⟩
def CEN_DMSTAT_fam : RegFam := ⟨0x4004500C, [(0x10, 8)], fun i => [CEN_DMSTAT_SENT (i.getD 0 0), CEN_DMSTAT_REPL (i.getD 0 0)]⟩

/-- Every register of CEN that has fields. -/
def CEN_fams : List RegFam :=
  [CEN_STAT_fam, CEN_INTSTAT_fam, CEN_INTEN_fam, CEN_LOAD_fam, CEN_SWTRIG_fam, CEN_HOSTPERM_fam, CEN_TRWR_fam, CEN_TRRD_fam, CEN_TRDROP_fam, CEN_TSEL_fam, CEN_TDATA_fam, CEN_XFB_fam, CEN_LCTL_fam, CEN_LFB_fam, CEN_LFBG_fam, CEN_LFBO_fam, CEN_LKP_fam, CEN_LKI_fam, CEN_LKD_fam, CEN_LKFF_fam] ++
  [CEN_LFFO_fam, CEN_LUMAX_fam, CEN_LUMIN_fam, CEN_LSHP_fam, CEN_LTIM_fam, CEN_LSUP_fam, CEN_LSETP_fam, CEN_LMAN_fam, CEN_LCMD_fam, CEN_LSTAT_fam, CEN_LOUT_fam, CEN_LY_fam, CEN_LI_fam, CEN_LLAT_fam, CEN_LTRG_fam, CEN_LCNT_fam, CEN_LFLAG_fam, CEN_LOVR_fam, CEN_FCFG_fam, CEN_FSPMAX_fam] ++
  [CEN_FSPMIN_fam, CEN_FSPRATE_fam, CEN_FSAFE_fam, CEN_FIL0_fam, CEN_FIL1_fam, CEN_FTGT_fam, CEN_FCMD_fam, CEN_FSTAT_fam, CEN_FSP_fam, CEN_DMID_fam, CEN_DMFMT_fam, CEN_DMSCL_fam, CEN_DMSTAT_fam]

end Sys2Proof.Machine
end

