-- ==== Sys2Proof/Machine/RegETH.lean ====
section
/-!
DEFINITION. The register fields of ETH, as the register tables of spec/12_field_buses_and_fleet_link.md list them:
address, lowest bit, width, access code (Table 0.4) and reset value. Reserved bits (R6) are no field.
-/
namespace Sys2Proof.Machine

def ETH_STAT_LINK : Fld := ⟨0x400D0000, 24, 7, 0x40, .ro⟩
def ETH_STAT_PTPROLE : Fld := ⟨0x400D0000, 22, 2, 0, .ro⟩
def ETH_STAT_GMCLASS : Fld := ⟨0x400D0000, 14, 8, 0xf8, .ro⟩
def ETH_STAT_fam : RegFam := ⟨0x400D0000, [], fun _ => [ETH_STAT_LINK, ETH_STAT_PTPROLE, ETH_STAT_GMCLASS]⟩

def ETH_INTSTAT_FLAGS : Fld := ⟨0x400D0004, 0, 6, 0, .w1c⟩
def ETH_INTSTAT_fam : RegFam := ⟨0x400D0004, [], fun _ => [ETH_INTSTAT_FLAGS]⟩

def ETH_INTEN_IEN : Fld := ⟨0x400D0008, 0, 6, 0, .rw⟩
def ETH_INTEN_fam : RegFam := ⟨0x400D0008, [], fun _ => [ETH_INTEN_IEN]⟩

def ETH_PTPCTL_EN : Fld := ⟨0x400D0010, 31, 1, 0, .rws⟩
def ETH_PTPCTL_GMCAP : Fld := ⟨0x400D0010, 30, 1, 0, .rws⟩
def ETH_PTPCTL_PRIO1 : Fld := ⟨0x400D0010, 22, 8, 0xf8, .rws⟩
def ETH_PTPCTL_PRIO2 : Fld := ⟨0x400D0010, 14, 8, 0xf8, .rws⟩
def ETH_PTPCTL_DOMAIN : Fld := ⟨0x400D0010, 6, 8, 0, .rws⟩
def ETH_PTPCTL_fam : RegFam := ⟨0x400D0010, [], fun _ => [ETH_PTPCTL_EN, ETH_PTPCTL_GMCAP, ETH_PTPCTL_PRIO1, ETH_PTPCTL_PRIO2, ETH_PTPCTL_DOMAIN]⟩

def ETH_PTPOFSLO_OFS : Fld := ⟨0x400D0014, 0, 32, 0, .ro⟩
def ETH_PTPOFSLO_fam : RegFam := ⟨0x400D0014, [], fun _ => [ETH_PTPOFSLO_OFS]⟩

def ETH_PTPOFSHI_OFS : Fld := ⟨0x400D0018, 0, 32, 0, .ro⟩
def ETH_PTPOFSHI_fam : RegFam := ⟨0x400D0018, [], fun _ => [ETH_PTPOFSHI_OFS]⟩

def ETH_HRXR_BASE : Fld := ⟨0x400D0020, 12, 20, 0, .rws⟩
def ETH_HRXR_SIZE : Fld := ⟨0x400D0020, 0, 3, 4, .rws⟩
def ETH_HRXR_fam : RegFam := ⟨0x400D0020, [], fun _ => [ETH_HRXR_BASE, ETH_HRXR_SIZE]⟩

def ETH_HTXR_BASE : Fld := ⟨0x400D0024, 12, 20, 0, .rws⟩
def ETH_HTXR_SIZE : Fld := ⟨0x400D0024, 0, 3, 4, .rws⟩
def ETH_HTXR_fam : RegFam := ⟨0x400D0024, [], fun _ => [ETH_HTXR_BASE, ETH_HTXR_SIZE]⟩

def ETH_HRXWR_IDX : Fld := ⟨0x400D0028, 0, 11, 0, .ro⟩
def ETH_HRXWR_fam : RegFam := ⟨0x400D0028, [], fun _ => [ETH_HRXWR_IDX]⟩

def ETH_HRXRD_IDX : Fld := ⟨0x400D002C, 0, 11, 0, .rw⟩
def ETH_HRXRD_fam : RegFam := ⟨0x400D002C, [], fun _ => [ETH_HRXRD_IDX]⟩

def ETH_HTXWR_IDX : Fld := ⟨0x400D0030, 0, 11, 0, .rw⟩
def ETH_HTXWR_fam : RegFam := ⟨0x400D0030, [], fun _ => [ETH_HTXWR_IDX]⟩

def ETH_HTXRD_IDX : Fld := ⟨0x400D0034, 0, 11, 0, .ro⟩
def ETH_HTXRD_fam : RegFam := ⟨0x400D0034, [], fun _ => [ETH_HTXRD_IDX]⟩

def ETH_PCTL_EN (n : Nat) : Fld := ⟨0x400D0100 + 0x20 * n, 31, 1, 0, .rws⟩
def ETH_PCTL_ROLE (n : Nat) : Fld := ⟨0x400D0100 + 0x20 * n, 30, 1, 0, .rws⟩
def ETH_PCTL_PTPEN (n : Nat) : Fld := ⟨0x400D0100 + 0x20 * n, 29, 1, 0, .rws⟩
def ETH_PCTL_PVID (n : Nat) : Fld := ⟨0x400D0100 + 0x20 * n, 16, 12, 1, .rws⟩
def ETH_PCTL_fam : RegFam := ⟨0x400D0100, [(0x20, 7)], fun i => [ETH_PCTL_EN (i.getD 0 0), ETH_PCTL_ROLE (i.getD 0 0), ETH_PCTL_PTPEN (i.getD 0 0), ETH_PCTL_PVID (i.getD 0 0)]⟩

def ETH_PSTAT_LINK (n : Nat) : Fld := ⟨0x400D0104 + 0x20 * n, 31, 1, 0, .ro⟩
def ETH_PSTAT_SQI (n : Nat) : Fld := ⟨0x400D0104 + 0x20 * n, 28, 3, 0, .ro⟩
def ETH_PSTAT_PTPSTATE (n : Nat) : Fld := ⟨0x400D0104 + 0x20 * n, 26, 2, 0, .ro⟩
def ETH_PSTAT_fam : RegFam := ⟨0x400D0104, [(0x20, 7)], fun i => [ETH_PSTAT_LINK (i.getD 0 0), ETH_PSTAT_SQI (i.getD 0 0), ETH_PSTAT_PTPSTATE (i.getD 0 0)]⟩

def ETH_PCNT_RXDROP (n : Nat) : Fld := ⟨0x400D0108 + 0x20 * n, 16, 16, 0, .rw⟩
def ETH_PCNT_RXERR (n : Nat) : Fld := ⟨0x400D0108 + 0x20 * n, 0, 16, 0, .rw⟩
def ETH_PCNT_fam : RegFam := ⟨0x400D0108, [(0x20, 7)], fun i => [ETH_PCNT_RXDROP (i.getD 0 0), ETH_PCNT_RXERR (i.getD 0 0)]⟩

def ETH_VLAN_VALID (n : Nat) : Fld := ⟨0x400D0200 + 0x4 * n, 31, 1, if n = 0 then 1 else 0, .rws⟩
def ETH_VLAN_MEMBER (n : Nat) : Fld := ⟨0x400D0200 + 0x4 * n, 12, 7, if n = 0 then 0x7F else 0, .rws⟩
def ETH_VLAN_UNTAG (n : Nat) : Fld := ⟨0x400D0200 + 0x4 * n, 5, 7, if n = 0 then 0x7F else 0, .rws⟩
def ETH_VLAN_VID (n : Nat) : Fld := ⟨0x400D0200 + 0x4 * n, 19, 12, 1, .rws⟩
def ETH_VLAN_fam : RegFam := ⟨0x400D0200, [(0x4, 16)], fun i => [ETH_VLAN_VALID (i.getD 0 0), ETH_VLAN_MEMBER (i.getD 0 0), ETH_VLAN_UNTAG (i.getD 0 0), ETH_VLAN_VID (i.getD 0 0)]⟩

/-- Every register of ETH that has fields. -/
def ETH_fams : List RegFam :=
  [ETH_STAT_fam, ETH_INTSTAT_fam, ETH_INTEN_fam, ETH_PTPCTL_fam, ETH_PTPOFSLO_fam, ETH_PTPOFSHI_fam, ETH_HRXR_fam, ETH_HTXR_fam, ETH_HRXWR_fam, ETH_HRXRD_fam, ETH_HTXWR_fam, ETH_HTXRD_fam, ETH_PCTL_fam, ETH_PSTAT_fam, ETH_PCNT_fam, ETH_VLAN_fam]

end Sys2Proof.Machine
end

