-- ==== Sys2Proof/Machine/RegFLT.lean ====
section
/-!
DEFINITION. The register fields of FLT, as the register tables of spec/12_field_buses_and_fleet_link.md list them:
address, lowest bit, width, access code (Table 0.4) and reset value. Reserved bits (R6) are no field.
-/
namespace Sys2Proof.Machine

def FLT_STAT_NUP : Fld := ⟨0x400E0000, 25, 7, 0, .ro⟩
def FLT_STAT_QFULL : Fld := ⟨0x400E0000, 24, 1, 0, .ro⟩
def FLT_STAT_fam : RegFam := ⟨0x400E0000, [], fun _ => [FLT_STAT_NUP, FLT_STAT_QFULL]⟩

def FLT_QSTAT_USED : Fld := ⟨0x400E0004, 0, 32, 0, .ro⟩
def FLT_QSTAT_fam : RegFam := ⟨0x400E0004, [], fun _ => [FLT_QSTAT_USED]⟩

def FLT_INTSTAT_FLAGS : Fld := ⟨0x400E0008, 0, 7, 0, .w1c⟩
def FLT_INTSTAT_fam : RegFam := ⟨0x400E0008, [], fun _ => [FLT_INTSTAT_FLAGS]⟩

def FLT_INTEN_IEN : Fld := ⟨0x400E000C, 0, 7, 0, .rw⟩
def FLT_INTEN_fam : RegFam := ⟨0x400E000C, [], fun _ => [FLT_INTEN_IEN]⟩

def FLT_IP_ADDR : Fld := ⟨0x400E0010, 0, 32, 0, .rws⟩
def FLT_IP_fam : RegFam := ⟨0x400E0010, [], fun _ => [FLT_IP_ADDR]⟩

def FLT_GW_ADDR : Fld := ⟨0x400E0014, 0, 32, 0, .rws⟩
def FLT_GW_fam : RegFam := ⟨0x400E0014, [], fun _ => [FLT_GW_ADDR]⟩

def FLT_NET_PREFIX : Fld := ⟨0x400E0018, 26, 6, 0x18, .rws⟩
def FLT_NET_VID : Fld := ⟨0x400E0018, 14, 12, 1, .rws⟩
def FLT_NET_fam : RegFam := ⟨0x400E0018, [], fun _ => [FLT_NET_PREFIX, FLT_NET_VID]⟩

def FLT_UDP_LPORT : Fld := ⟨0x400E001C, 16, 16, 0x2e7c, .rws⟩
def FLT_UDP_fam : RegFam := ⟨0x400E001C, [], fun _ => [FLT_UDP_LPORT]⟩

def FLT_SUBA_ADDR : Fld := ⟨0x400E0020, 0, 32, 0, .rw⟩
def FLT_SUBA_fam : RegFam := ⟨0x400E0020, [], fun _ => [FLT_SUBA_ADDR]⟩

def FLT_SUBC_SESS : Fld := ⟨0x400E0024, 26, 6, 0, .rw⟩
def FLT_SUBC_PRIO : Fld := ⟨0x400E0024, 24, 2, 0, .rw⟩
def FLT_SUBC_LEN : Fld := ⟨0x400E0024, 0, 11, 0, .rw⟩
def FLT_SUBC_fam : RegFam := ⟨0x400E0024, [], fun _ => [FLT_SUBC_SESS, FLT_SUBC_PRIO, FLT_SUBC_LEN]⟩

def FLT_SUBGO_GO : Fld := ⟨0x400E0028, 0, 32, 0, .ws⟩
def FLT_SUBGO_fam : RegFam := ⟨0x400E0028, [], fun _ => [FLT_SUBGO_GO]⟩

def FLT_SUBRES_BUSY : Fld := ⟨0x400E002C, 31, 1, 0, .ro⟩
def FLT_SUBRES_STATUS : Fld := ⟨0x400E002C, 28, 3, 0, .ro⟩
def FLT_SUBRES_fam : RegFam := ⟨0x400E002C, [], fun _ => [FLT_SUBRES_BUSY, FLT_SUBRES_STATUS]⟩

def FLT_SUBSEQ_SEQ : Fld := ⟨0x400E0030, 0, 32, 0, .ro⟩
def FLT_SUBSEQ_fam : RegFam := ⟨0x400E0030, [], fun _ => [FLT_SUBSEQ_SEQ]⟩

def FLT_RXR_BASE : Fld := ⟨0x400E0040, 12, 20, 0, .rws⟩
def FLT_RXR_fam : RegFam := ⟨0x400E0040, [], fun _ => [FLT_RXR_BASE]⟩

def FLT_RXWR_IDX : Fld := ⟨0x400E0044, 0, 9, 0, .ro⟩
def FLT_RXWR_fam : RegFam := ⟨0x400E0044, [], fun _ => [FLT_RXWR_IDX]⟩

def FLT_RXRD_IDX : Fld := ⟨0x400E0048, 0, 9, 0, .rw⟩
def FLT_RXRD_fam : RegFam := ⟨0x400E0048, [], fun _ => [FLT_RXRD_IDX]⟩

def FLT_KCMD_SLOT : Fld := ⟨0x400E0050, 4, 3, 0, .wo⟩
def FLT_KCMD_CMD : Fld := ⟨0x400E0050, 0, 4, 0, .wo⟩
def FLT_KCMD_fam : RegFam := ⟨0x400E0050, [], fun _ => [FLT_KCMD_SLOT, FLT_KCMD_CMD]⟩

def FLT_SCFG_EN (n : Nat) : Fld := ⟨0x400E1000 + 0x10 * n, 31, 1, 0, .rws⟩
def FLT_SCFG_ROLE (n : Nat) : Fld := ⟨0x400E1000 + 0x10 * n, 30, 1, 0, .rws⟩
def FLT_SCFG_KEY (n : Nat) : Fld := ⟨0x400E1000 + 0x10 * n, 27, 3, 0, .rws⟩
def FLT_SCFG_ANCHOR (n : Nat) : Fld := ⟨0x400E1000 + 0x10 * n, 24, 3, 0, .rws⟩
def FLT_SCFG_fam : RegFam := ⟨0x400E1000, [(0x10, 64)], fun i => [FLT_SCFG_EN (i.getD 0 0), FLT_SCFG_ROLE (i.getD 0 0), FLT_SCFG_KEY (i.getD 0 0), FLT_SCFG_ANCHOR (i.getD 0 0)]⟩

def FLT_SPEER_PEER (n : Nat) : Fld := ⟨0x400E1004 + 0x10 * n, 0, 32, 0, .rws⟩
def FLT_SPEER_fam : RegFam := ⟨0x400E1004, [(0x10, 64)], fun i => [FLT_SPEER_PEER (i.getD 0 0)]⟩

def FLT_SPORT_PPORT (n : Nat) : Fld := ⟨0x400E1008 + 0x10 * n, 16, 16, 0x2e7c, .rws⟩
def FLT_SPORT_fam : RegFam := ⟨0x400E1008, [(0x10, 64)], fun i => [FLT_SPORT_PPORT (i.getD 0 0)]⟩

def FLT_SSTAT_STATE (n : Nat) : Fld := ⟨0x400E100C + 0x10 * n, 29, 3, 0, .ro⟩
def FLT_SSTAT_NOTIME (n : Nat) : Fld := ⟨0x400E100C + 0x10 * n, 28, 1, 0, .ro⟩
def FLT_SSTAT_QREC (n : Nat) : Fld := ⟨0x400E100C + 0x10 * n, 0, 24, 0, .ro⟩
def FLT_SSTAT_fam : RegFam := ⟨0x400E100C, [(0x10, 64)], fun i => [FLT_SSTAT_STATE (i.getD 0 0), FLT_SSTAT_NOTIME (i.getD 0 0), FLT_SSTAT_QREC (i.getD 0 0)]⟩

/-- Every register of FLT that has fields. -/
def FLT_fams : List RegFam :=
  [FLT_STAT_fam, FLT_QSTAT_fam, FLT_INTSTAT_fam, FLT_INTEN_fam, FLT_IP_fam, FLT_GW_fam, FLT_NET_fam, FLT_UDP_fam, FLT_SUBA_fam, FLT_SUBC_fam, FLT_SUBGO_fam, FLT_SUBRES_fam, FLT_SUBSEQ_fam, FLT_RXR_fam, FLT_RXWR_fam, FLT_RXRD_fam, FLT_KCMD_fam, FLT_SCFG_fam, FLT_SPEER_fam, FLT_SPORT_fam] ++
  [FLT_SSTAT_fam]

end Sys2Proof.Machine
end

