-- ==== Sys2Proof/Machine/RegFUS.lean ====
section
/-!
DEFINITION. The register fields of FUS, as the register tables of spec/11_fusion_engine.md list them:
address, lowest bit, width, access code (Table 0.4) and reset value. Reserved bits (R6) are no field.
-/
namespace Sys2Proof.Machine

def FUS_STAT_ESTATE : Fld := ⟨0x40080000, 29, 3, 0, .ro⟩
def FUS_STAT_PRIM : Fld := ⟨0x40080000, 25, 4, 0xf, .ro⟩
def FUS_STAT_REPLAY : Fld := ⟨0x40080000, 24, 1, 0, .ro⟩
def FUS_STAT_TLVL : Fld := ⟨0x40080000, 22, 2, 0, .ro⟩
def FUS_STAT_QDEPTH : Fld := ⟨0x40080000, 15, 7, 0, .ro⟩
def FUS_STAT_fam : RegFam := ⟨0x40080000, [], fun _ => [FUS_STAT_ESTATE, FUS_STAT_PRIM, FUS_STAT_REPLAY, FUS_STAT_TLVL, FUS_STAT_QDEPTH]⟩

def FUS_INTSTAT_FENCE : Fld := ⟨0x40080004, 12, 1, 0, .w1c⟩
def FUS_INTSTAT_FAULT : Fld := ⟨0x40080004, 11, 1, 0, .w1c⟩
def FUS_INTSTAT_CALCONV : Fld := ⟨0x40080004, 10, 1, 0, .w1c⟩
def FUS_INTSTAT_CALBND : Fld := ⟨0x40080004, 9, 1, 0, .w1c⟩
def FUS_INTSTAT_IMUSW : Fld := ⟨0x40080004, 8, 1, 0, .w1c⟩
def FUS_INTSTAT_ESTATE : Fld := ⟨0x40080004, 7, 1, 0, .w1c⟩
def FUS_INTSTAT_OUTLIER : Fld := ⟨0x40080004, 6, 1, 0, .w1c⟩
def FUS_INTSTAT_STALE : Fld := ⟨0x40080004, 5, 1, 0, .w1c⟩
def FUS_INTSTAT_RESYNC : Fld := ⟨0x40080004, 4, 1, 0, .w1c⟩
def FUS_INTSTAT_LATEDROP : Fld := ⟨0x40080004, 3, 1, 0, .w1c⟩
def FUS_INTSTAT_REV : Fld := ⟨0x40080004, 2, 1, 0, .w1c⟩
def FUS_INTSTAT_ROVF : Fld := ⟨0x40080004, 1, 1, 0, .w1c⟩
def FUS_INTSTAT_RES : Fld := ⟨0x40080004, 0, 1, 0, .w1c⟩
def FUS_INTSTAT_fam : RegFam := ⟨0x40080004, [], fun _ => [FUS_INTSTAT_FENCE, FUS_INTSTAT_FAULT, FUS_INTSTAT_CALCONV, FUS_INTSTAT_CALBND, FUS_INTSTAT_IMUSW, FUS_INTSTAT_ESTATE, FUS_INTSTAT_OUTLIER, FUS_INTSTAT_STALE, FUS_INTSTAT_RESYNC, FUS_INTSTAT_LATEDROP, FUS_INTSTAT_REV, FUS_INTSTAT_ROVF, FUS_INTSTAT_RES]⟩

def FUS_INTEN_IEN : Fld := ⟨0x40080008, 0, 13, 0, .rw⟩
def FUS_INTEN_fam : RegFam := ⟨0x40080008, [], fun _ => [FUS_INTEN_IEN]⟩

def FUS_LOAD_BUSY : Fld := ⟨0x4008000C, 16, 16, 0, .ro⟩
def FUS_LOAD_QUIET : Fld := ⟨0x4008000C, 0, 16, 0, .ro⟩
def FUS_LOAD_fam : RegFam := ⟨0x4008000C, [], fun _ => [FUS_LOAD_BUSY, FUS_LOAD_QUIET]⟩

def FUS_CMD_SMASK : Fld := ⟨0x40080010, 8, 16, 0, .wo⟩
def FUS_CMD_CMD : Fld := ⟨0x40080010, 0, 4, 0, .wo⟩
def FUS_CMD_fam : RegFam := ⟨0x40080010, [], fun _ => [FUS_CMD_SMASK, FUS_CMD_CMD]⟩

def FUS_CTL_EN : Fld := ⟨0x40080014, 31, 1, 0, .rws⟩
def FUS_CTL_ORATE : Fld := ⟨0x40080014, 28, 3, 0, .rws⟩
def FUS_CTL_PRIMS : Fld := ⟨0x40080014, 24, 4, 0, .rws⟩
def FUS_CTL_ALT1 : Fld := ⟨0x40080014, 20, 4, 0xf, .rws⟩
def FUS_CTL_ALT2 : Fld := ⟨0x40080014, 16, 4, 0xf, .rws⟩
def FUS_CTL_REVDEC : Fld := ⟨0x40080014, 8, 8, 1, .rws⟩
def FUS_CTL_CALDWELL : Fld := ⟨0x40080014, 0, 8, 0x3c, .rws⟩
def FUS_CTL_fam : RegFam := ⟨0x40080014, [], fun _ => [FUS_CTL_EN, FUS_CTL_ORATE, FUS_CTL_PRIMS, FUS_CTL_ALT1, FUS_CTL_ALT2, FUS_CTL_REVDEC, FUS_CTL_CALDWELL]⟩

def FUS_LIM_HSTDMAX : Fld := ⟨0x40080018, 16, 16, 0x1f4, .rws⟩
def FUS_LIM_POSTO : Fld := ⟨0x40080018, 0, 16, 0x7d0, .rws⟩
def FUS_LIM_fam : RegFam := ⟨0x40080018, [], fun _ => [FUS_LIM_HSTDMAX, FUS_LIM_POSTO]⟩

def FUS_RESWR_IDX : Fld := ⟨0x40080020, 0, 10, 0, .ro⟩
def FUS_RESWR_fam : RegFam := ⟨0x40080020, [], fun _ => [FUS_RESWR_IDX]⟩

def FUS_RESRD_IDX : Fld := ⟨0x40080024, 0, 10, 0, .rw⟩
def FUS_RESRD_fam : RegFam := ⟨0x40080024, [], fun _ => [FUS_RESRD_IDX]⟩

def FUS_DROP_RESDROP : Fld := ⟨0x40080028, 16, 16, 0, .rw⟩
def FUS_DROP_LATEDROP : Fld := ⟨0x40080028, 0, 16, 0, .rw⟩
def FUS_DROP_fam : RegFam := ⟨0x40080028, [], fun _ => [FUS_DROP_RESDROP, FUS_DROP_LATEDROP]⟩

def FUS_RPCNT_REPLAYS : Fld := ⟨0x4008002C, 16, 16, 0, .rw⟩
def FUS_RPCNT_RESTARTS : Fld := ⟨0x4008002C, 0, 16, 0, .rw⟩
def FUS_RPCNT_fam : RegFam := ⟨0x4008002C, [], fun _ => [FUS_RPCNT_REPLAYS, FUS_RPCNT_RESTARTS]⟩

def FUS_RPMAX_SPAN : Fld := ⟨0x40080030, 0, 32, 0, .rw⟩
def FUS_RPMAX_fam : RegFam := ⟨0x40080030, [], fun _ => [FUS_RPMAX_SPAN]⟩

def FUS_LAST_WORD (n : Nat) : Fld := ⟨0x40080040 + 0x4 * n, 0, 32, 0, .ro⟩
def FUS_LAST_fam : RegFam := ⟨0x40080040, [(0x4, 16)], fun i => [FUS_LAST_WORD (i.getD 0 0)]⟩

def FUS_PW_W (n : Nat) (k : Nat) : Fld := ⟨0x40080100 + 0x80 * n + 0x4 * k, 0, 32, 0, .rw⟩
def FUS_PW_fam : RegFam := ⟨0x40080100, [(0x80, 4), (0x4, 16)], fun i => [FUS_PW_W (i.getD 0 0) (i.getD 1 0)]⟩

def FUS_PPUSH_GO (n : Nat) : Fld := ⟨0x40080140 + 0x80 * n, 0, 32, 0, .ws⟩
def FUS_PPUSH_fam : RegFam := ⟨0x40080140, [(0x80, 4)], fun i => [FUS_PPUSH_GO (i.getD 0 0)]⟩

def FUS_PRES_BUSY (n : Nat) : Fld := ⟨0x40080144 + 0x80 * n, 31, 1, 0, .ro⟩
def FUS_PRES_STATUS (n : Nat) : Fld := ⟨0x40080144 + 0x80 * n, 24, 4, 0, .ro⟩
def FUS_PRES_fam : RegFam := ⟨0x40080144, [(0x80, 4)], fun i => [FUS_PRES_BUSY (i.getD 0 0), FUS_PRES_STATUS (i.getD 0 0)]⟩

def FUS_SCFG_EN (n : Nat) : Fld := ⟨0x40081000 + 0x40 * n, 31, 1, 0, .rws⟩
def FUS_SCFG_TYPE (n : Nat) : Fld := ⟨0x40081000 + 0x40 * n, 27, 4, 0, .rws⟩
def FUS_SCFG_TSRC (n : Nat) : Fld := ⟨0x40081000 + 0x40 * n, 25, 2, 0, .rws⟩
def FUS_SCFG_CALEN (n : Nat) : Fld := ⟨0x40081000 + 0x40 * n, 24, 1, 0, .rws⟩
def FUS_SCFG_CALFRZ (n : Nat) : Fld := ⟨0x40081000 + 0x40 * n, 23, 1, 0, .rws⟩
def FUS_SCFG_SRC (n : Nat) : Fld := ⟨0x40081000 + 0x40 * n, 15, 8, 0, .rws⟩
def FUS_SCFG_fam : RegFam := ⟨0x40081000, [(0x40, 16)], fun i => [FUS_SCFG_EN (i.getD 0 0), FUS_SCFG_TYPE (i.getD 0 0), FUS_SCFG_TSRC (i.getD 0 0), FUS_SCFG_CALEN (i.getD 0 0), FUS_SCFG_CALFRZ (i.getD 0 0), FUS_SCFG_SRC (i.getD 0 0)]⟩

def FUS_SPER_PERIOD (n : Nat) : Fld := ⟨0x40081004 + 0x40 * n, 16, 16, 0x3e8, .rws⟩
def FUS_SPER_STALE (n : Nat) : Fld := ⟨0x40081004 + 0x40 * n, 0, 16, 0x64, .rws⟩
def FUS_SPER_fam : RegFam := ⟨0x40081004, [(0x40, 16)], fun i => [FUS_SPER_PERIOD (i.getD 0 0), FUS_SPER_STALE (i.getD 0 0)]⟩

def FUS_SLAT_LATNOM (n : Nat) : Fld := ⟨0x40081008 + 0x40 * n, 16, 16, 0, .rws⟩
def FUS_SLAT_GATE (n : Nat) : Fld := ⟨0x40081008 + 0x40 * n, 8, 8, 0x32, .rws⟩
def FUS_SLAT_REJN (n : Nat) : Fld := ⟨0x40081008 + 0x40 * n, 0, 8, 0xa, .rws⟩
def FUS_SLAT_fam : RegFam := ⟨0x40081008, [(0x40, 16)], fun i => [FUS_SLAT_LATNOM (i.getD 0 0), FUS_SLAT_GATE (i.getD 0 0), FUS_SLAT_REJN (i.getD 0 0)]⟩

def FUS_SNOISE_NS1 (n : Nat) : Fld := ⟨0x4008100C + 0x40 * n, 16, 16, 0, .rws⟩
def FUS_SNOISE_NS2 (n : Nat) : Fld := ⟨0x4008100C + 0x40 * n, 0, 16, 0, .rws⟩
def FUS_SNOISE_fam : RegFam := ⟨0x4008100C, [(0x40, 16)], fun i => [FUS_SNOISE_NS1 (i.getD 0 0), FUS_SNOISE_NS2 (i.getD 0 0)]⟩

def FUS_SNOM_NOM (n : Nat) (k : Nat) : Fld := ⟨0x40081010 + 0x40 * n + 0x4 * k, 16, 16, 0, .rws⟩
def FUS_SNOM_BND (n : Nat) (k : Nat) : Fld := ⟨0x40081010 + 0x40 * n + 0x4 * k, 0, 16, 0, .rws⟩
def FUS_SNOM_fam : RegFam := ⟨0x40081010, [(0x40, 16), (0x4, 8)], fun i => [FUS_SNOM_NOM (i.getD 0 0) (i.getD 1 0), FUS_SNOM_BND (i.getD 0 0) (i.getD 1 0)]⟩

def FUS_SCNV_CNV (n : Nat) : Fld := ⟨0x40081030 + 0x40 * n, 0, 32, 0x10000, .rws⟩
def FUS_SCNV_fam : RegFam := ⟨0x40081030, [(0x40, 16)], fun i => [FUS_SCNV_CNV (i.getD 0 0)]⟩

def FUS_SSTAT_SSTATE (n : Nat) : Fld := ⟨0x40081034 + 0x40 * n, 29, 3, 0, .ro⟩
def FUS_SSTAT_OUTLIER (n : Nat) : Fld := ⟨0x40081034 + 0x40 * n, 28, 1, 0, .ro⟩
def FUS_SSTAT_HELD (n : Nat) : Fld := ⟨0x40081034 + 0x40 * n, 27, 1, 0, .ro⟩
def FUS_SSTAT_CALCONV (n : Nat) : Fld := ⟨0x40081034 + 0x40 * n, 26, 1, 0, .ro⟩
def FUS_SSTAT_CALBND (n : Nat) : Fld := ⟨0x40081034 + 0x40 * n, 25, 1, 0, .ro⟩
def FUS_SSTAT_FOCUS (n : Nat) : Fld := ⟨0x40081034 + 0x40 * n, 24, 1, 0, .ro⟩
def FUS_SSTAT_PROG (n : Nat) : Fld := ⟨0x40081034 + 0x40 * n, 16, 8, 0, .ro⟩
def FUS_SSTAT_REJCNT (n : Nat) : Fld := ⟨0x40081034 + 0x40 * n, 0, 16, 0, .ro⟩
def FUS_SSTAT_fam : RegFam := ⟨0x40081034, [(0x40, 16)], fun i => [FUS_SSTAT_SSTATE (i.getD 0 0), FUS_SSTAT_OUTLIER (i.getD 0 0), FUS_SSTAT_HELD (i.getD 0 0), FUS_SSTAT_CALCONV (i.getD 0 0), FUS_SSTAT_CALBND (i.getD 0 0), FUS_SSTAT_FOCUS (i.getD 0 0), FUS_SSTAT_PROG (i.getD 0 0), FUS_SSTAT_REJCNT (i.getD 0 0)]⟩

def FUS_SCLK_RATE (n : Nat) : Fld := ⟨0x40081038 + 0x40 * n, 16, 16, 0, .ro⟩
def FUS_SCLK_RESID (n : Nat) : Fld := ⟨0x40081038 + 0x40 * n, 0, 16, 0, .ro⟩
def FUS_SCLK_fam : RegFam := ⟨0x40081038, [(0x40, 16)], fun i => [FUS_SCLK_RATE (i.getD 0 0), FUS_SCLK_RESID (i.getD 0 0)]⟩

def FUS_SCNT_USEDCNT (n : Nat) : Fld := ⟨0x4008103C + 0x40 * n, 16, 16, 0, .rw⟩
def FUS_SCNT_RSYNCNT (n : Nat) : Fld := ⟨0x4008103C + 0x40 * n, 0, 16, 0, .rw⟩
def FUS_SCNT_fam : RegFam := ⟨0x4008103C, [(0x40, 16)], fun i => [FUS_SCNT_USEDCNT (i.getD 0 0), FUS_SCNT_RSYNCNT (i.getD 0 0)]⟩

def FUS_RCAL_VAL (n : Nat) (k : Nat) : Fld := ⟨0x40083000 + 0x20 * n + 0x4 * k, 0, 32, 0, .ro⟩
def FUS_RCAL_fam : RegFam := ⟨0x40083000, [(0x20, 16), (0x4, 8)], fun i => [FUS_RCAL_VAL (i.getD 0 0) (i.getD 1 0)]⟩

/-- Every register of FUS that has fields. -/
def FUS_fams : List RegFam :=
  [FUS_STAT_fam, FUS_INTSTAT_fam, FUS_INTEN_fam, FUS_LOAD_fam, FUS_CMD_fam, FUS_CTL_fam, FUS_LIM_fam, FUS_RESWR_fam, FUS_RESRD_fam, FUS_DROP_fam, FUS_RPCNT_fam, FUS_RPMAX_fam, FUS_LAST_fam, FUS_PW_fam, FUS_PPUSH_fam, FUS_PRES_fam, FUS_SCFG_fam, FUS_SPER_fam, FUS_SLAT_fam, FUS_SNOISE_fam] ++
  [FUS_SNOM_fam, FUS_SCNV_fam, FUS_SSTAT_fam, FUS_SCLK_fam, FUS_SCNT_fam, FUS_RCAL_fam]

end Sys2Proof.Machine
end

