-- ==== Sys2Proof/Machine/RegGNS.lean ====
section
/-!
DEFINITION. The register fields of GNS, as the register tables of spec/10_gnss_baseband_and_time_pulse.md list them:
address, lowest bit, width, access code (Table 0.4) and reset value. Reserved bits (R6) are no field.
-/
namespace Sys2Proof.Machine

def GNS_STAT_TSTATE : Fld := ⟨0x40070000, 29, 3, 0, .ro⟩
def GNS_STAT_HSTATE : Fld := ⟨0x40070000, 27, 2, 0, .ro⟩
def GNS_STAT_NTRK : Fld := ⟨0x40070000, 19, 8, 0, .ro⟩
def GNS_STAT_SOGV : Fld := ⟨0x40070000, 18, 1, 0, .ro⟩
def GNS_STAT_TCXOFLT : Fld := ⟨0x40070000, 17, 1, 0, .ro⟩
def GNS_STAT_ANT0F : Fld := ⟨0x40070000, 15, 2, 0, .ro⟩
def GNS_STAT_ANT1F : Fld := ⟨0x40070000, 13, 2, 0, .ro⟩
def GNS_STAT_INTF : Fld := ⟨0x40070000, 12, 1, 0, .ro⟩
def GNS_STAT_ALLOCF : Fld := ⟨0x40070000, 11, 1, 0, .ro⟩
def GNS_STAT_fam : RegFam := ⟨0x40070000, [], fun _ => [GNS_STAT_TSTATE, GNS_STAT_HSTATE, GNS_STAT_NTRK, GNS_STAT_SOGV, GNS_STAT_TCXOFLT, GNS_STAT_ANT0F, GNS_STAT_ANT1F, GNS_STAT_INTF, GNS_STAT_ALLOCF]⟩

def GNS_INTSTAT_FENCE : Fld := ⟨0x40070004, 8, 1, 0, .w1c⟩
def GNS_INTSTAT_TCXO : Fld := ⟨0x40070004, 7, 1, 0, .w1c⟩
def GNS_INTSTAT_INTF : Fld := ⟨0x40070004, 6, 1, 0, .w1c⟩
def GNS_INTSTAT_ANT : Fld := ⟨0x40070004, 5, 1, 0, .w1c⟩
def GNS_INTSTAT_HDG : Fld := ⟨0x40070004, 4, 1, 0, .w1c⟩
def GNS_INTSTAT_TSTATE : Fld := ⟨0x40070004, 3, 1, 0, .w1c⟩
def GNS_INTSTAT_TIMEQ : Fld := ⟨0x40070004, 2, 1, 0, .w1c⟩
def GNS_INTSTAT_EPDROP : Fld := ⟨0x40070004, 1, 1, 0, .w1c⟩
def GNS_INTSTAT_EPOCH : Fld := ⟨0x40070004, 0, 1, 0, .w1c⟩
def GNS_INTSTAT_fam : RegFam := ⟨0x40070004, [], fun _ => [GNS_INTSTAT_FENCE, GNS_INTSTAT_TCXO, GNS_INTSTAT_INTF, GNS_INTSTAT_ANT, GNS_INTSTAT_HDG, GNS_INTSTAT_TSTATE, GNS_INTSTAT_TIMEQ, GNS_INTSTAT_EPDROP, GNS_INTSTAT_EPOCH]⟩

def GNS_INTEN_IEN : Fld := ⟨0x40070008, 0, 9, 0, .rw⟩
def GNS_INTEN_fam : RegFam := ⟨0x40070008, [], fun _ => [GNS_INTEN_IEN]⟩

def GNS_CMD_CMD : Fld := ⟨0x4007000C, 0, 2, 0, .wo⟩
def GNS_CMD_fam : RegFam := ⟨0x4007000C, [], fun _ => [GNS_CMD_CMD]⟩

def GNS_CTL_EN : Fld := ⟨0x40070010, 31, 1, 0, .rws⟩
def GNS_CTL_ANT1EN : Fld := ⟨0x40070010, 30, 1, 0, .rws⟩
def GNS_CTL_RATE : Fld := ⟨0x40070010, 27, 3, 3, .rws⟩
def GNS_CTL_CONST : Fld := ⟨0x40070010, 22, 5, 0x1f, .rws⟩
def GNS_CTL_ELMASK : Fld := ⟨0x40070010, 17, 5, 5, .rws⟩
def GNS_CTL_fam : RegFam := ⟨0x40070010, [], fun _ => [GNS_CTL_EN, GNS_CTL_ANT1EN, GNS_CTL_RATE, GNS_CTL_CONST, GNS_CTL_ELMASK]⟩

def GNS_SIGMASK_SIG : Fld := ⟨0x40070014, 0, 17, 0x1ffff, .rws⟩
def GNS_SIGMASK_fam : RegFam := ⟨0x40070014, [], fun _ => [GNS_SIGMASK_SIG]⟩

def GNS_ANTDLY_DLY1 : Fld := ⟨0x40070018, 16, 16, 0, .rws⟩
def GNS_ANTDLY_DLY0 : Fld := ⟨0x40070018, 0, 16, 0, .rws⟩
def GNS_ANTDLY_fam : RegFam := ⟨0x40070018, [], fun _ => [GNS_ANTDLY_DLY1, GNS_ANTDLY_DLY0]⟩

def GNS_TPCTL_TP0EN : Fld := ⟨0x40070020, 31, 1, 0, .rws⟩
def GNS_TPCTL_TP0POL : Fld := ⟨0x40070020, 30, 1, 0, .rws⟩
def GNS_TPCTL_TP1EN : Fld := ⟨0x40070020, 29, 1, 0, .rws⟩
def GNS_TPCTL_TP1POL : Fld := ⟨0x40070020, 28, 1, 0, .rws⟩
def GNS_TPCTL_NOFIX : Fld := ⟨0x40070020, 27, 1, 0, .rws⟩
def GNS_TPCTL_TP1DOL : Fld := ⟨0x40070020, 26, 1, 1, .rws⟩
def GNS_TPCTL_TSYS : Fld := ⟨0x40070020, 24, 2, 0, .rws⟩
def GNS_TPCTL_HSTOP : Fld := ⟨0x40070020, 23, 1, 0, .rws⟩
def GNS_TPCTL_TP0W : Fld := ⟨0x40070020, 0, 20, 0x186a0, .rws⟩
def GNS_TPCTL_fam : RegFam := ⟨0x40070020, [], fun _ => [GNS_TPCTL_TP0EN, GNS_TPCTL_TP0POL, GNS_TPCTL_TP1EN, GNS_TPCTL_TP1POL, GNS_TPCTL_NOFIX, GNS_TPCTL_TP1DOL, GNS_TPCTL_TSYS, GNS_TPCTL_HSTOP, GNS_TPCTL_TP0W]⟩

def GNS_TP1PER_PER : Fld := ⟨0x40070024, 0, 32, 0xf4240, .rws⟩
def GNS_TP1PER_fam : RegFam := ⟨0x40070024, [], fun _ => [GNS_TP1PER_PER]⟩

def GNS_TP1OFS_OFS : Fld := ⟨0x40070028, 0, 32, 0, .rws⟩
def GNS_TP1OFS_fam : RegFam := ⟨0x40070028, [], fun _ => [GNS_TP1OFS_OFS]⟩

def GNS_TP1W_W : Fld := ⟨0x4007002C, 0, 32, 0x186a0, .rws⟩
def GNS_TP1W_fam : RegFam := ⟨0x4007002C, [], fun _ => [GNS_TP1W_W]⟩

def GNS_HOLD_HDRIFT : Fld := ⟨0x40070030, 16, 16, 0xc8, .rws⟩
def GNS_HOLD_HAGE : Fld := ⟨0x40070030, 0, 16, 0x64, .rws⟩
def GNS_HOLD_fam : RegFam := ⟨0x40070030, [], fun _ => [GNS_HOLD_HDRIFT, GNS_HOLD_HAGE]⟩

def GNS_SLEW_SLEWR : Fld := ⟨0x40070034, 16, 16, 0x32, .rws⟩
def GNS_SLEW_HLIM : Fld := ⟨0x40070034, 0, 16, 0x64, .rws⟩
def GNS_SLEW_fam : RegFam := ⟨0x40070034, [], fun _ => [GNS_SLEW_SLEWR, GNS_SLEW_HLIM]⟩

def GNS_HDGCFG_BLEN : Fld := ⟨0x40070040, 16, 16, 0x7d0, .rws⟩
def GNS_HDGCFG_BTOL : Fld := ⟨0x40070040, 8, 8, 0x14, .rws⟩
def GNS_HDGCFG_fam : RegFam := ⟨0x40070040, [], fun _ => [GNS_HDGCFG_BLEN, GNS_HDGCFG_BTOL]⟩

def GNS_HDGOFS_MOUNTAZ : Fld := ⟨0x40070044, 16, 16, 0, .rws⟩
def GNS_HDGOFS_fam : RegFam := ⟨0x40070044, [], fun _ => [GNS_HDGOFS_MOUNTAZ]⟩

def GNS_SOGCFG_DSRC : Fld := ⟨0x40070048, 30, 2, 2, .rws⟩
def GNS_SOGCFG_DI : Fld := ⟨0x40070048, 25, 5, 0, .rws⟩
def GNS_SOGCFG_MINSV : Fld := ⟨0x40070048, 21, 4, 5, .rws⟩
def GNS_SOGCFG_fam : RegFam := ⟨0x40070048, [], fun _ => [GNS_SOGCFG_DSRC, GNS_SOGCFG_DI, GNS_SOGCFG_MINSV]⟩

def GNS_TQWK_WEEK : Fld := ⟨0x40070100, 16, 16, 0, .ro⟩
def GNS_TQWK_TSTATE : Fld := ⟨0x40070100, 13, 3, 0, .ro⟩
def GNS_TQWK_DOL : Fld := ⟨0x40070100, 12, 1, 0, .ro⟩
def GNS_TQWK_SLEW : Fld := ⟨0x40070100, 11, 1, 0, .ro⟩
def GNS_TQWK_STEP : Fld := ⟨0x40070100, 10, 1, 0, .ro⟩
def GNS_TQWK_ERRLIM : Fld := ⟨0x40070100, 9, 1, 0, .ro⟩
def GNS_TQWK_NOFIX : Fld := ⟨0x40070100, 8, 1, 0, .ro⟩
def GNS_TQWK_LEAP : Fld := ⟨0x40070100, 7, 1, 0, .ro⟩
def GNS_TQWK_TSYS : Fld := ⟨0x40070100, 5, 2, 0, .ro⟩
def GNS_TQWK_fam : RegFam := ⟨0x40070100, [], fun _ => [GNS_TQWK_WEEK, GNS_TQWK_TSTATE, GNS_TQWK_DOL, GNS_TQWK_SLEW, GNS_TQWK_STEP, GNS_TQWK_ERRLIM, GNS_TQWK_NOFIX, GNS_TQWK_LEAP, GNS_TQWK_TSYS]⟩

def GNS_TQTOW_TOW : Fld := ⟨0x40070104, 0, 32, 0, .ro⟩
def GNS_TQTOW_fam : RegFam := ⟨0x40070104, [], fun _ => [GNS_TQTOW_TOW]⟩

def GNS_TQERR_QERR : Fld := ⟨0x40070108, 0, 32, 0, .ro⟩
def GNS_TQERR_fam : RegFam := ⟨0x40070108, [], fun _ => [GNS_TQERR_QERR]⟩

def GNS_TQRES_RESID : Fld := ⟨0x4007010C, 0, 32, 0, .ro⟩
def GNS_TQRES_fam : RegFam := ⟨0x4007010C, [], fun _ => [GNS_TQRES_RESID]⟩

def GNS_TQEST_ERREST : Fld := ⟨0x40070110, 0, 32, 0, .ro⟩
def GNS_TQEST_fam : RegFam := ⟨0x40070110, [], fun _ => [GNS_TQEST_ERREST]⟩

def GNS_TQSTEP_STEP : Fld := ⟨0x40070114, 0, 32, 0, .ro⟩
def GNS_TQSTEP_fam : RegFam := ⟨0x40070114, [], fun _ => [GNS_TQSTEP_STEP]⟩

def GNS_TPMTLO_MT : Fld := ⟨0x40070118, 0, 32, 0, .ro⟩
def GNS_TPMTLO_fam : RegFam := ⟨0x40070118, [], fun _ => [GNS_TPMTLO_MT]⟩

def GNS_TPMTHI_MT : Fld := ⟨0x4007011C, 0, 32, 0, .ro⟩
def GNS_TPMTHI_fam : RegFam := ⟨0x4007011C, [], fun _ => [GNS_TPMTHI_MT]⟩

def GNS_TPTOW_TOW : Fld := ⟨0x40070124, 0, 32, 0, .ro⟩
def GNS_TPTOW_fam : RegFam := ⟨0x40070124, [], fun _ => [GNS_TPTOW_TOW]⟩

def GNS_RATE_CORR : Fld := ⟨0x40070128, 0, 32, 0, .ro⟩
def GNS_RATE_fam : RegFam := ⟨0x40070128, [], fun _ => [GNS_RATE_CORR]⟩

def GNS_HDG_HDG : Fld := ⟨0x40070140, 16, 16, 0, .ro⟩
def GNS_HDG_fam : RegFam := ⟨0x40070140, [], fun _ => [GNS_HDG_HDG]⟩

def GNS_HDG2_PITCH : Fld := ⟨0x40070144, 16, 16, 0, .ro⟩
def GNS_HDG2_HSTD : Fld := ⟨0x40070144, 0, 16, 0, .ro⟩
def GNS_HDG2_fam : RegFam := ⟨0x40070144, [], fun _ => [GNS_HDG2_PITCH, GNS_HDG2_HSTD]⟩

def GNS_SOG_SOG : Fld := ⟨0x40070160, 0, 32, 0, .ro⟩
def GNS_SOG_fam : RegFam := ⟨0x40070160, [], fun _ => [GNS_SOG_SOG]⟩

def GNS_SOGST_COURSE : Fld := ⟨0x40070164, 16, 16, 0, .ro⟩
def GNS_SOGST_NSV : Fld := ⟨0x40070164, 8, 8, 0, .ro⟩
def GNS_SOGST_SOGV : Fld := ⟨0x40070164, 0, 1, 0, .ro⟩
def GNS_SOGST_fam : RegFam := ⟨0x40070164, [], fun _ => [GNS_SOGST_COURSE, GNS_SOGST_NSV, GNS_SOGST_SOGV]⟩

def GNS_EPWR_IDX : Fld := ⟨0x40070180, 0, 4, 0, .ro⟩
def GNS_EPWR_fam : RegFam := ⟨0x40070180, [], fun _ => [GNS_EPWR_IDX]⟩

def GNS_EPRD_IDX : Fld := ⟨0x40070184, 0, 4, 0, .rw⟩
def GNS_EPRD_fam : RegFam := ⟨0x40070184, [], fun _ => [GNS_EPRD_IDX]⟩

def GNS_EPDROP_COUNT : Fld := ⟨0x40070188, 0, 32, 0, .rw⟩
def GNS_EPDROP_fam : RegFam := ⟨0x40070188, [], fun _ => [GNS_EPDROP_COUNT]⟩

def GNS_RET_AGE : Fld := ⟨0x40070190, 16, 16, 0xffff, .ro⟩
def GNS_RET_VALID : Fld := ⟨0x40070190, 0, 4, 0, .ro⟩
def GNS_RET_fam : RegFam := ⟨0x40070190, [], fun _ => [GNS_RET_AGE, GNS_RET_VALID]⟩

def GNS_CHSTAT_STATE (n : Nat) : Fld := ⟨0x40071000 + 0x4 * n, 29, 3, 0, .ro⟩
def GNS_CHSTAT_CONST (n : Nat) : Fld := ⟨0x40071000 + 0x4 * n, 26, 3, 0, .ro⟩
def GNS_CHSTAT_SIG (n : Nat) : Fld := ⟨0x40071000 + 0x4 * n, 21, 5, 0, .ro⟩
def GNS_CHSTAT_SVID (n : Nat) : Fld := ⟨0x40071000 + 0x4 * n, 13, 8, 0, .ro⟩
def GNS_CHSTAT_ANT (n : Nat) : Fld := ⟨0x40071000 + 0x4 * n, 12, 1, 0, .ro⟩
def GNS_CHSTAT_CN0 (n : Nat) : Fld := ⟨0x40071000 + 0x4 * n, 4, 8, 0, .ro⟩
def GNS_CHSTAT_fam : RegFam := ⟨0x40071000, [(0x4, 184)], fun i => [GNS_CHSTAT_STATE (i.getD 0 0), GNS_CHSTAT_CONST (i.getD 0 0), GNS_CHSTAT_SIG (i.getD 0 0), GNS_CHSTAT_SVID (i.getD 0 0), GNS_CHSTAT_ANT (i.getD 0 0), GNS_CHSTAT_CN0 (i.getD 0 0)]⟩

/-- Every register of GNS that has fields. -/
def GNS_fams : List RegFam :=
  [GNS_STAT_fam, GNS_INTSTAT_fam, GNS_INTEN_fam, GNS_CMD_fam, GNS_CTL_fam, GNS_SIGMASK_fam, GNS_ANTDLY_fam, GNS_TPCTL_fam, GNS_TP1PER_fam, GNS_TP1OFS_fam, GNS_TP1W_fam, GNS_HOLD_fam, GNS_SLEW_fam, GNS_HDGCFG_fam, GNS_HDGOFS_fam, GNS_SOGCFG_fam, GNS_TQWK_fam, GNS_TQTOW_fam, GNS_TQERR_fam, GNS_TQRES_fam] ++
  [GNS_TQEST_fam, GNS_TQSTEP_fam, GNS_TPMTLO_fam, GNS_TPMTHI_fam, GNS_TPTOW_fam, GNS_RATE_fam, GNS_HDG_fam, GNS_HDG2_fam, GNS_SOG_fam, GNS_SOGST_fam, GNS_EPWR_fam, GNS_EPRD_fam, GNS_EPDROP_fam, GNS_RET_fam, GNS_CHSTAT_fam]

end Sys2Proof.Machine
end

