-- ==== Sys2Proof/Machine/RegHSN.lean ====
section
/-!
DEFINITION. The register fields of HSN, as the register tables of spec/04_harvest_sensing.md list them:
address, lowest bit, width, access code (Table 0.4) and reset value. Reserved bits (R6) are no field.
-/
namespace Sys2Proof.Machine

def HSN_CTL_RBASE : Fld := ⟨0x40050000, 28, 4, 0xf, .rws⟩
def HSN_CTL_DBASE : Fld := ⟨0x40050000, 24, 4, 0xf, .rws⟩
def HSN_CTL_RECEN : Fld := ⟨0x40050000, 3, 1, 0, .rws⟩
def HSN_CTL_MOIEN : Fld := ⟨0x40050000, 2, 1, 0, .rws⟩
def HSN_CTL_LOSSEN : Fld := ⟨0x40050000, 1, 1, 0, .rws⟩
def HSN_CTL_YLDEN : Fld := ⟨0x40050000, 0, 1, 0, .rws⟩
def HSN_CTL_fam : RegFam := ⟨0x40050000, [], fun _ => [HSN_CTL_RBASE, HSN_CTL_DBASE, HSN_CTL_RECEN, HSN_CTL_MOIEN, HSN_CTL_LOSSEN, HSN_CTL_YLDEN]⟩

def HSN_STAT_YMODE : Fld := ⟨0x40050004, 30, 2, 0, .ro⟩
def HSN_STAT_BAND : Fld := ⟨0x40050004, 28, 2, 0, .ro⟩
def HSN_STAT_CROPIN : Fld := ⟨0x40050004, 25, 3, 0, .ro⟩
def HSN_STAT_TAREBSY : Fld := ⟨0x40050004, 24, 1, 0, .ro⟩
def HSN_STAT_CALRUN : Fld := ⟨0x40050004, 23, 1, 0, .ro⟩
def HSN_STAT_NLMODE : Fld := ⟨0x40050004, 21, 2, 0, .ro⟩
def HSN_STAT_PLATEFLT : Fld := ⟨0x40050004, 20, 1, 0, .ro⟩
def HSN_STAT_LFLT : Fld := ⟨0x40050004, 12, 8, 0, .ro⟩
def HSN_STAT_fam : RegFam := ⟨0x40050004, [], fun _ => [HSN_STAT_YMODE, HSN_STAT_BAND, HSN_STAT_CROPIN, HSN_STAT_TAREBSY, HSN_STAT_CALRUN, HSN_STAT_NLMODE, HSN_STAT_PLATEFLT, HSN_STAT_LFLT]⟩

def HSN_INTSTAT_NLDONE : Fld := ⟨0x40050008, 10, 1, 0, .w1c⟩
def HSN_INTSTAT_MSTALE : Fld := ⟨0x40050008, 9, 1, 0, .w1c⟩
def HSN_INTSTAT_FAULT : Fld := ⟨0x40050008, 8, 1, 0, .w1c⟩
def HSN_INTSTAT_SAT : Fld := ⟨0x40050008, 7, 1, 0, .w1c⟩
def HSN_INTSTAT_TAREDONE : Fld := ⟨0x40050008, 6, 1, 0, .w1c⟩
def HSN_INTSTAT_TDOM : Fld := ⟨0x40050008, 5, 1, 0, .w1c⟩
def HSN_INTSTAT_BASELOSS : Fld := ⟨0x40050008, 4, 1, 0, .w1c⟩
def HSN_INTSTAT_YOVF : Fld := ⟨0x40050008, 3, 1, 0, .w1c⟩
def HSN_INTSTAT_WOVF : Fld := ⟨0x40050008, 2, 1, 0, .w1c⟩
def HSN_INTSTAT_YREC : Fld := ⟨0x40050008, 1, 1, 0, .w1c⟩
def HSN_INTSTAT_WREC : Fld := ⟨0x40050008, 0, 1, 0, .w1c⟩
def HSN_INTSTAT_fam : RegFam := ⟨0x40050008, [], fun _ => [HSN_INTSTAT_NLDONE, HSN_INTSTAT_MSTALE, HSN_INTSTAT_FAULT, HSN_INTSTAT_SAT, HSN_INTSTAT_TAREDONE, HSN_INTSTAT_TDOM, HSN_INTSTAT_BASELOSS, HSN_INTSTAT_YOVF, HSN_INTSTAT_WOVF, HSN_INTSTAT_YREC, HSN_INTSTAT_WREC]⟩

def HSN_INTEN_IEN : Fld := ⟨0x4005000C, 0, 11, 0, .rw⟩
def HSN_INTEN_fam : RegFam := ⟨0x4005000C, [], fun _ => [HSN_INTEN_IEN]⟩

def HSN_CMD_BANDMASK : Fld := ⟨0x40050010, 4, 4, 0, .wo⟩
def HSN_CMD_CMD : Fld := ⟨0x40050010, 0, 4, 0, .wo⟩
def HSN_CMD_fam : RegFam := ⟨0x40050010, [], fun _ => [HSN_CMD_BANDMASK, HSN_CMD_CMD]⟩

def HSN_TARE_TARE : Fld := ⟨0x40050014, 0, 16, 0, .rw⟩
def HSN_TARE_fam : RegFam := ⟨0x40050014, [], fun _ => [HSN_TARE_TARE]⟩

def HSN_YFLOW_FLOW : Fld := ⟨0x40050018, 0, 32, 0, .ro⟩
def HSN_YFLOW_fam : RegFam := ⟨0x40050018, [], fun _ => [HSN_YFLOW_FLOW]⟩

def HSN_CALSUMLO_SUM : Fld := ⟨0x4005001C, 0, 32, 0, .ro⟩
def HSN_CALSUMLO_fam : RegFam := ⟨0x4005001C, [], fun _ => [HSN_CALSUMLO_SUM]⟩

def HSN_CALSUMHI_SUM : Fld := ⟨0x40050020, 0, 32, 0, .ro⟩
def HSN_CALSUMHI_fam : RegFam := ⟨0x40050020, [], fun _ => [HSN_CALSUMHI_SUM]⟩

def HSN_CALPAD_PAD : Fld := ⟨0x40050024, 0, 32, 0, .ro⟩
def HSN_CALPAD_fam : RegFam := ⟨0x40050024, [], fun _ => [HSN_CALPAD_PAD]⟩

def HSN_CALMASS_MASS : Fld := ⟨0x40050028, 0, 32, 0, .ro⟩
def HSN_CALMASS_fam : RegFam := ⟨0x40050028, [], fun _ => [HSN_CALMASS_MASS]⟩

def HSN_RCFG_PERIOD : Fld := ⟨0x40050030, 0, 2, 1, .rws⟩
def HSN_RCFG_fam : RegFam := ⟨0x40050030, [], fun _ => [HSN_RCFG_PERIOD]⟩

def HSN_CROP_CROP : Fld := ⟨0x40050034, 0, 3, 0, .rws⟩
def HSN_CROP_fam : RegFam := ⟨0x40050034, [], fun _ => [HSN_CROP_CROP]⟩

def HSN_MOICFG_CEMPTY : Fld := ⟨0x40050040, 16, 16, 0x7d0, .rws⟩
def HSN_MOICFG_FILLMIN : Fld := ⟨0x40050040, 0, 16, 0x64, .rws⟩
def HSN_MOICFG_fam : RegFam := ⟨0x40050040, [], fun _ => [HSN_MOICFG_CEMPTY, HSN_MOICFG_FILLMIN]⟩

def HSN_MOIST_MOIST : Fld := ⟨0x40050044, 16, 16, 0, .ro⟩
def HSN_MOIST_STALE : Fld := ⟨0x40050044, 2, 1, 0, .ro⟩
def HSN_MOIST_VALID : Fld := ⟨0x40050044, 1, 1, 0, .ro⟩
def HSN_MOIST_FULL : Fld := ⟨0x40050044, 0, 1, 0, .ro⟩
def HSN_MOIST_fam : RegFam := ⟨0x40050044, [], fun _ => [HSN_MOIST_MOIST, HSN_MOIST_STALE, HSN_MOIST_VALID, HSN_MOIST_FULL]⟩

def HSN_MCAP_CAP : Fld := ⟨0x40050048, 16, 16, 0, .ro⟩
def HSN_MCAP_TG : Fld := ⟨0x40050048, 0, 16, 0, .ro⟩
def HSN_MCAP_fam : RegFam := ⟨0x40050048, [], fun _ => [HSN_MCAP_CAP, HSN_MCAP_TG]⟩

def HSN_NLCFG_MODE : Fld := ⟨0x40050050, 30, 2, 0, .rws⟩
def HSN_NLCFG_LRATE : Fld := ⟨0x40050050, 26, 4, 8, .rws⟩
def HSN_NLCFG_fam : RegFam := ⟨0x40050050, [], fun _ => [HSN_NLCFG_MODE, HSN_NLCFG_LRATE]⟩

def HSN_NBAND_B3 : Fld := ⟨0x40050054, 20, 10, 0x3ff, .rws⟩
def HSN_NBAND_B2 : Fld := ⟨0x40050054, 10, 10, 0x3ff, .rws⟩
def HSN_NBAND_B1 : Fld := ⟨0x40050054, 0, 10, 0x3ff, .rws⟩
def HSN_NBAND_fam : RegFam := ⟨0x40050054, [], fun _ => [HSN_NBAND_B3, HSN_NBAND_B2, HSN_NBAND_B1]⟩

def HSN_NLCOV0_COVH : Fld := ⟨0x40050058, 16, 9, 0, .ro⟩
def HSN_NLCOV0_COVL : Fld := ⟨0x40050058, 0, 9, 0, .ro⟩
def HSN_NLCOV0_fam : RegFam := ⟨0x40050058, [], fun _ => [HSN_NLCOV0_COVH, HSN_NLCOV0_COVL]⟩

def HSN_NLCOV1_COVH : Fld := ⟨0x4005005C, 16, 9, 0, .ro⟩
def HSN_NLCOV1_COVL : Fld := ⟨0x4005005C, 0, 9, 0, .ro⟩
def HSN_NLCOV1_fam : RegFam := ⟨0x4005005C, [], fun _ => [HSN_NLCOV1_COVH, HSN_NLCOV1_COVL]⟩

def HSN_WRWR_IDX : Fld := ⟨0x40050060, 0, 7, 0, .ro⟩
def HSN_WRWR_fam : RegFam := ⟨0x40050060, [], fun _ => [HSN_WRWR_IDX]⟩

def HSN_WRRD_IDX : Fld := ⟨0x40050064, 0, 7, 0, .rw⟩
def HSN_WRRD_fam : RegFam := ⟨0x40050064, [], fun _ => [HSN_WRRD_IDX]⟩

def HSN_YRWR_IDX : Fld := ⟨0x40050068, 0, 8, 0, .ro⟩
def HSN_YRWR_fam : RegFam := ⟨0x40050068, [], fun _ => [HSN_YRWR_IDX]⟩

def HSN_YRRD_IDX : Fld := ⟨0x4005006C, 0, 8, 0, .rw⟩
def HSN_YRRD_fam : RegFam := ⟨0x4005006C, [], fun _ => [HSN_YRRD_IDX]⟩

def HSN_DROP_WDROP : Fld := ⟨0x40050070, 16, 16, 0, .rw⟩
def HSN_DROP_YDROP : Fld := ⟨0x40050070, 0, 16, 0, .rw⟩
def HSN_DROP_fam : RegFam := ⟨0x40050070, [], fun _ => [HSN_DROP_WDROP, HSN_DROP_YDROP]⟩

def HSN_LCFG_EN (n : Nat) : Fld := ⟨0x40050100 + 0x10 * n, 31, 1, 0, .rws⟩
def HSN_LCFG_HPF (n : Nat) : Fld := ⟨0x40050100 + 0x10 * n, 29, 2, 1, .rws⟩
def HSN_LCFG_ENVTC (n : Nat) : Fld := ⟨0x40050100 + 0x10 * n, 26, 3, 3, .rws⟩
def HSN_LCFG_PGA (n : Nat) : Fld := ⟨0x40050100 + 0x10 * n, 24, 2, 0, .rws⟩
def HSN_LCFG_fam : RegFam := ⟨0x40050100, [(0x10, 8)], fun i => [HSN_LCFG_EN (i.getD 0 0), HSN_LCFG_HPF (i.getD 0 0), HSN_LCFG_ENVTC (i.getD 0 0), HSN_LCFG_PGA (i.getD 0 0)]⟩

def HSN_LDET_THR (n : Nat) : Fld := ⟨0x40050104 + 0x10 * n, 16, 16, 0x100, .rws⟩
def HSN_LDET_KSIG (n : Nat) : Fld := ⟨0x40050104 + 0x10 * n, 12, 4, 8, .rws⟩
def HSN_LDET_HOLD (n : Nat) : Fld := ⟨0x40050104 + 0x10 * n, 0, 12, 0x50, .rws⟩
def HSN_LDET_fam : RegFam := ⟨0x40050104, [(0x10, 8)], fun i => [HSN_LDET_THR (i.getD 0 0), HSN_LDET_KSIG (i.getD 0 0), HSN_LDET_HOLD (i.getD 0 0)]⟩

def HSN_LSTAT_ENV (n : Nat) : Fld := ⟨0x40050108 + 0x10 * n, 16, 16, 0, .ro⟩
def HSN_LSTAT_FLOOR (n : Nat) : Fld := ⟨0x40050108 + 0x10 * n, 0, 16, 0, .ro⟩
def HSN_LSTAT_fam : RegFam := ⟨0x40050108, [(0x10, 8)], fun i => [HSN_LSTAT_ENV (i.getD 0 0), HSN_LSTAT_FLOOR (i.getD 0 0)]⟩

def HSN_WCFG_BASE (n : Nat) : Fld := ⟨0x40050200 + 0x4 * n, 28, 4, 8, .rws⟩
def HSN_WCFG_FUNC (n : Nat) : Fld := ⟨0x40050200 + 0x4 * n, 27, 1, 0, .rws⟩
def HSN_WCFG_CHMASK (n : Nat) : Fld := ⟨0x40050200 + 0x4 * n, 19, 8, 0, .rws⟩
def HSN_WCFG_MAXLEN (n : Nat) : Fld := ⟨0x40050200 + 0x4 * n, 0, 16, 0x2710, .rws⟩
def HSN_WCFG_fam : RegFam := ⟨0x40050200, [(0x4, 16)], fun i => [HSN_WCFG_BASE (i.getD 0 0), HSN_WCFG_FUNC (i.getD 0 0), HSN_WCFG_CHMASK (i.getD 0 0), HSN_WCFG_MAXLEN (i.getD 0 0)]⟩

def HSN_PDLY_TDLY (n : Nat) : Fld := ⟨0x40050800 + 0x80 * n, 16, 16, 0x4b0, .rws⟩
def HSN_PDLY_NPTS (n : Nat) : Fld := ⟨0x40050800 + 0x80 * n, 12, 4, 2, .rws⟩
def HSN_PDLY_fam : RegFam := ⟨0x40050800, [(0x80, 8)], fun i => [HSN_PDLY_TDLY (i.getD 0 0), HSN_PDLY_NPTS (i.getD 0 0)]⟩

def HSN_PMSTD_MSTD (n : Nat) : Fld := ⟨0x40050804 + 0x80 * n, 0, 16, 0x578, .rws⟩
def HSN_PMSTD_fam : RegFam := ⟨0x40050804, [(0x80, 8)], fun i => [HSN_PMSTD_MSTD (i.getD 0 0)]⟩

def HSN_PMA0_COEF (n : Nat) : Fld := ⟨0x40050808 + 0x80 * n, 0, 32, 0, .rws⟩
def HSN_PMA0_fam : RegFam := ⟨0x40050808, [(0x80, 8)], fun i => [HSN_PMA0_COEF (i.getD 0 0)]⟩

def HSN_PMA1_COEF (n : Nat) : Fld := ⟨0x4005080C + 0x80 * n, 0, 32, 0, .rws⟩
def HSN_PMA1_fam : RegFam := ⟨0x4005080C, [(0x80, 8)], fun i => [HSN_PMA1_COEF (i.getD 0 0)]⟩

def HSN_PMA2_COEF (n : Nat) : Fld := ⟨0x40050810 + 0x80 * n, 0, 32, 0, .rws⟩
def HSN_PMA2_fam : RegFam := ⟨0x40050810, [(0x80, 8)], fun i => [HSN_PMA2_COEF (i.getD 0 0)]⟩

def HSN_PMKT_COEF (n : Nat) : Fld := ⟨0x40050814 + 0x80 * n, 0, 32, 0, .rws⟩
def HSN_PMKT_fam : RegFam := ⟨0x40050814, [(0x80, 8)], fun i => [HSN_PMKT_COEF (i.getD 0 0)]⟩

def HSN_PCI_VAL (n : Nat) (k : Nat) : Fld := ⟨0x40050820 + 0x80 * n + 0x8 * k, 0, 32, 1000000 * k, .rws⟩
def HSN_PCI_fam : RegFam := ⟨0x40050820, [(0x80, 8), (0x8, 8)], fun i => [HSN_PCI_VAL (i.getD 0 0) (i.getD 1 0)]⟩

def HSN_PCM_VAL (n : Nat) (k : Nat) : Fld := ⟨0x40050824 + 0x80 * n + 0x8 * k, 0, 32, 0, .rws⟩
def HSN_PCM_fam : RegFam := ⟨0x40050824, [(0x80, 8), (0x8, 8)], fun i => [HSN_PCM_VAL (i.getD 0 0) (i.getD 1 0)]⟩

/-- Every register of HSN that has fields. -/
def HSN_fams : List RegFam :=
  [HSN_CTL_fam, HSN_STAT_fam, HSN_INTSTAT_fam, HSN_INTEN_fam, HSN_CMD_fam, HSN_TARE_fam, HSN_YFLOW_fam, HSN_CALSUMLO_fam, HSN_CALSUMHI_fam, HSN_CALPAD_fam, HSN_CALMASS_fam, HSN_RCFG_fam, HSN_CROP_fam, HSN_MOICFG_fam, HSN_MOIST_fam, HSN_MCAP_fam, HSN_NLCFG_fam, HSN_NBAND_fam, HSN_NLCOV0_fam, HSN_NLCOV1_fam] ++
  [HSN_WRWR_fam, HSN_WRRD_fam, HSN_YRWR_fam, HSN_YRRD_fam, HSN_DROP_fam, HSN_LCFG_fam, HSN_LDET_fam, HSN_LSTAT_fam, HSN_WCFG_fam, HSN_PDLY_fam, HSN_PMSTD_fam, HSN_PMA0_fam, HSN_PMA1_fam, HSN_PMA2_fam, HSN_PMKT_fam, HSN_PCI_fam, HSN_PCM_fam]

end Sys2Proof.Machine
end

