-- ==== Sys2Proof/Machine/RegLSW.lean ====
section
/-!
DEFINITION. The register fields of LSW, as the register tables of spec/09_load_switch_banks.md list them:
address, lowest bit, width, access code (Table 0.4) and reset value. Reserved bits (R6) are no field.
-/
namespace Sys2Proof.Machine

/-- Table 9.3: the window time TWIN of profile `p`, in ms. -/
def lswProfileTWIN (p : Nat) : Nat := [100, 10, 500, 20, 50, 5, 100, 100].getD p 0
/-- Table 9.3: the open-load blanking time OLBLANK of profile `p`. -/
def lswProfileOLBLANK (p : Nat) : Nat := [200, 50, 1000, 100, 100, 20, 200, 200].getD p 0
/-- Table 9.3: the window limit ILIM of profile `p`, in units of 0.5 × I_N. -/
def lswProfileILIM (p : Nat) : Nat := [8, 4, 6, 3, 3, 2, 8, 8].getD p 0
/-- Table 9.3: the short-circuit test time TSC of profile `p`. -/
def lswProfileTSC (p : Nat) : Nat := [5, 2, 20, 2, 20, 2, 5, 5].getD p 0
/-- Table 9.3: the slew SLEW of profile `p`. -/
def lswProfileSLEW (p : Nat) : Nat := [20, 50, 20, 20, 1000, 20, 20, 20].getD p 0

def LSW_STAT_BONA : Fld := ⟨0x400B0000, 31, 1, 0, .ro⟩
def LSW_STAT_BONB : Fld := ⟨0x400B0000, 30, 1, 0, .ro⟩
def LSW_STAT_NFAULT : Fld := ⟨0x400B0000, 16, 8, 0, .ro⟩
def LSW_STAT_NON : Fld := ⟨0x400B0000, 8, 8, 0, .ro⟩
def LSW_STAT_fam : RegFam := ⟨0x400B0000, [], fun _ => [LSW_STAT_BONA, LSW_STAT_BONB, LSW_STAT_NFAULT, LSW_STAT_NON]⟩

def LSW_INTSTAT_SENSOR : Fld := ⟨0x400B0004, 8, 1, 0, .w1c⟩
def LSW_INTSTAT_FENCE : Fld := ⟨0x400B0004, 7, 1, 0, .w1c⟩
def LSW_INTSTAT_CLASS : Fld := ⟨0x400B0004, 6, 1, 0, .w1c⟩
def LSW_INTSTAT_BANKHI : Fld := ⟨0x400B0004, 5, 1, 0, .w1c⟩
def LSW_INTSTAT_UV : Fld := ⟨0x400B0004, 4, 1, 0, .w1c⟩
def LSW_INTSTAT_READBK : Fld := ⟨0x400B0004, 3, 1, 0, .w1c⟩
def LSW_INTSTAT_OPEN : Fld := ⟨0x400B0004, 2, 1, 0, .w1c⟩
def LSW_INTSTAT_OVT : Fld := ⟨0x400B0004, 1, 1, 0, .w1c⟩
def LSW_INTSTAT_TRIP : Fld := ⟨0x400B0004, 0, 1, 0, .w1c⟩
def LSW_INTSTAT_fam : RegFam := ⟨0x400B0004, [], fun _ => [LSW_INTSTAT_SENSOR, LSW_INTSTAT_FENCE, LSW_INTSTAT_CLASS, LSW_INTSTAT_BANKHI, LSW_INTSTAT_UV, LSW_INTSTAT_READBK, LSW_INTSTAT_OPEN, LSW_INTSTAT_OVT, LSW_INTSTAT_TRIP]⟩

def LSW_INTEN_IEN : Fld := ⟨0x400B0008, 0, 9, 0, .rw⟩
def LSW_INTEN_fam : RegFam := ⟨0x400B0008, [], fun _ => [LSW_INTEN_IEN]⟩

def LSW_BSTAT_UV (n : Nat) : Fld := ⟨0x400B0100 + 0x10 * n, 31, 1, 0, .ro⟩
def LSW_BSTAT_HI (n : Nat) : Fld := ⟨0x400B0100 + 0x10 * n, 30, 1, 0, .ro⟩
def LSW_BSTAT_VBANK (n : Nat) : Fld := ⟨0x400B0100 + 0x10 * n, 16, 14, 0, .ro⟩
def LSW_BSTAT_IBANK (n : Nat) : Fld := ⟨0x400B0100 + 0x10 * n, 0, 16, 0, .ro⟩
def LSW_BSTAT_fam : RegFam := ⟨0x400B0100, [(0x10, 2)], fun i => [LSW_BSTAT_UV (i.getD 0 0), LSW_BSTAT_HI (i.getD 0 0), LSW_BSTAT_VBANK (i.getD 0 0), LSW_BSTAT_IBANK (i.getD 0 0)]⟩

def LSW_BCFG_BANKLIM (n : Nat) : Fld := ⟨0x400B0104 + 0x10 * n, 0, 16, 0x3e8, .rws⟩
def LSW_BCFG_fam : RegFam := ⟨0x400B0104, [(0x10, 2)], fun i => [LSW_BCFG_BANKLIM (i.getD 0 0)]⟩

def LSW_PTIM_TWIN (n : Nat) : Fld := ⟨0x400B0200 + 0x10 * n, 16, 16, lswProfileTWIN n, if n ≤ 5 then .ro else .rws⟩
def LSW_PTIM_OLBLANK (n : Nat) : Fld := ⟨0x400B0200 + 0x10 * n, 0, 16, lswProfileOLBLANK n, if n ≤ 5 then .ro else .rws⟩
def LSW_PTIM_fam : RegFam := ⟨0x400B0200, [(0x10, 8)], fun i => [LSW_PTIM_TWIN (i.getD 0 0), LSW_PTIM_OLBLANK (i.getD 0 0)]⟩

def LSW_PLIM_ILIM (n : Nat) : Fld := ⟨0x400B0204 + 0x10 * n, 24, 8, lswProfileILIM n, if n ≤ 5 then .ro else .rws⟩
def LSW_PLIM_TSC (n : Nat) : Fld := ⟨0x400B0204 + 0x10 * n, 16, 8, lswProfileTSC n, if n ≤ 5 then .ro else .rws⟩
def LSW_PLIM_SLEW (n : Nat) : Fld := ⟨0x400B0204 + 0x10 * n, 0, 16, lswProfileSLEW n, if n ≤ 5 then .ro else .rws⟩
def LSW_PLIM_fam : RegFam := ⟨0x400B0204, [(0x10, 8)], fun i => [LSW_PLIM_ILIM (i.getD 0 0), LSW_PLIM_TSC (i.getD 0 0), LSW_PLIM_SLEW (i.getD 0 0)]⟩

def LSW_CHCFG_MODE (n : Nat) : Fld := ⟨0x400B0400 + 0x40 * n, 30, 2, 0, .rws⟩
def LSW_CHCFG_WIRE (n : Nat) : Fld := ⟨0x400B0400 + 0x40 * n, 27, 3, 0, .rws⟩
def LSW_CHCFG_PROF (n : Nat) : Fld := ⟨0x400B0400 + 0x40 * n, 24, 3, 0, .rws⟩
def LSW_CHCFG_PWMF (n : Nat) : Fld := ⟨0x400B0400 + 0x40 * n, 22, 2, 1, .rws⟩
def LSW_CHCFG_OLACT (n : Nat) : Fld := ⟨0x400B0400 + 0x40 * n, 21, 1, 0, .rws⟩
def LSW_CHCFG_DIAGEN (n : Nat) : Fld := ⟨0x400B0400 + 0x40 * n, 20, 1, 0, .rws⟩
def LSW_CHCFG_fam : RegFam := ⟨0x400B0400, [(0x40, 48)], fun i => [LSW_CHCFG_MODE (i.getD 0 0), LSW_CHCFG_WIRE (i.getD 0 0), LSW_CHCFG_PROF (i.getD 0 0), LSW_CHCFG_PWMF (i.getD 0 0), LSW_CHCFG_OLACT (i.getD 0 0), LSW_CHCFG_DIAGEN (i.getD 0 0)]⟩

def LSW_CHSAFE_CLASS (n : Nat) : Fld := ⟨0x400B0404 + 0x40 * n, 30, 2, 0, .rws⟩
def LSW_CHSAFE_DEFST (n : Nat) : Fld := ⟨0x400B0404 + 0x40 * n, 29, 1, 0, .rws⟩
def LSW_CHSAFE_DEFDUTY (n : Nat) : Fld := ⟨0x400B0404 + 0x40 * n, 0, 14, 0, .rws⟩
def LSW_CHSAFE_fam : RegFam := ⟨0x400B0404, [(0x40, 48)], fun i => [LSW_CHSAFE_CLASS (i.getD 0 0), LSW_CHSAFE_DEFST (i.getD 0 0), LSW_CHSAFE_DEFDUTY (i.getD 0 0)]⟩

def LSW_CHOL_OLTHR (n : Nat) : Fld := ⟨0x400B0408 + 0x40 * n, 0, 16, 0x64, .rws⟩
def LSW_CHOL_fam : RegFam := ⟨0x400B0408, [(0x40, 48)], fun i => [LSW_CHOL_OLTHR (i.getD 0 0)]⟩

def LSW_CHCMD_CMD (n : Nat) : Fld := ⟨0x400B040C + 0x40 * n, 0, 2, 0, .wo⟩
def LSW_CHCMD_fam : RegFam := ⟨0x400B040C, [(0x40, 48)], fun i => [LSW_CHCMD_CMD (i.getD 0 0)]⟩

def LSW_CHDUTY_DUTY (n : Nat) : Fld := ⟨0x400B0410 + 0x40 * n, 0, 14, 0, .rw⟩
def LSW_CHDUTY_fam : RegFam := ⟨0x400B0410, [(0x40, 48)], fun i => [LSW_CHDUTY_DUTY (i.getD 0 0)]⟩

def LSW_CHSTAT_STATE (n : Nat) : Fld := ⟨0x400B0414 + 0x40 * n, 29, 3, 0, .ro⟩
def LSW_CHSTAT_ON (n : Nat) : Fld := ⟨0x400B0414 + 0x40 * n, 28, 1, 0, .ro⟩
def LSW_CHSTAT_CLAIM (n : Nat) : Fld := ⟨0x400B0414 + 0x40 * n, 27, 1, 0, .ro⟩
def LSW_CHSTAT_LATCH (n : Nat) : Fld := ⟨0x400B0414 + 0x40 * n, 26, 1, 0, .ro⟩
def LSW_CHSTAT_CAUSE (n : Nat) : Fld := ⟨0x400B0414 + 0x40 * n, 22, 4, 0, .ro⟩
def LSW_CHSTAT_IMEAS (n : Nat) : Fld := ⟨0x400B0414 + 0x40 * n, 0, 16, 0, .ro⟩
def LSW_CHSTAT_fam : RegFam := ⟨0x400B0414, [(0x40, 48)], fun i => [LSW_CHSTAT_STATE (i.getD 0 0), LSW_CHSTAT_ON (i.getD 0 0), LSW_CHSTAT_CLAIM (i.getD 0 0), LSW_CHSTAT_LATCH (i.getD 0 0), LSW_CHSTAT_CAUSE (i.getD 0 0), LSW_CHSTAT_IMEAS (i.getD 0 0)]⟩

def LSW_CHTH_TJ (n : Nat) : Fld := ⟨0x400B0418 + 0x40 * n, 16, 16, 0, .ro⟩
def LSW_CHTH_I2T (n : Nat) : Fld := ⟨0x400B0418 + 0x40 * n, 8, 8, 0, .ro⟩
def LSW_CHTH_fam : RegFam := ⟨0x400B0418, [(0x40, 48)], fun i => [LSW_CHTH_TJ (i.getD 0 0), LSW_CHTH_I2T (i.getD 0 0)]⟩

def LSW_CHFLAG_CLASS (n : Nat) : Fld := ⟨0x400B041C + 0x40 * n, 11, 1, 0, .w1c⟩
def LSW_CHFLAG_IGN (n : Nat) : Fld := ⟨0x400B041C + 0x40 * n, 10, 1, 0, .w1c⟩
def LSW_CHFLAG_UV (n : Nat) : Fld := ⟨0x400B041C + 0x40 * n, 9, 1, 0, .w1c⟩
def LSW_CHFLAG_NOTON (n : Nat) : Fld := ⟨0x400B041C + 0x40 * n, 8, 1, 0, .w1c⟩
def LSW_CHFLAG_STUCK (n : Nat) : Fld := ⟨0x400B041C + 0x40 * n, 7, 1, 0, .w1c⟩
def LSW_CHFLAG_OPENOFF (n : Nat) : Fld := ⟨0x400B041C + 0x40 * n, 6, 1, 0, .w1c⟩
def LSW_CHFLAG_OPEN (n : Nat) : Fld := ⟨0x400B041C + 0x40 * n, 5, 1, 0, .w1c⟩
def LSW_CHFLAG_SENSOR (n : Nat) : Fld := ⟨0x400B041C + 0x40 * n, 4, 1, 0, .w1c⟩
def LSW_CHFLAG_OVT (n : Nat) : Fld := ⟨0x400B041C + 0x40 * n, 3, 1, 0, .w1c⟩
def LSW_CHFLAG_I2T (n : Nat) : Fld := ⟨0x400B041C + 0x40 * n, 2, 1, 0, .w1c⟩
def LSW_CHFLAG_LIMIT (n : Nat) : Fld := ⟨0x400B041C + 0x40 * n, 1, 1, 0, .w1c⟩
def LSW_CHFLAG_SHORT (n : Nat) : Fld := ⟨0x400B041C + 0x40 * n, 0, 1, 0, .w1c⟩
def LSW_CHFLAG_fam : RegFam := ⟨0x400B041C, [(0x40, 48)], fun i => [LSW_CHFLAG_CLASS (i.getD 0 0), LSW_CHFLAG_IGN (i.getD 0 0), LSW_CHFLAG_UV (i.getD 0 0), LSW_CHFLAG_NOTON (i.getD 0 0), LSW_CHFLAG_STUCK (i.getD 0 0), LSW_CHFLAG_OPENOFF (i.getD 0 0), LSW_CHFLAG_OPEN (i.getD 0 0), LSW_CHFLAG_SENSOR (i.getD 0 0), LSW_CHFLAG_OVT (i.getD 0 0), LSW_CHFLAG_I2T (i.getD 0 0), LSW_CHFLAG_LIMIT (i.getD 0 0), LSW_CHFLAG_SHORT (i.getD 0 0)]⟩

def LSW_CHCNT_IGNCNT (n : Nat) : Fld := ⟨0x400B0420 + 0x40 * n, 16, 16, 0, .rw⟩
def LSW_CHCNT_TRIPCNT (n : Nat) : Fld := ⟨0x400B0420 + 0x40 * n, 0, 16, 0, .rw⟩
def LSW_CHCNT_fam : RegFam := ⟨0x400B0420, [(0x40, 48)], fun i => [LSW_CHCNT_IGNCNT (i.getD 0 0), LSW_CHCNT_TRIPCNT (i.getD 0 0)]⟩

/-- Every register of LSW that has fields. -/
def LSW_fams : List RegFam :=
  [LSW_STAT_fam, LSW_INTSTAT_fam, LSW_INTEN_fam, LSW_BSTAT_fam, LSW_BCFG_fam, LSW_PTIM_fam, LSW_PLIM_fam, LSW_CHCFG_fam, LSW_CHSAFE_fam, LSW_CHOL_fam, LSW_CHCMD_fam, LSW_CHDUTY_fam, LSW_CHSTAT_fam, LSW_CHTH_fam, LSW_CHFLAG_fam, LSW_CHCNT_fam]

end Sys2Proof.Machine
end

