-- ==== Sys2Proof/Machine/RegPDS.lean ====
section
/-!
DEFINITION. The register fields of PDS, as the register tables of spec/13_parameter_dictionary_and_store.md list them:
address, lowest bit, width, access code (Table 0.4) and reset value. Reserved bits (R6) are no field.
-/
namespace Sys2Proof.Machine

def PDS_STAT_STSTATE : Fld := ⟨0x40120000, 30, 2, 0, .ro⟩
def PDS_STAT_QUEUED : Fld := ⟨0x40120000, 29, 1, 0, .ro⟩
def PDS_STAT_LBANK : Fld := ⟨0x40120000, 28, 1, 0, .ro⟩
def PDS_STAT_LOADSRC : Fld := ⟨0x40120000, 26, 2, 0, .ro⟩
def PDS_STAT_SSOK : Fld := ⟨0x40120000, 25, 1, 0, .ro⟩
def PDS_STAT_NSESS : Fld := ⟨0x40120000, 21, 4, 0, .ro⟩
def PDS_STAT_NTXN : Fld := ⟨0x40120000, 15, 6, 0, .ro⟩
def PDS_STAT_fam : RegFam := ⟨0x40120000, [], fun _ => [PDS_STAT_STSTATE, PDS_STAT_QUEUED, PDS_STAT_LBANK, PDS_STAT_LOADSRC, PDS_STAT_SSOK, PDS_STAT_NSESS, PDS_STAT_NTXN]⟩

def PDS_INTSTAT_FLAGS : Fld := ⟨0x40120004, 0, 7, 0, .w1c⟩
def PDS_INTSTAT_fam : RegFam := ⟨0x40120004, [], fun _ => [PDS_INTSTAT_FLAGS]⟩

def PDS_INTEN_IEN : Fld := ⟨0x40120008, 0, 7, 0, .rw⟩
def PDS_INTEN_fam : RegFam := ⟨0x40120008, [], fun _ => [PDS_INTEN_IEN]⟩

def PDS_SEQA_SEQ : Fld := ⟨0x40120010, 0, 32, 0, .ro⟩
def PDS_SEQA_fam : RegFam := ⟨0x40120010, [], fun _ => [PDS_SEQA_SEQ]⟩

def PDS_SEQB_SEQ : Fld := ⟨0x40120014, 0, 32, 0, .ro⟩
def PDS_SEQB_fam : RegFam := ⟨0x40120014, [], fun _ => [PDS_SEQB_SEQ]⟩

def PDS_BANKST_VALIDA : Fld := ⟨0x40120018, 31, 1, 0, .ro⟩
def PDS_BANKST_VALIDB : Fld := ⟨0x40120018, 30, 1, 0, .ro⟩
def PDS_BANKST_fam : RegFam := ⟨0x40120018, [], fun _ => [PDS_BANKST_VALIDA, PDS_BANKST_VALIDB]⟩

def PDS_STCNT_COUNT : Fld := ⟨0x4012001C, 0, 32, 0, .ro⟩
def PDS_STCNT_fam : RegFam := ⟨0x4012001C, [], fun _ => [PDS_STCNT_COUNT]⟩

def PDS_TXSTAT_TXN : Fld := ⟨0x40120020, 16, 16, 0, .ro⟩
def PDS_TXSTAT_RES : Fld := ⟨0x40120020, 12, 4, 0, .ro⟩
def PDS_TXSTAT_NGRP : Fld := ⟨0x40120020, 6, 6, 0, .ro⟩
def PDS_TXSTAT_NWDR : Fld := ⟨0x40120020, 0, 6, 0, .ro⟩
def PDS_TXSTAT_fam : RegFam := ⟨0x40120020, [], fun _ => [PDS_TXSTAT_TXN, PDS_TXSTAT_RES, PDS_TXSTAT_NGRP, PDS_TXSTAT_NWDR]⟩

def PDS_HOSTSS_STANDSTILL : Fld := ⟨0x40120024, 0, 1, 0, .rw⟩
def PDS_HOSTSS_fam : RegFam := ⟨0x40120024, [], fun _ => [PDS_HOSTSS_STANDSTILL]⟩

def PDS_LOCKIGN_COUNT : Fld := ⟨0x40120028, 0, 32, 0, .rw⟩
def PDS_LOCKIGN_fam : RegFam := ⟨0x40120028, [], fun _ => [PDS_LOCKIGN_COUNT]⟩

def PDS_HPID_PID (n : Nat) : Fld := ⟨0x40120100 + 0x20 * n, 0, 32, 0, .rw⟩
def PDS_HPID_fam : RegFam := ⟨0x40120100, [(0x20, 4)], fun i => [PDS_HPID_PID (i.getD 0 0)]⟩

def PDS_HOFS_OFS (n : Nat) : Fld := ⟨0x40120104 + 0x20 * n, 0, 32, 0, .rw⟩
def PDS_HOFS_fam : RegFam := ⟨0x40120104, [(0x20, 4)], fun i => [PDS_HOFS_OFS (i.getD 0 0)]⟩

def PDS_HLEN_LEN (n : Nat) : Fld := ⟨0x40120108 + 0x20 * n, 0, 32, 0, .rw⟩
def PDS_HLEN_fam : RegFam := ⟨0x40120108, [(0x20, 4)], fun i => [PDS_HLEN_LEN (i.getD 0 0)]⟩

def PDS_HADDR_ADDR (n : Nat) : Fld := ⟨0x4012010C + 0x20 * n, 0, 32, 0, .rw⟩
def PDS_HADDR_fam : RegFam := ⟨0x4012010C, [(0x20, 4)], fun i => [PDS_HADDR_ADDR (i.getD 0 0)]⟩

def PDS_HGO_OP (n : Nat) : Fld := ⟨0x40120110 + 0x20 * n, 0, 4, 0, .wo⟩
def PDS_HGO_fam : RegFam := ⟨0x40120110, [(0x20, 4)], fun i => [PDS_HGO_OP (i.getD 0 0)]⟩

def PDS_HRES_BUSY (n : Nat) : Fld := ⟨0x40120114 + 0x20 * n, 31, 1, 0, .ro⟩
def PDS_HRES_STATUS (n : Nat) : Fld := ⟨0x40120114 + 0x20 * n, 24, 4, 0, .ro⟩
def PDS_HRES_DETAIL (n : Nat) : Fld := ⟨0x40120114 + 0x20 * n, 0, 16, 0, .ro⟩
def PDS_HRES_fam : RegFam := ⟨0x40120114, [(0x20, 4)], fun i => [PDS_HRES_BUSY (i.getD 0 0), PDS_HRES_STATUS (i.getD 0 0), PDS_HRES_DETAIL (i.getD 0 0)]⟩

def PDS_HDATA_DATA (n : Nat) : Fld := ⟨0x40120118 + 0x20 * n, 0, 32, 0, .rw⟩
def PDS_HDATA_fam : RegFam := ⟨0x40120118, [(0x20, 4)], fun i => [PDS_HDATA_DATA (i.getD 0 0)]⟩

/-- Every register of PDS that has fields. -/
def PDS_fams : List RegFam :=
  [PDS_STAT_fam, PDS_INTSTAT_fam, PDS_INTEN_fam, PDS_SEQA_fam, PDS_SEQB_fam, PDS_BANKST_fam, PDS_STCNT_fam, PDS_TXSTAT_fam, PDS_HOSTSS_fam, PDS_LOCKIGN_fam, PDS_HPID_fam, PDS_HOFS_fam, PDS_HLEN_fam, PDS_HADDR_fam, PDS_HGO_fam, PDS_HRES_fam, PDS_HDATA_fam]

end Sys2Proof.Machine
end

