-- ==== Sys2Proof/Machine/RegSEC.lean ====
section
/-!
DEFINITION. The register fields of SEC, as the register tables of spec/07_section_and_row_control.md list them:
address, lowest bit, width, access code (Table 0.4) and reset value. Reserved bits (R6) are no field.
-/
namespace Sys2Proof.Machine

def SEC_CTL_EN : Fld := ⟨0x40090000, 31, 1, 0, .rws⟩
def SEC_CTL_SAFEOFF : Fld := ⟨0x40090000, 30, 1, 1, .rws⟩
def SEC_CTL_HLMODE : Fld := ⟨0x40090000, 29, 1, 0, .rws⟩
def SEC_CTL_CUTCOV : Fld := ⟨0x40090000, 28, 1, 0, .rws⟩
def SEC_CTL_DBASE : Fld := ⟨0x40090000, 24, 4, 0xf, .rws⟩
def SEC_CTL_HDRSRC : Fld := ⟨0x40090000, 16, 8, 0, .rws⟩
def SEC_CTL_HDRPOL : Fld := ⟨0x40090000, 15, 1, 0, .rws⟩
def SEC_CTL_fam : RegFam := ⟨0x40090000, [], fun _ => [SEC_CTL_EN, SEC_CTL_SAFEOFF, SEC_CTL_HLMODE, SEC_CTL_CUTCOV, SEC_CTL_DBASE, SEC_CTL_HDRSRC, SEC_CTL_HDRPOL]⟩

def SEC_STAT_STATE : Fld := ⟨0x40090004, 30, 2, 0, .ro⟩
def SEC_STAT_CAUSE : Fld := ⟨0x40090004, 27, 3, 0, .ro⟩
def SEC_STAT_ROWSON : Fld := ⟨0x40090004, 17, 10, 0, .ro⟩
def SEC_STAT_POSTED : Fld := ⟨0x40090004, 8, 9, 0, .ro⟩
def SEC_STAT_fam : RegFam := ⟨0x40090004, [], fun _ => [SEC_STAT_STATE, SEC_STAT_CAUSE, SEC_STAT_ROWSON, SEC_STAT_POSTED]⟩

def SEC_INTSTAT_FENCE : Fld := ⟨0x40090008, 8, 1, 0, .w1c⟩
def SEC_INTSTAT_IMGERR : Fld := ⟨0x40090008, 7, 1, 0, .w1c⟩
def SEC_INTSTAT_HOLD : Fld := ⟨0x40090008, 6, 1, 0, .w1c⟩
def SEC_INTSTAT_BLOCKED : Fld := ⟨0x40090008, 5, 1, 0, .w1c⟩
def SEC_INTSTAT_REFUSED : Fld := ⟨0x40090008, 4, 1, 0, .w1c⟩
def SEC_INTSTAT_LATE : Fld := ⟨0x40090008, 3, 1, 0, .w1c⟩
def SEC_INTSTAT_REVIS : Fld := ⟨0x40090008, 2, 1, 0, .w1c⟩
def SEC_INTSTAT_CUT : Fld := ⟨0x40090008, 1, 1, 0, .w1c⟩
def SEC_INTSTAT_PLAN : Fld := ⟨0x40090008, 0, 1, 0, .w1c⟩
def SEC_INTSTAT_fam : RegFam := ⟨0x40090008, [], fun _ => [SEC_INTSTAT_FENCE, SEC_INTSTAT_IMGERR, SEC_INTSTAT_HOLD, SEC_INTSTAT_BLOCKED, SEC_INTSTAT_REFUSED, SEC_INTSTAT_LATE, SEC_INTSTAT_REVIS, SEC_INTSTAT_CUT, SEC_INTSTAT_PLAN]⟩

def SEC_INTEN_IEN : Fld := ⟨0x4009000C, 0, 9, 0, .rw⟩
def SEC_INTEN_fam : RegFam := ⟨0x4009000C, [], fun _ => [SEC_INTEN_IEN]⟩

def SEC_PLAN0_LOOKAHEAD : Fld := ⟨0x40090010, 16, 16, 0xc8, .rws⟩
def SEC_PLAN0_STEP : Fld := ⟨0x40090010, 8, 8, 5, .rws⟩
def SEC_PLAN0_MAXAGE : Fld := ⟨0x40090010, 0, 8, 0x32, .rws⟩
def SEC_PLAN0_fam : RegFam := ⟨0x40090010, [], fun _ => [SEC_PLAN0_LOOKAHEAD, SEC_PLAN0_STEP, SEC_PLAN0_MAXAGE]⟩

def SEC_PLAN1_HORIZON : Fld := ⟨0x40090014, 16, 16, 0x1388, .rws⟩
def SEC_PLAN1_RETOL : Fld := ⟨0x40090014, 8, 8, 0x14, .rws⟩
def SEC_PLAN1_MERGE : Fld := ⟨0x40090014, 0, 8, 0, .rws⟩
def SEC_PLAN1_fam : RegFam := ⟨0x40090014, [], fun _ => [SEC_PLAN1_HORIZON, SEC_PLAN1_RETOL, SEC_PLAN1_MERGE]⟩

def SEC_THR_ONPCT : Fld := ⟨0x40090018, 24, 8, 0x32, .rws⟩
def SEC_THR_OFFPCT : Fld := ⟨0x40090018, 16, 8, 0x32, .rws⟩
def SEC_THR_MINSPD : Fld := ⟨0x40090018, 0, 16, 0x64, .rws⟩
def SEC_THR_fam : RegFam := ⟨0x40090018, [], fun _ => [SEC_THR_ONPCT, SEC_THR_OFFPCT, SEC_THR_MINSPD]⟩

def SEC_MAPLAT_LAT : Fld := ⟨0x40090020, 0, 32, 0, .rws⟩
def SEC_MAPLAT_fam : RegFam := ⟨0x40090020, [], fun _ => [SEC_MAPLAT_LAT]⟩

def SEC_MAPLON_LON : Fld := ⟨0x40090024, 0, 32, 0, .rws⟩
def SEC_MAPLON_fam : RegFam := ⟨0x40090024, [], fun _ => [SEC_MAPLON_LON]⟩

def SEC_MAPDIM_NY : Fld := ⟨0x40090028, 17, 15, 1, .rws⟩
def SEC_MAPDIM_NXW : Fld := ⟨0x40090028, 7, 10, 1, .rws⟩
def SEC_MAPDIM_CELL : Fld := ⟨0x40090028, 0, 7, 0x19, .rws⟩
def SEC_MAPDIM_fam : RegFam := ⟨0x40090028, [], fun _ => [SEC_MAPDIM_NY, SEC_MAPDIM_NXW, SEC_MAPDIM_CELL]⟩

def SEC_BMAPA_ADDR : Fld := ⟨0x4009002C, 12, 20, 0, .rws⟩
def SEC_BMAPA_fam : RegFam := ⟨0x4009002C, [], fun _ => [SEC_BMAPA_ADDR]⟩

def SEC_BMAPB_ADDR : Fld := ⟨0x40090030, 12, 20, 0, .rws⟩
def SEC_BMAPB_fam : RegFam := ⟨0x40090030, [], fun _ => [SEC_BMAPB_ADDR]⟩

def SEC_CMAP_ADDR : Fld := ⟨0x40090034, 12, 20, 0, .rws⟩
def SEC_CMAP_BSEL : Fld := ⟨0x40090034, 0, 1, 0, .rws⟩
def SEC_CMAP_fam : RegFam := ⟨0x40090034, [], fun _ => [SEC_CMAP_ADDR, SEC_CMAP_BSEL]⟩

def SEC_IMGID_IDE : Fld := ⟨0x40090040, 31, 1, 0, .rws⟩
def SEC_IMGID_ID : Fld := ⟨0x40090040, 0, 29, 0, .rws⟩
def SEC_IMGID_fam : RegFam := ⟨0x40090040, [], fun _ => [SEC_IMGID_IDE, SEC_IMGID_ID]⟩

def SEC_IMGCFG_IMGEN : Fld := ⟨0x40090044, 31, 1, 0, .rws⟩
def SEC_IMGCFG_IMGBUS : Fld := ⟨0x40090044, 29, 2, 1, .rws⟩
def SEC_IMGCFG_CF : Fld := ⟨0x40090044, 26, 3, 0, .rws⟩
def SEC_IMGCFG_YULOFS : Fld := ⟨0x40090044, 18, 8, 0, .rws⟩
def SEC_IMGCFG_fam : RegFam := ⟨0x40090044, [], fun _ => [SEC_IMGCFG_IMGEN, SEC_IMGCFG_IMGBUS, SEC_IMGCFG_CF, SEC_IMGCFG_YULOFS]⟩

def SEC_CUTW_CUTW : Fld := ⟨0x40090050, 16, 16, 0, .ro⟩
def SEC_CUTW_HDRUP : Fld := ⟨0x40090050, 0, 1, 0, .ro⟩
def SEC_CUTW_fam : RegFam := ⟨0x40090050, [], fun _ => [SEC_CUTW_CUTW, SEC_CUTW_HDRUP]⟩

def SEC_PCNT0_REVOKED : Fld := ⟨0x40090054, 16, 16, 0, .ro⟩
def SEC_PCNT0_RETIMED : Fld := ⟨0x40090054, 8, 8, 0, .ro⟩
def SEC_PCNT0_fam : RegFam := ⟨0x40090054, [], fun _ => [SEC_PCNT0_REVOKED, SEC_PCNT0_RETIMED]⟩

def SEC_PCNT1_POSTED : Fld := ⟨0x40090058, 16, 16, 0, .ro⟩
def SEC_PCNT1_STOOD : Fld := ⟨0x40090058, 8, 8, 0, .ro⟩
def SEC_PCNT1_LATE : Fld := ⟨0x40090058, 0, 8, 0, .ro⟩
def SEC_PCNT1_fam : RegFam := ⟨0x40090058, [], fun _ => [SEC_PCNT1_POSTED, SEC_PCNT1_STOOD, SEC_PCNT1_LATE]⟩

def SEC_LATECNT_COUNT : Fld := ⟨0x4009005C, 0, 32, 0, .rw⟩
def SEC_LATECNT_fam : RegFam := ⟨0x4009005C, [], fun _ => [SEC_LATECNT_COUNT]⟩

def SEC_CMD_ROW : Fld := ⟨0x40090060, 16, 9, 0, .wo⟩
def SEC_CMD_CMD : Fld := ⟨0x40090060, 0, 4, 0, .wo⟩
def SEC_CMD_fam : RegFam := ⟨0x40090060, [], fun _ => [SEC_CMD_ROW, SEC_CMD_CMD]⟩

def SEC_HOST_HDRDN : Fld := ⟨0x40090064, 0, 1, 0, .rw⟩
def SEC_HOST_fam : RegFam := ⟨0x40090064, [], fun _ => [SEC_HOST_HDRDN]⟩

def SEC_IMAGE_BITS (n : Nat) : Fld := ⟨0x40090100 + 0x4 * n, 0, 32, 0, .ro⟩
def SEC_IMAGE_fam : RegFam := ⟨0x40090100, [(0x4, 16)], fun i => [SEC_IMAGE_BITS (i.getD 0 0)]⟩

def SEC_RCGEO_LAT (n : Nat) : Fld := ⟨0x40091000 + 0x20 * n, 16, 16, 0, .rws⟩
def SEC_RCGEO_LON (n : Nat) : Fld := ⟨0x40091000 + 0x20 * n, 0, 16, 0, .rws⟩
def SEC_RCGEO_fam : RegFam := ⟨0x40091000, [(0x20, 512)], fun i => [SEC_RCGEO_LAT (i.getD 0 0), SEC_RCGEO_LON (i.getD 0 0)]⟩

def SEC_RCCFG_EN (n : Nat) : Fld := ⟨0x40091004 + 0x20 * n, 31, 1, 0, .rws⟩
def SEC_RCCFG_ROUTE (n : Nat) : Fld := ⟨0x40091004 + 0x20 * n, 28, 3, 0, .rws⟩
def SEC_RCCFG_DEST (n : Nat) : Fld := ⟨0x40091004 + 0x20 * n, 19, 9, 0, .rws⟩
def SEC_RCCFG_WIDTH (n : Nat) : Fld := ⟨0x40091004 + 0x20 * n, 0, 16, 0, .rws⟩
def SEC_RCCFG_fam : RegFam := ⟨0x40091004, [(0x20, 512)], fun i => [SEC_RCCFG_EN (i.getD 0 0), SEC_RCCFG_ROUTE (i.getD 0 0), SEC_RCCFG_DEST (i.getD 0 0), SEC_RCCFG_WIDTH (i.getD 0 0)]⟩

def SEC_RCLAT_ONLAT (n : Nat) : Fld := ⟨0x40091008 + 0x20 * n, 16, 16, 0, .rws⟩
def SEC_RCLAT_OFFLAT (n : Nat) : Fld := ⟨0x40091008 + 0x20 * n, 0, 16, 0, .rws⟩
def SEC_RCLAT_fam : RegFam := ⟨0x40091008, [(0x20, 512)], fun i => [SEC_RCLAT_ONLAT (i.getD 0 0), SEC_RCLAT_OFFLAT (i.getD 0 0)]⟩

def SEC_RCRATE_RATE (n : Nat) : Fld := ⟨0x4009100C + 0x20 * n, 0, 16, 0, .rw⟩
def SEC_RCRATE_fam : RegFam := ⟨0x4009100C, [(0x20, 512)], fun i => [SEC_RCRATE_RATE (i.getD 0 0)]⟩

def SEC_RCSTAT_STATE (n : Nat) : Fld := ⟨0x40091010 + 0x20 * n, 30, 2, 0, .ro⟩
def SEC_RCSTAT_PEND (n : Nat) : Fld := ⟨0x40091010 + 0x20 * n, 29, 1, 0, .ro⟩
def SEC_RCSTAT_LATE (n : Nat) : Fld := ⟨0x40091010 + 0x20 * n, 28, 1, 0, .ro⟩
def SEC_RCSTAT_INBATCH (n : Nat) : Fld := ⟨0x40091010 + 0x20 * n, 27, 1, 0, .ro⟩
def SEC_RCSTAT_COVPCT (n : Nat) : Fld := ⟨0x40091010 + 0x20 * n, 20, 7, 0, .ro⟩
def SEC_RCSTAT_fam : RegFam := ⟨0x40091010, [(0x20, 512)], fun i => [SEC_RCSTAT_STATE (i.getD 0 0), SEC_RCSTAT_PEND (i.getD 0 0), SEC_RCSTAT_LATE (i.getD 0 0), SEC_RCSTAT_INBATCH (i.getD 0 0), SEC_RCSTAT_COVPCT (i.getD 0 0)]⟩

def SEC_RCNEXT_TARGET (n : Nat) : Fld := ⟨0x40091014 + 0x20 * n, 0, 32, 0, .ro⟩
def SEC_RCNEXT_fam : RegFam := ⟨0x40091014, [(0x20, 512)], fun i => [SEC_RCNEXT_TARGET (i.getD 0 0)]⟩

/-- Every register of SEC that has fields. -/
def SEC_fams : List RegFam :=
  [SEC_CTL_fam, SEC_STAT_fam, SEC_INTSTAT_fam, SEC_INTEN_fam, SEC_PLAN0_fam, SEC_PLAN1_fam, SEC_THR_fam, SEC_MAPLAT_fam, SEC_MAPLON_fam, SEC_MAPDIM_fam, SEC_BMAPA_fam, SEC_BMAPB_fam, SEC_CMAP_fam, SEC_IMGID_fam, SEC_IMGCFG_fam, SEC_CUTW_fam, SEC_PCNT0_fam, SEC_PCNT1_fam, SEC_LATECNT_fam, SEC_CMD_fam] ++
  [SEC_HOST_fam, SEC_IMAGE_fam, SEC_RCGEO_fam, SEC_RCCFG_fam, SEC_RCLAT_fam, SEC_RCRATE_fam, SEC_RCSTAT_fam, SEC_RCNEXT_fam]

end Sys2Proof.Machine
end

