-- ==== Sys2Proof/Machine/RegSOL.lean ====
section
/-!
DEFINITION. The register fields of SOL, as the register tables of spec/08_solenoid_and_valve_drive.md list them:
address, lowest bit, width, access code (Table 0.4) and reset value. Reserved bits (R6) are no field.
-/
namespace Sys2Proof.Machine

def SOL_CTL_BEN : Fld := ⟨0x400A0000, 31, 1, 0, .rws⟩
def SOL_CTL_VBST : Fld := ⟨0x400A0000, 20, 11, 0x1e0, .rws⟩
def SOL_CTL_NFREQ : Fld := ⟨0x400A0000, 13, 7, 0x32, .rws⟩
def SOL_CTL_fam : RegFam := ⟨0x400A0000, [], fun _ => [SOL_CTL_BEN, SOL_CTL_VBST, SOL_CTL_NFREQ]⟩

def SOL_STAT_BSTATE : Fld := ⟨0x400A0004, 29, 3, 0, .ro⟩
def SOL_STAT_LEASE : Fld := ⟨0x400A0004, 28, 1, 0, .ro⟩
def SOL_STAT_VBOOST : Fld := ⟨0x400A0004, 16, 12, 0, .ro⟩
def SOL_STAT_VOUTB : Fld := ⟨0x400A0004, 4, 12, 0, .ro⟩
def SOL_STAT_UV : Fld := ⟨0x400A0004, 3, 1, 0, .ro⟩
def SOL_STAT_fam : RegFam := ⟨0x400A0004, [], fun _ => [SOL_STAT_BSTATE, SOL_STAT_LEASE, SOL_STAT_VBOOST, SOL_STAT_VOUTB, SOL_STAT_UV]⟩

def SOL_INTSTAT_FENCE : Fld := ⟨0x400A0008, 9, 1, 0, .w1c⟩
def SOL_INTSTAT_UV : Fld := ⟨0x400A0008, 8, 1, 0, .w1c⟩
def SOL_INTSTAT_BFAULT : Fld := ⟨0x400A0008, 7, 1, 0, .w1c⟩
def SOL_INTSTAT_BNR : Fld := ⟨0x400A0008, 6, 1, 0, .w1c⟩
def SOL_INTSTAT_OVT : Fld := ⟨0x400A0008, 5, 1, 0, .w1c⟩
def SOL_INTSTAT_OPEN : Fld := ⟨0x400A0008, 4, 1, 0, .w1c⟩
def SOL_INTSTAT_PKNR : Fld := ⟨0x400A0008, 3, 1, 0, .w1c⟩
def SOL_INTSTAT_SHORT : Fld := ⟨0x400A0008, 2, 1, 0, .w1c⟩
def SOL_INTSTAT_REFUSED : Fld := ⟨0x400A0008, 1, 1, 0, .w1c⟩
def SOL_INTSTAT_SERIAL : Fld := ⟨0x400A0008, 0, 1, 0, .w1c⟩
def SOL_INTSTAT_fam : RegFam := ⟨0x400A0008, [], fun _ => [SOL_INTSTAT_FENCE, SOL_INTSTAT_UV, SOL_INTSTAT_BFAULT, SOL_INTSTAT_BNR, SOL_INTSTAT_OVT, SOL_INTSTAT_OPEN, SOL_INTSTAT_PKNR, SOL_INTSTAT_SHORT, SOL_INTSTAT_REFUSED, SOL_INTSTAT_SERIAL]⟩

def SOL_INTEN_IEN : Fld := ⟨0x400A000C, 0, 10, 0, .rw⟩
def SOL_INTEN_fam : RegFam := ⟨0x400A000C, [], fun _ => [SOL_INTEN_IEN]⟩

def SOL_BCMD_CMD : Fld := ⟨0x400A0010, 0, 2, 0, .wo⟩
def SOL_BCMD_fam : RegFam := ⟨0x400A0010, [], fun _ => [SOL_BCMD_CMD]⟩

def SOL_GSTAT_GON (n : Nat) : Fld := ⟨0x400A0100 + 0x10 * n, 31, 1, 0, .ro⟩
def SOL_GSTAT_RAIL (n : Nat) : Fld := ⟨0x400A0100 + 0x10 * n, 30, 1, 0, .ro⟩
def SOL_GSTAT_GFLT (n : Nat) : Fld := ⟨0x400A0100 + 0x10 * n, 29, 1, 0, .ro⟩
def SOL_GSTAT_PKCH (n : Nat) : Fld := ⟨0x400A0100 + 0x10 * n, 24, 5, 0x1f, .ro⟩
def SOL_GSTAT_IGRP (n : Nat) : Fld := ⟨0x400A0100 + 0x10 * n, 16, 8, 0, .ro⟩
def SOL_GSTAT_TOPEN (n : Nat) : Fld := ⟨0x400A0100 + 0x10 * n, 15, 1, 0, .ro⟩
def SOL_GSTAT_PKMAX (n : Nat) : Fld := ⟨0x400A0100 + 0x10 * n, 0, 15, 0, .ro⟩
def SOL_GSTAT_fam : RegFam := ⟨0x400A0100, [(0x10, 6)], fun i => [SOL_GSTAT_GON (i.getD 0 0), SOL_GSTAT_RAIL (i.getD 0 0), SOL_GSTAT_GFLT (i.getD 0 0), SOL_GSTAT_PKCH (i.getD 0 0), SOL_GSTAT_IGRP (i.getD 0 0), SOL_GSTAT_TOPEN (i.getD 0 0), SOL_GSTAT_PKMAX (i.getD 0 0)]⟩

def SOL_GCNT_SERCNT (n : Nat) : Fld := ⟨0x400A0104 + 0x10 * n, 16, 16, 0, .rw⟩
def SOL_GCNT_REFCNT (n : Nat) : Fld := ⟨0x400A0104 + 0x10 * n, 0, 16, 0, .rw⟩
def SOL_GCNT_fam : RegFam := ⟨0x400A0104, [(0x10, 6)], fun i => [SOL_GCNT_SERCNT (i.getD 0 0), SOL_GCNT_REFCNT (i.getD 0 0)]⟩

def SOL_GCMD_CMD (n : Nat) : Fld := ⟨0x400A0108 + 0x10 * n, 0, 2, 0, .wo⟩
def SOL_GCMD_fam : RegFam := ⟨0x400A0108, [(0x10, 6)], fun i => [SOL_GCMD_CMD (i.getD 0 0)]⟩

def SOL_CHCFG_MODE (n : Nat) : Fld := ⟨0x400A0400 + 0x40 * n, 30, 2, 0, .rws⟩
def SOL_CHCFG_PAIR (n : Nat) : Fld := ⟨0x400A0400 + 0x40 * n, 29, 1, 0, .rws⟩
def SOL_CHCFG_PKACT (n : Nat) : Fld := ⟨0x400A0400 + 0x40 * n, 28, 1, 1, .rws⟩
def SOL_CHCFG_DIAGEN (n : Nat) : Fld := ⟨0x400A0400 + 0x40 * n, 27, 1, 0, .rws⟩
def SOL_CHCFG_DFREQ (n : Nat) : Fld := ⟨0x400A0400 + 0x40 * n, 8, 8, 0, .rws⟩
def SOL_CHCFG_DAMP (n : Nat) : Fld := ⟨0x400A0400 + 0x40 * n, 0, 8, 0, .rws⟩
def SOL_CHCFG_fam : RegFam := ⟨0x400A0400, [(0x40, 24)], fun i => [SOL_CHCFG_MODE (i.getD 0 0), SOL_CHCFG_PAIR (i.getD 0 0), SOL_CHCFG_PKACT (i.getD 0 0), SOL_CHCFG_DIAGEN (i.getD 0 0), SOL_CHCFG_DFREQ (i.getD 0 0), SOL_CHCFG_DAMP (i.getD 0 0)]⟩

def SOL_CHCUR_IPEAK (n : Nat) : Fld := ⟨0x400A0404 + 0x40 * n, 16, 16, 0x7d0, .rws⟩
def SOL_CHCUR_IHOLD (n : Nat) : Fld := ⟨0x400A0404 + 0x40 * n, 0, 16, 0x1f4, .rws⟩
def SOL_CHCUR_fam : RegFam := ⟨0x400A0404, [(0x40, 24)], fun i => [SOL_CHCUR_IPEAK (i.getD 0 0), SOL_CHCUR_IHOLD (i.getD 0 0)]⟩

def SOL_CHTIM_TPEAK (n : Nat) : Fld := ⟨0x400A0408 + 0x40 * n, 16, 16, 0x12c, .rws⟩
def SOL_CHTIM_TPKTO (n : Nat) : Fld := ⟨0x400A0408 + 0x40 * n, 0, 16, 0xc8, .rws⟩
def SOL_CHTIM_fam : RegFam := ⟨0x400A0408, [(0x40, 24)], fun i => [SOL_CHTIM_TPEAK (i.getD 0 0), SOL_CHTIM_TPKTO (i.getD 0 0)]⟩

def SOL_CHSET_ISET (n : Nat) : Fld := ⟨0x400A040C + 0x40 * n, 0, 16, 0, .rw⟩
def SOL_CHSET_fam : RegFam := ⟨0x400A040C, [(0x40, 24)], fun i => [SOL_CHSET_ISET (i.getD 0 0)]⟩

def SOL_CHDUTY_DUTY (n : Nat) : Fld := ⟨0x400A0410 + 0x40 * n, 0, 10, 0, .rw⟩
def SOL_CHDUTY_fam : RegFam := ⟨0x400A0410, [(0x40, 24)], fun i => [SOL_CHDUTY_DUTY (i.getD 0 0)]⟩

def SOL_CHCMD_CMD (n : Nat) : Fld := ⟨0x400A0414 + 0x40 * n, 0, 2, 0, .wo⟩
def SOL_CHCMD_fam : RegFam := ⟨0x400A0414, [(0x40, 24)], fun i => [SOL_CHCMD_CMD (i.getD 0 0)]⟩

def SOL_CHSTAT_STATE (n : Nat) : Fld := ⟨0x400A0418 + 0x40 * n, 29, 3, 0, .ro⟩
def SOL_CHSTAT_ON (n : Nat) : Fld := ⟨0x400A0418 + 0x40 * n, 28, 1, 0, .ro⟩
def SOL_CHSTAT_CLAIM (n : Nat) : Fld := ⟨0x400A0418 + 0x40 * n, 27, 1, 0, .ro⟩
def SOL_CHSTAT_CAUSE (n : Nat) : Fld := ⟨0x400A0418 + 0x40 * n, 24, 3, 0, .ro⟩
def SOL_CHSTAT_IMEAS (n : Nat) : Fld := ⟨0x400A0418 + 0x40 * n, 0, 16, 0, .ro⟩
def SOL_CHSTAT_fam : RegFam := ⟨0x400A0418, [(0x40, 24)], fun i => [SOL_CHSTAT_STATE (i.getD 0 0), SOL_CHSTAT_ON (i.getD 0 0), SOL_CHSTAT_CLAIM (i.getD 0 0), SOL_CHSTAT_CAUSE (i.getD 0 0), SOL_CHSTAT_IMEAS (i.getD 0 0)]⟩

def SOL_CHDLY_IGNCNT (n : Nat) : Fld := ⟨0x400A041C + 0x40 * n, 16, 16, 0, .rw⟩
def SOL_CHDLY_DLY (n : Nat) : Fld := ⟨0x400A041C + 0x40 * n, 0, 16, 0, .ro⟩
def SOL_CHDLY_fam : RegFam := ⟨0x400A041C, [(0x40, 24)], fun i => [SOL_CHDLY_IGNCNT (i.getD 0 0), SOL_CHDLY_DLY (i.getD 0 0)]⟩

def SOL_CHFLAG_ILIM (n : Nat) : Fld := ⟨0x400A0420 + 0x40 * n, 10, 1, 0, .w1c⟩
def SOL_CHFLAG_DUTYLIM (n : Nat) : Fld := ⟨0x400A0420 + 0x40 * n, 9, 1, 0, .w1c⟩
def SOL_CHFLAG_UV (n : Nat) : Fld := ⟨0x400A0420 + 0x40 * n, 8, 1, 0, .w1c⟩
def SOL_CHFLAG_OVT (n : Nat) : Fld := ⟨0x400A0420 + 0x40 * n, 7, 1, 0, .w1c⟩
def SOL_CHFLAG_OPENOFF (n : Nat) : Fld := ⟨0x400A0420 + 0x40 * n, 6, 1, 0, .w1c⟩
def SOL_CHFLAG_OPEN (n : Nat) : Fld := ⟨0x400A0420 + 0x40 * n, 5, 1, 0, .w1c⟩
def SOL_CHFLAG_PKNR (n : Nat) : Fld := ⟨0x400A0420 + 0x40 * n, 4, 1, 0, .w1c⟩
def SOL_CHFLAG_BNR (n : Nat) : Fld := ⟨0x400A0420 + 0x40 * n, 3, 1, 0, .w1c⟩
def SOL_CHFLAG_SHORT (n : Nat) : Fld := ⟨0x400A0420 + 0x40 * n, 2, 1, 0, .w1c⟩
def SOL_CHFLAG_REFUSED (n : Nat) : Fld := ⟨0x400A0420 + 0x40 * n, 1, 1, 0, .w1c⟩
def SOL_CHFLAG_SERIAL (n : Nat) : Fld := ⟨0x400A0420 + 0x40 * n, 0, 1, 0, .w1c⟩
def SOL_CHFLAG_fam : RegFam := ⟨0x400A0420, [(0x40, 24)], fun i => [SOL_CHFLAG_ILIM (i.getD 0 0), SOL_CHFLAG_DUTYLIM (i.getD 0 0), SOL_CHFLAG_UV (i.getD 0 0), SOL_CHFLAG_OVT (i.getD 0 0), SOL_CHFLAG_OPENOFF (i.getD 0 0), SOL_CHFLAG_OPEN (i.getD 0 0), SOL_CHFLAG_PKNR (i.getD 0 0), SOL_CHFLAG_BNR (i.getD 0 0), SOL_CHFLAG_SHORT (i.getD 0 0), SOL_CHFLAG_REFUSED (i.getD 0 0), SOL_CHFLAG_SERIAL (i.getD 0 0)]⟩

/-- Every register of SOL that has fields. -/
def SOL_fams : List RegFam :=
  [SOL_CTL_fam, SOL_STAT_fam, SOL_INTSTAT_fam, SOL_INTEN_fam, SOL_BCMD_fam, SOL_GSTAT_fam, SOL_GCNT_fam, SOL_GCMD_fam, SOL_CHCFG_fam, SOL_CHCUR_fam, SOL_CHTIM_fam, SOL_CHSET_fam, SOL_CHDUTY_fam, SOL_CHCMD_fam, SOL_CHSTAT_fam, SOL_CHDLY_fam, SOL_CHFLAG_fam]

end Sys2Proof.Machine
end

