-- ==== Sys2Proof/Machine/RegTBS.lean ====
section
/-!
DEFINITION. The register fields of TBS, as the register tables of spec/02_time_bases.md list them:
address, lowest bit, width, access code (Table 0.4) and reset value. Reserved bits (R6) are no field.
-/
namespace Sys2Proof.Machine

def TBS_GSTAT_STATE : Fld := ⟨0x40030000, 0, 24, 0, .ro⟩
def TBS_GSTAT_fam : RegFam := ⟨0x40030000, [], fun _ => [TBS_GSTAT_STATE]⟩

def TBS_GFLAG_ANY : Fld := ⟨0x40030004, 0, 8, 0, .ro⟩
def TBS_GFLAG_fam : RegFam := ⟨0x40030004, [], fun _ => [TBS_GFLAG_ANY]⟩

def TBS_SNAP_SNAP : Fld := ⟨0x40030008, 0, 32, 0, .ws⟩
def TBS_SNAP_fam : RegFam := ⟨0x40030008, [], fun _ => [TBS_SNAP_SNAP]⟩

def TBS_INTEN_IEN : Fld := ⟨0x4003000C, 0, 8, 0, .rw⟩
def TBS_INTEN_fam : RegFam := ⟨0x4003000C, [], fun _ => [TBS_INTEN_IEN]⟩

def TBS_INSTAT_LEVEL : Fld := ⟨0x40030010, 16, 16, 0, .ro⟩
def TBS_INSTAT_WBRK : Fld := ⟨0x40030010, 0, 16, 0, .ro⟩
def TBS_INSTAT_fam : RegFam := ⟨0x40030010, [], fun _ => [TBS_INSTAT_LEVEL, TBS_INSTAT_WBRK]⟩

def TBS_CFG_SRC (n : Nat) : Fld := ⟨0x40030100 + 0x80 * n, 28, 4, 0, .rws⟩
def TBS_CFG_KIND (n : Nat) : Fld := ⟨0x40030100 + 0x80 * n, 27, 1, 0, .rws⟩
def TBS_CFG_ESTW (n : Nat) : Fld := ⟨0x40030100 + 0x80 * n, 24, 3, 2, .rws⟩
def TBS_CFG_DIRSRC (n : Nat) : Fld := ⟨0x40030100 + 0x80 * n, 20, 3, 0, .rws⟩
def TBS_CFG_HYST (n : Nat) : Fld := ⟨0x40030100 + 0x80 * n, 16, 4, 2, .rws⟩
def TBS_CFG_INA (n : Nat) : Fld := ⟨0x40030100 + 0x80 * n, 12, 4, 0, .rws⟩
def TBS_CFG_INB (n : Nat) : Fld := ⟨0x40030100 + 0x80 * n, 8, 4, 0, .rws⟩
def TBS_CFG_INZ (n : Nat) : Fld := ⟨0x40030100 + 0x80 * n, 4, 4, 0, .rws⟩
def TBS_CFG_ZEN (n : Nat) : Fld := ⟨0x40030100 + 0x80 * n, 3, 1, 0, .rws⟩
def TBS_CFG_EDGE (n : Nat) : Fld := ⟨0x40030100 + 0x80 * n, 2, 1, 0, .rws⟩
def TBS_CFG_MULT (n : Nat) : Fld := ⟨0x40030100 + 0x80 * n, 0, 2, 0, .rws⟩
def TBS_CFG_fam : RegFam := ⟨0x40030100, [(0x80, 8)], fun i => [TBS_CFG_SRC (i.getD 0 0), TBS_CFG_KIND (i.getD 0 0), TBS_CFG_ESTW (i.getD 0 0), TBS_CFG_DIRSRC (i.getD 0 0), TBS_CFG_HYST (i.getD 0 0), TBS_CFG_INA (i.getD 0 0), TBS_CFG_INB (i.getD 0 0), TBS_CFG_INZ (i.getD 0 0), TBS_CFG_ZEN (i.getD 0 0), TBS_CFG_EDGE (i.getD 0 0), TBS_CFG_MULT (i.getD 0 0)]⟩

def TBS_TEETH_PULSES (n : Nat) : Fld := ⟨0x40030104 + 0x80 * n, 16, 16, 1, .rws⟩
def TBS_TEETH_MISS (n : Nat) : Fld := ⟨0x40030104 + 0x80 * n, 12, 4, 0, .rws⟩
def TBS_TEETH_GAPR (n : Nat) : Fld := ⟨0x40030104 + 0x80 * n, 6, 6, 0x20, .rws⟩
def TBS_TEETH_FILT (n : Nat) : Fld := ⟨0x40030104 + 0x80 * n, 0, 6, 5, .rws⟩
def TBS_TEETH_fam : RegFam := ⟨0x40030104, [(0x80, 8)], fun i => [TBS_TEETH_PULSES (i.getD 0 0), TBS_TEETH_MISS (i.getD 0 0), TBS_TEETH_GAPR (i.getD 0 0), TBS_TEETH_FILT (i.getD 0 0)]⟩

def TBS_SCALE_SCALE (n : Nat) : Fld := ⟨0x40030108 + 0x80 * n, 0, 32, 0x10000, .rws⟩
def TBS_SCALE_fam : RegFam := ⟨0x40030108, [(0x80, 8)], fun i => [TBS_SCALE_SCALE (i.getD 0 0)]⟩

def TBS_LIM_AMAX (n : Nat) : Fld := ⟨0x4003010C + 0x80 * n, 16, 16, 0xc8, .rws⟩
def TBS_LIM_LOSSMARG (n : Nat) : Fld := ⟨0x4003010C + 0x80 * n, 8, 8, 0x10, .rws⟩
def TBS_LIM_STILLTO (n : Nat) : Fld := ⟨0x4003010C + 0x80 * n, 0, 8, 0x28, .rws⟩
def TBS_LIM_fam : RegFam := ⟨0x4003010C, [(0x80, 8)], fun i => [TBS_LIM_AMAX (i.getD 0 0), TBS_LIM_LOSSMARG (i.getD 0 0), TBS_LIM_STILLTO (i.getD 0 0)]⟩

def TBS_VMAX_VMAX (n : Nat) : Fld := ⟨0x40030110 + 0x80 * n, 0, 32, 0x7fffffff, .rws⟩
def TBS_VMAX_fam : RegFam := ⟨0x40030110, [(0x80, 8)], fun i => [TBS_VMAX_VMAX (i.getD 0 0)]⟩

def TBS_PLAUS_PEN (n : Nat) : Fld := ⟨0x40030114 + 0x80 * n, 31, 1, 0, .rws⟩
def TBS_PLAUS_REF (n : Nat) : Fld := ⟨0x40030114 + 0x80 * n, 28, 3, 0, .rws⟩
def TBS_PLAUS_BLEND (n : Nat) : Fld := ⟨0x40030114 + 0x80 * n, 27, 1, 0, .rws⟩
def TBS_PLAUS_FAILOVER (n : Nat) : Fld := ⟨0x40030114 + 0x80 * n, 26, 1, 0, .rws⟩
def TBS_PLAUS_TOL (n : Nat) : Fld := ⟨0x40030114 + 0x80 * n, 16, 8, 0xa, .rws⟩
def TBS_PLAUS_TRIMLIM (n : Nat) : Fld := ⟨0x40030114 + 0x80 * n, 8, 8, 0x1e, .rws⟩
def TBS_PLAUS_fam : RegFam := ⟨0x40030114, [(0x80, 8)], fun i => [TBS_PLAUS_PEN (i.getD 0 0), TBS_PLAUS_REF (i.getD 0 0), TBS_PLAUS_BLEND (i.getD 0 0), TBS_PLAUS_FAILOVER (i.getD 0 0), TBS_PLAUS_TOL (i.getD 0 0), TBS_PLAUS_TRIMLIM (i.getD 0 0)]⟩

def TBS_RATIO_RATIO (n : Nat) : Fld := ⟨0x40030118 + 0x80 * n, 0, 32, 0x10000, .rws⟩
def TBS_RATIO_fam : RegFam := ⟨0x40030118, [(0x80, 8)], fun i => [TBS_RATIO_RATIO (i.getD 0 0)]⟩

def TBS_IDXOFS_IDXOFS (n : Nat) : Fld := ⟨0x4003011C + 0x80 * n, 0, 24, 0, .rws⟩
def TBS_IDXOFS_fam : RegFam := ⟨0x4003011C, [(0x80, 8)], fun i => [TBS_IDXOFS_IDXOFS (i.getD 0 0)]⟩

def TBS_VRATE_VRATE (n : Nat) : Fld := ⟨0x40030120 + 0x80 * n, 0, 32, 0, .rw⟩
def TBS_VRATE_fam : RegFam := ⟨0x40030120, [(0x80, 8)], fun i => [TBS_VRATE_VRATE (i.getD 0 0)]⟩

def TBS_PRESET_PRESET (n : Nat) : Fld := ⟨0x40030124 + 0x80 * n, 0, 32, 0, .wo⟩
def TBS_PRESET_fam : RegFam := ⟨0x40030124, [(0x80, 8)], fun i => [TBS_PRESET_PRESET (i.getD 0 0)]⟩

def TBS_PHASE_PHASE (n : Nat) : Fld := ⟨0x40030128 + 0x80 * n, 0, 32, 0, .ro⟩
def TBS_PHASE_fam : RegFam := ⟨0x40030128, [(0x80, 8)], fun i => [TBS_PHASE_PHASE (i.getD 0 0)]⟩

def TBS_VEL_VEL (n : Nat) : Fld := ⟨0x4003012C + 0x80 * n, 0, 32, 0, .ro⟩
def TBS_VEL_fam : RegFam := ⟨0x4003012C, [(0x80, 8)], fun i => [TBS_VEL_VEL (i.getD 0 0)]⟩

def TBS_ACC_ACC (n : Nat) : Fld := ⟨0x40030130 + 0x80 * n, 0, 32, 0, .ro⟩
def TBS_ACC_fam : RegFam := ⟨0x40030130, [(0x80, 8)], fun i => [TBS_ACC_ACC (i.getD 0 0)]⟩

def TBS_TSLO_TS (n : Nat) : Fld := ⟨0x40030134 + 0x80 * n, 0, 32, 0, .ro⟩
def TBS_TSLO_fam : RegFam := ⟨0x40030134, [(0x80, 8)], fun i => [TBS_TSLO_TS (i.getD 0 0)]⟩

def TBS_TSHI_TS (n : Nat) : Fld := ⟨0x40030138 + 0x80 * n, 0, 32, 0, .ro⟩
def TBS_TSHI_fam : RegFam := ⟨0x40030138, [(0x80, 8)], fun i => [TBS_TSHI_TS (i.getD 0 0)]⟩

def TBS_STAT_STATE (n : Nat) : Fld := ⟨0x4003013C + 0x80 * n, 29, 3, 0, .ro⟩
def TBS_STAT_DIR (n : Nat) : Fld := ⟨0x4003013C + 0x80 * n, 28, 1, 1, .ro⟩
def TBS_STAT_VALID (n : Nat) : Fld := ⟨0x4003013C + 0x80 * n, 27, 1, 0, .ro⟩
def TBS_STAT_NOIDX (n : Nat) : Fld := ⟨0x4003013C + 0x80 * n, 26, 1, 0, .ro⟩
def TBS_STAT_SUBST (n : Nat) : Fld := ⟨0x4003013C + 0x80 * n, 25, 1, 0, .ro⟩
def TBS_STAT_TRIM (n : Nat) : Fld := ⟨0x4003013C + 0x80 * n, 16, 8, 0, .ro⟩
def TBS_STAT_PERR (n : Nat) : Fld := ⟨0x4003013C + 0x80 * n, 0, 16, 0, .ro⟩
def TBS_STAT_fam : RegFam := ⟨0x4003013C, [(0x80, 8)], fun i => [TBS_STAT_STATE (i.getD 0 0), TBS_STAT_DIR (i.getD 0 0), TBS_STAT_VALID (i.getD 0 0), TBS_STAT_NOIDX (i.getD 0 0), TBS_STAT_SUBST (i.getD 0 0), TBS_STAT_TRIM (i.getD 0 0), TBS_STAT_PERR (i.getD 0 0)]⟩

def TBS_FLAGS_ACCERR (n : Nat) : Fld := ⟨0x40030140 + 0x80 * n, 11, 1, 0, .w1c⟩
def TBS_FLAGS_OVERSPD (n : Nat) : Fld := ⟨0x40030140 + 0x80 * n, 10, 1, 0, .w1c⟩
def TBS_FLAGS_TRIMLIM (n : Nat) : Fld := ⟨0x40030140 + 0x80 * n, 9, 1, 0, .w1c⟩
def TBS_FLAGS_TRACK (n : Nat) : Fld := ⟨0x40030140 + 0x80 * n, 8, 1, 0, .w1c⟩
def TBS_FLAGS_WIREBRK (n : Nat) : Fld := ⟨0x40030140 + 0x80 * n, 7, 1, 0, .w1c⟩
def TBS_FLAGS_PLAUSERR (n : Nat) : Fld := ⟨0x40030140 + 0x80 * n, 6, 1, 0, .w1c⟩
def TBS_FLAGS_TOOTHERR (n : Nat) : Fld := ⟨0x40030140 + 0x80 * n, 5, 1, 0, .w1c⟩
def TBS_FLAGS_SUSPECT (n : Nat) : Fld := ⟨0x40030140 + 0x80 * n, 4, 1, 0, .w1c⟩
def TBS_FLAGS_LOST (n : Nat) : Fld := ⟨0x40030140 + 0x80 * n, 3, 1, 0, .w1c⟩
def TBS_FLAGS_STILL (n : Nat) : Fld := ⟨0x40030140 + 0x80 * n, 2, 1, 0, .w1c⟩
def TBS_FLAGS_JUMP (n : Nat) : Fld := ⟨0x40030140 + 0x80 * n, 1, 1, 0, .w1c⟩
def TBS_FLAGS_REV (n : Nat) : Fld := ⟨0x40030140 + 0x80 * n, 0, 1, 0, .w1c⟩
def TBS_FLAGS_fam : RegFam := ⟨0x40030140, [(0x80, 8)], fun i => [TBS_FLAGS_ACCERR (i.getD 0 0), TBS_FLAGS_OVERSPD (i.getD 0 0), TBS_FLAGS_TRIMLIM (i.getD 0 0), TBS_FLAGS_TRACK (i.getD 0 0), TBS_FLAGS_WIREBRK (i.getD 0 0), TBS_FLAGS_PLAUSERR (i.getD 0 0), TBS_FLAGS_TOOTHERR (i.getD 0 0), TBS_FLAGS_SUSPECT (i.getD 0 0), TBS_FLAGS_LOST (i.getD 0 0), TBS_FLAGS_STILL (i.getD 0 0), TBS_FLAGS_JUMP (i.getD 0 0), TBS_FLAGS_REV (i.getD 0 0)]⟩

def TBS_JUMP_JSIZE (n : Nat) : Fld := ⟨0x40030144 + 0x80 * n, 0, 32, 0, .ro⟩
def TBS_JUMP_fam : RegFam := ⟨0x40030144, [(0x80, 8)], fun i => [TBS_JUMP_JSIZE (i.getD 0 0)]⟩

/-- Every register of TBS that has fields. -/
def TBS_fams : List RegFam :=
  [TBS_GSTAT_fam, TBS_GFLAG_fam, TBS_SNAP_fam, TBS_INTEN_fam, TBS_INSTAT_fam, TBS_CFG_fam, TBS_TEETH_fam, TBS_SCALE_fam, TBS_LIM_fam, TBS_VMAX_fam, TBS_PLAUS_fam, TBS_RATIO_fam, TBS_IDXOFS_fam, TBS_VRATE_fam, TBS_PRESET_fam, TBS_PHASE_fam, TBS_VEL_fam, TBS_ACC_fam, TBS_TSLO_fam, TBS_TSHI_fam] ++
  [TBS_STAT_fam, TBS_FLAGS_fam, TBS_JUMP_fam]

end Sys2Proof.Machine
end

