-- ==== Sys2Proof/Machine/RegVIS.lean ====
section
/-!
DEFINITION. The register fields of VIS, as the register tables of spec/05_grain_vision.md list them:
address, lowest bit, width, access code (Table 0.4) and reset value. Reserved bits (R6) are no field.
-/
namespace Sys2Proof.Machine

def VIS_STAT_PSTATE : Fld := ⟨0x40060000, 30, 2, 0, .ro⟩
def VIS_STAT_CTX : Fld := ⟨0x40060000, 28, 2, 0, .ro⟩
def VIS_STAT_TLVL : Fld := ⟨0x40060000, 26, 2, 0, .ro⟩
def VIS_STAT_QLIVE : Fld := ⟨0x40060000, 22, 4, 0, .ro⟩
def VIS_STAT_RPEND : Fld := ⟨0x40060000, 21, 1, 0, .ro⟩
def VIS_STAT_fam : RegFam := ⟨0x40060000, [], fun _ => [VIS_STAT_PSTATE, VIS_STAT_CTX, VIS_STAT_TLVL, VIS_STAT_QLIVE, VIS_STAT_RPEND]⟩

def VIS_INTSTAT_RPLY : Fld := ⟨0x40060004, 9, 1, 0, .w1c⟩
def VIS_INTSTAT_FENCE : Fld := ⟨0x40060004, 8, 1, 0, .w1c⟩
def VIS_INTSTAT_MEMERR : Fld := ⟨0x40060004, 7, 1, 0, .w1c⟩
def VIS_INTSTAT_IMGSKIP : Fld := ⟨0x40060004, 6, 1, 0, .w1c⟩
def VIS_INTSTAT_OBJOVF : Fld := ⟨0x40060004, 5, 1, 0, .w1c⟩
def VIS_INTSTAT_TRIG : Fld := ⟨0x40060004, 4, 1, 0, .w1c⟩
def VIS_INTSTAT_PORTERR : Fld := ⟨0x40060004, 3, 1, 0, .w1c⟩
def VIS_INTSTAT_DROP : Fld := ⟨0x40060004, 2, 1, 0, .w1c⟩
def VIS_INTSTAT_ROVF : Fld := ⟨0x40060004, 1, 1, 0, .w1c⟩
def VIS_INTSTAT_RES : Fld := ⟨0x40060004, 0, 1, 0, .w1c⟩
def VIS_INTSTAT_fam : RegFam := ⟨0x40060004, [], fun _ => [VIS_INTSTAT_RPLY, VIS_INTSTAT_FENCE, VIS_INTSTAT_MEMERR, VIS_INTSTAT_IMGSKIP, VIS_INTSTAT_OBJOVF, VIS_INTSTAT_TRIG, VIS_INTSTAT_PORTERR, VIS_INTSTAT_DROP, VIS_INTSTAT_ROVF, VIS_INTSTAT_RES]⟩

def VIS_INTEN_IEN : Fld := ⟨0x40060008, 0, 10, 0, .rw⟩
def VIS_INTEN_fam : RegFam := ⟨0x40060008, [], fun _ => [VIS_INTEN_IEN]⟩

def VIS_LOAD_BUSY : Fld := ⟨0x4006000C, 16, 16, 0, .ro⟩
def VIS_LOAD_QUIET : Fld := ⟨0x4006000C, 0, 16, 0, .ro⟩
def VIS_LOAD_fam : RegFam := ⟨0x4006000C, [], fun _ => [VIS_LOAD_BUSY, VIS_LOAD_QUIET]⟩

def VIS_RESWR_IDX : Fld := ⟨0x40060010, 0, 7, 0, .ro⟩
def VIS_RESWR_fam : RegFam := ⟨0x40060010, [], fun _ => [VIS_RESWR_IDX]⟩

def VIS_RESRD_IDX : Fld := ⟨0x40060014, 0, 7, 0, .rw⟩
def VIS_RESRD_fam : RegFam := ⟨0x40060014, [], fun _ => [VIS_RESRD_IDX]⟩

def VIS_RESDROP_COUNT : Fld := ⟨0x40060018, 0, 16, 0, .rw⟩
def VIS_RESDROP_fam : RegFam := ⟨0x40060018, [], fun _ => [VIS_RESDROP_COUNT]⟩

def VIS_RFMT_CFA : Fld := ⟨0x40060020, 29, 3, 0, .rw⟩
def VIS_RFMT_W : Fld := ⟨0x40060020, 16, 13, 0x40, .rw⟩
def VIS_RFMT_H : Fld := ⟨0x40060020, 0, 13, 0x40, .rw⟩
def VIS_RFMT_fam : RegFam := ⟨0x40060020, [], fun _ => [VIS_RFMT_CFA, VIS_RFMT_W, VIS_RFMT_H]⟩

def VIS_RADR_ADDR : Fld := ⟨0x40060024, 12, 20, 0, .rw⟩
def VIS_RADR_fam : RegFam := ⟨0x40060024, [], fun _ => [VIS_RADR_ADDR]⟩

def VIS_RPLY_GO : Fld := ⟨0x40060028, 0, 32, 0, .ws⟩
def VIS_RPLY_fam : RegFam := ⟨0x40060028, [], fun _ => [VIS_RPLY_GO]⟩

def VIS_PFMT_EN (n : Nat) : Fld := ⟨0x40060100 + 0x40 * n, 31, 1, 0, .rws⟩
def VIS_PFMT_BPP (n : Nat) : Fld := ⟨0x40060100 + 0x40 * n, 28, 3, 0, .rws⟩
def VIS_PFMT_CFA (n : Nat) : Fld := ⟨0x40060100 + 0x40 * n, 25, 3, 0, .rws⟩
def VIS_PFMT_PCLKE (n : Nat) : Fld := ⟨0x40060100 + 0x40 * n, 24, 1, 0, .rws⟩
def VIS_PFMT_VSPOL (n : Nat) : Fld := ⟨0x40060100 + 0x40 * n, 23, 1, 0, .rws⟩
def VIS_PFMT_HSPOL (n : Nat) : Fld := ⟨0x40060100 + 0x40 * n, 22, 1, 0, .rws⟩
def VIS_PFMT_DEPOL (n : Nat) : Fld := ⟨0x40060100 + 0x40 * n, 21, 1, 0, .rws⟩
def VIS_PFMT_DESRC (n : Nat) : Fld := ⟨0x40060100 + 0x40 * n, 20, 1, 0, .rws⟩
def VIS_PFMT_fam : RegFam := ⟨0x40060100, [(0x40, 3)], fun i => [VIS_PFMT_EN (i.getD 0 0), VIS_PFMT_BPP (i.getD 0 0), VIS_PFMT_CFA (i.getD 0 0), VIS_PFMT_PCLKE (i.getD 0 0), VIS_PFMT_VSPOL (i.getD 0 0), VIS_PFMT_HSPOL (i.getD 0 0), VIS_PFMT_DEPOL (i.getD 0 0), VIS_PFMT_DESRC (i.getD 0 0)]⟩

def VIS_PSIZE_W (n : Nat) : Fld := ⟨0x40060104 + 0x40 * n, 16, 16, 0x280, .rws⟩
def VIS_PSIZE_H (n : Nat) : Fld := ⟨0x40060104 + 0x40 * n, 0, 16, 0x1e0, .rws⟩
def VIS_PSIZE_fam : RegFam := ⟨0x40060104, [(0x40, 3)], fun i => [VIS_PSIZE_W (i.getD 0 0), VIS_PSIZE_H (i.getD 0 0)]⟩

def VIS_PTRIG_TMODE (n : Nat) : Fld := ⟨0x40060108 + 0x40 * n, 31, 1, 0, .rws⟩
def VIS_PTRIG_TRIGPOL (n : Nat) : Fld := ⟨0x40060108 + 0x40 * n, 30, 1, 0, .rws⟩
def VIS_PTRIG_TRIGWIN (n : Nat) : Fld := ⟨0x40060108 + 0x40 * n, 16, 14, 0x3e8, .rws⟩
def VIS_PTRIG_FTO (n : Nat) : Fld := ⟨0x40060108 + 0x40 * n, 0, 16, 0x1f4, .rws⟩
def VIS_PTRIG_fam : RegFam := ⟨0x40060108, [(0x40, 3)], fun i => [VIS_PTRIG_TMODE (i.getD 0 0), VIS_PTRIG_TRIGPOL (i.getD 0 0), VIS_PTRIG_TRIGWIN (i.getD 0 0), VIS_PTRIG_FTO (i.getD 0 0)]⟩

def VIS_PBUF_BASE (n : Nat) : Fld := ⟨0x4006010C + 0x40 * n, 12, 20, 0, .rws⟩
def VIS_PBUF_NBUF (n : Nat) : Fld := ⟨0x4006010C + 0x40 * n, 0, 3, 3, .rws⟩
def VIS_PBUF_fam : RegFam := ⟨0x4006010C, [(0x40, 3)], fun i => [VIS_PBUF_BASE (i.getD 0 0), VIS_PBUF_NBUF (i.getD 0 0)]⟩

def VIS_PSTR_BSTRIDE (n : Nat) : Fld := ⟨0x40060110 + 0x40 * n, 0, 20, 0x96, .rws⟩
def VIS_PSTR_fam : RegFam := ⟨0x40060110, [(0x40, 3)], fun i => [VIS_PSTR_BSTRIDE (i.getD 0 0)]⟩

def VIS_PSTAT_STATE (n : Nat) : Fld := ⟨0x40060114 + 0x40 * n, 29, 3, 0, .ro⟩
def VIS_PSTAT_LINES (n : Nat) : Fld := ⟨0x40060114 + 0x40 * n, 16, 13, 0, .ro⟩
def VIS_PSTAT_QD (n : Nat) : Fld := ⟨0x40060114 + 0x40 * n, 13, 3, 0, .ro⟩
def VIS_PSTAT_LASTW (n : Nat) : Fld := ⟨0x40060114 + 0x40 * n, 0, 13, 0, .ro⟩
def VIS_PSTAT_fam : RegFam := ⟨0x40060114, [(0x40, 3)], fun i => [VIS_PSTAT_STATE (i.getD 0 0), VIS_PSTAT_LINES (i.getD 0 0), VIS_PSTAT_QD (i.getD 0 0), VIS_PSTAT_LASTW (i.getD 0 0)]⟩

def VIS_PFLAG_SYNCERR (n : Nat) : Fld := ⟨0x40060118 + 0x40 * n, 8, 1, 0, .w1c⟩
def VIS_PFLAG_NOCLK (n : Nat) : Fld := ⟨0x40060118 + 0x40 * n, 7, 1, 0, .w1c⟩
def VIS_PFLAG_TIMEOUT (n : Nat) : Fld := ⟨0x40060118 + 0x40 * n, 6, 1, 0, .w1c⟩
def VIS_PFLAG_SHORT (n : Nat) : Fld := ⟨0x40060118 + 0x40 * n, 5, 1, 0, .w1c⟩
def VIS_PFLAG_LONG (n : Nat) : Fld := ⟨0x40060118 + 0x40 * n, 4, 1, 0, .w1c⟩
def VIS_PFLAG_LINEERR (n : Nat) : Fld := ⟨0x40060118 + 0x40 * n, 3, 1, 0, .w1c⟩
def VIS_PFLAG_OVERRUN (n : Nat) : Fld := ⟨0x40060118 + 0x40 * n, 2, 1, 0, .w1c⟩
def VIS_PFLAG_TRIGMISS (n : Nat) : Fld := ⟨0x40060118 + 0x40 * n, 1, 1, 0, .w1c⟩
def VIS_PFLAG_UNTRIG (n : Nat) : Fld := ⟨0x40060118 + 0x40 * n, 0, 1, 0, .w1c⟩
def VIS_PFLAG_fam : RegFam := ⟨0x40060118, [(0x40, 3)], fun i => [VIS_PFLAG_SYNCERR (i.getD 0 0), VIS_PFLAG_NOCLK (i.getD 0 0), VIS_PFLAG_TIMEOUT (i.getD 0 0), VIS_PFLAG_SHORT (i.getD 0 0), VIS_PFLAG_LONG (i.getD 0 0), VIS_PFLAG_LINEERR (i.getD 0 0), VIS_PFLAG_OVERRUN (i.getD 0 0), VIS_PFLAG_TRIGMISS (i.getD 0 0), VIS_PFLAG_UNTRIG (i.getD 0 0)]⟩

def VIS_PCNT_FRNO (n : Nat) : Fld := ⟨0x4006011C + 0x40 * n, 16, 16, 0, .ro⟩
def VIS_PCNT_DROPS (n : Nat) : Fld := ⟨0x4006011C + 0x40 * n, 0, 16, 0, .rw⟩
def VIS_PCNT_fam : RegFam := ⟨0x4006011C, [(0x40, 3)], fun i => [VIS_PCNT_FRNO (i.getD 0 0), VIS_PCNT_DROPS (i.getD 0 0)]⟩

def VIS_CCTL_ANA (n : Nat) : Fld := ⟨0x40060400 + 0x80 * n, 31, 1, 1, .rws⟩
def VIS_CCTL_IMGOUT (n : Nat) : Fld := ⟨0x40060400 + 0x80 * n, 30, 1, 0, .rws⟩
def VIS_CCTL_FRACBY (n : Nat) : Fld := ⟨0x40060400 + 0x80 * n, 29, 1, 0, .rws⟩
def VIS_CCTL_EDGEX (n : Nat) : Fld := ⟨0x40060400 + 0x80 * n, 28, 1, 1, .rws⟩
def VIS_CCTL_DYNDPC (n : Nat) : Fld := ⟨0x40060400 + 0x80 * n, 27, 1, 0, .rws⟩
def VIS_CCTL_STDPC (n : Nat) : Fld := ⟨0x40060400 + 0x80 * n, 26, 1, 0, .rws⟩
def VIS_CCTL_SCLX (n : Nat) : Fld := ⟨0x40060400 + 0x80 * n, 24, 2, 0, .rws⟩
def VIS_CCTL_SCLY (n : Nat) : Fld := ⟨0x40060400 + 0x80 * n, 22, 2, 0, .rws⟩
def VIS_CCTL_fam : RegFam := ⟨0x40060400, [(0x80, 4)], fun i => [VIS_CCTL_ANA (i.getD 0 0), VIS_CCTL_IMGOUT (i.getD 0 0), VIS_CCTL_FRACBY (i.getD 0 0), VIS_CCTL_EDGEX (i.getD 0 0), VIS_CCTL_DYNDPC (i.getD 0 0), VIS_CCTL_STDPC (i.getD 0 0), VIS_CCTL_SCLX (i.getD 0 0), VIS_CCTL_SCLY (i.getD 0 0)]⟩

def VIS_CBLK0_BLK0 (n : Nat) : Fld := ⟨0x40060404 + 0x80 * n, 16, 16, 0, .rws⟩
def VIS_CBLK0_BLK1 (n : Nat) : Fld := ⟨0x40060404 + 0x80 * n, 0, 16, 0, .rws⟩
def VIS_CBLK0_fam : RegFam := ⟨0x40060404, [(0x80, 4)], fun i => [VIS_CBLK0_BLK0 (i.getD 0 0), VIS_CBLK0_BLK1 (i.getD 0 0)]⟩

def VIS_CBLK1_BLK2 (n : Nat) : Fld := ⟨0x40060408 + 0x80 * n, 16, 16, 0, .rws⟩
def VIS_CBLK1_BLK3 (n : Nat) : Fld := ⟨0x40060408 + 0x80 * n, 0, 16, 0, .rws⟩
def VIS_CBLK1_fam : RegFam := ⟨0x40060408, [(0x80, 4)], fun i => [VIS_CBLK1_BLK2 (i.getD 0 0), VIS_CBLK1_BLK3 (i.getD 0 0)]⟩

def VIS_CDPC_DPTHR (n : Nat) : Fld := ⟨0x4006040C + 0x80 * n, 0, 16, 0x1000, .rws⟩
def VIS_CDPC_fam : RegFam := ⟨0x4006040C, [(0x80, 4)], fun i => [VIS_CDPC_DPTHR (i.getD 0 0)]⟩

def VIS_CWB0_GR (n : Nat) : Fld := ⟨0x40060410 + 0x80 * n, 16, 16, 0x1000, .rws⟩
def VIS_CWB0_GG (n : Nat) : Fld := ⟨0x40060410 + 0x80 * n, 0, 16, 0x1000, .rws⟩
def VIS_CWB0_fam : RegFam := ⟨0x40060410, [(0x80, 4)], fun i => [VIS_CWB0_GR (i.getD 0 0), VIS_CWB0_GG (i.getD 0 0)]⟩

def VIS_CWB1_GB (n : Nat) : Fld := ⟨0x40060414 + 0x80 * n, 16, 16, 0x1000, .rws⟩
def VIS_CWB1_fam : RegFam := ⟨0x40060414, [(0x80, 4)], fun i => [VIS_CWB1_GB (i.getD 0 0)]⟩

def VIS_CCM0_M00 (n : Nat) : Fld := ⟨0x40060418 + 0x80 * n, 16, 16, 0x1000, .rws⟩
def VIS_CCM0_M01 (n : Nat) : Fld := ⟨0x40060418 + 0x80 * n, 0, 16, 0, .rws⟩
def VIS_CCM0_fam : RegFam := ⟨0x40060418, [(0x80, 4)], fun i => [VIS_CCM0_M00 (i.getD 0 0), VIS_CCM0_M01 (i.getD 0 0)]⟩

def VIS_CCM1_M02 (n : Nat) : Fld := ⟨0x4006041C + 0x80 * n, 16, 16, 0, .rws⟩
def VIS_CCM1_M10 (n : Nat) : Fld := ⟨0x4006041C + 0x80 * n, 0, 16, 0, .rws⟩
def VIS_CCM1_fam : RegFam := ⟨0x4006041C, [(0x80, 4)], fun i => [VIS_CCM1_M02 (i.getD 0 0), VIS_CCM1_M10 (i.getD 0 0)]⟩

def VIS_CCM2_M11 (n : Nat) : Fld := ⟨0x40060420 + 0x80 * n, 16, 16, 0x1000, .rws⟩
def VIS_CCM2_M12 (n : Nat) : Fld := ⟨0x40060420 + 0x80 * n, 0, 16, 0, .rws⟩
def VIS_CCM2_fam : RegFam := ⟨0x40060420, [(0x80, 4)], fun i => [VIS_CCM2_M11 (i.getD 0 0), VIS_CCM2_M12 (i.getD 0 0)]⟩

def VIS_CCM3_M20 (n : Nat) : Fld := ⟨0x40060424 + 0x80 * n, 16, 16, 0, .rws⟩
def VIS_CCM3_M21 (n : Nat) : Fld := ⟨0x40060424 + 0x80 * n, 0, 16, 0, .rws⟩
def VIS_CCM3_fam : RegFam := ⟨0x40060424, [(0x80, 4)], fun i => [VIS_CCM3_M20 (i.getD 0 0), VIS_CCM3_M21 (i.getD 0 0)]⟩

def VIS_CCM4_M22 (n : Nat) : Fld := ⟨0x40060428 + 0x80 * n, 16, 16, 0x1000, .rws⟩
def VIS_CCM4_fam : RegFam := ⟨0x40060428, [(0x80, 4)], fun i => [VIS_CCM4_M22 (i.getD 0 0)]⟩

def VIS_CSEG_SEGM (n : Nat) : Fld := ⟨0x4006042C + 0x80 * n, 30, 2, 0, .rws⟩
def VIS_CSEG_THR (n : Nat) : Fld := ⟨0x4006042C + 0x80 * n, 20, 10, 0x80, .rws⟩
def VIS_CSEG_MINAREA (n : Nat) : Fld := ⟨0x4006042C + 0x80 * n, 0, 16, 4, .rws⟩
def VIS_CSEG_fam : RegFam := ⟨0x4006042C, [(0x80, 4)], fun i => [VIS_CSEG_SEGM (i.getD 0 0), VIS_CSEG_THR (i.getD 0 0), VIS_CSEG_MINAREA (i.getD 0 0)]⟩

def VIS_CBG_BR (n : Nat) : Fld := ⟨0x40060430 + 0x80 * n, 16, 8, 0, .rws⟩
def VIS_CBG_BG (n : Nat) : Fld := ⟨0x40060430 + 0x80 * n, 8, 8, 0, .rws⟩
def VIS_CBG_BB (n : Nat) : Fld := ⟨0x40060430 + 0x80 * n, 0, 8, 0, .rws⟩
def VIS_CBG_fam : RegFam := ⟨0x40060430, [(0x80, 4)], fun i => [VIS_CBG_BR (i.getD 0 0), VIS_CBG_BG (i.getD 0 0), VIS_CBG_BB (i.getD 0 0)]⟩

def VIS_CCLS_MINCONF (n : Nat) : Fld := ⟨0x40060434 + 0x80 * n, 8, 8, 0x10, .rws⟩
def VIS_CCLS_CSHIFT (n : Nat) : Fld := ⟨0x40060434 + 0x80 * n, 0, 4, 8, .rws⟩
def VIS_CCLS_fam : RegFam := ⟨0x40060434, [(0x80, 4)], fun i => [VIS_CCLS_MINCONF (i.getD 0 0), VIS_CCLS_CSHIFT (i.getD 0 0)]⟩

def VIS_CIMG_IMGBASE (n : Nat) : Fld := ⟨0x40060438 + 0x80 * n, 12, 20, 0, .rws⟩
def VIS_CIMG_fam : RegFam := ⟨0x40060438, [(0x80, 4)], fun i => [VIS_CIMG_IMGBASE (i.getD 0 0)]⟩

def VIS_CIMS_IMGSTR (n : Nat) : Fld := ⟨0x4006043C + 0x80 * n, 0, 20, 0, .rws⟩
def VIS_CIMS_fam : RegFam := ⟨0x4006043C, [(0x80, 4)], fun i => [VIS_CIMS_IMGSTR (i.getD 0 0)]⟩

def VIS_CREV_PARREV (n : Nat) : Fld := ⟨0x40060440 + 0x80 * n, 16, 16, 0, .ro⟩
def VIS_CREV_fam : RegFam := ⟨0x40060440, [(0x80, 4)], fun i => [VIS_CREV_PARREV (i.getD 0 0)]⟩

/-- Every register of VIS that has fields. -/
def VIS_fams : List RegFam :=
  [VIS_STAT_fam, VIS_INTSTAT_fam, VIS_INTEN_fam, VIS_LOAD_fam, VIS_RESWR_fam, VIS_RESRD_fam, VIS_RESDROP_fam, VIS_RFMT_fam, VIS_RADR_fam, VIS_RPLY_fam, VIS_PFMT_fam, VIS_PSIZE_fam, VIS_PTRIG_fam, VIS_PBUF_fam, VIS_PSTR_fam, VIS_PSTAT_fam, VIS_PFLAG_fam, VIS_PCNT_fam, VIS_CCTL_fam, VIS_CBLK0_fam] ++
  [VIS_CBLK1_fam, VIS_CDPC_fam, VIS_CWB0_fam, VIS_CWB1_fam, VIS_CCM0_fam, VIS_CCM1_fam, VIS_CCM2_fam, VIS_CCM3_fam, VIS_CCM4_fam, VIS_CSEG_fam, VIS_CBG_fam, VIS_CCLS_fam, VIS_CIMG_fam, VIS_CIMS_fam, VIS_CREV_fam]

end Sys2Proof.Machine
end

