-- ==== Sys2Proof/Machine/RegYUL.lean ====
section
/-!
DEFINITION. The register fields of YUL, as the register tables of spec/18_yulis_cascade_link.md list them:
address, lowest bit, width, access code (Table 0.4) and reset value. Reserved bits (R6) are no field.
-/
namespace Sys2Proof.Machine

def YUL_STAT_STATE : Fld := ⟨0x40130000, 29, 3, 0, .ro⟩
def YUL_STAT_ID : Fld := ⟨0x40130000, 26, 3, 0, .ro⟩
def YUL_STAT_MASTER : Fld := ⟨0x40130000, 25, 1, 0, .ro⟩
def YUL_STAT_RINGOK : Fld := ⟨0x40130000, 24, 1, 0, .ro⟩
def YUL_STAT_HOPS : Fld := ⟨0x40130000, 20, 4, 0, .ro⟩
def YUL_STAT_SEEN : Fld := ⟨0x40130000, 12, 8, 0, .ro⟩
def YUL_STAT_STRAPCHG : Fld := ⟨0x40130000, 11, 1, 0, .ro⟩
def YUL_STAT_TXPEND : Fld := ⟨0x40130000, 10, 1, 0, .ro⟩
def YUL_STAT_fam : RegFam := ⟨0x40130000, [], fun _ => [YUL_STAT_STATE, YUL_STAT_ID, YUL_STAT_MASTER, YUL_STAT_RINGOK, YUL_STAT_HOPS, YUL_STAT_SEEN, YUL_STAT_STRAPCHG, YUL_STAT_TXPEND]⟩

def YUL_INTSTAT_FLAGS : Fld := ⟨0x40130004, 0, 8, 0, .w1c⟩
def YUL_INTSTAT_fam : RegFam := ⟨0x40130004, [], fun _ => [YUL_INTSTAT_FLAGS]⟩

def YUL_INTEN_IEN : Fld := ⟨0x40130008, 0, 8, 0, .rw⟩
def YUL_INTEN_fam : RegFam := ⟨0x40130008, [], fun _ => [YUL_INTEN_IEN]⟩

def YUL_CTL_EN : Fld := ⟨0x40130010, 31, 1, 0, .rws⟩
def YUL_CTL_NODES : Fld := ⟨0x40130010, 23, 8, 1, .rws⟩
def YUL_CTL_TBMASK : Fld := ⟨0x40130010, 15, 8, 0, .rws⟩
def YUL_CTL_CABLEOUT : Fld := ⟨0x40130010, 0, 9, 0, .rws⟩
def YUL_CTL_fam : RegFam := ⟨0x40130010, [], fun _ => [YUL_CTL_EN, YUL_CTL_NODES, YUL_CTL_TBMASK, YUL_CTL_CABLEOUT]⟩

def YUL_DLY_DLY : Fld := ⟨0x40130014, 16, 16, 0, .ro⟩
def YUL_DLY_RINGERR : Fld := ⟨0x40130014, 0, 16, 0, .ro⟩
def YUL_DLY_fam : RegFam := ⟨0x40130014, [], fun _ => [YUL_DLY_DLY, YUL_DLY_RINGERR]⟩

def YUL_MTOFSLO_OFS : Fld := ⟨0x40130018, 0, 32, 0, .ro⟩
def YUL_MTOFSLO_fam : RegFam := ⟨0x40130018, [], fun _ => [YUL_MTOFSLO_OFS]⟩

def YUL_MTOFSHI_OFS : Fld := ⟨0x4013001C, 0, 32, 0, .ro⟩
def YUL_MTOFSHI_fam : RegFam := ⟨0x4013001C, [], fun _ => [YUL_MTOFSHI_OFS]⟩

def YUL_CYCLE_CYCLE : Fld := ⟨0x40130020, 0, 32, 0, .ro⟩
def YUL_CYCLE_fam : RegFam := ⟨0x40130020, [], fun _ => [YUL_CYCLE_CYCLE]⟩

def YUL_CNT_CRCERR : Fld := ⟨0x40130024, 16, 16, 0, .rw⟩
def YUL_CNT_MISS : Fld := ⟨0x40130024, 0, 16, 0, .rw⟩
def YUL_CNT_fam : RegFam := ⟨0x40130024, [], fun _ => [YUL_CNT_CRCERR, YUL_CNT_MISS]⟩

def YUL_TUNCNT_TUNMSG : Fld := ⟨0x40130028, 16, 16, 0, .ro⟩
def YUL_TUNCNT_TUNDROP : Fld := ⟨0x40130028, 0, 16, 0, .rw⟩
def YUL_TUNCNT_fam : RegFam := ⟨0x40130028, [], fun _ => [YUL_TUNCNT_TUNMSG, YUL_TUNCNT_TUNDROP]⟩

def YUL_TXSWAP_GO : Fld := ⟨0x40130030, 0, 32, 0, .ws⟩
def YUL_TXSWAP_fam : RegFam := ⟨0x40130030, [], fun _ => [YUL_TXSWAP_GO]⟩

def YUL_RXLOCK_LOCK : Fld := ⟨0x40130034, 0, 1, 0, .rw⟩
def YUL_RXLOCK_fam : RegFam := ⟨0x40130034, [], fun _ => [YUL_RXLOCK_LOCK]⟩

def YUL_NODE_VALID (n : Nat) : Fld := ⟨0x40130040 + 0x4 * n, 31, 1, 0, .ro⟩
def YUL_NODE_STATE (n : Nat) : Fld := ⟨0x40130040 + 0x4 * n, 28, 3, 0, .ro⟩
def YUL_NODE_SLEVEL (n : Nat) : Fld := ⟨0x40130040 + 0x4 * n, 26, 2, 0, .ro⟩
def YUL_NODE_GRPSS (n : Nat) : Fld := ⟨0x40130040 + 0x4 * n, 18, 8, 0, .ro⟩
def YUL_NODE_AGE (n : Nat) : Fld := ⟨0x40130040 + 0x4 * n, 0, 16, 0xffff, .ro⟩
def YUL_NODE_fam : RegFam := ⟨0x40130040, [(0x4, 8)], fun i => [YUL_NODE_VALID (i.getD 0 0), YUL_NODE_STATE (i.getD 0 0), YUL_NODE_SLEVEL (i.getD 0 0), YUL_NODE_GRPSS (i.getD 0 0), YUL_NODE_AGE (i.getD 0 0)]⟩

/-- Every register of YUL that has fields. -/
def YUL_fams : List RegFam :=
  [YUL_STAT_fam, YUL_INTSTAT_fam, YUL_INTEN_fam, YUL_CTL_fam, YUL_DLY_fam, YUL_MTOFSLO_fam, YUL_MTOFSHI_fam, YUL_CYCLE_fam, YUL_CNT_fam, YUL_TUNCNT_fam, YUL_TXSWAP_fam, YUL_RXLOCK_fam, YUL_NODE_fam]

end Sys2Proof.Machine
end

