-- ==== Sys2Proof/Machine/Operands.lean ====
section
/-!
DEFINITION. The operand forms of a register access (spec/00_scope.md, R4–R7): its address, its size, the register and the fields
that it names, and what a word holds for each field.
-/
namespace Sys2Proof.Machine

/-- Table 0.3: the registers of a block. -/
def blockFams : Nat → List RegFam
  | 0x00 => SYS_fams | 0x01 => TSV_fams | 0x02 => CAR_fams | 0x03 => TBS_fams | 0x04 => CEN_fams | 0x05 => HSN_fams
  | 0x06 => VIS_fams | 0x07 => GNS_fams | 0x08 => FUS_fams | 0x09 => SEC_fams | 0x0A => SOL_fams | 0x0B => LSW_fams
  | 0x0C => CAN_fams | 0x0D => ETH_fams | 0x0E => FLT_fams | 0x0F => THM_fams | 0x10 => DSP_fams | 0x11 => EVR_fams
  | 0x12 => PDS_fams | 0x13 => YUL_fams | _ => []

/-- R5: an address lies in a block window. -/
def inWindows (a : Nat) : Bool := decide (0x40000000 ≤ a) && decide (a < 0x40140000)

/-- R5: an address lies between the windows and 0x4100_0000. -/
def aboveWindows (a : Nat) : Bool := decide (0x40140000 ≤ a) && decide (a < 0x41000000)

/-- R4: an aligned 32-bit access. -/
def aligned32 (a size : Nat) : Bool := size = 4 && a % 4 = 0

/-- The fields of the register at an address; none where the window assigns no register. -/
def regFields (a : Nat) : List Fld := ((blockFams ((a - 0x40000000) / 0x10000)).find? (fun f => !(f.at a).isEmpty)).elim [] (fun f => f.at a)

/-- What a word holds for a field. -/
def fldOf (f : Fld) (w : Nat) : Nat := bits w f.lo f.wid

/-- The values that a word holds for the fields of a register. -/
def wordViews (fs : List Fld) (w : Nat) : List (Fld × Nat) := fs.map (fun f => (f, fldOf f w))

/-- The word that the values of fields make. -/
def packFlds (l : List (Fld × Nat)) : Nat := l.foldl (fun w e => w ||| ((e.2 % 2 ^ e.1.wid) <<< e.1.lo)) 0

end Sys2Proof.Machine
end

