-- ==== Sys2Proof/Machine/Flags.lean ====
section
/-!
DEFINITION. Flags: how a write clears W1C flags (Table 0.4), and the host interrupt lines that flags and their enables raise.
-/
namespace Sys2Proof.Machine

/-- Table 0.4, W1C: the bits of a flag field that a write of `w` clears: those written 1 that were not set in this clock cycle. -/
def State.cleared (s : State) (f : Fld) (w : Nat) : List Nat :=
  (List.range f.wid).filter (fun i => bit w (f.lo + i) && tabGet 0 s.flagAt (f.key + i) != s.now + 1)

/-- A W1C field after a write of the word `w`. -/
def State.clearFlags (f : Fld) (w : Nat) (s : State) : State := s.wr f ((s.cleared f w).foldl clrBit (s.rd f))

/-- The flags of a register, as a word. -/
def State.flagWord (s : State) (a : Nat) : Nat := packFlds ((regFields a).map (fun f => (f, s.rd f)))

/-- The flag and enable registers of the blocks with one host interrupt, by block code; CAN has one per controller. -/
def irqRegs : Nat → List (Nat × Nat)
  | 0x00 => [(0x40000114, 0x40000118)]
  | 0x03 => []
  | 0x0C => (List.range 6).map (fun n => (0x400C0010 + 0x1000 * n, 0x400C0014 + 0x1000 * n))
  | 0x05 => [(0x40050008, 0x4005000C)]
  | 0x09 => [(0x40090008, 0x4009000C)]
  | 0x0A => [(0x400A0008, 0x400A000C)]
  | 0x0E => [(0x400E0008, 0x400E000C)]
  | b => [(0x40000004 + 0x10000 * b, 0x40000008 + 0x10000 * b)]

/-- TBS: ANYn of TBS_GFLAG with IENn. -/
def State.tbsAny (s : State) (n : Nat) : Bool := s.flagWord (0x40030140 + 0x80 * n) != 0

/-- The host interrupt of a block is raised: a flag is 1 whose enable is 1, while the block's domain is on. -/
def State.irqLine (s : State) (b : Nat) : Bool :=
  s.blockOn b &&
    ((irqRegs b).any (fun r => (s.flagWord r.1 &&& s.flagWord r.2) != 0) ||
     (b = 0x03 && (List.range 8).any (fun n => s.tbsAny n && bit (s.rd TBS_INTEN_IEN) n)))

end Sys2Proof.Machine
end

