-- ==== Sys2Proof/Machine/HeldOps.lean ====
section
/-!
DEFINITION. Which outputs Tocsin holds (spec/14_safety_supervision_and_reset.md, R383–R385, R377).
-/
namespace Sys2Proof.Machine

/-- The safety groups of which a load-switch channel is a member, as a mask (TSV_SGLSLOg, TSV_SGLSHIg). -/
def State.lsGroups (s : State) (n : Nat) : Nat :=
  (List.range 8).foldl (fun m g =>
    let inG := if n < 32 then bit (s.rd (TSV_SGLSLO_LS g)) n else bit (s.rd (TSV_SGLSHI_LS g)) (n - 32)
    if inG then setBit m g else m) 0

/-- The safety groups of which a solenoid channel is a member, as a mask (TSV_SGSVg). -/
def State.svGroups (s : State) (n : Nat) : Nat :=
  (List.range 8).foldl (fun m g => if bit (s.rd (TSV_SGSV_SV g)) n then setBit m g else m) 0

/-- R384: an output with the given groups is held. At ALL, an output in no group is held until no group is; at
SHUTDOWN every output is. -/
def State.heldBy (s : State) (groups : Nat) : Bool :=
  let lvl := s.rd TSV_STAT_SLEVEL
  if lvl = 3 then true
  else if lvl = 2 && groups = 0 then true
  else (groups &&& s.rd TSV_STAT_GRPSS) != 0

/-- R384: a load-switch channel is held. -/
def State.lsHeld (s : State) (n : Nat) : Bool := s.heldBy (s.lsGroups n)

/-- R384, R377: a solenoid channel is held, as a member of its groups or through its group's stuck output. -/
def State.svHeld (s : State) (n : Nat) : Bool := s.heldBy (s.svGroups n) || bit s.tsv.openSv (n / 4)

/-- Table 14.2: DQ00–DQ15 are held inactive at ALL and SHUTDOWN. -/
def State.dqHeld (s : State) : Bool := decide (2 ≤ s.rd TSV_STAT_SLEVEL)

def State.tsvSet (f : Tsv → Tsv) (s : State) : State := { s with tsv := f s.tsv }

/-! ## The watchdogs (R390–R392) -/

def State.wd (s : State) (k : Nat) : Watchdog := tabGet {} s.tsv.wd k

/-- A core's watchdog set; WDRUN shows it. -/
def State.setWd (k : Nat) (w : Watchdog) (s : State) : State :=
  (s.tsvSet (fun t => { t with wd := tabSet {} t.wd k w })).wr TSV_STAT_WDRUN (putBit (s.rd TSV_STAT_WDRUN) k w.running)

/-- The group of WDEN has applied: core 0 cannot be cleared, and a core that is no longer supervised has no watchdog. -/
def State.wdApplied (s : State) : State :=
  let s := s.wr TSV_WDCFG_WDEN (setBit (s.rd TSV_WDCFG_WDEN) 0)
  s.each ((List.range 4).filter (fun k => !bit (s.rd TSV_WDCFG_WDEN) k && (s.wd k).running)) (fun k s => s.setWd k { last := s.now })

end Sys2Proof.Machine
end

