-- ==== Sys2Proof/Machine/TbsOps.lean ====
section
/-!
DEFINITION. The operations of the time bases (spec/02_time_bases.md): phase and prediction, the estimator, the base state
machine, edges of every source, updates of the sources without edges.

Phases are integers in 2^−16 of a phase LSB, v and a are in the units of TBS_VELn and TBS_ACCn (DESIGN CHOICE, assumption
log, entry 20).
-/
namespace Sys2Proof.Machine

/-! ## Reading a base -/

def State.tb (s : State) (n : Nat) : TbBase := tabGet {} s.tbs.base n

def State.setTb (n : Nat) (b : TbBase) (s : State) : State :=
  { s with tbs := { s.tbs with base := tabSet {} s.tbs.base n b } }

/-- A turn, and a phase LSB, in 2^−16 LSB. -/
def turn16 : Int := 2 ^ 40
def lsb16 : Int := 2 ^ 16

/-- States in which a base reports VALID = 1 (Table 2.2), and those in which its phase is interpolated. -/
def tbValidSt (st : Nat) : Bool := st = 2 || st = 3 || st = 4
def tbMovingSt (st : Nat) : Bool := st = 2 || st = 4

/-- R37, R38: the phase a model (P_e, t_e, v, a, direction, next edge) reaches at `t`. It never moves against its
direction: it stands once a deceleration has used up v, and it never falls behind P_e. It stays one LSB short of the next
expected edge, as far as that is not behind P_e. -/
def tbInterp (pe : Int) (te : Nat) (v a : Int) (fwd : Bool) (limit : Option Int) (t : Nat) : Int :=
  if t ≤ te then pe
  else
    let sg : Int := if fwd then 1 else -1
    let dt : Int := (t - te : Nat)
    let dt := if 0 < sg * v ∧ sg * a < 0 then min dt ((v * 1000000).natAbs / a.natAbs : Nat) else dt
    let q := pe + (v * dt * 2000000 + a * dt * dt) / 2000000000
    if fwd then
      max pe (match limit with | some l => min q (l - lsb16) | none => q)
    else
      min pe (match limit with | some l => max q (l + lsb16) | none => q)

/-- R40: the first instant, in ns, after `te` at which a model reaches a phase, or none. -/
def tbReachFrom (pe : Int) (te : Nat) (v a : Int) (fwd : Bool) (target : Int) : Option Nat :=
  let sg : Int := if fwd then 1 else -1
  let v := sg * v
  let a := sg * a
  let d := sg * (target - pe)
  if d ≤ 0 then some te
  else
    let disc := v * v * 1000000000000 + 2000000000 * a * d
    if disc < 0 ∨ (v ≤ 0 ∧ a ≤ 0) then none
    else
      let den : Nat := (v * 1000000 + isqrt disc.toNat).toNat
      if den = 0 then none else some (te + ((2000000000 * d).toNat + den - 1) / den)

/-- R38: the phase already reported holds a phase that would fall back. -/
def TbBase.held (b : TbBase) (p : Int) : Int :=
  match b.floor with
  | some q => if b.fwd then max q p else min q p
  | none => p

/-- R38: whether a phase lies ahead of another, or on it, in a direction. -/
def tbAhead (fwd : Bool) (p q : Int) : Bool := if fwd then decide (q ≤ p) else decide (p ≤ q)

/-- The phase of a base's own source at `t`, in 2^−16 LSB: interpolated, or held at P_e (R37). -/
def TbBase.phaseAt (b : TbBase) (t : Nat) : Int :=
  if tbMovingSt b.st then b.held (tbInterp b.pe b.te b.v b.a b.fwd b.limit t) else b.pe

/-- The phase of a base at `t`, in 2^−16 LSB. Under failover it follows REF's motion times RATIO (R48); `fuel` bounds the
chain of references. -/
def State.tbPhase16 (s : State) : Nat → Nat → Nat → Int
  | 0, n, _ => (s.tb n).pe
  | fuel + 1, n, t =>
    let b := s.tb n
    match b.sub with
    | some u =>
      let q := u.own + (s.tbPhase16 fuel u.base t - u.ref) * (u.ratio : Int) / 65536
      match u.floor with
      | some f => if (s.tb u.base).fwd then max f q else min f q
      | none => q
    | none => b.phaseAt t

/-- The 32-bit phase of a base at `t` (R11, R12); 0 in OFF (Table 2.2). -/
def State.tbPhaseAt (s : State) (n t : Nat) : Nat :=
  if (s.tb n).st = 0 then 0 else tc 32 (s.tbPhase16 8 n t / lsb16)

def State.tbPhase (s : State) (n : Nat) : Nat := s.tbPhaseAt n s.now

/-- The velocity of a base, in 2^−16 LSB per µs: under failover REF's times RATIO (R48). -/
def State.tbVelF (s : State) : Nat → Nat → Int
  | 0, n => (s.tb n).v
  | fuel + 1, n =>
    match (s.tb n).sub with
    | some u => s.tbVelF fuel u.base * (u.ratio : Int) / 65536
    | none => if (s.tb n).st = 0 then 0 else (s.tb n).v

def State.tbVel (s : State) (n : Nat) : Int := s.tbVelF 8 n

/-- The acceleration of a base, in the units of TBS_ACCn. -/
def State.tbAccF (s : State) : Nat → Nat → Int
  | 0, n => (s.tb n).a
  | fuel + 1, n =>
    match (s.tb n).sub with
    | some u => s.tbAccF fuel u.base * (u.ratio : Int) / 65536
    | none => if (s.tb n).st = 0 then 0 else (s.tb n).a

def State.tbAcc (s : State) (n : Nat) : Int := s.tbAccF 8 n

def State.tbSt (s : State) (n : Nat) : Nat := (s.tb n).st
def State.tbFwd (s : State) (n : Nat) : Bool := (s.tb n).fwd
def State.tbKind (s : State) (n : Nat) : Nat := s.rd (TBS_CFG_KIND n)

/-- R53, R22: a consumer may use a base: it is VALID, TBS is on and not fenced. -/
def State.tbUsable (s : State) (n : Nat) : Bool := tbValidSt (s.tbSt n) && s.live 0x03

/-- R40: the module time at which a base reaches a 32-bit phase in its direction of motion, or none. The base's model is
that of its last edge or update. -/
def State.tbReach (s : State) (n target : Nat) : Option Nat :=
  let b := s.tb n
  if !tbMovingSt b.st then none
  else
    let te := if b.sub.isSome then s.now else b.te
    let p := if b.sub.isSome then s.tbPhase16 8 n te else b.pe
    let tgt := p / lsb16 * lsb16 + phaseDiff target (tc 32 (p / lsb16)) * lsb16
    tbReachFrom p te (s.tbVel n) (s.tbAcc n) b.fwd tgt

/-- The model of a base now. -/
def TbBase.model (b : TbBase) : TbModel := ⟨b.pe, b.te, b.v, b.a, b.fwd, b.limit, b.floor⟩

/-- R37, R38: the phase of a model at `t`. -/
def TbModel.phaseAt (m : TbModel) (t : Nat) : Int :=
  TbBase.held { fwd := m.fwd, floor := m.floor } (tbInterp m.pe m.te m.v m.a m.fwd m.limit t)

/-- The phase a base had at `t`, not later than now, in 2^−16 LSB, from the model then in force; none before the first that is kept. -/
def State.tbPast16 (s : State) : Nat → Nat → Nat → Option Int
  | 0, _, _ => none
  | fuel + 1, n, t =>
    let b := s.tb n
    match b.sub with
    | some u => (s.tbPast16 fuel u.base t).map (fun r => u.own + (r - u.ref) * (u.ratio : Int) / 65536)
    | none =>
      if !tbMovingSt b.st && decide (b.since ≤ t) then some b.pe
      else ((if tbMovingSt b.st then b.model :: b.models else b.models).find? (fun m => decide (m.te ≤ t))).map (fun m => m.phaseAt t)

/-- The instants at which the models of a base that are kept began, newest first: its own, or under failover REF's (R48). -/
def State.tbStarts (s : State) : Nat → Nat → List Nat
  | 0, _ => []
  | fuel + 1, n =>
    let b := s.tb n
    match b.sub with
    | some u => (s.tbStarts fuel u.base).takeWhile (fun t => decide (b.te ≤ t)) ++ [b.te]
    | none => (if tbMovingSt b.st then [b.te] else [b.since]) ++ b.models.map (·.te)

/-- The speed of a distance base in mm/s: 1 LSB per µs is 0.1 mm per µs, that is 100,000 mm/s. -/
def State.tbSpeedMm (s : State) (n : Nat) : Nat := (s.tbVel n).natAbs * 100000 / 65536

/-! ## The state machine (R49) -/

/-- A flag of a base set. -/
def State.tbFlag (f : Nat → Fld) (n : Nat) (s : State) : State := s.setFlag (f n)

/-- A window of the reference check is given up where a base of its pair leaves the states of R46. -/
def State.tbDropWins (n st : Nat) (s : State) : State :=
  s.each (List.range 8) (fun m s =>
    let drop := (m = n && !tbMovingSt st) || (m ≠ n && st != 2 && (s.tb m).win.any (fun w => w.base = n))
    if drop && (s.tb m).win.isSome then s.setTb m { s.tb m with win := none } else s)

/-- R37, R38, R48: a base is about to stop at P_e: what a substitute has reported by its motion does not fall back. -/
def State.tbHoldSubs (n : Nat) (s : State) : State :=
  s.each (List.range 8) (fun m s =>
    match (s.tb m).sub with
    | some u => s.when (u.base = n && m != n) (fun s => s.setTb m { s.tb m with sub := some { u with floor := some (s.tbPhase16 8 m s.now) } })
    | none => s)

/-- A base enters a state of Table 2.2: its flag, its event (Table 2.4), the report to the consumers, and of a loss by a fault the report to
Tocsin (R54). Entering STILL,
LOST, SEEK or OFF starts the edge histories afresh (R45). -/
def State.tbEnter (n st cause : Nat) (s : State) : State :=
  let b := s.tb n
  if b.st = st then s
  else
    let b := { b with st := st, since := s.now, dueAt := if tbMovingSt st then b.dueAt else none,
                      causes := if st = 4 then b.causes else [] }
    let b := if st = 2 then { b with known := true } else b
    let b := if st = 2 then { b with good := 0, errs := 0 } else b
    let b := if st = 0 || st = 1 || st = 3 || st = 5 then
      { b with hist := [], edge := none, lastT := none, lastIv := none, limit := none, revRun := 0, stRun := 0, skip := none,
               gapSeen := false, floor := none, models := if st = 3 then b.models else [] } else b
    let lastV := s.tbVel n
    let b := if st = 3 then { b with v := 0, a := 0 } else b
    let t := ((s.when (st = 3 || st = 5) (State.tbHoldSubs n)).setTb n b).tbDropWins n st
    match st with
    | 2 => ((t.tbFlag TBS_FLAGS_TRACK n).emit 0x0301 [n, t.rd (TBS_CFG_SRC n)]).signal (.base n 5 0)
    | 3 => ((t.tbFlag TBS_FLAGS_STILL n).emit 0x0302 [n, tc 32 lastV]).signal (.base n 1 0)
    | 4 => ((t.tbFlag TBS_FLAGS_SUSPECT n).emit 0x0303 [n, cause]).signal (.base n 4 0)
    | 5 => (((t.tbFlag TBS_FLAGS_LOST n).emit 0x0304 [n, cause]).when (cause != 5) State.toTocsin).signal (.base n 2 0)
    | _ => t.signal (.base n 6 0)

/-- R48: a base may fail over: FAILOVER, a distance base, REF in TRACK. It may from every state in which it is valid, STILL among
them (DEDUCED, assumption log, entry 81). -/
def State.tbMayFail (s : State) (n : Nat) : Bool :=
  s.on (TBS_PLAUS_FAILOVER n) && s.tbKind n = 1 && s.tbSt (s.rd (TBS_PLAUS_REF n)) = 2

/-- R48: the base stays in TRACK, or enters it, at REF's speed; EV 0x0304 for its source and EV 0x030B. -/
def State.tbFailover (n cause : Nat) (s : State) : State :=
  let s := s.toTocsin
  let r := s.rd (TBS_PLAUS_REF n)
  let p := s.tbPhase16 8 n s.now
  let b := s.tb n
  let t := s.setTb n { b with sub := some ⟨p, s.tbPhase16 8 r s.now, none, r, s.rd (TBS_RATIO_RATIO n), none⟩, pe := p, te := s.now,
                              hist := [], limit := none, dueAt := none, causes := [], revRun := 0, floor := none, skip := none }
  ((t.tbEnter n 2 0).emit 0x0304 [n, cause]).emit 0x030B [n, r]

/-- A base whose own source is lost: LOST, or failover (R48). A base already under failover loses its source again. -/
def State.tbLose (n cause : Nat) (s : State) : State :=
  let b := s.tb n
  match b.sub with
  | some u =>
    if cause = 5 then (s.setTb n { b with pe := s.tbPhase16 8 n s.now, sub := none }).tbEnter n 5 5
    else s.setTb n { b with sub := some { u with since := none }, hist := [], limit := none, dueAt := none }
  | none =>
    if !tbValidSt b.st then s
    else if cause != 5 && s.tbMayFail n then s.tbFailover n cause
    else s.tbEnter n 5 cause

/-- Bases under failover to a base that is no longer valid lose their substitute: they enter LOST with cause 3 (DEDUCED,
assumption log, entry 23). -/
def State.tbDropSubs (n : Nat) (s : State) : State :=
  s.each (List.range 8) (fun m s =>
    let b := s.tb m
    if b.sub.any (fun u => u.base = n) && !tbValidSt (s.tbSt n) then
      (s.setTb m { b with pe := s.tbPhase16 8 m s.now, sub := none }).tbEnter m 5 3
    else s)

/-- R45, R46: a cause puts a base in SUSPECT: from TRACK, or for a tooth error from STILL. -/
def State.tbSuspect (n cause : Nat) (s : State) : State :=
  let b := s.tb n
  if b.sub.isSome then s
  else if b.st = 2 || b.st = 4 || (cause = 1 && b.st = 3) then
    let t := s.setTb n { b with causes := if b.causes.contains cause then b.causes else b.causes ++ [cause] }
    t.tbEnter n 4 cause
  else s

/-- A cause of SUSPECT ends; with none left the base returns to TRACK. -/
def State.tbClear (n cause : Nat) (s : State) : State :=
  let b := s.tb n
  let t := s.setTb n { b with causes := b.causes.erase cause }
  if b.st = 4 && (b.causes.erase cause).isEmpty then t.tbEnter n 2 0 else t

/-- R44: a jump: flag, JSIZE, EV 0x0306, the estimator restarted with v kept and a 0. Windows and substitutions that
run over the base take the jump out of their motion (DEDUCED, assumption log, entry 21). -/
def State.tbJump (n : Nat) (size16 : Int) (s : State) : State :=
  let size := tc 32 (size16 / lsb16)
  let b := s.tb n
  let t := s.setTb n { b with hist := b.hist.take 1, a := 0, floor := none, models := [] }
  let t := t.each (List.range 8) (fun m s =>
    let c := s.tb m
    let c := match c.win with
      | some w => { c with win := some { w with own := w.own + (if m = n then size16 else 0),
                                                ref := w.ref + (if m ≠ n && w.base = n then size16 else 0) } }
      | none => c
    let c := match c.sub with
      | some u => { c with sub := some { u with ref := u.ref + (if m ≠ n && u.base = n then size16 else 0) } }
      | none => c
    s.setTb m c)
  (((t.tbFlag TBS_FLAGS_JUMP n).wr (TBS_JUMP_JSIZE n) size).emit 0x0306 [n, size]).signal (.base n 3 (sx 32 size))

/-- R42: a reported reversal: DIR, a set to 0, the flag, EV 0x0305 at most once per 100 ms. -/
def State.tbReverse (n : Nat) (fwd : Bool) (s : State) : State :=
  let t := s.setTb n { s.tb n with fwd := fwd, revRun := 0, a := 0, floor := none }
  let t := t.each (List.range 8) (fun m s =>
    match (s.tb m).sub with
    | some u =>
      if u.base != n then s
      else
        let x := { u with own := s.tbPhase16 8 m s.now, ref := s.tbPhase16 8 n s.now, floor := none }
        s.setTb m { s.tb m with sub := some x }
    | none => s)
  ((t.tbFlag TBS_FLAGS_REV n).emitRate 0x0305 n 100000000 (fun k => [n, b2n fwd, k])).signal (.base n 0 0)

/-! ## The estimator (R39) -/

/-- The least-squares fit of phase over time across points given as (time before the newest, phase before the newest);
the answer is v and a at the newest point. Fewer than three points give the line through them. -/
def tbFitPoints (pts : List (Int × Int)) : Option (Int × Int) :=
  let n : Int := pts.length
  let s (k : Nat) : Int := sumI (pts.map (fun p => p.1 ^ k))
  let t (k : Nat) : Int := sumI (pts.map (fun p => p.1 ^ k * p.2))
  let rat (x y : Int) (m : Int) : Int := if y < 0 then divRound (-x * m) y.natAbs else divRound (x * m) y.natAbs
  if pts.length < 2 then none
  else if pts.length = 2 then
    let d := n * s 2 - s 1 * s 1
    if d = 0 then none else some (rat (n * t 1 - s 1 * t 0) d 1000, 0)
  else
    let m00 := s 2 * s 4 - s 3 * s 3
    let m01 := s 1 * s 4 - s 2 * s 3
    let m02 := s 1 * s 3 - s 2 * s 2
    let d := n * m00 - s 1 * m01 + s 2 * m02
    if d = 0 then none
    else
      let c1 := n * (t 1 * s 4 - t 2 * s 3) - t 0 * m01 + s 2 * (s 1 * t 2 - s 2 * t 1)
      let c2 := n * (s 2 * t 2 - s 3 * t 1) - s 1 * (s 1 * t 2 - s 2 * t 1) + t 0 * m02
      some (rat c1 d 1000, rat c2 d 2000000000)

/-- R39: v and a renewed across the last ESTW accepted edges; with ESTW = 1 edge, the last pitch over its interval. -/
def State.tbFit (n : Nat) (s : State) : State :=
  let b := s.tb n
  let w := max 2 (2 ^ s.rd (TBS_CFG_ESTW n))
  let h := b.hist.take w
  match h with
  | [] => s
  | (t0, p0) :: _ =>
    match tbFitPoints (h.map (fun e => ((e.1 : Int) - (t0 : Int), e.2 - p0))) with
    | some (v, a) => s.setTb n { b with hist := h, v := v, a := if s.rd (TBS_CFG_ESTW n) = 0 then 0 else a }
    | none => s.setTb n { b with hist := h }

/-! ## Counts (R36) -/

/-- The edges per tooth or pulse: 2 with EDGE = 1. -/
def State.tbE (s : State) (n : Nat) : Nat := if s.on (TBS_CFG_EDGE n) then 2 else 1

/-- COUNTS: the counts per turn. -/
def State.tbCounts (s : State) (n : Nat) : Nat :=
  if s.rd (TBS_CFG_SRC n) = 1 then s.rd (TBS_TEETH_PULSES n) * [4, 2, 1, 1].getD (s.rd (TBS_CFG_MULT n)) 1
  else s.rd (TBS_TEETH_PULSES n) * s.tbE n

/-- round(k · 2^24 / counts), in 2^−16 LSB. -/
def angleOf (k : Int) (counts : Nat) : Int := divRound (k * 2 ^ 24) counts * lsb16

/-- A whole, in 10^−12 (the unit of the trim of R47). -/
def trimOne : Nat := 1000000000000

/-- A speed or distance with the trim of R47, to the nearest unit. -/
def tbTrimmed (x trim : Int) : Int := x + divRound (x * trim) trimOne

/-- The distance of one count: SCALE with the trim of R47. -/
def State.tbScale (s : State) (n : Nat) : Int :=
  let sc : Int := s.rd (TBS_SCALE_SCALE n)
  if s.on (TBS_PLAUS_BLEND n) then tbTrimmed sc (s.tb n).trim else sc

/-- The phase of the next count in a direction, for sources that count. -/
def State.tbNextCount (s : State) (n : Nat) (fwd : Bool) : Int :=
  let b := s.tb n
  let d : Int := if fwd then 1 else -1
  if s.tbKind n = 0 then b.origin + angleOf (b.count + d) (s.tbCounts n) else b.pe + d * s.tbScale n

/-- Tooth wheel: edge positions per turn, and those missing in the gap (R36). -/
def State.tbPositions (s : State) (n : Nat) : Nat := s.rd (TBS_TEETH_PULSES n) * s.tbE n
def State.tbMissing (s : State) (n : Nat) : Nat := s.rd (TBS_TEETH_MISS n) * s.tbE n

/-- Tooth wheel: the phase of an edge position of the present turn; positions outside a turn lie in its neighbours. -/
def State.tbTooth (s : State) (n : Nat) (k : Int) : Int :=
  (s.tb n).origin + angleOf k (s.tbPositions n) + (s.rd (TBS_IDXOFS_IDXOFS n) : Int) * lsb16

/-- The phase of the next expected edge. -/
def State.tbNextEdge (s : State) (n : Nat) : Option Int :=
  let b := s.tb n
  let src := s.rd (TBS_CFG_SRC n)
  if src = 2 then
    let p := s.tbPositions n
    let m := s.tbMissing n
    if b.fwd then some (s.tbTooth n (if b.pos + m + 1 = p then (p : Int) else (b.pos : Int) + 1))
    else some (s.tbTooth n (if b.pos = 0 then -(m : Int) - 1 else (b.pos : Int) - 1))
  else if src = 1 || src = 3 || src = 4 then some (s.tbNextCount n b.fwd)
  else none

/-- The whole turn plus IDXOFS nearest to a phase. -/
def nearestIndex (p ofs : Int) : Int := ofs + (p - ofs + turn16 / 2) / turn16 * turn16

/-! ## After an edge or an update -/

/-- AMAX in 2^−16 LSB per s²: 0.1 turn/s², or 0.01 m/s² = 100 LSB/s². -/
def State.tbAmax (s : State) (n : Nat) : Nat :=
  if s.tbKind n = 0 then s.rd (TBS_LIM_AMAX n) * 2 ^ 40 / 10 else s.rd (TBS_LIM_AMAX n) * 100 * 65536

/-- R43: the deadline after an edge, as the instant and whether it is one of LOST. -/
def State.tbDeadline (s : State) (n : Nat) : Option (Nat × Bool) :=
  let b := s.tb n
  match b.limit with
  | none => none
  | some l =>
    let p := (l - b.pe).natAbs
    let v := b.v.natAbs * 1000000
    let am := s.tbAmax n
    if v = 0 ∨ am = 0 ∨ v * v < 2 * am * p then
      some (b.te + max 1 (s.rd (TBS_LIM_STILLTO n)) * 5000000, false)
    else
      let num := (v - isqrt (v * v - 2 * am * p)) * (64 + s.rd (TBS_LIM_LOSSMARG n)) * 1000000000
      some (b.te + (num + 64 * am - 1) / (64 * am), true)

/-- R35, R46: the overspeed condition sets its flag and, as it comes, its event, and puts the base in SUSPECT. -/
def State.tbOverspeed (n : Nat) (s : State) : State :=
  let u := s.tbFlag TBS_FLAGS_OVERSPD n
  if (s.tb n).causes.contains 3 then u else (u.emit 0x0307 [n, tc 32 (s.tb n).v]).tbSuspect n 3

/-- R46: the limits of speed and acceleration: a condition sets its flag and, as it comes, its event, and puts the base in
SUSPECT until an edge within both limits. That EV 0x0307 and EV 0x0308 come as the condition comes, and not at each further edge
beyond a limit, is DEDUCED (assumption log, entry 82). An edge of R35 (`fast`) is not within the limits. -/
def State.tbLimits (n : Nat) (fast : Bool) (s : State) : State :=
  let b := s.tb n
  if !tbMovingSt b.st || b.sub.isSome then s
  else
    let ov := decide (s.rd (TBS_VMAX_VMAX n) < b.v.natAbs)
    let acc := decide (s.tbAmax n < b.a.natAbs * 1000000000)
    let t := s.when ov (State.tbOverspeed n)
    let t := if acc then
        let u := t.tbFlag TBS_FLAGS_ACCERR n
        if b.causes.contains 4 then u else (u.emit 0x0308 [n, tc 32 b.a]).tbSuspect n 4
      else t
    if ov || acc || fast then t else (t.tbClear n 3).tbClear n 4

/-- R47: the trim toward REF times RATIO, with a time constant of 10 s, renewed at an edge `dt` ns after the last. -/
def State.tbBlend (n dt : Nat) (s : State) : State :=
  let r := s.rd (TBS_PLAUS_REF n)
  let b := s.tb n
  let vr := s.tbVel r
  if !(s.on (TBS_PLAUS_BLEND n) && b.st = 2 && b.sub.isNone && s.tbSt r = 2 && decide (183 < vr.natAbs) &&
      b.v ≠ 0) then s
  else
    let want : Int := vr.natAbs * s.rd (TBS_RATIO_RATIO n) * (trimOne + b.trim) / (65536 * b.v.natAbs) - trimOne
    let lim : Int := s.rd (TBS_PLAUS_TRIMLIM n) * 1000000000
    let next := b.trim + divRound ((want - b.trim) * (min dt 10000000000 : Nat)) 10000000000
    let held := clampI (-lim) lim next
    let at_ := decide (held = lim) || decide (held = -lim)
    let t := s.setTb n { b with trim := held, atLimit := at_ }
    if at_ && !b.atLimit then
      (t.tbFlag TBS_FLAGS_TRIMLIM n).emit 0x030A [n, tc 32 (divRound held 1000000000)]
    else t

/-- After every accepted edge or source update: the next edge, the limits, the deadline (R40, R43, R46). -/
def State.tbRenewed (n : Nat) (fast : Bool) (s : State) : State :=
  let t := s.setTb n { s.tb n with limit := if s.tbSt n = 3 then none else s.tbNextEdge n }
  let t := t.tbLimits n fast
  let far : Nat := (if t.tbKind n = 0 then 0x04000000 else 2000000) * 65536
  let kept := (t.tb n).models.takeWhile (fun m => decide ((m.pe - (t.tb n).pe).natAbs ≤ far))
  let b := { t.tb n with models := (t.tb n).model :: kept, edge := some (t.tb n).model }
  let t := t.setTb n b
  if !(tbMovingSt b.st) then t
  else match t.tbDeadline n with
    | some (d, lost) => t.setTb n { b with dueAt := some d, dueLost := lost }
    | none => t.setTb n { b with dueAt := none }

/-! ## Deadlines, wire breaks and the reference check: the order of R49 -/

/-- The inputs that a base reads (Table 2.1). -/
def State.tbPins (s : State) (n : Nat) : List Nat :=
  let src := s.rd (TBS_CFG_SRC n)
  if src = 0 || 5 ≤ src then []
  else
    let inz := if (src = 1 && s.on (TBS_CFG_ZEN n) && s.tbKind n = 0) || s.rd (TBS_CFG_DIRSRC n) = 2 ||
      s.rd (TBS_CFG_DIRSRC n) = 3 then [s.rd (TBS_CFG_INZ n)] else []
    [s.rd (TBS_CFG_INA n)] ++ (if src = 1 then [s.rd (TBS_CFG_INB n)] else []) ++ inz

/-- R507, R43: a wire break on an input: every base that reads it enters LOST with cause 2. -/
def State.tbWireBreak (pin : Nat) (s : State) : State :=
  let s := s.wr TBS_INSTAT_WBRK (setBit (s.rd TBS_INSTAT_WBRK) pin)
  s.each (List.range 8) (fun n s =>
    if (s.tbPins n).contains pin && s.tbSt n != 0 then
      let t := s.tbFlag TBS_FLAGS_WIREBRK n
      t.tbLose n 2
    else s)

/-- R43: a deadline that has passed: LOST with cause 1, or STILL. A base in SUSPECT has no way to STILL (Table 2.2): it stands where
it is, with v and a 0. -/
def State.tbDue (n : Nat) (s : State) : State :=
  let b := s.tb n
  match b.dueAt with
  | none => s
  | some d =>
    if s.now < d then s
    else if b.dueLost then s.tbLose n 1
    else if b.st = 4 then
      s.setTb n { b with v := 0, a := 0, hist := [], floor := some (b.phaseAt s.now), dueAt := none }
    else s.tbEnter n 3 0

/-- R46: a window of the reference check begins where both bases allow it. -/
def State.tbWindow (n : Nat) (s : State) : State :=
  let r := s.rd (TBS_PLAUS_REF n)
  let may := tbMovingSt (s.tbSt n) && s.tbSt r = 2
  s.setTb n { s.tb n with win := if may then some ⟨s.now, r, s.tbPhase16 8 n s.now, s.tbPhase16 8 r s.now⟩ else none }

/-- R46: a 100 ms window ends: the base's travel is compared with REF's times RATIO; a window that began with another REF is
discarded. EV 0x0309 comes as the check first fails, not at each further window; the ratio measured that it carries is in the format of
RATIO, 16.16, and 0 where REF has not moved (DEDUCED, assumption log, entry 82). -/
def State.tbPlaus (n : Nat) (s : State) : State :=
  let b := s.tb n
  match b.win with
  | none => s.tbWindow n
  | some w =>
    if s.now < w.from_ + 100000000 then s
    else if w.base != s.rd (TBS_PLAUS_REF n) then s.tbWindow n
    else
      let ds := s.tbPhase16 8 n s.now - w.own
      let dr := s.tbPhase16 8 w.base s.now - w.ref
      let want := dr * (s.rd (TBS_RATIO_RATIO n) : Int)
      let beyond := decide (s.rd (TBS_PLAUS_TOL n) * want.natAbs < 200 * (ds * 65536 - want).natAbs)
      let s := s.tbWindow n
      if beyond then
        let ratio := if dr = 0 then 0 else tc 32 (ds * 65536 / dr)
        let t := s.tbFlag TBS_FLAGS_PLAUSERR n
        if b.causes.contains 2 then t else ((t.emit 0x0309 [n, w.base, ratio]).toTocsin).tbSuspect n 2
      else s.tbClear n 2

/-- R507, Table 19.8: a break is detected in modes 0 and 2 of an input, a short in mode 2 only, after 1 ms. -/
def State.wireBreaks (s : State) (pin : Nat) (short : Bool) (ms : Nat) : Bool :=
  let mode := bits (s.rd SYS_TBIMODE_MODE) (2 * pin) 2
  decide (pin < 16) && decide (1 ≤ ms) && s.blockOn 0x03 && (mode = 2 || (mode = 0 && !short))

/-- A wire break of an input waits in the queue of this tick. -/
def State.wireBreakWaits (s : State) (pin : Nat) : Bool :=
  s.pending.any (fun i => match i with | .tbiWireBreak p short ms => p = pin && s.wireBreaks p short ms | _ => false)

/-- An edge of a base waits in the queue of this tick. -/
def State.edgeWaits (s : State) (n : Nat) : Bool :=
  s.pending.any (fun i => match i with | .edgeAccepted m pin _ => m = n && decide (pin < 16) | _ => false)

/-- R49: a wire break of an input of base `n` whose command stands in the queue of this tick is taken before the base's other causes. -/
def State.tbBroken (n : Nat) (s : State) : State :=
  s.each ((s.tbPins n).filter (fun p => s.wireBreakWaits p)) State.tbWireBreak

/-- R49: what comes before the tooth check on the same tick: a wire break, and the deadline. -/
def State.tbFirst (n : Nat) (s : State) : State := (s.tbBroken n).tbDue n

/-- R49: what comes between the tooth check and the acceptance of an edge of base `n`: the windows of the reference check that end on the
tick and in which it takes part. -/
def State.tbSecond (n : Nat) (s : State) : State :=
  s.each (List.range 8) (fun m s =>
    s.when (s.on (TBS_PLAUS_PEN m) && (s.tb m).win.any (fun w => (m = n || w.base = n) && decide (w.from_ + 100000000 ≤ s.now)))
      (State.tbPlaus m))

/-! ## Edges -/

/-- R41: the signed difference between an edge's time and the time predicted for it at the previous edge, from whose phase it lies as far
as from P_e, which a PRESET may have moved since. At an edge for which
there is no prediction (v is 0, as at the first edge after STILL or LOST) PERR keeps its value (DEDUCED, assumption log, entry
82). -/
def State.tbPerr (n t : Nat) (p : Int) (s : State) : State :=
  let b := s.tb n
  match b.edge with
  | none => s
  | some m =>
    let q := p - (b.pe - m.pe)
    match tbReachFrom m.pe m.te m.v m.a (decide (m.pe ≤ q)) q with
    | some u => s.setTb n { b with perr := clampI (-32767) 32767 ((t : Int) - (u : Int)) }
    | none => s

/-- The base takes the phase of an edge at `t` in a direction: the reversal of R42, the fit of R39, the way out of STILL
(Table 2.2). HYST = 0 is taken as one count against DIR (DEDUCED, assumption log, entry 82). -/
def State.tbAdvance (n t : Nat) (p : Int) (fwd fast : Bool) (s : State) : State :=
  let s := s.tbPerr n t p
  let b := s.tb n
  let dt := t - b.te
  let against := b.fwd != fwd
  let run := if against then b.revRun + 1 else 0
  let rev := against && decide (max 1 (s.rd (TBS_CFG_HYST n)) ≤ run)
  let lastV := if b.te < t then divRound ((p - b.pe) * 1000) dt else 0
  let cur := b.phaseAt s.now
  let c := { b with pe := p, te := t, hist := (t, p) :: b.hist, revRun := run,
                    floor := if against || tbAhead b.fwd p cur then none else some cur }
  let s :=
    if rev then
      (s.setTb n { c with v := lastV, a := 0, hist := [(t, p), (b.te, b.pe)] }).tbReverse n fwd
    else (s.setTb n c).tbFit n
  let s := s.tbBlend n dt
  let b := s.tb n
  let s :=
    if b.st = 3 then
      let k := if b.stFwd = fwd && b.stRun != 0 then b.stRun + 1 else 1
      let need := if s.rd (TBS_CFG_SRC n) = 1 then max 2 (s.rd (TBS_CFG_HYST n) + 1) else 2
      let t := s.setTb n { b with stRun := k, stFwd := fwd }
      if need ≤ k then t.tbEnter n 2 0 else t
    else s
  s.tbRenewed n fast

/-- SEEK or LOST to TRACK at an edge whose phase is `p`; a jump where a phase already known disagrees (R50). -/
def State.tbAcquire (n t : Nat) (p : Int) (prev : Option (Nat × Int)) (fwd noidx : Bool) (s : State) : State :=
  let b := s.tb n
  let old := b.pe
  let was := b.known
  let h := match prev with | some e => [(t, p), e] | none => [(t, p)]
  let s := (s.setTb n { b with pe := p, te := t, hist := h, v := 0, a := 0, fwd := fwd, noidx := noidx }).tbFit n
  let s := s.tbEnter n 2 0
  let s := s.when (was && decide (old ≠ p)) (State.tbJump n (p - old))
  s.tbRenewed n false

/-- One count of a source that counts: quadrature, tachometer, radar (R36, R42, R50). While an index is sought, the counts are
only dated. -/
def State.tbCount (n t : Nat) (fwd zidx fast : Bool) (s : State) : State :=
  let b := s.tb n
  let d : Int := if fwd then 1 else -1
  match b.sub with
  | some u =>
    let p := b.pe + d * s.tbScale n
    let s := s.tbPerr n t p
    let b := s.tb n
    let s := (s.setTb n { b with pe := p, te := t, hist := (t, p) :: b.hist,
                                 sub := some { u with since := some (u.since.getD t) } }).tbFit n
    let s := s.setTb n { s.tb n with limit := s.tbNextEdge n }
    let s := s.setTb n { s.tb n with edge := some (s.tb n).model }
    match s.tbDeadline n with
    | some (x, _) => s.setTb n { s.tb n with dueAt := some x, dueLost := true }
    | none => s
  | none =>
    if b.st = 0 then s
    else if b.st = 1 || b.st = 5 then
      if zidx then s.setTb n { b with fwd := fwd, lastT := some t, lastIv := b.lastT.map (fun u => t - u) }
      else (s.setTb n { b with origin := b.pe, count := 0 }).tbAcquire n t b.pe none fwd (s.tbKind n = 0)
    else if b.skip = some fwd then
      let s := s.tbPerr n t b.pe
      s.setTb n { s.tb n with skip := none }
    else
      let p := s.tbNextCount n fwd
      (s.setTb n { b with count := b.count + d, skip := none }).tbAdvance n t p fwd fast

/-- R527: an index edge: agreement within one count is a step to the exact index phase, in which the phase reported does not
fall back (R38); a larger difference is a jump; while seeking, the index brings the base to TRACK. The boundary count edge that
still follows is not counted: after an index one count early, and, where the base was seeking, after an index nearer in time to the
count edge that follows than to the last one (DEDUCED, assumption log, entry 82). -/
def State.tbIndex (n t : Nat) (s : State) : State :=
  let b := s.tb n
  let ofs := (s.rd (TBS_IDXOFS_IDXOFS n) : Int) * lsb16
  if b.st = 0 then s
  else if b.st = 1 || b.st = 5 then
    let p := if b.known then nearestIndex b.pe ofs else ofs
    let ahead := match b.lastT, b.lastIv with | some u, some i => decide (i < 2 * (t - u)) | _, _ => false
    let s := (s.setTb n { b with origin := p, count := 0 }).tbAcquire n t p none b.fwd false
    s.setTb n { s.tb n with skip := if ahead then some b.fwd else none }
  else
    let counts := s.tbCounts n
    let p := nearestIndex b.pe ofs
    let rel := divRound ((b.pe - p) * counts) (2 ^ 40)
    if -1 ≤ rel ∧ rel ≤ 1 then
      let s := s.tbPerr n t p
      let b := s.tb n
      let cur := b.phaseAt s.now
      let pend := if b.fwd then rel = -1 else rel = 1
      let s := s.setTb n { b with origin := p, count := 0, skip := if pend then some b.fwd else none }
      if p = b.pe then s
      else ((s.setTb n { s.tb n with pe := p, te := t, hist := (t, p) :: b.hist,
                                     floor := if tbAhead b.fwd p cur then none else some cur }).tbFit n).tbRenewed n false
    else
      let s := s.tbPerr n t p
      let s := s.setTb n { s.tb n with origin := p, count := 0, pe := p, te := t, hist := [(t, p)] }
      (s.tbJump n (p - b.pe)).tbRenewed n false

/-- R45: a tooth error: TOOTHERR; SUSPECT, or LOST at the third since the last correct turn. True in the answer: LOST; the base then
takes no jump to the index of the gap that showed the error (DEDUCED, assumption log, entry 82). -/
def State.tbToothErr (n : Nat) (s : State) : Bool × State :=
  let b := s.tb n
  let s := ((s.tbFlag TBS_FLAGS_TOOTHERR n).setTb n { b with good := 0, errs := b.errs + 1 }).toTocsin
  if b.st = 4 && decide (3 ≤ b.errs + 1) then (true, s.tbLose n 4)
  else (false, s.tbSuspect n 1)

/-- One edge of a missing-tooth wheel (R36, R45). -/
def State.tbToothEdge (n t : Nat) (fwd fast : Bool) (s : State) : State :=
  let b := s.tb n
  if b.st = 0 then s
  else
    let p := s.tbPositions n
    let m := s.tbMissing n
    let iv := b.lastT.map (fun u => t - u)
    let gap := match iv, b.lastIv with
      | some i, some j => decide (s.rd (TBS_TEETH_GAPR n) * j < i * 16)
      | _, _ => false
    let k0 : Nat := if fwd then 0 else p - m - 1
    let d : Int := if fwd then 1 else -1
    let s := s.setTb n { b with lastT := some t, lastIv := if iv.isSome then iv else b.lastIv }
    let b := s.tb n
    if b.st = 1 || b.st = 5 then
      if gap && b.gapSeen && b.edges + m = p then
        let idx := (s.setTb n { b with origin := 0 }).tbTooth n k0
        let q := if b.known then nearestIndex b.pe idx else idx
        let s := s.setTb n { b with origin := q - idx, pos := k0, edges := 1 }
        let prev := s.tbTooth n ((k0 : Int) - d * (m + 1))
        s.tbAcquire n t q (iv.map (fun i => (t - i, prev))) fwd false
      else if gap then s.setTb n { b with gapSeen := true, edges := 1 }
      else s.setTb n { b with edges := b.edges + (if b.gapSeen then 1 else 0) }
    else if gap then
      let good := decide (b.edges + m = p)
      let counted := s.tbTooth n ((b.pos : Int) + d * (m + 1))
      let idx := (s.setTb n { b with origin := 0 }).tbTooth n k0
      let q := nearestIndex counted idx
      let s := s.setTb n { b with edges := 1 }
      let (lost, s) :=
        if good then
          let u := s.setTb n { s.tb n with good := b.good + 1, errs := 0 }
          (false, if 2 ≤ b.good + 1 then u.tbClear n 1 else u)
        else s.tbToothErr n
      let s := s.tbSecond n
      if lost then s
      else
        let s := s.setTb n { s.tb n with origin := q - idx, pos := k0 }
        if q = counted then s.tbAdvance n t q fwd fast
        else
          let s := s.tbPerr n t counted
          let s := s.setTb n { s.tb n with pe := q, te := t, hist := [(t, q)] }
          (s.tbJump n (q - counted)).tbRenewed n fast
    else
      let raw : Int := (b.pos : Int) + d
      let turns := if raw < 0 then -1 else if (p : Int) ≤ raw then 1 else 0
      let s := s.setTb n { b with pos := (raw - turns * p).toNat, origin := b.origin + turns * turn16, edges := b.edges + 1 }
      let b := s.tb n
      let (lost, s) :=
        if b.edges + m = p + 1 then (s.setTb n { b with edges := 1 }).tbToothErr n else (false, s)
      let s := s.tbSecond n
      if lost then s else s.tbAdvance n t (s.tbTooth n (s.tb n).pos) fwd fast

/-! ## Inputs -/

/-- A pin's level as TBS sees it (TBS_INSTAT). -/
def State.tbLevel (s : State) (pin : Nat) : Bool := bit (s.rd TBS_INSTAT_LEVEL) pin

/-- Whether an edge is a count of the base, and in which sense: quadrature ×4, ×2, ×1 (A before B is forward, PRESUMED,
assumption log, entry 22), rising edges or both for the other sources (R36). -/
def State.tbIsCount (s : State) (n pin : Nat) (high : Bool) : Option Bool :=
  let src := s.rd (TBS_CFG_SRC n)
  if src = 1 then
    let mult := s.rd (TBS_CFG_MULT n)
    if pin = s.rd (TBS_CFG_INA n) then
      let b := s.tbLevel (s.rd (TBS_CFG_INB n))
      if mult = 2 then (if b then none else some high) else some (high != b)
    else if pin = s.rd (TBS_CFG_INB n) && mult = 0 then some (high == s.tbLevel (s.rd (TBS_CFG_INA n)))
    else none
  else if (src = 2 || src = 3 || src = 4) && pin = s.rd (TBS_CFG_INA n) && (high || s.on (TBS_CFG_EDGE n)) then some true
  else none

/-- R42: the direction of a count. -/
def State.tbDirOf (s : State) (n : Nat) (sense : Bool) : Bool :=
  match s.rd (TBS_CFG_DIRSRC n) with
  | 1 => sense
  | 2 => s.tbLevel (s.rd (TBS_CFG_INZ n))
  | 3 => !s.tbLevel (s.rd (TBS_CFG_INZ n))
  | _ => true

/-- R35: edges of one input closer together than 100 ns: every base that reads the input is overspeed. Such an edge is accepted and
counted as any other (DEDUCED, assumption log, entry 82). -/
def State.tbInputFast (pin : Nat) (s : State) : State :=
  s.each (List.range 8) (fun n s => s.when ((s.tbPins n).contains pin && s.tbSt n != 0) (State.tbOverspeed n))

/-- A limits group applied: a substitution under way goes on from its present phase with the new REF and RATIO (R48, R51), also where
the new group clears FAILOVER (DEDUCED, assumption log, entry 82). With PEN clear the window of the reference check is given up (R46). -/
def State.tbLimitsApplied (n : Nat) (s : State) : State :=
  let s := s.when (!s.on (TBS_PLAUS_PEN n)) (fun s => s.setTb n { s.tb n with win := none })
  let b := s.tb n
  let r := s.rd (TBS_PLAUS_REF n)
  let ratio := s.rd (TBS_RATIO_RATIO n)
  match b.sub with
  | some u =>
    if u.base = r && u.ratio = ratio then s
    else
      let t := s.setTb n { b with sub := some { u with own := s.tbPhase16 8 n s.now, ref := s.tbPhase16 8 r s.now, base := r,
                                                       ratio := ratio, floor := none } }
      t.tbDropSubs r
  | none => s

/-- R51: a limits group that waits applies at an accepted edge or source update. -/
def State.tbTakeLimits (n : Nat) (s : State) : State := (s.takeFlds (.tbLimits n) (fun _ => true)).tbLimitsApplied n

/-- R35, R36: an edge of `pin`, dated `t`, that base `n`'s filter has passed. -/
def State.tbEdge (n pin t : Nat) (high : Bool) (s : State) : State :=
  let s := (s.tbFirst n).tbTakeLimits n
  let last := tabGet 0 s.tbs.pinAt pin
  let fast := last != 0 && decide (last - 1 < t) && decide (t - (last - 1) < 100)
  let s := { s with tbs := { s.tbs with pinAt := tabSet 0 s.tbs.pinAt pin (max last (t + 1)) } }
  let sense := s.tbIsCount n pin high
  let s := s.wr TBS_INSTAT_LEVEL (putBit (s.rd TBS_INSTAT_LEVEL) pin high)
  let s := s.when fast (State.tbInputFast pin)
  let src := s.rd (TBS_CFG_SRC n)
  let zidx := src = 1 && s.on (TBS_CFG_ZEN n) && s.tbKind n = 0
  let s :=
    match sense with
    | some c =>
      let fwd := s.tbDirOf n c
      if src = 2 then s.tbToothEdge n t fwd fast else (s.tbSecond n).tbCount n t fwd zidx fast
    | none => s.tbSecond n
  s.when (zidx && pin = s.rd (TBS_CFG_INZ n) && high) (State.tbIndex n t)

/-! ## Sources without edges (R38) -/

/-- R38: a speed record (GNSS): v and a are renewed and the phase continues from its present value. A base that seeks,
or has lost its records, enters TRACK with the first valid one (Table 2.2). Its SCALE is ignored, so the trim of R47 is taken of the speed
of its records; Yulis and virtual bases are not trimmed (DEDUCED, assumption log, entry 82). -/
def State.tbSpeed (n t : Nat) (v a : Int) (s : State) : State :=
  let s := s.tbTakeLimits n
  let b := s.tb n
  if b.st = 0 then s
  else
    let b := { b with raw := v }
    let trim (x : Int) : Int := if s.on (TBS_PLAUS_BLEND n) then tbTrimmed x b.trim else x
    let v := trim v
    let a := trim a
    match b.sub with
    | some u => s.setTb n { b with te := t, v := v, a := a, updAt := s.now, sub := some { u with since := some (u.since.getD t) } }
    | none =>
      let p := s.tbPhase16 8 n (max t b.te)
      let dt := t - b.te
      let fwd := if v = 0 then b.fwd else decide (0 < v)
      let s := s.setTb n { b with pe := p, te := max t b.te, v := v, a := a, updAt := s.now }
      let s := if fwd != b.fwd then s.tbReverse n fwd else s
      let s := if b.st = 1 || b.st = 5 || b.st = 3 then s.tbEnter n 2 0 else s
      (s.tbBlend n dt).tbRenewed n false

/-- A virtual base takes its rate (R38, Table 2.1). -/
def State.tbVirtual (n : Nat) (s : State) : State :=
  if s.rd (TBS_CFG_SRC n) != 7 || !tbMovingSt (s.tbSt n) then s
  else
    let s := s.tbTakeLimits n
    let b := s.tb n
    let v := s.rdS (TBS_VRATE_VRATE n)
    let fwd := if v = 0 then b.fwd else decide (0 < v)
    let s := s.setTb n { b with pe := s.tbPhase16 8 n s.now, te := s.now, v := v, a := 0 }
    let s := if fwd != b.fwd then s.tbReverse n fwd else s
    s.tbRenewed n false

/-- A sample of the master's base over Yulis (R38, R479): phase, velocity and state at `t`; `jump` tells a jump of the
master's base. The first sample brings a base that seeks to TRACK. The phase reported does not fall back at a sample that lies
behind it. A base that a PRESET or a return from failover has shifted stays shifted (R44, R48). -/
def State.tbSample (n t phase : Nat) (v : Int) (jump : Bool) (s : State) : State :=
  let s := s.tbTakeLimits n
  let b : TbBase := { s.tb n with updAt := s.now }
  if b.st = 0 then s
  else
    match b.sub with
    | some u => s.setTb n { b with te := t, v := v, a := 0, sub := some { u with since := some (u.since.getD t) } }
    | none =>
      let was := s.tbPhase16 8 n t
      let cur := s.tbPhase16 8 n s.now
      let p := was / lsb16 * lsb16 + phaseDiff (tc 32 (phase + b.origin / lsb16)) (tc 32 (was / lsb16)) * lsb16
      let fwd := if v = 0 then b.fwd else decide (0 < v)
      if b.st = 1 || b.st = 5 then
        let s := (s.setTb n b).tbAcquire n t p none fwd false
        s.setTb n { s.tb n with v := v }
      else
        let s := s.setTb n { b with pe := p, te := t, v := v, a := 0,
                                    floor := if tbMovingSt b.st && !tbAhead b.fwd (tbInterp p t v 0 b.fwd none s.now) cur then some cur else none }
        let s := if jump then s.tbJump n (p - was) else s
        let s := if fwd != b.fwd then s.tbReverse n fwd else s
        let s := if b.st = 3 then s.tbEnter n 2 0 else s
        s.tbRenewed n false

/-! ## Configuration (R51) -/

/-- A base enters SEEK (R51), a virtual base TRACK at once (Table 2.2). -/
def State.tbSeek (n : Nat) (s : State) : State :=
  let s := s.tbEnter n 1 0
  if s.rd (TBS_CFG_SRC n) = 7 then
    let s := s.setTb n { s.tb n with te := s.now, noidx := s.tbKind n = 0, fwd := decide (0 ≤ s.rdS (TBS_VRATE_VRATE n)) }
    (s.tbEnter n 2 0).tbVirtual n
  else s

/-- Table 2.2: on the tick after a structure commit has put bases in LOST, those that still are enter SEEK. -/
def State.tbSeekAll (s : State) : State :=
  let l := s.tbs.seek
  State.each l (fun n s => s.when (s.tbSt n = 5) (State.tbSeek n)) { s with tbs := { s.tbs with seek := [] } }

/-- A structure commit applied: OFF with SRC = 0; a running base enters LOST with cause 5, and SEEK on the next tick; another
base enters SEEK. TRIM and PERR start anew from 0 (DEDUCED, assumption log, entry 82). -/
def State.tbStructApplied (n : Nat) (s : State) : State :=
  let b := s.tb n
  if s.rd (TBS_CFG_SRC n) = 0 then
    ((s.tbEnter n 0 0).setTb n { since := s.now }).tbDropSubs n
  else
    let run := tbValidSt b.st
    let s := if run then
        let s := (s.setTb n { b with pe := if b.sub.isSome then s.tbPhase16 8 n s.now else b.pe, sub := none }).tbEnter n 5 5
        { s with tbs := { s.tbs with seek := s.tbs.seek ++ [n] } }
      else s
    let s := s.setTb n { s.tb n with v := 0, a := 0, perr := 0, origin := 0, trim := 0, atLimit := false, dueAt := none, skip := none,
                                     hist := [], lastT := none, lastIv := none, gapSeen := false }
    let s := s.tbDropSubs n
    s.when (!run) (State.tbSeek n)

/-! ## Reading (R37) -/

/-- The status word of a base: what a latch of TBS_STATn takes. -/
def State.tbStatWord (s : State) (n : Nat) : Nat :=
  let b := s.tb n
  b.st * 2 ^ 29 + b2n b.fwd * 2 ^ 28 + b2n (tbValidSt b.st) * 2 ^ 27 + b2n b.noidx * 2 ^ 26 + b2n b.sub.isSome * 2 ^ 25 +
    tc 8 (divRound b.trim 1000000000) * 2 ^ 16 + tc 16 b.perr

/-- The values of a base that SNAP and a read of PHASE latch. -/
def State.tbSnapOf (s : State) (n : Nat) : TbSnap :=
  ⟨s.tbPhase n, tc 32 (satS 32 (s.tbVel n)), tc 32 (satS 32 (s.tbAcc n)), s.now, s.tbStatWord n⟩

/-- The latched registers of a base written. -/
def State.tbLatch (n : Nat) (x : TbSnap) (s : State) : State :=
  let w := x.stat
  let s := (((s.wr (TBS_VEL_VEL n) x.vel).wr (TBS_ACC_ACC n) x.acc).wr (TBS_TSLO_TS n) x.time).wr (TBS_TSHI_TS n) (x.time / 2 ^ 32)
  let s := ((s.wr (TBS_STAT_STATE n) (w / 2 ^ 29)).wr (TBS_STAT_DIR n) (w / 2 ^ 28)).wr (TBS_STAT_VALID n) (w / 2 ^ 27)
  let s := ((s.wr (TBS_STAT_NOIDX n) (w / 2 ^ 26)).wr (TBS_STAT_SUBST n) (w / 2 ^ 25)).wr (TBS_STAT_TRIM n) (w / 2 ^ 16)
  s.wr (TBS_STAT_PERR n) w

/-- A read of TBS_PHASEn: the snapshot after SNAP, else live values; the other registers are latched. -/
def State.tbReadPhase (n : Nat) (s : State) : Nat × State :=
  match tabFind s.tbs.snap n with
  | some x => (x.phase, ({ s with tbs := { s.tbs with snap := tabDel s.tbs.snap n } }).tbLatch n x)
  | none => ((s.tbSnapOf n).phase, s.tbLatch n (s.tbSnapOf n))

/-- TBS_GSTAT and TBS_GFLAG as they read. -/
def State.tbGstat (s : State) : Nat := ((List.range 8).map (fun n => s.tbSt n * 2 ^ (3 * n))).sum
def State.tbAny (s : State) (n : Nat) : Bool :=
  [TBS_FLAGS_ACCERR n, TBS_FLAGS_OVERSPD n, TBS_FLAGS_TRIMLIM n, TBS_FLAGS_TRACK n, TBS_FLAGS_WIREBRK n, TBS_FLAGS_PLAUSERR n,
   TBS_FLAGS_TOOTHERR n, TBS_FLAGS_SUSPECT n, TBS_FLAGS_LOST n, TBS_FLAGS_STILL n, TBS_FLAGS_JUMP n, TBS_FLAGS_REV n].any s.on
def State.tbGflag (s : State) : Nat := ((List.range 8).map (fun n => b2n (s.tbAny n) * 2 ^ n)).sum

/-- R53: an RT reset leaves every base in OFF. -/
def State.tbsReset (s : State) : State := { s with tbs := {} }

end Sys2Proof.Machine
end

