-- ==== Sys2Proof/Machine/IoOps.lean ====
section
/-!
DEFINITION. The operations of SYS's inputs and outputs (spec/19_connectors_electrical_and_mechanical.md).
-/
namespace Sys2Proof.Machine

/-- The filtered level of a digital input. -/
def State.diLevel (s : State) (n : Nat) : Bool := bit (s.rd SYS_DILVL_LEVEL) n

/-- An analog input is valid: neither OPEN nor RANGE is set (R506). -/
def State.ainValid (s : State) (n : Nat) : Bool := !s.on (SYS_AIN_OPEN n) && !s.on (SYS_AIN_RANGE n)

/-- R506: OPEN and RANGE of a conversion in the range selected. -/
def State.ainFlags (s : State) (n : Nat) (val : Int) : Bool × Bool :=
  match bits (s.rd SYS_AINMODE_RANGE) (2 * n) 2 with
  | 2 => (decide (val < 5760), decide (33600 < val))
  | 1 => (false, decide (val < -320) || decide (32960 < val))
  | _ => (false, decide (val < -640) || decide (32960 < val))

/-- The value field of a conversion: the low 16 bits of the value, held within what the range can show (assumption log,
entry 24). -/
def State.ainStored (s : State) (n : Nat) (val : Int) : Nat :=
  if bits (s.rd SYS_AINMODE_RANGE) (2 * n) 2 = 2 then satU 16 val else tc 16 (satS 16 val)

/-- The value that a consumer takes from an input: in the current range it has no sign. -/
def State.ainValue (s : State) (n : Nat) : Int :=
  if bits (s.rd SYS_AINMODE_RANGE) (2 * n) 2 = 2 then (s.rd (SYS_AIN_VAL n) : Int) else s.rdS (SYS_AIN_VAL n)

/-- The filter time of a digital input, ns. -/
def State.diFilter (s : State) (n : Nat) : Nat :=
  let f := if n < 16 then bits (s.rd SYS_DIFILT0_FILT) (2 * n) 2 else bits (s.rd SYS_DIFILT1_FILT) (2 * (n - 16)) 2
  10000 * 10 ^ f

/-- R509: a happening of rank `r` on a DQ output takes effect unless a later-ranked one of the same tick has had its
effect. Ranks: 0 Tocsin hold, 1 fault, 2 Carillon firing, 3 host write. -/
def State.dqMay (s : State) (n r : Nat) : Bool :=
  let e := tabGet (0, 0) s.io.dqTick n
  !(e.1 = s.now + 1 && decide (r < e.2))

/-- The outputs that were on before the happenings of this tick. -/
def State.dqBefore (s : State) : Nat := if s.io.dqWas.1 = s.now + 1 then s.io.dqWas.2 else s.rd SYS_DQSTAT_LEVEL

def State.dqTook (n r : Nat) (s : State) : State :=
  { s with io := { s.io with dqTick := tabSet (0, 0) s.io.dqTick n (s.now + 1, r), dqWas := (s.now + 1, s.dqBefore) } }

/-- A DQ output's level set. -/
def State.dqPut (n r : Nat) (on : Bool) (s : State) : State :=
  if s.dqMay n r then (s.dqTook n r).wr SYS_DQSTAT_LEVEL (putBit (s.rd SYS_DQSTAT_LEVEL) n on) else s

/-- R509: the fault of a DQ output is taken before a Carillon firing and a host write of its tick, whichever command came
first: the output is off and faulted, except where a host write of SYS_DQCLR of the tick, which comes after the fault, has
already taken it off and clears the fault too. -/
def State.dqTrip (n : Nat) (s : State) : State :=
  let e := tabGet (0, 0) s.io.dqTick n
  if e = (s.now + 1, 3) && !bit (s.rd SYS_DQSTAT_LEVEL) n then s
  else
    let t := s.dqTook n 1
    (t.wr SYS_DQSTAT_LEVEL (clrBit (t.rd SYS_DQSTAT_LEVEL) n)).wr SYS_DQSTAT_FLT (setBit (t.rd SYS_DQSTAT_FLT) n)

/-- Table 14.2: DQ00–DQ15 set inactive by Tocsin. -/
def State.dqInactive (s : State) : State := s.each (List.range 16) (fun n s => s.dqPut n 0 false)

/-- A DQ output is in fault. -/
def State.dqFault (s : State) (n : Nat) : Bool := bit (s.rd SYS_DQSTAT_FLT) n

/-- R509: a Carillon firing on a DQ output: 0 clears, 1 sets, 2 toggles it. A tripped or held output stays off. -/
def State.dqEdge (n act : Nat) (s : State) : State :=
  if s.dqFault n || s.dqHeld then s
  else
    let lvl := bit (s.rd SYS_DQSTAT_LEVEL) n
    s.dqPut n 2 (match act with | 0 => false | 1 => true | _ => !lvl)

/-- The rated current of a sensor or camera supply, mA (Table 19.9). -/
def vsRated (b : Nat) : Nat := if b < 3 then 200 else if b < 6 then 300 else if b = 6 then 50 else 1000

/-- R522: what follows an apply of the I/O group: filters that changed restart, and bases that read a pin whose mode
changed enter LOST with cause 5. -/
def State.ioApplied (tbi0 f0 f1 : Nat) (s : State) : State :=
  let s := s.each (List.range 32) (fun n s =>
    let old := if n < 16 then bits f0 (2 * n) 2 else bits f1 (2 * (n - 16)) 2
    if 10000 * 10 ^ old = s.diFilter n then s
    else { s with io := { s.io with filtAt := tabSet 0 s.io.filtAt n (s.now + 1) } })
  let changed := (List.range 16).filter (fun p => bits tbi0 (2 * p) 2 != bits (s.rd SYS_TBIMODE_MODE) (2 * p) 2)
  s.each (List.range 8) (fun n s =>
    if (s.tbPins n).any changed.contains && tbValidSt (s.tbSt n) then s.tbLose n 5 else s)

end Sys2Proof.Machine
end

