-- ==== Sys2Proof/Machine/LswOps.lean ====
section
/-!
DEFINITION. The operations of the load-switch banks that other blocks use too: switching, faults, class actions,
CEN's writes, Carillon's edges, the wire heat (spec/09_load_switch_banks.md).
-/
namespace Sys2Proof.Machine

/-- Table 0.6: the bank of a channel, 0 = A and 1 = B. -/
def lsBank (n : Nat) : Nat := if n < 20 then 0 else 1

/-- Table 1.2: the domain of a bank. -/
def lsBankDom (b : Nat) : Nat := if b = 0 then 11 else 12

/-- Table 9.1: the class current I_C of a channel, mA. -/
def lsIc (n : Nat) : Nat := if n < 8 then 25000 else if n < 32 then 10000 else 4000

/-- Table 9.1: the short threshold ISC of a channel, 10 mA. -/
def lsIsc (n : Nat) : Nat := if n < 8 then 10000 else if n < 32 then 4000 else 1600

/-- Table 9.1: the window limit maximum ILIMMAX of a channel, mA. -/
def lsIlimMax (n : Nat) : Nat := if n < 8 then 90000 else if n < 32 then 36000 else 14000

/-- Table 9.2: the wire current of a WIRE code, mA. -/
def lsWireCurrent (w : Nat) : Nat := [4000, 6000, 8000, 10000, 16000, 20000, 25000].getD w 0

/-- R245: the effective rated current I_N of a channel with a WIRE code, mA. -/
def lsRated (n w : Nat) : Nat := min (lsWireCurrent w) (lsIc n)

/-- R245: the trip constant K = 15 s × I_N², in mA² × 10 µs. -/
def lsTripK (n w : Nat) : Nat := 1500000 * (lsRated n w) ^ 2

def State.ls (s : State) (n : Nat) : LsChan := tabGet {} s.lsw.ch n

def State.setLs (n : Nat) (c : LsChan) (s : State) : State := { s with lsw := { s.lsw with ch := tabSet {} s.lsw.ch n c } }

/-- A channel's bank domain is on. -/
def State.lsOn (s : State) (n : Nat) : Bool := decide (n < 48) && s.domOn (lsBankDom (lsBank n))

/-- Table 9.4: the state of a channel: 0 OFF, 1 INRUSH, 2 ON, 3 FAULT. -/
def State.lsState (s : State) (n : Nat) : Nat := s.rd (LSW_CHSTAT_STATE n)

/-- A channel is in INRUSH or ON. -/
def State.lsIsOn (s : State) (n : Nat) : Bool := s.lsState n = 1 || s.lsState n = 2

/-! ## The wire heat (R246) -/

/-- R246: the heat after `k` samplings at a constant current, in mA² × 10 µs. -/
def lsHeatStep (e k : Nat) (i rated : Nat) : Nat :=
  if rated ^ 2 ≤ i ^ 2 then e + k * (i ^ 2 - rated ^ 2) else e - k * (rated ^ 2 - i ^ 2)

/-- R246: the channel's heat formed up to now, at the current `i` (mA) since the last sampling; I2T shows E / K. -/
def State.lsHeat (n i : Nat) (s : State) : State :=
  let c := s.ls n
  let t := s.now / 10000
  let w := s.rd (LSW_CHCFG_WIRE n)
  let e := lsHeatStep c.heat (t - c.heatAt) i (lsRated n w)
  let k := lsTripK n w
  (s.setLs n { c with heat := e, heatAt := t }).wr (LSW_CHTH_I2T n) (if k = 0 then 255 else min (e * 100 / k) 255)

/-! ## Order within a tick (R243) -/

/-- R243: a happening of rank `r` on a channel may act in this tick: a class action or a fault overrides every command
of the tick, and of the commands the last of the order stands. -/
def State.lsMay (s : State) (n r : Nat) : Bool :=
  let c := s.ls n
  c.tickAt != s.now + 1 || (decide (3 ≤ c.tickRank) && decide (c.tickRank ≤ r))

/-- R243: a happening of rank `r` has acted on a channel in this tick. -/
def State.lsTook (n r : Nat) (s : State) : State := s.setLs n { s.ls n with tickAt := s.now + 1, tickRank := r }

def State.lsBack (s : State) (n : Nat) : LsBack := tabGet {} s.lsw.back n

/-- A command is about to act: the channel as it stands before the first of a tick is what a class action and fault detection, which
come before them, find (R243). -/
def State.lsNote (n : Nat) (s : State) : State :=
  s.when ((s.lsBack n).at_ != s.now + 1) (fun s =>
    let b : LsBack := ⟨s.now + 1, s.lsState n, s.rd (LSW_CHSTAT_CAUSE n), s.rd (LSW_CHDUTY_DUTY n), s.ls n⟩
    { s with lsw := { s.lsw with back := tabSet {} s.lsw.back n b } })

/-- A command of the tick has acted, and none has been overridden yet. -/
def State.lsNoted (s : State) (n : Nat) : Bool := (s.lsBack n).at_ = s.now + 1

/-- The state that fault detection finds, and whether the channel is on there. -/
def State.lsSeen (s : State) (n : Nat) : Nat := if s.lsNoted n then (s.lsBack n).st else s.lsState n
def State.lsSeenOn (s : State) (n : Nat) : Bool := s.lsSeen n = 1 || s.lsSeen n = 2

/-- R243: the commands of the tick are overridden: what they set is undone. The heat, which no command sets, stands. -/
def State.lsUndo (n : Nat) (s : State) : State :=
  let b := s.lsBack n
  let c := s.ls n
  let s := s.when (s.lsNoted n && s.lsState n != 3) (fun s =>
    ((((s.wr (LSW_CHSTAT_STATE n) b.st).wr (LSW_CHSTAT_ON n) (b2n (b.st = 1 || b.st = 2))).wr (LSW_CHSTAT_CAUSE n) b.cause).wr
      (LSW_CHDUTY_DUTY n) b.duty).setLs n { b.chan with heat := c.heat, heatAt := c.heatAt })
  { s with lsw := { s.lsw with back := tabSet {} s.lsw.back n {} } }

/-- A party commands the channel again (R260). -/
def State.lsFound (n : Nat) (s : State) : State :=
  s.when (bit s.lsw.lost n) (fun s => { s with lsw := { s.lsw with lost := clrBit s.lsw.lost n } })

/-! ## PWM (R244) -/

/-- R244: the PWM period of a PWMF code, ns. -/
def lsPeriod (f : Nat) : Nat := [10000000, 5000000, 2000000, 1000000].getD f 10000000

/-- R244: the on-time of a period: below 20 µs it is output as 0, and an off-time below 20 µs as full on. -/
def lsOnTime (period duty : Nat) : Nat :=
  let o := period * duty / 10000
  if o < 20000 then 0 else if period - o < 20000 then period else o

/-- A period starts: a waiting duty is taken, and the output goes on for the on-time (R244). -/
def State.lsPeriodStart (n : Nat) (s : State) : State :=
  let c := s.ls n
  let s := match c.dutyNext with
    | some d => s.wr (LSW_CHDUTY_DUTY n) d
    | none => s
  let p := lsPeriod (s.rd (LSW_CHCFG_PWMF n))
  let o := lsOnTime p (s.rd (LSW_CHDUTY_DUTY n))
  s.setLs n { c with dutyNext := none, perAt := s.now + 1, out := o != 0, pwmNext := s.now + p, pwmOff := if o < p then s.now + o else 0 }

/-- R250: TWIN has ended: ON, and the open-load check resumes OLBLANK later. -/
def State.lsWindowEnd (n : Nat) (s : State) : State :=
  (s.wr (LSW_CHSTAT_STATE n) 2).setLs n { s.ls n with olFrom := s.now + (s.ls n).olblank * 1000000 }

/-- R244: the on-time has ended. -/
def State.lsOnTimeEnd (n : Nat) (s : State) : State := s.setLs n { s.ls n with out := false, pwmOff := 0 }

/-- What has come due on a channel by its timers: the window's end, the on-time's end, a period's start. -/
def State.lsWindowDue (s : State) (n : Nat) : Bool := s.lsState n = 1 && decide ((s.ls n).winEnd ≤ s.now)
def State.lsOffDue (s : State) (n : Nat) : Bool :=
  s.lsIsOn n && s.rd (LSW_CHCFG_MODE n) = 2 && (s.ls n).pwmOff != 0 && decide ((s.ls n).pwmOff ≤ s.now)
def State.lsPeriodDue (s : State) (n : Nat) : Bool :=
  s.lsIsOn n && s.rd (LSW_CHCFG_MODE n) = 2 && decide ((s.ls n).pwmNext ≤ s.now)

/-- R243: the window's end and the PWM edges of the tick, which come after everything else, on a channel whose commands of the tick a
class action has undone. -/
def State.lsTimed (n : Nat) (s : State) : State :=
  let s := s.when (s.lsWindowDue n) (State.lsWindowEnd n)
  let s := s.when (s.lsOffDue n) (State.lsOnTimeEnd n)
  s.when (s.lsPeriodDue n) (State.lsPeriodStart n)

/-! ## Switching (R250, R259) -/

/-- R250: a channel changes from OFF to on: it takes its profile's values and enters INRUSH for TWIN, or ON at once
with TWIN = 0. In MODE 2 the first period starts (R244). A PROF that waits takes effect (R263). -/
def State.lsTurnOn (n : Nat) (s : State) : State :=
  let s := s.takeFlds (.lsChan n) (fun f => f = LSW_CHCFG_PROF n)
  let p := s.rd (LSW_CHCFG_PROF n)
  let twin := s.rd (LSW_PTIM_TWIN p)
  let c := { s.ls n with
    winEnd := s.now + twin * 1000000, winFrom := s.now, olblank := s.rd (LSW_PTIM_OLBLANK p), ilim := s.rd (LSW_PLIM_ILIM p),
    tsc := s.rd (LSW_PLIM_TSC p), slew := s.rd (LSW_PLIM_SLEW p), prof := p, out := true,
    olFrom := s.now + (twin + s.rd (LSW_PTIM_OLBLANK p)) * 1000000 }
  ((((s.setLs n c).wr (LSW_CHSTAT_STATE n) (if twin = 0 then 2 else 1)).wr (LSW_CHSTAT_ON n) 1).wr
    (LSW_CHSTAT_CAUSE n) 0).when (s.rd (LSW_CHCFG_MODE n) = 2) (State.lsPeriodStart n)

/-- A channel goes OFF. -/
def State.lsTurnOff (n : Nat) (s : State) : State :=
  let d := match (s.ls n).dutyNext with
    | some d => s.wr (LSW_CHDUTY_DUTY n) d
    | none => s
  ((d.wr (LSW_CHSTAT_STATE n) 0).wr (LSW_CHSTAT_ON n) 0).setLs n
    { s.ls n with winEnd := 0, out := false, pwmNext := 0, pwmOff := 0, dutyNext := none }

/-- R250: the current limit in an inrush window, mA: min(ILIM × I_N, ILIMMAX), with the ILIM in effect at its start, in halves. -/
def State.lsLimit (s : State) (n : Nat) : Nat := min ((s.ls n).ilim * lsRated n (s.rd (LSW_CHCFG_WIRE n)) / 2) (lsIlimMax n)

/-- R243 rank 2, R259: a channel enters FAULT with a cause, which is reported to Tocsin (R23), and of a claimed channel to CEN in the
same cycle. The commands of the tick are overridden. A channel already in FAULT keeps its cause. -/
def State.lsFault (n cause : Nat) (s : State) : State :=
  let s := s.lsUndo n
  if s.lsState n = 3 then s.lsTook n 2
  else
    let t := ((((s.lsTurnOff n).wr (LSW_CHSTAT_STATE n) 3).wr (LSW_CHSTAT_CAUSE n) cause).lsTook n 2).when
      (decide (1 ≤ cause) && decide (cause ≤ 3)) (State.inc (LSW_CHCNT_TRIPCNT n))
    (t.when (t.on (LSW_CHSTAT_CLAIM n)) (State.signal (.actFault true n cause))).toTocsin

/-- R241, R242, R259: a command is ignored: it is counted, IGN is set, EV 0x0B06 is emitted at most once per second
(source 1 Carillon, 2 host, 3 CEN). -/
def State.lsIgnore (n src : Nat) (s : State) : State :=
  ((s.inc (LSW_CHCNT_IGNCNT n)).setFlag (LSW_CHFLAG_IGN n)).emitSec 0x0B06 n (fun c => [n, src, c])

/-- An ON that has been accepted: it acts on an OFF channel whose MODE is not 0, and has no effect otherwise. -/
def State.lsCmdOn (n rank : Nat) (s : State) : State :=
  if !s.lsMay n rank then s
  else
    let s := (s.lsNote n).lsFound n
    if s.lsState n = 0 && s.rd (LSW_CHCFG_MODE n) != 0 then (s.lsTurnOn n).lsTook n rank
    else s.lsTook n rank

/-- An OFF that has been accepted: it acts on a channel in INRUSH or ON. -/
def State.lsCmdOff (n rank : Nat) (s : State) : State :=
  if !s.lsMay n rank then s
  else
    let s := (s.lsNote n).lsFound n
    if s.lsIsOn n then (s.lsTurnOff n).lsTook n rank
    else s.lsTook n rank

/-- R244: a change of DUTY takes effect at the next period start of a channel that is on, one of the same tick among them, which comes
after every command (R243), and at once otherwise. -/
def State.lsDutyTo (n d : Nat) (s : State) : State :=
  if s.lsIsOn n && s.rd (LSW_CHCFG_MODE n) = 2 then
    (s.setLs n { s.ls n with dutyNext := some d }).when ((s.ls n).perAt = s.now + 1) (State.lsPeriodStart n)
  else s.wr (LSW_CHDUTY_DUTY n) d

/-- A duty that has been accepted. -/
def State.lsSetDuty (n d : Nat) (s : State) : State := ((s.lsNote n).lsFound n).lsDutyTo n d

/-- R241: host commands other than CLR are ignored on a claimed channel and on a held one (R384). -/
def State.lsHostBarred (s : State) (n : Nat) : Bool := s.on (LSW_CHSTAT_CLAIM n) || s.lsHeld n

/-- R260, R266, R384, R385: LATCH: a channel is held by Tocsin, or by its latch alone: LSW is fenced, Tocsin is out, or no party that
may command it is there: CEN for a claimed channel, the host and Carillon for another one; a channel that was claimed when CEN
went has none until another party commands it (DEDUCED, assumption log, entry 90). -/
def State.lsLatched (s : State) (n : Nat) : Bool :=
  s.lsHeld n || s.isFenced 0x0B || !s.domOn 2 || bit s.lsw.lost n ||
    (if s.on (LSW_CHSTAT_CLAIM n) then !s.blockOn 0x04 || s.isFenced 0x04 else !s.domOn 3 && (!s.domOn 4 || s.isFenced 0x02))

/-- R242: at the commit of a load-switch edge action LSW refuses it. -/
def State.lsRefuses (s : State) (n : Nat) : Bool :=
  !s.lsOn n || s.isFenced 0x0B || s.on (LSW_CHSTAT_CLAIM n) || s.rd (LSW_CHCFG_MODE n) = 0 || s.lsState n = 3

/-- R72, R266, R384: at its firing a load-switch edge action is blocked: bank off, LSW fenced, or channel held. -/
def State.lsBlocks (s : State) (n : Nat) : Bool := !s.lsOn n || s.isFenced 0x0B || s.lsHeld n

/-- R242: a load-switch edge action fires: ON with `on`, OFF without; ignored and counted in FAULT, and on a channel that has been
claimed since the commit (R241). -/
def State.lsEdge (n : Nat) (on : Bool) (s : State) : State :=
  if s.lsState n = 3 || s.lsSeen n = 3 || s.on (LSW_CHSTAT_CLAIM n) then s.lsIgnore n 1
  else if on then s.lsCmdOn n 3 else s.lsCmdOff n 3

/-- R241: an on/off write by CEN, honoured only in MODE 1; otherwise ignored, counted, and reported as NOTON. Under a fence of LSW
(R266), and with its bank off (R265), it does not reach the channel. -/
def State.lsCenOnOff (n : Nat) (on : Bool) (s : State) : State :=
  if s.isFenced 0x0B || !s.lsOn n then s
  else if s.rd (LSW_CHCFG_MODE n) != 1 then (s.lsIgnore n 3).signal (.actFault true n 9)
  else if s.lsHeld n then s
  else if on then s.lsCmdOn n 4 else s.lsCmdOff n 4

/-- R241: a duty write by CEN, honoured only in MODE 2; a duty of 0 turns the channel off. Under a fence of LSW (R266), and with its
bank off (R265), it does not reach the channel. -/
def State.lsCenDuty (n d : Nat) (s : State) : State :=
  if s.isFenced 0x0B || !s.lsOn n then s
  else if s.rd (LSW_CHCFG_MODE n) != 2 then (s.lsIgnore n 3).signal (.actFault true n 9)
  else if s.lsHeld n then s
  else if !s.lsMay n 4 then s
  else if d = 0 then (s.lsSetDuty n 0).lsCmdOff n 4
  else (s.lsSetDuty n d).lsCmdOn n 4

/-- R261: a class action of class `cls` (0 OFF, 1 HOLD, 2 DEFINED) on a channel, which overrides the commands of the tick (R243). A
channel in FAULT stays off. -/
def State.lsClassAction (n cls : Nat) (s : State) : State :=
  if !s.lsOn n then s
  else
    let s := s.lsUndo n
    let t :=
      if s.lsState n = 3 then s
      else if cls = 0 then (if s.lsIsOn n then s.lsTurnOff n else s)
      else if cls = 1 then s
      else
        let u := s.when (s.rd (LSW_CHCFG_MODE n) = 2) (State.lsDutyTo n (s.rd (LSW_CHSAFE_DEFDUTY n)))
        if s.on (LSW_CHSAFE_DEFST n) then
          (if s.lsState n = 0 && s.rd (LSW_CHCFG_MODE n) != 0 then u.lsTurnOn n else u)
        else if s.lsIsOn n then u.lsTurnOff n else u
    ((((t.setFlag (LSW_CHFLAG_CLASS n)).setFlag LSW_INTSTAT_CLASS).lsTook n 1).emit 0x0B29 [n, cls, t.lsState n]).lsTimed n

/-- How many channels are in INRUSH or ON. -/
def State.lsCountOn (s : State) : Nat := ((List.range 48).filter (fun n => s.lsIsOn n)).length

/-- How many channels are in FAULT. -/
def State.lsCountFault (s : State) : Nat := ((List.range 48).filter (fun n => s.lsState n = 3)).length

/-- R266: a fence of LSW: claimed channels report FENCE to CEN, and the channels stay held by their latches. -/
def State.lswFence (s : State) : State :=
  (((List.range 48).foldl (fun t n => t.when (t.on (LSW_CHSTAT_CLAIM n)) (State.signal (.actFault true n 10))) s).setFlag
    LSW_INTSTAT_FENCE).emit 0x0B05 [s.lsCountOn]

end Sys2Proof.Machine
end

