-- ==== Sys2Proof/Machine/SolOps.lean ====
section
/-!
DEFINITION. The operations of the solenoid drive that other blocks use too: the group calendar, peaks, switching off,
faults, CEN's writes, Carillon's edges, the boost converter's states (spec/08_solenoid_and_valve_drive.md).
-/
namespace Sys2Proof.Machine

def State.sv (s : State) (n : Nat) : SvChan := tabGet {} s.sol.ch n

def State.setSv (n : Nat) (c : SvChan) (s : State) : State := { s with sol := { s.sol with ch := tabSet {} s.sol.ch n c } }

/-- Table 8.4: the state of a channel: 0 OFF, 1 WAIT, 2 PEAK, 3 HOLD, 4 REG, 5 DECAY, 6 FAULT, 7 SLAVE. -/
def State.svState (s : State) (n : Nat) : Nat := s.rd (SOL_CHSTAT_STATE n)

/-- Table 8.3: the mode of a channel: 0 off, 1 PH, 2 PROP, 3 PWMN. -/
def State.svMode (s : State) (n : Nat) : Nat := s.rd (SOL_CHCFG_MODE n)

/-- R220: a channel is the slave of a pair. -/
def State.svSlave (s : State) (n : Nat) : Bool := n % 2 = 1 && s.on (SOL_CHCFG_PAIR (n - 1))

/-- R220: a channel is the master of a pair. -/
def State.svPaired (s : State) (n : Nat) : Bool := n % 2 = 0 && s.on (SOL_CHCFG_PAIR n)

/-- The channels of a group (R211). -/
def svOfGroup (g : Nat) : List Nat := [4 * g, 4 * g + 1, 4 * g + 2, 4 * g + 3]

/-! ## Order within a tick (R225) -/

/-- R225: a happening of rank `r` (1 fault, 2 Carillon, 3 CEN, 4 host, 5 nozzle cycle) may act in this tick. -/
def State.svMay (s : State) (n r : Nat) : Bool :=
  let c := s.sv n
  c.tickAt != s.now + 1 || (decide (2 ≤ c.tickRank) && decide (c.tickRank ≤ r))

def State.svTook (n r : Nat) (s : State) : State := s.setSv n { s.sv n with tickAt := s.now + 1, tickRank := r }

/-- A command is about to act: the state before the first of a tick is what fault detection sees, which comes before them (R225). -/
def State.svNote (n : Nat) (s : State) : State :=
  s.when ((s.sv n).cmdAt != s.now + 1) (fun s => s.setSv n { s.sv n with cmdAt := s.now + 1, cmdSt := s.svState n })

/-- The state that fault detection sees. -/
def State.svSeen (s : State) (n : Nat) : Nat := if (s.sv n).cmdAt = s.now + 1 then (s.sv n).cmdSt else s.svState n

/-! ## The calendar of a group (R226–R228) -/

def State.cal (s : State) (g : Nat) : List PeakWin := tabGet [] s.sol.cal g

def State.setCal (g : Nat) (l : List PeakWin) (s : State) : State := { s with sol := { s.sol with cal := tabSet [] s.sol.cal g l } }

/-- R226: a window [a, a + l) overlaps no booked window. -/
def calFree (ws : List PeakWin) (a l : Nat) : Bool := ws.all (fun w => decide (a + l ≤ w.start) || decide (w.stop ≤ a))

/-- R226: the earliest start from `r` on at which a window of length `l` overlaps no booked window. -/
def calFirst (ws : List PeakWin) (r l : Nat) : Nat :=
  let cand := (r :: (ws.map PeakWin.stop).filter (fun e => decide (r ≤ e))).filter (fun a => calFree ws a l)
  cand.foldl min (cand.headD r)

/-- R226: PKMAX, the largest TPEAK in effect among the group's channels in PH or PWMN, in µs. -/
def State.pkmax (s : State) (g : Nat) : Nat :=
  (svOfGroup g).foldl (fun m n => if s.svMode n = 1 || s.svMode n = 3 then max m (s.rd (SOL_CHTIM_TPEAK n)) else m) 0

/-- The length of a peak that is booked now, ns: the TPEAK that a commit has given the channel, which applies at the peak's start. -/
def State.peakLen (s : State) (n : Nat) : Nat := s.toApply (.solChan n) (SOL_CHTIM_TPEAK n) * 1000

/-- R226: what a peak request that would be asked now would get: a start, or none where it is refused. -/
def State.peakSlot (s : State) (n r : Nat) : Option Nat :=
  let a := calFirst (s.cal (n / 4)) r (s.peakLen n)
  if a - r ≤ s.pkmax (n / 4) * 1000 then some a else none

/-- R228: a delayed peak: EV 0x0A04 at most once per second per group, with the count and the largest delay. -/
def State.serialised (g dly : Nat) (s : State) : State :=
  let m := max (tabGet 0 s.sol.serMax g) dly
  let t := ({ s with sol := { s.sol with serMax := tabSet 0 s.sol.serMax g m } }).emitSec 0x0A04 g (fun c => [g, c, m])
  if (tabGet (0, 0) t.rate (0x0A04 * 0x10000 + g)).2 = 0 then { t with sol := { t.sol with serMax := tabSet 0 t.sol.serMax g 0 } }
  else t

/-- R226: a peak request (those that reach SOL in one tick come in channel order, of which Carillon's, booked in its round, come first;
DEDUCED, assumption log, entry 89) of channel `n` with requested start `r`, from a source (1 Carillon, 2 host, 3 CEN, 4 nozzle
cycle) and for an owner: it is booked, delayed, or refused. -/
def State.bookPeak (n r src owner : Nat) (s : State) : Option Nat × State :=
  let g := n / 4
  match s.peakSlot n r with
  | some a =>
    let t := s.setCal g (s.cal g ++ [⟨a, a + s.peakLen n, n, owner⟩])
    if a = r then (some a, t.wr (SOL_CHDLY_DLY n) 0)
    else (some a, ((((t.setFlag (SOL_CHFLAG_SERIAL n)).setFlag SOL_INTSTAT_SERIAL).wr (SOL_CHDLY_DLY n)
      ((a - r) / 1000)).inc (SOL_GCNT_SERCNT g)).serialised g ((a - r) / 1000))
  | none =>
    (none, (((s.setFlag (SOL_CHFLAG_REFUSED n)).setFlag SOL_INTSTAT_REFUSED).inc (SOL_GCNT_REFCNT g)).emit 0x0A05 [n, src])

/-- The windows of a channel for one owner released. -/
def State.releaseWin (n owner : Nat) (s : State) : State :=
  s.setCal (n / 4) ((s.cal (n / 4)).filter (fun w => !(w.chan = n && w.owner = owner)))

/-- Every window of a channel released, those booked by Carillon too. -/
def State.releaseAll (n : Nat) (s : State) : State :=
  s.setCal (n / 4) ((s.cal (n / 4)).filter (fun w => w.chan != n))

/-! ## The group switch (R211, R212) -/

/-- R212: GON, RAIL and PKCH of a group follow its channels: the switch is on while a channel conducts, and the rail is
boost while one of them is in PEAK that started with the boost READY (R214). -/
def State.railOf (g : Nat) (s : State) : State :=
  let chans := svOfGroup g
  let conducts := chans.any (fun n => s.svState n = 2 || s.svState n = 3 || s.svState n = 4)
  let peaking := chans.filter (fun n => s.svState n = 2)
  let shut := s.on (SOL_GSTAT_TOPEN g) || s.on (SOL_GSTAT_GFLT g)
  let boost := peaking.any (fun n => (s.sv n).boost)
  ((s.wr (SOL_GSTAT_GON g) (b2n (conducts && !shut))).wr (SOL_GSTAT_RAIL g) (b2n (boost && !shut))).wr
    (SOL_GSTAT_PKCH g) (peaking.headD 0x1F)

/-! ## Peaks and switching off (R217, R221) -/

/-- The quotient of two numbers to the nearest 5. -/
def near5 (x d : Nat) : Nat := (2 * x + 5 * d) / (10 * d) * 5

/-- R219: the offset of the cycle of SV(4g + j) within P, (6j + g) × P / 24, to the nearest 5 ns. -/
def State.nozzleOffset (s : State) (n : Nat) : Nat :=
  near5 ((6 * (n % 4) + n / 4) * 1000000000) (24 * max 1 (s.rd SOL_CTL_NFREQ))

/-- R219: the start of cycle `k` of a channel. Where P is no multiple of 5 ns, the cycle starts are those of the exact period to the
nearest 5 ns (assumption log, entry 12). -/
def State.cycleStart (s : State) (n k : Nat) : Nat := s.nozzleOffset n + near5 (k * 1000000000) (max 1 (s.rd SOL_CTL_NFREQ))

/-- The number of whole periods that have passed at `t`, but for the rounding of a cycle start. -/
def State.cycleNo (s : State) (n t : Nat) : Nat := (t - s.nozzleOffset n) * max 1 (s.rd SOL_CTL_NFREQ) / 1000000000

/-- R219: a module time is a cycle start of a channel. -/
def State.isCycleStart (s : State) (n t : Nat) : Bool :=
  s.cycleStart n (s.cycleNo n t) = t || s.cycleStart n (s.cycleNo n t + 1) = t

/-- The first cycle start of a channel from `t` on. -/
def State.cycleFrom (s : State) (n t : Nat) : Nat :=
  let k := s.cycleNo n t
  if t ≤ s.cycleStart n k then s.cycleStart n k
  else if t ≤ s.cycleStart n (k + 1) then s.cycleStart n (k + 1) else s.cycleStart n (k + 2)

/-- R219: the duty in effect: a write of DUTY takes effect at the next cycle start. -/
def State.svDuty (s : State) (n : Nat) : Nat :=
  let c := s.sv n
  if c.dutyAt = 0 || decide (s.cycleFrom n (c.dutyAt - 1) ≤ s.now) then s.rd (SOL_CHDUTY_DUTY n) else c.dutyUse

/-- A write of DUTY, cut at 1,000. -/
def State.svSetDuty (n d : Nat) (s : State) : State :=
  (s.setSv n { s.sv n with dutyUse := s.svDuty n, dutyAt := s.now + 1 }).wr (SOL_CHDUTY_DUTY n) (min d 1000)

/-- R219: the on-time of a duty, never less than TPEAK + 100 µs; and whether it had to be raised. -/
def State.nozzleOnTime (s : State) (n duty : Nat) : Nat × Bool :=
  let o := 1000000 * duty / max 1 (s.rd SOL_CTL_NFREQ)
  let m := (s.rd (SOL_CHTIM_TPEAK n) + 100) * 1000
  if o < m then (m, true) else (o, false)

/-- R219: a PWMN on-period begins at `a`. -/
def State.nozzleBegin (n a : Nat) (s : State) : State :=
  let d := s.svDuty n
  let o := s.nozzleOnTime n d
  (s.setSv n { s.sv n with period := true, endless := d = 1000, onEnd := a + o.1, nozzle := 0 }).when o.2
    (State.setFlag (SOL_CHFLAG_DUTYLIM n))

/-- R217, R214: a booked peak starts: the channel enters PEAK and the rail switches to boost; with the boost not READY
it runs from OUTB, sets BNR and emits EV 0x0A02 at most once per second. Values of the channel's group that wait take effect
(R232); a peak never outlasts its booked window (R226). -/
def State.peakStart (n : Nat) (s : State) : State :=
  let s := s.takeFlds (.solChan n) (fun f => f != SOL_CHCFG_MODE n && f != SOL_CHCFG_PAIR n)
  let c := s.sv n
  let till := s.now + s.rd (SOL_CHTIM_TPEAK n) * 1000
  let win := (s.cal (n / 4)).find? (fun w => w.chan = n && w.owner = 0)
  let t := s.setSv n { c with peakAt := s.now, peakEnd := (win.map (fun w => min till w.stop)).getD till,
                              peakTo := s.now + s.rd (SOL_CHTIM_TPKTO n) * 1000, boost := s.rd SOL_STAT_BSTATE = 3 }
  let t := (t.wr (SOL_CHSTAT_STATE n) 2).when (s.svMode n = 3) (State.nozzleBegin n s.now)
  let t := t.when (s.rd SOL_STAT_BSTATE != 3) (fun t =>
    (((t.setFlag (SOL_CHFLAG_BNR n)).setFlag SOL_INTSTAT_BNR).emitSec 0x0A02 0 (fun c => [c])).toTocsin)
  t.railOf (n / 4)

/-- A booked peak awaited: the channel waits for its start, or peaks at once where the start has come. -/
def State.svAwait (n a : Nat) (s : State) : State :=
  let t := s.wr (SOL_CHSTAT_ON n) 1
  if a ≤ s.now then t.peakStart n
  else ((t.setSv n { t.sv n with book := a }).wr (SOL_CHSTAT_STATE n) 1).railOf (n / 4)

/-- R221, R227: a channel is switched off: from WAIT its window is released and it is OFF; a channel that conducts goes
through DECAY. -/
def State.svOff (n : Nat) (s : State) : State :=
  let s := s.svNote n
  let st := s.svState n
  if st = 0 || st = 6 || st = 7 || st = 5 then s.wr (SOL_CHSTAT_ON n) 0
  else
    let t := (s.releaseWin n 0).wr (SOL_CHSTAT_ON n) 0
    let t := t.setSv n { t.sv n with book := 0, period := false, endless := false, onEnd := 0, nozzle := 0 }
    (t.wr (SOL_CHSTAT_STATE n) (if st = 1 then 0 else 5)).railOf (n / 4)

/-- What waits of a channel in this tick is gone. -/
def State.svDrop (n : Nat) (s : State) : State :=
  { s with sol := { s.sol with later := s.sol.later.filter (fun x => x.chan != n) } }

/-- R229: a channel enters FAULT with a cause; it is reported to Tocsin (R23), of a claimed channel to CEN too, in the same cycle. -/
def State.svFault (n cause : Nat) (s : State) : State :=
  if s.svState n = 6 || s.svState n = 7 then s
  else
    let t := ((((s.svDrop n).releaseWin n 0).wr (SOL_CHSTAT_ON n) 0).wr (SOL_CHSTAT_STATE n) 6).wr (SOL_CHSTAT_CAUSE n) cause
    let t := (t.setSv n { t.sv n with book := 0, period := false, endless := false, onEnd := 0, nozzle := 0 }).svTook n 1
    ((t.when (t.on (SOL_CHSTAT_CLAIM n)) (State.signal (.actFault false n cause))).railOf (n / 4)).toTocsin

/-! ## Commands (R222–R224) -/

/-- R222, R230: a command is ignored: it is counted, and EV 0x0A0C is emitted at most once per second. -/
def State.svIgnore (n src : Nat) (s : State) : State :=
  (s.inc (SOL_CHDLY_IGNCNT n)).emitSec 0x0A0C n (fun c => [n, src, c])

/-- R222, R384, R220: host commands other than CLR are ignored on a claimed channel, on a held one, and on a slave. -/
def State.svHostBarred (s : State) (n : Nat) : Bool := s.on (SOL_CHSTAT_CLAIM n) || s.svHeld n || s.svSlave n

/-- A channel or its group is in FAULT (R229). -/
def State.svInFault (s : State) (n : Nat) : Bool := s.svState n = 6 || s.on (SOL_GSTAT_GFLT (n / 4))

/-- An ON that has been accepted by a PH or PWMN channel, with the requested start now: it is booked from `src`, and the
channel waits or peaks. The first component says whether it could be booked. -/
def State.svBookOn (n src : Nat) (s : State) : Bool × State :=
  let s := s.svNote n
  if s.svMode n = 3 && s.svDuty n = 0 then
    (true, ((s.wr (SOL_CHSTAT_ON n) 1).wr (SOL_CHSTAT_STATE n) 4).railOf (n / 4))
  else
    match s.bookPeak n s.now src 0 with
    | (some a, t) => (true, t.svAwait n a)
    | (none, t) => (false, t)

/-- R223: at the commit of a solenoid-edge action SOL refuses it, the peak apart. -/
def State.svRefuses (s : State) (n : Nat) : Bool :=
  !(decide (n < 24)) || !s.live 0x0A || s.on (SOL_CHSTAT_CLAIM n) || s.svSlave n || s.svMode n = 0 || s.svMode n = 2 || s.svInFault n

/-- R72, R236, R384: at its firing a solenoid-edge action is blocked. -/
def State.svBlocks (s : State) (n : Nat) : Bool := !s.live 0x0A || s.svHeld n

/-- An edge at its firing does not reach a channel that has been claimed, or has become a slave, since the commit (R220, R222). -/
def State.svEdgeBarred (s : State) (n : Nat) : Bool := s.on (SOL_CHSTAT_CLAIM n) || s.svSlave n

/-- R223: a solenoid-edge ON fires; its window, if any, was booked at its commit for `owner` (the slot plus 1). A PWMN channel with
DUTY = 0 keeps its coil off (R219), so its window is released; a channel whose MODE has become 0 or PROP since has no ON (R216, R218). -/
def State.svEdgeOn (n owner : Nat) (s : State) : State :=
  let win := (s.cal (n / 4)).find? (fun w => w.chan = n && w.owner = owner)
  if s.svInFault n || s.svEdgeBarred n then (s.releaseWin n owner).svIgnore n 1
  else if !s.svMay n 2 then s.releaseWin n owner
  else if s.on (SOL_CHSTAT_ON n) || s.svMode n = 0 || s.svMode n = 2 then (s.releaseWin n owner).svTook n 2
  else if s.svMode n = 3 && s.svDuty n = 0 then (((s.releaseWin n owner).svBookOn n 1).2).svTook n 2
  else
    match win with
    | some w =>
      let t := s.setCal (n / 4) ((s.cal (n / 4)).map (fun v => if v.chan = n && v.owner = owner then { v with owner := 0 } else v))
      ((t.svNote n).svAwait n w.start).svTook n 2
    | none => ((s.svBookOn n 1).2).svTook n 2

/-- R223: a solenoid-edge OFF fires; it does not apply in PROP (R218). -/
def State.svEdgeOff (n : Nat) (s : State) : State :=
  if s.svInFault n || s.svEdgeBarred n then s.svIgnore n 1
  else if !s.svMay n 2 then s
  else if s.svMode n = 2 then s.svTook n 2 else (s.svOff n).svTook n 2

/-! ## What waits for happenings of its tick (R225, R226) -/

/-- A Carillon firing of a channel is due (R225). -/
def State.svFires (s : State) (n : Nat) : Bool :=
  s.car.slots.any (fun e => e.2.st = 2 && e.2.desc.typ = 2 && e.2.desc.target = n && decide (e.2.fireAt ≤ s.now))

/-- An ON of a group's channels may commit in a prediction round. -/
def State.svMayBook (s : State) (g : Nat) : Bool :=
  s.car.slots.any (fun e => e.2.st = 1 && e.2.desc.typ = 2 && e.2.desc.target / 4 = g && bit e.2.desc.arg 0)

/-- A channel claimed by CEN, of the group of channel `n` and before it, may be switched on. -/
def State.svMayCen (s : State) (n : Nat) : Bool :=
  (List.range (n % 4)).any (fun j => s.on (SOL_CHSTAT_CLAIM (n / 4 * 4 + j)) && s.svMode (n / 4 * 4 + j) = 1)

/-- A command that stands in the queue comes before a command or request of the same tick on channel `n`: a Carillon firing of the
channel before a host command (R225); requests of lower channels of the group before a request (R226). -/
def State.svComes (s : State) (n kind : Nat) (i : Instr) : Bool :=
  let books := kind = 0 || kind = 3 || kind = 4
  let lower (m : Nat) : Bool := books && decide (m < n) && m / 4 = n / 4
  match i with
  | .eventFire _ => decide (kind < 3) && s.svFires n
  | .predictionRound => books && s.svMayBook (n / 4)
  | .solOn m => lower m
  | .nozzleCycleStart m => lower m
  | .registerWrite _ _ a _ _ => (List.range n).any (fun m => lower m && a = (SOL_CHCMD_CMD m).addr)
  | .interlockScan => books && s.svMayCen n
  | .evaluationOutput => books && s.svMayCen n
  | _ => false

/-- A command or request that comes after happenings which stand in the queue waits for them. -/
def State.svDefer (x : SvAsk) (f : State → State) (s : State) : State :=
  if s.pending.any (s.svComes x.chan x.kind) then { s with sol := { s.sol with later := s.sol.later ++ [x] } } else f s

/-- R224: a host ON. -/
def State.svHostOn (n : Nat) (s : State) : State :=
  if s.svHostBarred n || s.svInFault n then s.svIgnore n 2
  else if !s.svMay n 4 then s
  else if s.svMode n = 0 || s.svMode n = 2 || s.on (SOL_CHSTAT_ON n) then s.svTook n 4
  else (s.svBookOn n 2).2.svTook n 4

/-- R221, R227: a host OFF. -/
def State.svHostOff (n : Nat) (s : State) : State :=
  if s.svHostBarred n || s.svInFault n then s.svIgnore n 2
  else if !s.svMay n 4 then s
  else if s.svMode n = 2 then s.svTook n 4
  else ((s.svDrop n).svOff n).svTook n 4

/-- R230: OUTB has recovered from an undervoltage: CLR is accepted again. -/
def State.outbBack (s : State) : State := { s with sol := { s.sol with low := false } }

/-- R230: a host CLR. -/
def State.svHostClr (n : Nat) (cool : Bool) (s : State) : State :=
  if s.svState n = 6 then
    let c := s.rd (SOL_CHSTAT_CAUSE n)
    if !s.svMay n 4 then s
    else if s.on (SOL_GSTAT_GFLT (n / 4)) || ((c = 1 || c = 5) && !cool) || s.sol.low then s.svIgnore n 2
    else ((((s.wr (SOL_CHSTAT_STATE n) 0).wr (SOL_CHSTAT_CAUSE n) 0).wr (SOL_CHSTAT_IMEAS n) 0).svTook n 4)
  else s

/-- R222, R224: an ON by CEN. A refused peak is counted and reported as PKREF. -/
def State.svCenOn (n : Nat) (s : State) : State :=
  if s.svHeld n || s.svInFault n || !s.svMay n 3 then s
  else if s.on (SOL_CHSTAT_ON n) then s.svTook n 3
  else
    match s.svBookOn n 3 with
    | (true, t) => t.svTook n 3
    | (false, t) => (t.inc (SOL_CHDLY_IGNCNT n)).signal (.actFault false n 8)

/-- R219: 100 µs before a cycle start the peak of the next regular on-period is booked, or the period is skipped. -/
def State.svNozzleBook (n : Nat) (s : State) : State :=
  match s.bookPeak n (s.now + 100000) 4 0 with
  | (some a, t) => t.setSv n { t.sv n with nozzle := a + 1 }
  | (none, t) => t

/-- What waited is carried out. -/
def State.svRun (x : SvAsk) (s : State) : State :=
  match x.kind with
  | 0 => s.svHostOn x.chan
  | 1 => s.svHostOff x.chan
  | 2 => (s.when x.supply (fun s => (s.wr SOL_STAT_UV 0).outbBack)).svHostClr x.chan x.cool
  | 3 => s.svCenOn x.chan
  | _ => s.svNozzleBook x.chan

/-- What no longer has to wait is carried out, in channel order. -/
def State.svFlush (s : State) : State :=
  if s.sol.later.isEmpty then s
  else
    let l := sortBy (fun (x : SvAsk) => (x.chan : Int)) s.sol.later
    State.each l (fun x s => s.svDefer x (State.svRun x)) { s with sol := { s.sol with later := [] } }

/-- R222, R224: an on/off write by CEN (APATH 1), honoured only in PH; none reaches SOL while it is fenced. -/
def State.svCenOnOff (n : Nat) (on : Bool) (s : State) : State :=
  if !s.live 0x0A then s
  else if s.svMode n != 1 then s.svIgnore n 3
  else if on then s.svDefer { chan := n, kind := 3 } (State.svCenOn n)
  else if s.svHeld n || s.svInFault n || !s.svMay n 3 then s
  else ((s.svDrop n).svOff n).svTook n 3

/-- R218: the PROP setpoint: limited to the hold rating (3 A, a pair 6 A); REG above 0, off at 0. In another mode the register takes
the value, which counts once MODE becomes PROP. -/
def State.svSetpoint (n v : Nat) (s : State) : State :=
  let lim := if s.svPaired n then 6000 else 3000
  if s.svMode n != 2 then s.wr (SOL_CHSET_ISET n) v
  else
    let s := s.svNote n
    let t := if lim < v then ((s.wr (SOL_CHSET_ISET n) lim).setFlag (SOL_CHFLAG_ILIM n)).emitSec 0x0A0F n (fun _ => [n, v])
             else s.wr (SOL_CHSET_ISET n) v
    if t.rd (SOL_CHSET_ISET n) = 0 then (if t.svState n = 4 then t.svOff n else t)
    else if t.svState n = 0 || t.svState n = 5 || t.svState n = 4 then
      ((t.wr (SOL_CHSTAT_STATE n) 4).wr (SOL_CHSTAT_ON n) 1).railOf (n / 4)
    else t

/-- R222: a current write by CEN (APATH 2), honoured only in PROP; none reaches SOL while it is fenced. -/
def State.svCenCurrent (n v : Nat) (s : State) : State :=
  if !s.live 0x0A then s
  else if s.svMode n != 2 then s.svIgnore n 3
  else if s.svHeld n || s.svInFault n || !s.svMay n 3 then s
  else (s.svSetpoint n v).svTook n 3

/-! ## The boost converter (R213, R214) -/

/-- OUTPWR-B as last measured, 0.1 V. -/
def State.outB (s : State) : Nat := tabGet 0 s.lsw.volt 1 / 10

/-- R232: the setpoint on its way to a new VBST, by 0.1 V per 100 µs. -/
def State.boostRamp (s : State) : Nat :=
  let v := s.rd SOL_CTL_VBST
  let k := (s.now + 1 - s.sol.ramp.2) / 100000
  if s.sol.ramp.2 = 0 then v else if s.sol.ramp.1 ≤ v then min v (s.sol.ramp.1 + k) else max v (s.sol.ramp.1 - k)

/-- R213: the effective setpoint of the boost rail, 0.1 V. -/
def State.boostSet (s : State) : Nat := max s.boostRamp s.outB

/-- The converter stops: peaks in progress go on from OUTB (R213). It returns its lease; with `again` it waits for it anew, which it
requests. -/
def State.boostStop (st : Nat) (again : Bool) (s : State) : State :=
  let t := (s.wr SOL_STAT_BSTATE st).returnLease 4 0x0A
  let t := t.each (List.range 24) (fun n t => t.setSv n { t.sv n with boost := false })
  (t.each (List.range 6) State.railOf).when again (State.requestLease 4 0x0A)

/-- R214, R398: the converter enters FAULT; it stops and returns its lease, of which SOL gets none until the fault has been cleared. -/
def State.boostFault (cause : Nat) (s : State) : State :=
  ((((s.boostStop 5 false).barHolder 0x0A).setFlag SOL_INTSTAT_BFAULT).emit 0x0A03 [cause]).toTocsin

/-- A measurement of OUTPWR-A (0) or OUTPWR-B (1), 10 mV (R419): the supply of a bank, and for SOL. Two in a row above 9.0 V, 10 ms
apart, end what R230 says of an undervoltage of OUTB. -/
def State.supplyIs (b v : Nat) (s : State) : State :=
  let s := { s with lsw := { s.lsw with volt := tabPut s.lsw.volt b v } }
  let s := s.when (s.domOn (11 + b)) (State.wr (LSW_BSTAT_VBANK b) v)
  s.when (b = 1 && s.blockOn 0x0A) (fun s =>
    let s := (s.wr SOL_STAT_VOUTB (min (v / 10) 0xFFF)).when (decide (800 ≤ v)) (State.wr SOL_STAT_UV 0)
    let above := decide (900 < v)
    let s := s.when (above && s.sol.above) State.outbBack
    { s with sol := { s.sol with above := above } })

/-- R236: after the fence is lifted every channel is OFF; a converter that waits for its lease requests it. -/
def State.solLifted (s : State) : State :=
  let s := s.each ((List.range 24).filter (fun n => s.svState n != 7)) (fun n s =>
    ((s.wr (SOL_CHSTAT_STATE n) 0).wr (SOL_CHSTAT_CAUSE n) 0).wr (SOL_CHSTAT_IMEAS n) 0)
  s.when (s.rd SOL_STAT_BSTATE = 1) (State.requestLease 4 0x0A)

/-- R236: a fence of SOL. -/
def State.solFence (s : State) : State :=
  let on := ((List.range 24).filter (fun n => let st := s.svState n; decide (1 ≤ st) && decide (st ≤ 4))).length
  let t := (List.range 24).foldl (fun t n => ((t.svDrop n).releaseAll n).svOff n) s
  let t := (List.range 24).foldl (fun t n => t.when (t.on (SOL_CHSTAT_CLAIM n)) (State.signal (.actFault false n 7))) t
  let t := t.boostStop (if t.on SOL_CTL_BEN then 1 else 0) false
  (t.setFlag SOL_INTSTAT_FENCE).emit 0x0A0E [on]

/-- R234, R384: Tocsin places a channel in its safe state: it is switched off as in R221. -/
def State.svSafe (n : Nat) (s : State) : State :=
  if !s.blockOn 0x0A then s else ((s.svDrop n).svOff n).svTook n 1

/-- R234, R377: Tocsin opens a group switch: its channels go off as at an OFF command, and TOPEN is set. -/
def State.svOpenGroup (g : Nat) (s : State) : State :=
  ((((svOfGroup g).foldl (fun t n => (t.svDrop n).svOff n) s).wr (SOL_GSTAT_TOPEN g) 1)).railOf g

end Sys2Proof.Machine
end

