-- ==== Sys2Proof/Machine/CenOps.lean ====
section
/-!
DEFINITION. The operations of the control engine (spec/06_control_engine_and_function_channels.md): the evaluation of R149,
slot states, function channels, actuator paths, the dispatcher.
-/
namespace Sys2Proof.Machine

def State.cslot (s : State) (n : Nat) : CenSlot := tabGet {} s.cen.slots n
def State.setCslot (n : Nat) (x : CenSlot) (s : State) : State :=
  { s with cen := { s.cen with slots := tabSet {} s.cen.slots n x } }
def State.cchan (s : State) (k : Nat) : CenChan := tabGet {} s.cen.chans k
def State.setCchan (k : Nat) (x : CenChan) (s : State) : State :=
  { s with cen := { s.cen with chans := tabSet {} s.cen.chans k x } }

/-- The states of a slot (Table 6.3: 0 OFF, 1 MAN, 2 AUTO, 3 HOLD) and of a channel (Table 6.7: 0 IDLE, 1 ACTIVE, 2 HELD,
3 INHIBITED, 4 FAULT). -/
def State.cenSt (s : State) (n : Nat) : Nat := s.rd (CEN_LSTAT_STATE n)
def State.cenCh (s : State) (k : Nat) : Nat := s.rd (CEN_FSTAT_STATE k)

def cenChans : List Nat := List.range 48

/-- R164: a slot's channel as its LOOP, or as the inner slot of its LOOP; the channel whose path it drives. -/
def State.cenInner (s : State) (n : Nat) : Option Nat :=
  if s.on (CEN_LCTL_CASCEN n) then some (s.rd (CEN_LCTL_INNER n)) else none
def State.cenOuter (s : State) (n : Nat) : Option Nat := (List.range 96).find? (fun m => s.cenInner m = some n)
def State.cenLoopOf (s : State) (n : Nat) : Option Nat :=
  cenChans.find? (fun k => s.rd (CEN_FCFG_APATH k) != 0 && s.rd (CEN_FCFG_LOOP k) = n)
def State.cenChanOf (s : State) (n : Nat) : Option Nat :=
  match s.cenLoopOf n with
  | some k => some k
  | none => (s.cenOuter n).bind s.cenLoopOf
def State.cenDrives (s : State) (n : Nat) : Option Nat := if (s.cenInner n).isSome then none else s.cenChanOf n

/-- The slots bound by a channel: its LOOP, and the inner slot of that. -/
def State.cenBound (s : State) (k : Nat) : List Nat :=
  let n := s.rd (CEN_FCFG_LOOP k)
  if 96 ≤ n then [] else [n] ++ (match s.cenInner n with | some m => [m] | none => [])

/-- The outputs that a channel claims (R164): load switches (true) and solenoids (false). -/
def State.cenOuts (s : State) (k : Nat) : List (Bool × Nat) :=
  let a := s.rd (CEN_FCFG_OUTA k)
  let b := s.rd (CEN_FCFG_OUTB k)
  match s.rd (CEN_FCFG_APATH k) with
  | 1 => [(false, a)]
  | 2 => if b = 0x7F then [(false, a)] else [(false, a), (false, b)]
  | 3 => [(true, a)]
  | _ => []

/-- R164: the claims of SOL's and LSW's channels follow the committed bindings; a load switch that is claimed has CEN to command it. -/
def State.cenClaims (s : State) : State :=
  let outs := cenChans.flatMap s.cenOuts
  let s := s.each (List.range 24) (fun n => State.wr (SOL_CHSTAT_CLAIM n) (b2n (outs.contains (false, n))))
  let s := s.each (List.range 48) (fun n => State.wr (LSW_CHSTAT_CLAIM n) (b2n (outs.contains (true, n))))
  s.each ((List.range 48).filter (fun n => outs.contains (true, n))) State.lsFound

/-! ## 16.16 arithmetic (R149) -/

def sat32 (i : Int) : Int := satS 32 i
def mul16 (a b : Int) : Int := sat32 (a * b / 65536)

/-! ## Actuator paths (R166, R167, Table 6.5) -/

/-- R167: the data length of a DLC. -/
def canLen (dlc : Nat) : Nat := [0, 1, 2, 3, 4, 5, 6, 7, 8, 12, 16, 20, 24, 32, 48, 64].getD dlc 64

/-- R167: the bytes of a drive message's frame for an output. -/
def State.cenFrame (s : State) (d : Nat) (u : Int) : List Nat :=
  let w := 2 ^ s.rd (CEN_DMFMT_WIDTH d)
  let v := tc (8 * w) (satS (8 * w) (divRound (u * s.rdS (CEN_DMSCL_SCL d)) (2 ^ 32)))
  let le := leBytes w v
  let val := if s.on (CEN_DMFMT_BE d) then le.reverse else le
  let o := s.rd (CEN_DMFMT_BOFS d)
  (List.range (canLen (s.rd (CEN_DMFMT_DLC d)))).map (fun i =>
    if o ≤ i ∧ i < o + w then val.getD (i - o) 0 else s.rd (CEN_DMFMT_FILL d))

/-- R166: an output written to a channel's path; `force` writes an unchanged on/off command too. -/
def State.cenWrite (k : Nat) (u : Int) (force : Bool) (s : State) : State :=
  let a := s.rd (CEN_FCFG_OUTA k)
  let b := s.rd (CEN_FCFG_OUTB k)
  match s.rd (CEN_FCFG_APATH k) with
  | 1 =>
    let on := decide (32768 ≤ u)
    if !force && (s.cchan k).lastOn = some on then s
    else (s.setCchan k { s.cchan k with lastOn := some on }).svCenOnOff a on
  | 2 =>
    let ma := divRound u 65536
    let t := s.svCenCurrent a ma.toNat
    if b = 0x7F then t else t.svCenCurrent b (-ma).toNat
  | 3 =>
    if s.on (CEN_FCFG_PWM k) then s.lsCenDuty a (clampI 0 10000 (divRound u 65536)).toNat
    else s.lsCenOnOff a (decide (32768 ≤ u))
  | 4 => s.signal (.driveFrame a u)
  | _ => s

def State.cenSafeU (s : State) (k : Nat) : Int := s.rdS (CEN_FSAFE_SAFEU k)

/-- SAFEU written to a channel's path. -/
def State.cenSafe (k : Nat) (s : State) : State := s.cenWrite k (s.cenSafeU k) true

/-! ## Slot states (R162, R163) -/

/-- How strongly a HOLD cause stands against another (R162). -/
def cenRank : Nat → Nat
  | 1 => 0 | 2 => 1 | 3 => 2 | 4 => 2 | _ => 3

/-- A slot enters HOLD with a cause: EV 0x0402. In HOLD, a cause of the same or a higher rank takes the place of the old. A slot
in OFF stays there (Table 6.3). -/
def State.cenHold (n cause : Nat) (s : State) : State :=
  let x := s.cslot n
  if s.cenSt n = 0 then s
  else if s.cenSt n = 3 then
    if cenRank (s.rd (CEN_LSTAT_CAUSE n)) ≤ cenRank cause then s.wr (CEN_LSTAT_CAUSE n) cause else s
  else
    (((s.setCslot n { x with prev := s.cenSt n, gen := x.gen + 1 }).wr (CEN_LSTAT_STATE n) 3).wr (CEN_LSTAT_CAUSE n)
      cause).emit 0x0402 [n, cause]

/-- A slot enters OFF, MAN or AUTO, with first = 1 (R149). -/
def State.cenEnter (n st : Nat) (preset : Option Int) (s : State) : State :=
  let x := s.cslot n
  let s := (s.wr (CEN_LSTAT_STATE n) st).wr (CEN_LSTAT_CAUSE n) 0
  let s := s.setCslot n { x with first := true, preset := preset, seen := s.now, gen := if st = 0 then x.gen + 1 else x.gen }
  if st = 0 then { s with cen := { s.cen with pend := s.cen.pend.filter (·.slot != n) } } else s

/-- A slot leaves HOLD for the state it came from. A preset that no evaluation has taken yet stays for the first one (R169, Table 6.4). -/
def State.cenUnhold (n : Nat) (s : State) : State := s.cenEnter n (s.cslot n).prev (s.cslot n).preset

/-! ## Channels (R164–R171) -/

/-- A channel is armed: ACTIVE, HELD or INHIBITED. -/
def State.cenArmed (s : State) (k : Nat) : Bool := s.cenCh k = 1 || s.cenCh k = 2 || s.cenCh k = 3

def State.setCenCh (k st cause : Nat) (s : State) : State := (s.wr (CEN_FSTAT_STATE k) st).wr (CEN_FSTAT_CAUSE k) cause

/-- Tocsin holds a claimed output of a channel. -/
def State.cenTsvHeld (s : State) (k : Nat) : Bool :=
  (s.cenOuts k).any (fun o => if o.1 then s.lsHeld o.2 else s.svHeld o.2)

/-- Table 6.7: a channel enters FAULT with a cause; FAILACT, which reaches no output whose block is fenced (`safe` = false); its slots enter HOLD; Tocsin hears of it (R179). -/
def State.cenFault (k cause : Nat) (safe : Bool) (s : State) : State :=
  let s := (s.setCchan k { s.cchan k with arming := false }).setCenCh k 4 cause
  let s := (s.setFlag CEN_INTSTAT_FAULT).emit 0x0409 [k, cause]
  let s := s.when (safe && s.rd (CEN_FCFG_FAILACT k) = 1) (State.cenSafe k)
  (s.each (s.cenBound k) (fun n => State.cenHold n 4)).toTocsin

/-- R171: SOL or LSW reports a fault on an output: the channel that claims it enters FAULT with cause ACT. In FAULT for another cause it
takes that cause, and FAILACT, which its entry has carried out, is not repeated (DEDUCED, assumption log, entry 87). -/
def State.cenActFault (lsw : Bool) (ch code : Nat) (s : State) : State :=
  s.each cenChans (fun k s =>
    if !((s.cenOuts k).contains (lsw, ch) && s.live 0x04) then s
    else if s.cenArmed k || (s.cchan k).arming then s.cenFault k 3 (code != 7)
    else if s.cenCh k = 4 && s.rd (CEN_FSTAT_CAUSE k) != 3 then
      ((s.wr (CEN_FSTAT_CAUSE k) 3).setFlag CEN_INTSTAT_FAULT).emit 0x0409 [k, 3]
    else s)

/-- R165: the clamped target; TCLAMP, EV 0x0408. -/
def State.cenTarget (k : Nat) (s : State) : Int × State :=
  let t := s.rdS (CEN_FTGT_TARGET k)
  let c := clampI (s.rdS (CEN_FSPMIN_SPMIN k)) (s.rdS (CEN_FSPMAX_SPMAX k)) t
  (c, if c = t then s.wr (CEN_FSTAT_TCLAMP k) 0
      else (s.wr (CEN_FSTAT_TCLAMP k) 1).emitSec 0x0408 k (fun _ => [k, tc 32 t]))

/-- R165: SP moves toward the clamped target over `dt` ns; in HELD it stays. The parts of an LSB that a step does not show are kept
for the next (DEDUCED, assumption log, entry 87). -/
def State.cenMove (k dt : Nat) (s : State) : State :=
  if s.cenCh k = 2 then s
  else
    let r := s.cenTarget k
    let sp := s.rdS (CEN_FSP_SP k)
    let rate := s.rd (CEN_FSPRATE_SPRATE k)
    let step : Int := (rate * dt : Nat)
    let want := (r.1 - sp) * 1000000000
    let part := (s.cchan k).part
    let go := if rate = 0 then want else clampI (part - step) (part + step) want
    (r.2.wrS (CEN_FSP_SP k) (sp + go.tdiv 1000000000)).setCchan k { r.2.cchan k with part := go.tmod 1000000000 }

/-! ## Feedback and tables (R151, R152) -/

/-- R151, Table 6.1: raw, and whether the source is valid; `xfb` are the last writes of the external feedbacks before the trigger. LSW
measures in 10 mA, the table has mA. -/
def State.cenFeedback (s : State) (n tt : Nat) (xfb : Tab Nat) : Int × Bool :=
  let f := s.rd (CEN_LFB_FBSRC n)
  if f < 0x10 then (s.ainValue f, s.ainValid f)
  else if f < 0x28 then (s.tbVel (f - 0x20), s.tbUsable (f - 0x20))
  else if f < 0x30 then (sx 32 (s.tbPhase (f - 0x28)), s.tbUsable (f - 0x28))
  else if f < 0x48 then ((s.rd (SOL_CHSTAT_IMEAS (f - 0x30)) : Int), s.live 0x0A && !s.svInFault (f - 0x30))
  else if f < 0x80 then
    ((s.rd (LSW_CHSTAT_IMEAS (f - 0x50)) * 10 : Nat), s.lsOn (f - 0x50) && !s.isFenced 0x0B && s.lsState (f - 0x50) != 3)
  else if f < 0x90 then
    let w := tabGet 0 xfb (f - 0x80)
    let sto := s.rd (CEN_LSUP_STO n) * 1000000
    (s.rdS (CEN_XFB_RAW (f - 0x80)), sto = 0 || (w != 0 && decide (tt + 1 ≤ w + sto)))
  else (0, true)

/-- An entry of a slot's friction (0) or cogging (1) table in effect. -/
def State.cenEntry (s : State) (n tbl x : Nat) : Int :=
  let b := tabGet [] s.blobs (0x00400100 + n * 0x1000 + tbl)
  sx 32 (leNat ((b.drop (4 * x)).take 4))

/-- A table read between an entry and the next of the turn: `frac` of `2 ^ sh`. -/
def State.cenInterp (s : State) (n tbl x frac sh : Nat) (wrap : Bool) : Int :=
  let a := s.cenEntry n tbl x
  if !wrap && 1022 < x then a
  else sat32 (a + (s.cenEntry n tbl ((x + 1) % 1024) - a) * frac / (2 ^ sh : Nat))

/-- R152: a table's value for a slot at the phase of its index base, or at yf. A distance phase is signed (R12). -/
def State.cenTable (s : State) (n tbl : Nat) (yf : Int) : Int :=
  let src := s.rd (CEN_LCTL_IDXSRC n)
  let sh := s.rd (CEN_LCTL_IDXSH n)
  if src < 8 then
    let p := s.tbPhase src
    if s.tbKind src = 0 then s.cenInterp n tbl (bits p 14 10) (bits p 0 14) 14 true
    else
      let q := sx 32 p
      s.cenInterp n tbl (q / (2 ^ sh : Nat) % 1024).toNat (q % (2 ^ sh : Nat)).toNat sh true
  else
    let q := yf / (2 ^ sh : Nat)
    if q < 0 then s.cenEntry n tbl 0
    else s.cenInterp n tbl (min q.toNat 1023) (yf % (2 ^ sh : Nat)).toNat sh false

/-- R152: sgn. -/
def State.cenSgn (s : State) (n : Nat) (e : Int) : Int :=
  if !s.on (CEN_LCTL_FRICSGN n) then (if e = 0 then 0 else if 0 < e then 1 else -1)
  else
    let b := s.rd (CEN_LCTL_IDXSRC n)
    let v := s.tbVel b
    if s.tbSt b = 3 || v = 0 then 0 else if 0 < v then 1 else -1

/-- R152: IDXINV: a slot's index base is not VALID. -/
def State.cenIdxInv (s : State) (n : Nat) : Bool :=
  let src := s.rd (CEN_LCTL_IDXSRC n)
  decide (src < 8) && !s.tbUsable src

/-- R152: t, and IDXINV. -/
def State.cenTabs (s : State) (n : Nat) (yf e : Int) : Int × Bool :=
  if s.cenIdxInv n then (0, true)
  else
    let f := if s.on (CEN_LCTL_FRICEN n) then sat32 (s.cenTable n 0 yf * s.cenSgn n e) else 0
    let c := if s.on (CEN_LCTL_COGEN n) then s.cenTable n 1 yf else 0
    (sat32 (f + c), false)

/-! ## One evaluation (R149, R150) -/

/-- dt and yf of an evaluation. -/
def State.cenDt (s : State) (n tt : Nat) : Nat :=
  let m := s.rd (CEN_LSUP_DTMAX n) * 10000
  if (s.cslot n).first then m else min (tt - (s.cslot n).tt) m
def State.cenYf (s : State) (n : Nat) (raw : Int) : Int :=
  let x := s.cslot n
  let y := mul16 (sat32 (raw - s.rdS (CEN_LFBO_FBOFS n))) (s.rdS (CEN_LFBG_FBGAIN n))
  let k := s.rd (CEN_LCTL_FBTC n)
  if k != 0 && !x.first then sat32 (x.yf + sat32 (y - x.yf) / (2 ^ k : Nat)) else y

/-- The setpoint of an evaluation: the channel's SP, the outer slot's output, or SETP. -/
def State.cenRef (n dt : Nat) (s : State) : Int × State :=
  match s.cenLoopOf n with
  | some k => let t := s.cenMove k dt; (t.rdS (CEN_FSP_SP k), t)
  | none => if (s.cenOuter n).isSome then ((s.cslot n).setp, s) else (s.rdS (CEN_LSETP_SETP n), s)

/-- The derivative term; with DTC = 0 it is the unfiltered one; with dt = 0 the quotient has no value: a free one. -/
def State.cenD (n dt : Nat) (yf : Int) (s : State) : Int × State :=
  let x := s.cslot n
  let kd := s.rdS (CEN_LKD_KD n)
  if kd = 0 then (0, s)
  else if dt = 0 then ((sx 32 (s.takeFree 32).1), (s.takeFree 32).2)
  else
    let q := sat32 (mul16 (sat32 (-kd)) (sat32 (yf - x.yf)) * 1000000000 / dt)
    (if s.rd (CEN_LFB_DTC n) = 0 then q else sat32 (x.df + sat32 (q - x.df) * dt / (s.rd (CEN_LFB_DTC n) * 1000 + dt)), s)

def State.cenFf (s : State) (n : Nat) (r : Int) : Int :=
  if s.on (CEN_LCTL_FFEN n) then sat32 (mul16 (s.rdS (CEN_LKFF_KFF n)) r + s.rdS (CEN_LFFO_FFO n)) else 0

/-- The amplitude and the rate limit of R149. -/
def State.cenLimit (s : State) (n dt : Nat) (uprev want : Int) : Int × Bool :=
  let u := clampI (s.rdS (CEN_LUMIN_UMIN n)) (s.rdS (CEN_LUMAX_UMAX n)) want
  if !s.on (CEN_LCTL_RLEN n) then (u, false)
  else
    let step : Int := (s.rd (CEN_LSHP_RATE n) * 256 * dt / 1000000 : Nat)
    let w := clampI (uprev - step) (uprev + step) u
    (w, w != u)

/-- The terms of one evaluation beside the integrator. -/
structure CenTerms where
  p  : Int
  d  : Int
  ff : Int
  t  : Int

/-- R149: v, each sum saturated in the rule's order; R150: what v leaves of u for the integrator. -/
def CenTerms.sum (x : CenTerms) (i : Int) : Int := sat32 (sat32 (sat32 (sat32 (x.p + i) + x.d) + x.ff) + x.t)
def CenTerms.left (x : CenTerms) (u : Int) : Int := sat32 (sat32 (sat32 (sat32 (u - x.p) - x.d) - x.ff) - x.t)

/-- The sum and the limits of R149 or R150, the integrator, and what the slot keeps. A preset is the first u. -/
def State.cenClose (n tt dt : Nat) (yf r e : Int) (w : CenTerms) (inv : Bool) (out24 : Nat) (s : State) : State :=
  let x := s.cslot n
  let i := match x.preset with | some u => w.left u | none => x.i
  let up := x.preset.getD x.u
  let man := s.cenSt n = 1
  let want := if man then s.rdS (CEN_LMAN_MANOUT n) else x.preset.getD (w.sum i)
  let l := s.cenLimit n dt up want
  let deep := match s.cenInner n with | some m => (s.on (CEN_LSTAT_SATH m), s.on (CEN_LSTAT_SATL m)) | none => (false, false)
  let hi := decide (l.1 < want) || deep.1
  let lo := decide (want < l.1) || deep.2
  let di := sat32 (mul16 (s.rdS (CEN_LKI_KI n)) e * dt / 1000000000)
  let frz := !man && ((hi && decide (0 < di)) || (lo && decide (di < 0)))
  let lim := clampI (s.rdS (CEN_LUMIN_UMIN n)) (s.rdS (CEN_LUMAX_UMAX n))
  let i' := if man then lim (w.left l.1) else if frz then i else lim (sat32 (i + di))
  let s := s.setCslot n { x with first := false, i := i', yf := yf, df := w.d, u := l.1, tt := tt, r := r, preset := none,
                                 kpOld := none, free24 := out24 }
  { s with cen := { s.cen with flight := s.cen.flight ++
    [{ slot := n, tt := tt, out24 := out24, gen := x.gen, u := l.1, yf := yf, i := i', r := r, dt := dt, hi := hi, lo := lo,
       frz := frz, rlim := l.2, inv := inv, rev := s.rd (CEN_LSTAT_PARREV n), trace := s.on (CEN_LCTL_TRACE n), prio := s.on (CEN_LCTL_PRIO n),
       latMax := s.rd (CEN_LSUP_LATMAX n) * 10, inner := s.cenInner n, chan := s.cenChanOf n }] } }

/-- R174: the integrator takes the step of KP. -/
def State.cenBless (n : Nat) (e : Int) (s : State) : State :=
  let x := s.cslot n
  match x.kpOld with
  | some k => if s.on (CEN_LCTL_BLESS n) then
      s.setCslot n { x with i := sat32 (x.i + mul16 (sat32 (k - s.rdS (CEN_LKP_KP n))) e) } else s
  | none => s

/-- R149, R150: the evaluation of a slot in MAN or AUTO whose feedback is valid. -/
def State.cenRun (n tt : Nat) (raw : Int) (out24 : Nat) (s : State) : State :=
  let dt := s.cenDt n tt
  let yf := s.cenYf n raw
  let rr := s.cenRef n dt
  let r := rr.1
  let e0 := sat32 (r - yf)
  let e := if e0.natAbs ≤ s.rd (CEN_LSHP_DB n) * 256 then 0 else e0
  let s := rr.2.cenBless n e
  let d := s.cenD n dt yf
  let s := d.2
  let t := s.cenTabs n yf e
  s.cenClose n tt dt yf r e ⟨mul16 (s.rdS (CEN_LKP_KP n)) e, d.1, s.cenFf n r, t.1⟩ t.2 out24

/-- Table 6.2: the compute time of an evaluation, in 1/24 ns (a cycle of 480 MHz is 50/24 ns). -/
def State.cenTime24 (s : State) (n : Nat) : Nat :=
  let drive := match s.cenDrives n with | some k => decide (s.rd (CEN_FCFG_APATH k) = 4) | none => false
  50 * (576 + (if s.rd (CEN_LKD_KD n) = 0 then 0 else 144) + (if s.on (CEN_LCTL_FFEN n) then 96 else 0) +
    (if s.on (CEN_LCTL_FRICEN n) then 192 else 0) + (if s.on (CEN_LCTL_COGEN n) then 192 else 0) +
    (if s.on (CEN_LCTL_RLEN n) then 48 else 0) + (if s.rd (CEN_LCTL_FBTC n) = 0 then 0 else 96) + (if drive then 480 else 0))

/-- R151: feedback that is not valid: the slot enters HOLD with FBINV, its channel FAULT; Tocsin hears of it (R179). -/
def State.cenFbinv (n : Nat) (s : State) : State :=
  let s := (((s.setFlag (CEN_LFLAG_FBINV n)).setFlag CEN_INTSTAT_FBINV).cenHold n 2).toTocsin
  match s.cenChanOf n with
  | some k =>
    if s.cenArmed k || (s.cchan k).arming then
      let t := s.cenFault k 4 true
      t.wr (CEN_LSTAT_CAUSE n) 2
    else s
  | none => s

/-! ## Triggers and the dispatcher (R153–R160) -/

/-- R155: a trigger of a slot at `tt`. -/
def State.cenTrigger (n tt : Nat) (s : State) : State :=
  if s.cenSt n = 0 then s
  else
    let s := if s.cenSt n = 3 && s.rd (CEN_LSTAT_CAUSE n) = 1 then s.cenUnhold n else s.setCslot n { s.cslot n with seen := s.now }
    let again := s.cen.pend.any (·.slot = n)
    let s := { s with cen := { s.cen with pend := s.cen.pend.filter (·.slot != n) ++ [⟨n, tt, s.cen.xfb⟩] } }
    if again then
      (((s.inc (CEN_LOVR_OVRCNT n)).setFlag (CEN_LFLAG_OVR n)).setFlag CEN_INTSTAT_OVR).emitSec 0x0403 n (fun c => [n, c])
    else s

/-- R160: k of a throttle level, in quarters. -/
def cenQuiet4 : Nat → Nat
  | 0 => 0 | 1 => 1 | 2 => 4 | _ => 12

/-- The earliest issue of a pending trigger, in 1/24 ns: 250 cycles (12,500 of them) after the last issue, after its arrival,
after its slot's evaluation in flight, a PRIO = 0 one after the quiet slot. -/
def State.cenEarliest (s : State) (p : CenPend) : Nat :=
  let a := max (24 * p.tt) (s.cslot p.slot).free24
  let a := if s.cen.last24 = 0 then a else max a (s.cen.last24 - 1 + 12500)
  let a := if s.cen.full24 = 0 then a else max a (s.cen.full24 - 1)
  if s.on (CEN_LCTL_PRIO p.slot) || s.cen.norm24 = 0 then a
  else max a (s.cen.norm24 - 1 + 12500 + s.cen.quiet4 * 3125)

/-- One pending trigger goes before another: PRIO, then the older, then slot order. -/
def State.cenBefore (s : State) (p q : CenPend) : Bool :=
  let hp := s.on (CEN_LCTL_PRIO p.slot)
  let hq := s.on (CEN_LCTL_PRIO q.slot)
  if hp != hq then hp else p.tt < q.tt || (p.tt = q.tt && p.slot < q.slot)

/-- R156: the trigger that is issued next and its issue time, if one can be issued by now. -/
def State.cenPick (s : State) : Option (CenPend × Nat) :=
  let cand := s.cen.pend.filter (fun p => !s.cen.flight.any (·.slot = p.slot))
  let t := (cand.map s.cenEarliest).foldl min (24 * s.now + 1)
  if 8 ≤ s.cen.flight.length || 24 * s.now < t then none
  else
    let ready := cand.filter (fun p => decide (s.cenEarliest p ≤ t))
    match ready with
    | [] => none
    | p :: q => some (q.foldl (fun b x => if s.cenBefore x b then x else b) p, t)

/-- CEN_LOAD: an issue is counted in its second. -/
def State.cenCount (quiet4 : Nat) (s : State) : State :=
  let c := s.cen
  let k := s.now / 1000000000
  let c := if c.sec = k then c
    else { c with sec := k, issues := 0, quiets := 0, issue1 := if c.sec + 1 = k then c.issues else 0,
                  quiet1 := if c.sec + 1 = k then c.quiets else 0 }
  { s with cen := { c with issues := c.issues + 1, quiets := c.quiets + quiet4 } }

/-- R156, R160: an issue at `t24`: the dispatcher's times. -/
def State.cenIssued (n t24 : Nat) (s : State) : State :=
  let s := s.wr CEN_STAT_TLVL s.cen.level
  let norm := !s.on (CEN_LCTL_PRIO n)
  let q := if norm then cenQuiet4 (s.rd CEN_STAT_TLVL) else 0
  let s := s.cenCount q
  let c := { s.cen with pend := s.cen.pend.filter (·.slot != n), last24 := t24 + 1, full24 := 0 }
  { s with cen := if norm then { c with norm24 := t24 + 1, quiet4 := q } else c }

/-- R156: an evaluation issued at `t24` is computed; in HOLD its feedback is read and checked only (Table 6.3). -/
def State.cenCompute (p : CenPend) (t24 : Nat) (s : State) : State :=
  let n := p.slot
  let fb := s.cenFeedback n p.tt p.xfb
  let out := t24 + s.cenTime24 n
  let idle (s : State) : State :=
    let x := s.cslot n
    let s := s.setCslot n { x with free24 := out }
    { s with cen := { s.cen with flight := s.cen.flight ++ [{ slot := n, tt := p.tt, out24 := out, gen := x.gen, idle := true }] } }
  if !fb.2 then idle (s.cenFbinv n)
  else if s.cenSt n = 3 then idle s
  else s.cenRun n p.tt fb.1 out

/-! ## Output (R157–R159, R176) -/

def State.cenUnread (s : State) : Nat := (s.rd CEN_TRWR_IDX + 512 - s.rd CEN_TRRD_IDX) % 512

/-- R176: a trace entry is written, or dropped. PARCHG: the entry is the first under the set that its evaluation started with. -/
def State.cenTrace (f : CenFlight) (lat : Nat) (s : State) : State :=
  let n := f.slot
  let x := s.cslot n
  if 256 ≤ s.cenUnread then
    ((s.inc CEN_TRDROP_COUNT).setFlag CEN_INTSTAT_TRDROP).emitSec 0x040B 0 (fun c => [n, c])
  else
    let w := s.rd CEN_TRWR_IDX
    let w0 := n * 2 ^ 24 + s.cenSt n * 2 ^ 21 + b2n f.hi * 2 ^ 20 + b2n f.lo * 2 ^ 19 + b2n f.frz * 2 ^ 18 + b2n f.rlim * 2 ^ 17 +
      b2n (f.rev != x.traced) * 2 ^ 16 + min lat 0xFFFF
    let ws := [w0, f.tt % 2 ^ 32, f.tt / 2 ^ 32, tc 32 f.r, tc 32 f.yf, tc 32 f.u, tc 32 f.i, min f.dt 0xFFFFFFFF]
    let s := s.setCslot n { x with traced := f.rev }
    (({ s with cen := { s.cen with ring := tabPut s.cen.ring (w % 256) ws } }).wr CEN_TRWR_IDX (w + 1)).setFlag CEN_INTSTAT_TRC

/-- R158: the latency, rounded up to the next 5 ns. -/
def cenLat (f : CenFlight) : Nat := (f.out24 - 24 * f.tt + 119) / 120 * 5

/-- R159: an output whose latency exceeds LATMAX; of a PRIO = 1 slot it is reported to Tocsin (R179); both by the set with which the
evaluation started (R173). -/
def State.cenLate (n lat latMax : Nat) (prio : Bool) (s : State) : State :=
  let x := s.cslot n
  if lat ≤ latMax then s.setCslot n { x with lateRun := 0 }
  else
    let m := max x.latMax lat
    let e := tabGet (0, 0) s.rate (0x0404 * 0x10000 + n)
    let told := e.1 = 0 || decide (e.1 - 1 + 1000000000 ≤ s.now)
    let s := s.setCslot n { x with lateRun := x.lateRun + 1, latMax := if told then 0 else m }
    let s := (((s.setFlag (CEN_LFLAG_LATE n)).setFlag CEN_INTSTAT_LATE).inc (CEN_LOVR_LATECNT n)).emitSec 0x0404 n (fun _ => [n, m])
    s.when prio State.toTocsin

/-- The last values, flags and counters of a slot at an output. -/
def State.cenShow (f : CenFlight) (lat : Nat) (s : State) : State :=
  let n := f.slot
  let s := ((s.wrS (CEN_LOUT_U n) f.u).wrS (CEN_LY_Y n) f.yf).wrS (CEN_LI_I n) f.i
  let s := ((s.wr (CEN_LSTAT_SATH n) (b2n f.hi)).wr (CEN_LSTAT_SATL n) (b2n f.lo)).wr (CEN_LSTAT_IFRZ n) (b2n f.frz)
  let s := (s.wr (CEN_LLAT_LAT n) (min lat 0xFFFF)).wr (CEN_LLAT_LATPK n) (max (s.rd (CEN_LLAT_LATPK n)) (min lat 0xFFFF))
  let s := (s.wr (CEN_LTRG_TRG n) f.tt).wr (CEN_LCNT_CNT n) (s.rd (CEN_LCNT_CNT n) + 1)
  s.when (f.hi || f.lo) (fun s => (s.setFlag (CEN_LFLAG_SAT n)).setFlag CEN_INTSTAT_SAT)

/-- R149: write_output: to the inner slot, or to the path of a channel in ACTIVE or HELD (Table 6.7, R170), by the set with which the
evaluation started (R173). -/
def State.cenWriteOut (f : CenFlight) (s : State) : State :=
  match f.inner, f.chan with
  | some m, _ => s.setCslot m { s.cslot m with setp := f.u }
  | none, some k => if (s.cenCh k = 1 || s.cenCh k = 2) && !(s.cchan k).arming then s.cenWrite k f.u false else s
  | none, none => s

/-- R157: an evaluation ends: its output is written unless its slot has left the state in which it was issued (R170). -/
def State.cenOutput (f : CenFlight) (s : State) : State :=
  let full := s.cen.flight.length = 8
  let s := { s with cen := { s.cen with flight := s.cen.flight.erase f, full24 := if full then f.out24 + 1 else s.cen.full24 } }
  if f.idle then s
  else
    let lat := cenLat f
    let s := s.cenShow f lat
    if f.gen != (s.cslot f.slot).gen then s
    else
      ((s.cenWriteOut f).cenLate f.slot lat f.latMax f.prio).when f.trace (State.cenTrace f lat)

/-! ## The interlock scan (R168, R169) -/

/-- The fields of interlock `j` of a channel. -/
def ilSrc (k j : Nat) : Fld :=
  if j = 0 then CEN_FIL0_SRCA k else if j = 1 then CEN_FIL0_SRCB k else if j = 2 then CEN_FIL1_SRCA k else CEN_FIL1_SRCB k
def ilPol (k j : Nat) : Fld :=
  if j = 0 then CEN_FIL0_POLA k else if j = 1 then CEN_FIL0_POLB k else if j = 2 then CEN_FIL1_POLA k else CEN_FIL1_POLB k
def ilAct (k j : Nat) : Fld :=
  if j = 0 then CEN_FIL0_ACTA k else if j = 1 then CEN_FIL0_ACTB k else if j = 2 then CEN_FIL1_ACTA k else CEN_FIL1_ACTB k
def ilLatch (k j : Nat) : Fld :=
  if j = 0 then CEN_FIL0_LATCHA k else if j = 1 then CEN_FIL0_LATCHB k else if j = 2 then CEN_FIL1_LATCHA k else CEN_FIL1_LATCHB k

/-- Table 6.6: an interlock source; `act` are the channels in ACTIVE as the scan began. -/
def State.cenSource (s : State) (act : List Nat) (src : Nat) : Bool :=
  if src ≤ 0x20 then s.diLevel (src - 1)
  else if src < 0x38 then s.tbUsable (src - 0x30) && (s.tbSt (src - 0x30) = 2 || s.tbSt (src - 0x30) = 4)
  else if src < 0x40 then s.tbUsable (src - 0x38)
  else if src < 0x70 then act.contains (src - 0x40)
  else bit (s.rd CEN_HOSTPERM_PERM) (src - 0x80)

/-- R168: an interlock permits. -/
def State.cenPermits (s : State) (act : List Nat) (k j : Nat) : Bool :=
  let src := s.rd (ilSrc k j)
  src = 0 || s.cenSource act src != s.on (ilPol k j)

/-- A channel enters INHIBITED: SAFEU, HOLD of its slots, EV 0x0406. For a safe state of Tocsin the spec gives the parameter no
number: a free value. -/
def State.cenInhibit (k : Nat) (il : Option Nat) (s : State) : State :=
  let r := s.takeFree 8
  let p := match il with | some j => j | none => r.1
  let s := (if il.isSome then s else r.2).setCenCh k 3 (if il.isSome then 1 else 2)
  let s := ((s.setFlag CEN_INTSTAT_INHIB).emit 0x0406 [k, p]).cenSafe k
  s.each (s.cenBound k) (fun n => State.cenHold n 3)

/-- A slot of a channel enters a state; the one that drives the path starts at SAFEU. -/
def State.cenStart (k n st : Nat) (s : State) : State :=
  s.cenEnter n st (if (s.cenInner n).isSome then none else some (s.cenSafeU k))

/-- R169: on ARM the bound slots enter AUTO. -/
def State.cenStartSlots (k : Nat) (s : State) : State := s.each (s.cenBound k) (fun n => State.cenStart k n 2)

/-- Table 6.4: a channel back in ACTIVE takes its slots out of HOLD with cause INHIB; one that a command has put in OFF stays there. -/
def State.cenResume (k : Nat) (s : State) : State :=
  s.each (s.cenBound k) (fun n s =>
    if s.cenSt n = 3 && s.rd (CEN_LSTAT_CAUSE n) = 3 then s.cenStart k n (s.cslot n).prev else s)

/-- An open-loop channel: SP moves, and is written where it has changed or where it must be (R165). -/
def State.cenOpen (k : Nat) (force : Bool) (s : State) : State :=
  if s.rd (CEN_FCFG_LOOP k) < 96 then s
  else
    let old := s.rd (CEN_FSP_SP k)
    let t := s.cenMove k 10000
    if force || t.rd (CEN_FSP_SP k) != old then t.cenWrite k (t.rdS (CEN_FSP_SP k)) force else t

/-- The interlocks of a channel that do not permit or are latched, with the latches of this scan. -/
def State.cenBlocked (s : State) (act : List Nat) (k : Nat) : Nat × Nat :=
  (List.range 4).foldl (fun b j =>
    let bad := !s.cenPermits act k j
    let lat := if bad && s.on (ilLatch k j) then setBit b.2 j else b.2
    (if bad || bit lat j then setBit b.1 j else b.1, lat)) (0, (s.cchan k).lat)

/-- R168, R169: one channel at a scan. -/
def State.cenJudge (act : List Nat) (k : Nat) (s : State) : State :=
  let b := s.cenBlocked act k
  let x := s.cchan k
  let tsv := x.tsvLat || s.cenTsvHeld k
  let inh := (List.range 4).find? (fun j => bit b.1 j && !s.on (ilAct k j))
  let hld := (List.range 4).find? (fun j => bit b.1 j && s.on (ilAct k j))
  let st := s.cenCh k
  let arming := x.arming
  let s := (s.setCchan k { x with arming := false, lat := b.2, tsvLat := tsv }).wr (CEN_FSTAT_ILBLK k) b.1
  let new := if inh.isSome || tsv then 3 else if hld.isSome then (if st = 3 && !arming then 3 else 2) else 1
  let s := s.when arming (State.emit 0x0401 [k, new])
  if new = st && !arming then s.when (new = 1) (State.cenOpen k false)
  else if new = 3 then s.cenInhibit k inh
  else if new = 2 then
    (((s.setCenCh k 2 1).setFlag CEN_INTSTAT_INHIB).emit 0x0406 [k, hld.getD 0]).when arming (State.cenOpen k true)
  else
    let s := s.setCenCh k 1 0
    let s := s.when (!arming) (State.emit 0x0407 [k])
    let s := s.when (!arming && st = 3) (State.cenResume k)
    s.cenOpen k (arming || st = 3)

/-- The channels in the order of a scan: those on solenoids by their output, so that their peaks are booked in channel order (R226). -/
def State.cenOrder (s : State) : List Nat :=
  let sv (k : Nat) : Bool := s.rd (CEN_FCFG_APATH k) = 1
  cenChans.filter (fun k => !sv k) ++ sortBy (fun k => (s.rd (CEN_FCFG_OUTA k) : Int)) (cenChans.filter sv)

/-- R168: the scan at a multiple of 10 µs: every armed channel is judged. -/
def State.cenScan (s : State) : State :=
  let act := cenChans.filter (fun k => s.cenCh k = 1)
  s.each s.cenOrder (fun k s => if s.cenArmed k || (s.cchan k).arming then s.cenJudge act k else s)

/-! ## Commands (R169, Table 6.4) -/

/-- An output that a channel claims is in fault, or its block is fenced. -/
def State.cenOutFault (s : State) (k : Nat) : Bool :=
  (s.cenOuts k).any (fun o => if o.1 then s.lsState o.2 = 3 || s.isFenced 0x0B else s.svInFault o.2 || s.isFenced 0x0A)

/-- R171, Tables 6.4 and 6.7: the cause of a FAULT that persists, and keeps a channel in IDLE or FAULT from being armed: an output in
fault; the feedback of a bound slot, in FAULT with FBINV or where the slot is in HOLD with that cause. In IDLE both keep it too (DEDUCED,
assumption log, entry 87). -/
def State.cenPersists (s : State) (k : Nat) : Option Nat :=
  let fbinv := s.cenCh k = 4 && s.rd (CEN_FSTAT_CAUSE k) = 4
  if s.cenOutFault k then some 3
  else if (s.cenBound k).any (fun n =>
      (fbinv || (s.cenSt n = 3 && s.rd (CEN_LSTAT_CAUSE n) = 2)) && !(s.cenFeedback n s.now s.cen.xfb).2) then some 4
  else none

/-- R165: an open-loop channel's SP is written to its path at arming; the target takes effect at the next scan. -/
def State.cenOpenAtArm (k : Nat) (s : State) : State :=
  s.when (decide (96 ≤ s.rd (CEN_FCFG_LOOP k))) (fun s => s.cenWrite k (s.rdS (CEN_FSP_SP k)) true)

/-- The start of an armed channel (R169): its latches end, the bound slots start from the safe value, and so does an open-loop SP. -/
def State.cenArmed0 (k : Nat) (arming : Bool) (s : State) : State :=
  let s := s.setCchan k { s.cchan k with lat := 0, tsvLat := false, lastOn := none, arming := arming, part := 0 }
  let s := s.when (96 ≤ s.rd (CEN_FCFG_LOOP k)) (State.wrS (CEN_FSP_SP k) (s.cenSafeU k))
  s.cenStartSlots k

/-- ARM (R169, Table 6.7): from IDLE the first scan decides the state; from FAULT the channel enters ACTIVE, once the cause is cleared;
an armed channel's latches end. -/
def State.cenArm (k : Nat) (s : State) : State :=
  let x := s.cchan k
  let st := s.cenCh k
  if s.rd (CEN_FCFG_APATH k) = 0 || x.arming then s
  else if st != 0 && st != 4 then s.setCchan k { x with lat := 0, tsvLat := false }
  else match s.cenPersists k with
    | some c => s.emit 0x0409 [k, c]
    | none =>
      if st = 0 then s.cenArmed0 k true
      else (((s.setCenCh k 1 0).cenArmed0 k false).emit 0x0401 [k, 1]).cenOpenAtArm k

/-- DISARM: SAFEU once, the channel IDLE, its slots OFF. -/
def State.cenDisarm (k : Nat) (s : State) : State :=
  if s.cenCh k = 0 && !(s.cchan k).arming then s
  else
    let s := ((s.setCchan k { s.cchan k with arming := false }).setCenCh k 0 0).cenSafe k
    s.each (s.cenBound k) (fun n => State.cenEnter n 0 none)

/-- A slot belongs to a channel that is not IDLE. -/
def State.cenTaken (s : State) (n : Nat) : Bool :=
  match s.cenChanOf n with
  | some k => s.cenCh k != 0 || (s.cchan k).arming
  | none => false

/-- R154: a control-sample action is refused at its commit. -/
def State.cenRefuses (s : State) (n : Nat) : Bool := s.cenSt n = 0 || s.rd (CEN_LCTL_TRIG n) != 1

/-! ## Commits, reset, fence -/

/-- R173, R174: a slot's group has applied; `kp` is KP before. -/
def State.cenSlotApplied (n : Nat) (kp : Int) (s : State) : State :=
  let x := s.cslot n
  (s.setCslot n { x with kpOld := if s.cenSt n = 0 then none else some (x.kpOld.getD kp) }).wr
    (CEN_LSTAT_PARREV n) (s.rd (CEN_LSTAT_PARREV n) + 1)

/-- R164: a channel's group has applied. -/
def State.cenChanApplied (k : Nat) (s : State) : State := (s.setCchan k { s.cchan k with lastOn := none }).cenClaims

/-- R167: a drive message's group has applied. -/
def State.cenDriveApplied (d : Nat) (s : State) : State := { s with cen := { s.cen with drives := setBit s.cen.drives d } }

/-- R177. The load switches that were claimed are left without a commanding party (R260). -/
def State.cenReset (s : State) : State :=
  let mine := (List.range 48).filter (fun n => s.on (LSW_CHSTAT_CLAIM n))
  State.cenClaims { s with cen := {}, lsw := { s.lsw with lost := mine.foldl setBit s.lsw.lost } }

/-- R178: HOLD with cause FENCE, FAILACT, EV 0x040E. A channel that ARM has left in IDLE until its first scan stays there and is to be
armed again (DEDUCED, assumption log, entry 87). For the event's first parameter the spec names no instance: a free value. -/
def State.cenFence (s : State) : State :=
  let ks := cenChans.filter (fun k => s.cenArmed k)
  let s := s.each (List.range 96) (fun n => State.cenHold n 5)
  let s := s.each ks (fun k => State.cenFault k 5 true)
  let s := s.each cenChans (fun k s => s.setCchan k { s.cchan k with arming := false })
  let r := s.takeFree 8
  (r.2.setFlag CEN_INTSTAT_FENCE).emit 0x040E [r.1, ks.length]

/-! ## What the host reads -/

/-- CEN_STAT. -/
def State.cenStat (s : State) : Nat :=
  let hi := (s.cen.pend.filter (fun p => s.on (CEN_LCTL_PRIO p.slot))).length
  min s.cen.flight.length 15 * 2 ^ 28 + hi * 2 ^ 21 + (s.cen.pend.length - hi) * 2 ^ 14 + s.rd CEN_STAT_TLVL * 2 ^ 12

/-- CEN_LOAD: of 1,920,000 opportunities per second, in per mille. -/
def State.cenLoad (s : State) : Nat :=
  let k := s.now / 1000000000
  let c := s.cen
  let p := if c.sec + 1 = k then (c.issues, c.quiets) else if c.sec = k then (c.issue1, c.quiet1) else (0, 0)
  p.1 / 1920 * 0x10000 + p.2 / 4 / 1920

/-- CEN_TDATA (Table 6.10): the entry selected by CEN_TSEL, in the bank in effect or the staged bank. -/
def State.cenTdata (s : State) : Nat :=
  let n := s.rd CEN_TSEL_SLOT
  let pid := 0x00400100 + n * 0x1000 + s.rd CEN_TSEL_TBL
  let b := if s.on CEN_TSEL_BANK then tabGet (tabGet [] s.blobs pid) s.banks pid else tabGet [] s.blobs pid
  if 95 < n then 0 else leNat ((b.drop (4 * s.rd CEN_TSEL_IDX)).take 4)

end Sys2Proof.Machine
end

