-- ==== Sys2Proof/Machine/CanOps.lean ====
section
/-!
DEFINITION. The operations of the CAN controllers (spec/12_field_buses_and_fleet_link.md, R325–R339).
-/
namespace Sys2Proof.Machine

def State.canBuf (s : State) (n b : Nat) : CanBuf := tabGet {} s.can.buf (n * 3 + b)
def State.setCanBuf (n b : Nat) (x : CanBuf) (s : State) : State :=
  { s with can := { s.can with buf := tabSet {} s.can.buf (n * 3 + b) x } }
def State.canFifo (s : State) (n q : Nat) : List CanRx := tabGet [] s.can.fifo (n * 2 + q)
def State.setCanFifo (n q : Nat) (l : List CanRx) (s : State) : State :=
  { s with can := { s.can with fifo := tabSet [] s.can.fifo (n * 2 + q) l } }
def State.bpe (s : State) (n : Nat) : CanBpe := tabGet {} s.can.bpe n
def State.setBpe (n : Nat) (x : CanBpe) (s : State) : State := { s with can := { s.can with bpe := tabSet {} s.can.bpe n x } }

def State.canEst (s : State) (n : Nat) : Nat := s.rd (CAN_STAT_ESTATE n)
def State.canFlag (n i : Nat) (s : State) : State := s.setFlagBit (CAN_INTSTAT_FLAGS n) i

/-! ## Transmit buffers (R327–R330) -/

/-- R167: a drive message that is committed, or that a channel's committed binding names, names a controller, by the value that a commit
has given (DEDUCED: what a committed message is; assumption log, entry 87). -/
def State.cenNames (s : State) (n d : Nat) : Bool :=
  let waits := (s.pds.txns.flatMap Txn.groups).any (fun x => x.grp = .drive d && x.handed != 0)
  (bit s.cen.drives d || waits || cenChans.any (fun k => s.rd (CEN_FCFG_APATH k) = 4 && s.rd (CEN_FCFG_OUTA k) = d)) &&
    s.toApply (.drive d) (CEN_DMFMT_CF d) = n

/-- R327: buffer 0 belongs to the bus protocol engine, buffer 1 to SEC, buffer 2 to CEN. -/
def State.canReserved (s : State) (n b : Nat) : Bool :=
  match b with
  | 0 => s.on (CAN_CTL_ISOEN n)
  | 1 => s.on SEC_IMGCFG_IMGEN && decide (s.rd SEC_IMGCFG_IMGBUS < 2) && s.rd SEC_IMGCFG_CF = n
  | _ => (List.range 8).any (s.cenNames n)

/-- R327: a host write to a reserved buffer is ignored. -/
def State.canIgnore (n b : Nat) (s : State) : State :=
  (s.canFlag n 11).emitSec 0x0C08 (n * 4 + b) (fun k => [n, b, k])

/-- The frame in a buffer's staging registers, as the controller sends it (R325): FD with FDEN alone, the bit-rate switch with BRSEN alone and
in an FD frame, RTR in a classic one, which has at most eight bytes and, as a remote frame, none. -/
def State.canStaged (s : State) (n b : Nat) : CanFrame :=
  let dlc := s.rd (CAN_TXCTL_DLC n b)
  let fd := s.on (CAN_TXID_FDF n b) && s.on (CAN_CTL_FDEN n)
  let rtr := s.on (CAN_TXCTL_RTR n b) && !fd
  let len := if fd then canLen dlc else if rtr then 0 else min dlc 8
  { ide := s.on (CAN_TXID_IDE n b), fdf := fd, brs := s.on (CAN_TXCTL_BRS n b) && fd && s.on (CAN_CTL_BRSEN n), rtr := rtr,
    id := s.rd (CAN_TXID_ID n b) % (if s.on (CAN_TXID_IDE n b) then 2 ^ 29 else 2 ^ 11), dlc := dlc,
    data := ((List.range 16).flatMap (fun w => wordBytes (s.rd (CAN_TXD_DATA n b w)))).take len }

def State.canPend (s : State) (n b : Nat) : Bool := s.on (CAN_TXSTAT_PEND n b)
def State.canFrozen (s : State) (n b : Nat) : Bool := s.on (CAN_TXSTAT_FROZEN n b)

/-- R329: a frame not yet sent would be replaced by a new request. -/
def State.canWaits (s : State) (n b : Nat) : Bool :=
  if s.canFrozen n b then (s.canBuf n b).repl.isSome else s.canPend n b

/-- REQ with a frame acts on its buffer. -/
def State.canReq (n b : Nat) (f : CanFrame) (s : State) : State :=
  if s.canFrozen n b then s.setCanBuf n b { s.canBuf n b with repl := some f }
  else if s.canPend n b then (s.setCanBuf n b { copy := f }).inc (CAN_TXSTAT_REPL n b)
  else ((((s.setCanBuf n b { copy := f }).wr (CAN_TXSTAT_PEND n b) 1).wr (CAN_TXSTAT_RES n b) 0).wr (CAN_TXSTAT_CANLATE n b) 0)

/-- CANCEL acts on its buffer. -/
def State.canCan (n b : Nat) (s : State) : State :=
  if s.canFrozen n b then s.setCanBuf n b { s.canBuf n b with canc := true }
  else if s.canPend n b then ((s.setCanBuf n b {}).wr (CAN_TXSTAT_PEND n b) 0).wr (CAN_TXSTAT_RES n b) 2
  else s

/-- The CAN clock cycle of 12.5 ns that runs, plus 1. -/
def State.canCycle (s : State) : Nat := s.now * 2 / 25 + 1

/-- R329: a strobe on a buffer that is not frozen is remembered for its cycle, in which the choice may still fall. -/
def State.canStrobe (n b : Nat) (x : Option CanFrame) (s : State) : State :=
  let w := tabGet {} s.can.was (n * 3 + b)
  let w : CanWas := if w.cyc = s.canCycle then { w with strobes := w.strobes ++ [x] }
    else ⟨s.canCycle, s.rd (CAN_TXSTAT_PEND n b), s.rd (CAN_TXSTAT_RES n b), s.rd (CAN_TXSTAT_CANLATE n b), s.rd (CAN_TXSTAT_REPL n b),
          (s.canBuf n b).copy, [x]⟩
  s.when (!s.canFrozen n b) (fun s => { s with can := { s.can with was := tabSet {} s.can.was (n * 3 + b) w } })

/-- R329: REQ with a frame. -/
def State.canRequest (n b : Nat) (f : CanFrame) (s : State) : State := (s.canStrobe n b (some f)).canReq n b f

/-- R329: CANCEL. -/
def State.canCancel (n b : Nat) (s : State) : State := (s.canStrobe n b none).canCan n b

/-- R329: the buffer as it stood before the strobes of this cycle. -/
def State.canBefore (n b : Nat) (s : State) : State :=
  let w := tabGet {} s.can.was (n * 3 + b)
  s.when (w.cyc = s.canCycle) (fun s =>
    ((((s.wr (CAN_TXSTAT_PEND n b) w.pend).wr (CAN_TXSTAT_RES n b) w.res).wr (CAN_TXSTAT_CANLATE n b) w.late).wr (CAN_TXSTAT_REPL n b)
      w.repl).setCanBuf n b { copy := w.copy })

/-- R329: the strobes of this cycle, taken after the freeze. -/
def State.canAfter (n b : Nat) (s : State) : State :=
  let w := tabGet {} s.can.was (n * 3 + b)
  let l := if w.cyc = s.canCycle then w.strobes else []
  l.foldl (fun s x => match x with | some f => s.canReq n b f | none => s.canCan n b)
    { s with can := { s.can with was := tabSet {} s.can.was (n * 3 + b) {} } }

/-- The arbitration field of a frame, as the bus compares it: the base identifier, then RTR or SRR, IDE, the extension. -/
def canArb (f : CanFrame) : Nat :=
  if f.ide then (f.id / 2 ^ 18 % 2048) * 2 ^ 21 + 2 ^ 20 + 2 ^ 19 + (f.id % 2 ^ 18) * 2 + b2n f.rtr
  else (f.id % 2048) * 2 ^ 21 + (b2n f.rtr) * 2 ^ 20

/-- R328: the buffer that the controller chooses. -/
def State.canChoose (s : State) (n : Nat) : Option Nat :=
  let bs := (List.range 3).filter (fun b => s.canPend n b)
  if s.on (CAN_CTL_TXPRIO n) then bs.head?
  else (sortBy (fun b => (canArb (s.canBuf n b).copy : Int)) bs).head?

/-- R328, R329: the start-of-frame sample point: the chosen buffer is frozen; the strobes of the same CAN clock cycle come after it. -/
def State.canFreeze (n : Nat) (s : State) : State :=
  let t := s.each [0, 1, 2] (State.canBefore n)
  match t.canChoose n with
  | some b => (t.wr (CAN_TXSTAT_FROZEN n b) 1).each [0, 1, 2] (State.canAfter n)
  | none => s

/-- The buffer that is frozen. -/
def State.canFrozenBuf (s : State) (n : Nat) : Option Nat := (List.range 3).find? (fun b => s.canFrozen n b)

/-- R332: the controller is in restricted operation. -/
def State.canRestr (s : State) (n : Nat) : Bool := s.on (CAN_STAT_RESTR n)

/-- R352: a node that was taken off the bus has integrated again, after 11 recessive bits at the least. -/
def State.canJoined (s : State) (n : Nat) : Bool := decide (tabGet 0 s.can.integ n ≤ s.now)

/-- R326: eleven nominal bits, ns. -/
def State.canEleven (s : State) (n : Nat) : Nat :=
  11 * ((3 + s.rd (CAN_NBT_TSEG1 n) + s.rd (CAN_NBT_TSEG2 n)) * (1 + s.rd (CAN_NBT_BRP n)) * 25) / 2

/-- A controller may transmit. -/
def State.canMayTx (s : State) (n : Nat) : Bool :=
  s.blockOn 0x0C && s.on (CAN_CTL_EN n) && !s.canRestr n && decide (s.canEst n < 2) && s.canJoined n

/-- R332, R355: restricted operation takes effect once no frame is frozen. -/
def State.canIdle (n : Nat) (s : State) : State :=
  if (s.canFrozenBuf n).isSome then s
  else s.wr (CAN_STAT_RESTR n) (b2n (s.rd (CAN_CTL_MODE n) = 1 || s.isFenced 0x0C))

/-! ## Errors (R331–R333) -/

/-- R331: with BOAUTO = 1 the recovery from bus-off begins at once. -/
def State.canAuto (n : Nat) (s : State) : State := s.when (s.canEst n = 2 && s.on (CAN_CTL_BOAUTO n)) (State.wr (CAN_STAT_ESTATE n) 3)

/-- R331: the error state follows the counters; each change emits its event, and bus-off is reported. -/
def State.canErrors (n : Nat) (s : State) : State :=
  let tec := s.rd (CAN_STAT_TEC n); let rec_ := s.rd (CAN_STAT_REC n)
  let st := if 256 ≤ tec then 2 else if 128 ≤ tec || 128 ≤ rec_ then 1 else 0
  let old := s.canEst n
  if st = old || 2 ≤ old then s
  else
    let t := (s.wr (CAN_STAT_ESTATE n) st).canFlag n 4
    match st with
    | 0 => t.emit 0x0C02 [n, tec, rec_]
    | 1 => t.emit 0x0C01 [n, tec, rec_]
    | _ =>
      ((t.canFlag n 5).emit 0x0C03 [n, t.rd (CAN_STAT_LEC n)]).toTocsin.canAuto n

/-- TEC raised by 8, `k` times. -/
def State.canTecUp (n k : Nat) (s : State) : State := s.wr (CAN_STAT_TEC n) (min (s.rd (CAN_STAT_TEC n) + 8 * k) 511)

/-- R196, R208: the next part of SEC's classic image takes buffer 1 once it is free, while SEC is not fenced. -/
def State.canNextPart (n : Nat) (s : State) : State :=
  match tabGet [] s.can.parts n with
  | [] => s
  | x :: q =>
    if s.canPend n 1 || s.isFenced 0x09 then s
    else State.canRequest n 1 x.2 { s with can := { s.can with parts := tabSet [] s.can.parts n q } }

/-- R329: a frozen frame has ended in success. -/
def State.canDone (n b : Nat) (s : State) : State :=
  let x := s.canBuf n b
  let s := (s.wr (CAN_TXSTAT_FROZEN n b) 0).wr (CAN_TXSTAT_RES n b) 1
  let s := s.when x.canc (State.wr (CAN_TXSTAT_CANLATE n b) 1)
  let s := match x.repl with
    | some f => s.setCanBuf n b { copy := f }
    | none => (s.setCanBuf n b {}).wr (CAN_TXSTAT_PEND n b) 0
  let s := ((s.wr (CAN_STAT_TEC n) (s.rd (CAN_STAT_TEC n) - 1)).wr (CAN_STAT_LEC n) 0).wr (CAN_STAT_NOACK n) 0
  let s := { s with can := { s.can with acks := tabSet 0 s.can.acks n 0 } }
  (((s.canFlag n 2).canErrors n).canIdle n).when (b = 1) (State.canNextPart n)

/-- R329: a frozen frame that was not sent is settled before any retry. -/
def State.canSettle (n b : Nat) (s : State) : State :=
  let x := s.canBuf n b
  let s := s.wr (CAN_TXSTAT_FROZEN n b) 0
  let s := match x.repl with
    | some f => s.setCanBuf n b { copy := f }
    | none =>
      if x.canc then ((s.setCanBuf n b {}).wr (CAN_TXSTAT_PEND n b) 0).wr (CAN_TXSTAT_RES n b) 2
      else s.setCanBuf n b { copy := x.copy }
  s.canIdle n

/-- R333: sixteen consecutive transmissions ended by an ACK error. -/
def State.canNoAck (n id : Nat) (ack : Bool) (s : State) : State :=
  let k := if ack then tabGet 0 s.can.acks n + 1 else 0
  let s := { s with can := { s.can with acks := tabSet 0 s.can.acks n k } }
  if k = 16 then (((s.wr (CAN_STAT_NOACK n) 1).canFlag n 6)).emit 0x0C05 [n, id] else s

/-- R329–R333: a frozen frame has ended in lost arbitration (0) or an error. By ISO 11898-1 an error raises TEC by 8, but for an ACK error of
an error passive node without a dominant bit in its flag and for a stuff error in the arbitration field; each bit error in the flag, and each
run of dominant bits after it, `more` of them, raises it by 8 again. -/
def State.canFail (n b lec : Nat) (dom arb : Bool) (more : Nat) (s : State) : State :=
  let id := (s.canBuf n b).copy.id
  let s :=
    if lec = 0 then s
    else
      let keep := (lec = 3 && s.canEst n = 1 && !dom) || (lec = 1 && arb)
      let s := s.wr (CAN_STAT_LEC n) lec
      (s.canTecUp n (b2n (!keep) + more)).canNoAck n id (lec = 3)
  (s.canErrors n).canSettle n b

/-- R331: REC after a frame received with success: one lower; from above 127, to a value from 119 to 127 that ISO 11898-1
leaves open. -/
def State.canRecDown (n : Nat) (s : State) : State :=
  let r := s.rd (CAN_STAT_REC n)
  let s := if 127 < r then (s.takeFree 4).2.wr (CAN_STAT_REC n) (119 + (s.takeFree 4).1 % 9) else s.wr (CAN_STAT_REC n) (r - 1)
  s.canErrors n

/-- R331: an error while receiving. -/
def State.canRxError (n lec : Nat) (eight : Bool) (s : State) : State :=
  let s := s.wr (CAN_STAT_LEC n) lec
  (s.wr (CAN_STAT_REC n) (min (s.rd (CAN_STAT_REC n) + if eight then 8 else 1) 255)).canErrors n

/-! ## Reception (R334–R336) -/

/-- R334: a frame matches a filter. -/
def State.canMatches (s : State) (n k : Nat) (f : CanFrame) : Bool :=
  let m := s.rd (CAN_FMSK_ID n k)
  s.on (CAN_FCFG_EN n k) && (!s.on (CAN_FMSK_IDE n k) || f.ide = s.on (CAN_FID_IDE n k)) &&
  (!s.on (CAN_FMSK_RTR n k) || f.rtr = s.on (CAN_FID_RTR n k)) && (f.id &&& m) = (s.rd (CAN_FID_ID n k) &&& m)

/-- R334: the first enabled filter that matches. -/
def State.canFilter (s : State) (n : Nat) (f : CanFrame) : Option Nat := (List.range 128).find? (fun k => s.canMatches n k f)

/-- R335: a frame into a FIFO, or dropped; its start-of-frame sample point lies `age` ns back. -/
def State.canStore (n q k : Nat) (f : CanFrame) (esi : Bool) (age : Nat) (s : State) : State :=
  let l := s.canFifo n q
  if 64 ≤ l.length then
    (((s.inc (CAN_CNT_DROP n)).wr (CAN_RXFSTAT_OVF n q) 1).canFlag n 3).emitSec 0x0C06 (n * 2 + q) (fun c => [n, q, c])
  else
    let x : CanRx := ⟨f, esi, s.now - age, k, s.canEst n, !s.isFenced 0x0C && s.canEst n != 3⟩
    (s.setCanFifo n q (l ++ [x])).canFlag n q

/-- R29: the agent detects a fault of a controller: the frames that it has received and that are not yet read are flagged. -/
def State.canRxInvalid (n : Nat) (s : State) : State :=
  s.each [0, 1] (fun q s => s.setCanFifo n q ((s.canFifo n q).map (fun x => { x with valid := false })))

/-- R336: a match restarts the supervision and clears the timeout. -/
def State.canMatched (n k : Nat) (s : State) : State :=
  { s.wr (CAN_FCFG_TMOUT n k) 0 with can := { s.can with match_ := tabPut s.can.match_ (n * 128 + k) (s.now + 1) } }

/-- R334: a received frame goes through the filters. -/
def State.canFilters (n : Nat) (f : CanFrame) (esi : Bool) (age : Nat) (s : State) : State :=
  match s.canFilter n f with
  | none => s.inc (CAN_CNT_NOMATCH n)
  | some k =>
    let s := s.canMatched n k
    let act := s.rd (CAN_FCFG_ACT n k)
    if act < 2 then s.canStore n act k f esi age else s

/-- R336: a message timeout is due. -/
def State.canTmoDue (s : State) (n k : Nat) : Bool :=
  let t := s.rd (CAN_FCFG_TMO n k)
  s.on (CAN_FCFG_EN n k) && t != 0 && !s.on (CAN_FCFG_TMOUT n k) &&
  decide (tabGet 0 s.can.match_ (n * 128 + k) + t * 1000000 ≤ s.now + 1)

/-- R336, R381: a message timeout. -/
def State.canTimeout (n k : Nat) (s : State) : State :=
  let s := ((s.wr (CAN_FCFG_TMOUT n k) 1).canFlag n 7).emit 0x0C07 [n, k]
  s.when (s.on (CAN_FCFG_TSUP n k)) (fun s => s.toTocsin.when (bit (s.rd TSV_MPAR9_CF) n) (State.signal (.rowFires 9 0)))

/-- R335: POP. -/
def State.canPop (n q : Nat) (s : State) : State :=
  (s.setCanFifo n q (s.canFifo n q).tail).wr (CAN_RXFSTAT_OVF n q) 0

/-! ## The bus protocol engine (R337–R339). Frame layouts are those of SAE J1939-21 and -81 (assumption log, entry 32). -/

/-- The NAME as 64 bits. -/
def State.canName (s : State) (n : Nat) : Nat := s.rd (CAN_NAMELO_NAME n) + s.rd (CAN_NAMEHI_NAME n) * 2 ^ 32

/-- The identifier of a message: priority, PGN, destination (for a PDU1 format), source. -/
def isoId (prio pgn da sa : Nat) : Nat :=
  let pf := pgn / 256 % 256
  prio * 2 ^ 26 + (if pf < 240 then pgn / 256 * 2 ^ 16 + da * 256 else pgn * 256) + sa

/-- A frame of the bus protocol engine, through buffer 0, one after the other; `fin`: the last one of a message. -/
def State.bpePut (n : Nat) (f : CanFrame) (fin : Bool) (s : State) : State :=
  let b := s.bpe n
  if s.canPend n 0 then s.setBpe n { b with outq := b.outq ++ [(f, fin)] }
  else (s.setBpe n { b with fin := fin }).canRequest n 0 f
def State.bpeSend (n id : Nat) (data : List Nat) (s : State) : State :=
  s.bpePut n { ide := true, id := id, dlc := data.length, data := data } false

/-- R338: an address claim, or cannot-claim from 254. -/
def State.bpeClaimFrame (n sa : Nat) (s : State) : State := s.bpeSend n (isoId 6 0xEE00 255 sa) (leBytes 8 (s.canName n))

/-- R338: the claim of an address begins. -/
def State.bpeClaim (n addr : Nat) (s : State) : State :=
  let s := (s.setBpe n { s.bpe n with at_ := s.now, addr := addr }).wr (CAN_ISOADDR_CSTATE n) 1
  (s.wr (CAN_ISOADDR_ADDR n) 0xFE).bpeClaimFrame n addr

/-- R338: CANNOT. -/
def State.bpeCannot (n : Nat) (s : State) : State :=
  let s := (s.setBpe n { s.bpe n with addr := 0xFE }).wr (CAN_ISOADDR_CSTATE n) 3
  (((s.wr (CAN_ISOADDR_ADDR n) 0xFE).bpeClaimFrame n 0xFE).canFlag n 10).emit 0x0C0A [n]

/-- R338: the claim is lost: a self-configurable NAME tries the next free address from 128 to 247. -/
def State.bpeLose (n : Nat) (s : State) : State :=
  let b := s.bpe n
  let free := (List.range 120).map (· + 128)
  let free := free.filter (fun a => !b.seen.contains a && a != b.addr)
  if s.canName n / 2 ^ 63 = 1 then
    match free.find? (fun a => decide (b.addr < a)) with
    | some a => s.bpeClaim n a
    | none => (match free.head? with | some a => s.bpeClaim n a | none => s.bpeCannot n)
  else s.bpeCannot n

/-- R338: the claim is made again against contention, of which 250 ms must then be free. -/
def State.bpeAgain (n : Nat) (s : State) : State := (s.setBpe n { s.bpe n with at_ := s.now }).bpeClaimFrame n (s.bpe n).addr

/-- R338: an address claim of another node: who has the lower NAME keeps the address. -/
def State.bpeOther (n sa name : Nat) (s : State) : State :=
  let b := s.bpe n
  let s := s.setBpe n { b with seen := if sa < 254 && !b.seen.contains sa then sa :: b.seen else b.seen }
  let c := s.rd (CAN_ISOADDR_CSTATE n)
  if sa = b.addr && (c = 1 || c = 2) then
    if s.canName n < name then s.bpeAgain n else s.bpeLose n
  else s

/-- R338: 250 ms have passed without contention. -/
def State.bpeClaimed (n : Nat) (s : State) : State :=
  let a := (s.bpe n).addr
  (((s.wr (CAN_ISOADDR_CSTATE n) 2).wr (CAN_ISOADDR_ADDR n) a).canFlag n 10).emit 0x0C09 [n, a]

/-- The result of a long message. -/
def State.lmResult (n res reason : Nat) (s : State) : State :=
  (((s.wr (CAN_LMTXS_BUSY n) 0).wr (CAN_LMTXS_RES n) res).wr (CAN_LMTXS_REASON n) reason).canFlag n 8

/-! The frames of the transport protocols (PRESUMED: the layouts of SAE J1939-21; assumption log, entry 32). -/

/-- A frame of connection management to `da`, of TP or ETP, about a PGN: five bytes and the PGN. -/
def State.lmCm (n : Nat) (etp : Bool) (da pgn : Nat) (five : List Nat) (s : State) : State :=
  s.bpeSend n (isoId 7 (if etp then 0xC800 else 0xEC00) da (s.bpe n).addr) (five ++ leBytes 3 pgn)

/-- R339: the abort of a connection. -/
def State.lmAbort (n : Nat) (etp : Bool) (da pgn reason : Nat) (s : State) : State := s.lmCm n etp da pgn [255, reason, 255, 255, 255]

/-- How many packets of seven bytes a length takes. -/
def lmPackets (len : Nat) : Nat := (len + 6) / 7

/-- The frame of packet `p` (from 1 on) of a message, with the sequence number `seq`. -/
def State.lmPacket (s : State) (n : Nat) (o : CanOut) (p seq : Nat) : CanFrame :=
  let b := (o.data.drop (7 * (p - 1))).take 7
  { ide := true, id := isoId 7 (if o.kind = 3 then 0xC700 else 0xEB00) o.da (s.bpe n).addr, dlc := 8,
    data := seq :: (b ++ List.replicate (7 - b.length) 255) }

/-- Packets `from_` … of a message, `k` of them; a broadcast ends with its last packet. -/
def State.lmPacketsOut (n from_ k : Nat) (o : CanOut) (s : State) : State :=
  let k := min k (lmPackets o.data.length + 1 - from_)
  let s := s.when (o.kind = 3) (State.lmCm n true o.da o.pgn (22 :: k :: leBytes 3 (from_ - 1)))
  s.each (List.range k) (fun i s =>
    s.bpePut n (s.lmPacket n o (from_ + i) (if o.kind = 3 then i + 1 else from_ + i)) (o.kind = 1 && from_ + i = lmPackets o.data.length))

/-- R339: a long message begins: a single frame, BAM with its packets, or a request to send. The spacing of a broadcast's packets is left out
(assumption log, entry 100). -/
def State.lmBegin (n : Nat) (o : CanOut) (s : State) : State :=
  let len := o.data.length
  let tp (c : Nat) : List Nat := c :: (leBytes 2 len ++ [lmPackets len, 255])
  match o.kind with
  | 0 =>
    s.bpePut n { ide := true, id := isoId (s.rd (CAN_LMTXC_PRIO n)) o.pgn o.da (s.bpe n).addr, dlc := len, data := o.data } true
  | 1 => (s.lmCm n false 255 o.pgn (tp 32)).lmPacketsOut n 1 (lmPackets len) o
  | 2 => s.lmCm n false o.da o.pgn (tp 16)
  | _ => s.lmCm n true o.da o.pgn (20 :: leBytes 4 len)

/-- R339: LMTXGO: the length decides the transport. -/
def State.lmSubmit (n : Nat) (s : State) : State :=
  let len := s.rd (CAN_LMTXL_LEN n); let da := s.rd (CAN_LMTXC_DA n)
  if s.on (CAN_LMTXS_BUSY n) then s.wr (CAN_LMTXS_RES n) 4
  else if s.rd (CAN_ISOADDR_CSTATE n) != 2 then (s.wr (CAN_LMTXS_RES n) 2).wr (CAN_LMTXS_REASON n) 0
  else if len = 0 || decide (65520 < len) || (decide (1785 < len) && da = 255) then
    (s.wr (CAN_LMTXS_RES n) 3).wr (CAN_LMTXS_REASON n) 0
  else
    let o : CanOut := ⟨if len ≤ 8 then 0 else if 1785 < len then 3 else if da = 255 then 1 else 2, s.rd (CAN_LMTXC_PGN n), da,
                       s.ldBytes (s.rd (CAN_LMTXA_ADDR n)) len⟩
    ((s.wr (CAN_LMTXS_BUSY n) 1).setBpe n { s.bpe n with out := some o }).lmBegin n o

/-- A frame that carries a packet to `da`. -/
def lmIsPacket (da : Nat) (f : CanFrame) : Bool := (f.id / 65536 % 256 = 0xEB || f.id / 65536 % 256 = 0xC7) && f.id / 256 % 256 = da

/-- R361: a response of the dictionary goes to `da` as a message of proprietary A, PGN 0xEF00. It is longer than a single frame: by TP. -/
def State.canDictOut (n da : Nat) (b : List Nat) (s : State) : State :=
  let o : CanOut := ⟨2, 0xEF00, da, b⟩
  s.when (decide (n < 6) && s.blockOn 0x0C && s.on (CAN_CTL_ISOEN n) && s.rd (CAN_ISOADDR_CSTATE n) = 2) (fun s =>
    (s.setBpe n { s.bpe n with dict := (s.bpe n).dict.filter (fun x => x.da != da) ++ [o] }).lmBegin n o)

/-- R361: a message of proprietary A to the module's address is the dictionary's, where the controller's bit of DICTCAN is set. -/
def State.canDictIn (s : State) (n : Nat) (x : CanSess) : Bool :=
  x.pgn = 0xEF00 && !x.bam && x.da = (s.bpe n).addr && bit (s.param 0x01200005 3) n

/-- R361, R339: a frame of connection management for a response of the dictionary. -/
def State.canDictCm (n : Nat) (o : CanOut) (d : List Nat) (s : State) : State :=
  let gone (s : State) : State := s.setBpe n { s.bpe n with dict := (s.bpe n).dict.filter (fun x => x != o) }
  match d.headD 0 with
  | 17 => s.lmPacketsOut n (max 1 (d.getD 2 1)) (d.getD 1 0) o
  | 19 => gone s
  | 255 => (gone s).emit 0x0C0B [n, o.pgn, d.getD 1 0, 1]
  | _ => s

/-- R339: the end of the outbound session; an abort is reported with the PGN of its submission, and its packets are not sent. -/
def State.lmEnd (n : Nat) (done : Bool) (reason : Nat) (s : State) : State :=
  let b := s.bpe n
  let pgn := match b.out with | some o => o.pgn | none => s.rd (CAN_LMTXC_PGN n)
  let da := match b.out with | some o => o.da | none => s.rd (CAN_LMTXC_DA n)
  let s := s.setBpe n { b with out := none, fin := false, outq := if done then b.outq else b.outq.filter (fun e => !lmIsPacket da e.1 && !e.2) }
  if done then s.lmResult n 0 0
  else (s.lmResult n 1 reason).emit 0x0C0B [n, pgn, reason, 1]

/-- R339: the bus protocol engine ends the outbound session; a connection that it gives up is aborted at the peer. -/
def State.lmStop (n : Nat) (done : Bool) (reason : Nat) (s : State) : State :=
  match (s.bpe n).out with
  | some o => (s.lmEnd n done reason).when (!done && decide (2 ≤ o.kind)) (State.lmAbort n (o.kind = 3) o.da o.pgn reason)
  | none => s.lmEnd n done reason

/-- A frame of the bus protocol engine has been sent: the last one of a message ends it; the next frame that waits follows. -/
def State.bpeSent (n : Nat) (s : State) : State :=
  let s := if (s.bpe n).fin then s.lmEnd n true 0 else s
  match (s.bpe n).outq with
  | [] => s
  | e :: q => if s.canPend n 0 then s else (s.setBpe n { s.bpe n with outq := q }).bpePut n e.1 e.2

/-- Unread slots of the inbound ring. -/
def State.lmUnread (s : State) (n : Nat) : Nat := (s.rd (CAN_LMRXWR_IDX n) + 32 - s.rd (CAN_LMRXRD_IDX n)) % 32

def State.lmDrop (n sa da : Nat) (s : State) : State :=
  s.setBpe n { s.bpe n with sess := (s.bpe n).sess.filter (fun x => !(x.sa = sa && x.da = da)) }

/-- R339: the end of a message is acknowledged to its sender. -/
def State.lmEom (n : Nat) (x : CanSess) (s : State) : State :=
  s.when (!x.bam) (State.lmCm n x.etp x.sa x.pgn
    (if x.etp then 23 :: leBytes 4 x.len else 19 :: (leBytes 2 x.len ++ [lmPackets x.len, 255])))

/-- R339, Table 12.3: a complete message into the ring; a full ring aborts a connection with reason 2. -/
def State.lmStore (n : Nat) (x : CanSess) (data : List Nat) (s : State) : State :=
  let s := s.lmDrop n x.sa x.da
  if 16 ≤ s.lmUnread n then (if x.bam then s else (s.emit 0x0C0B [n, x.pgn, 2, 0]).lmAbort n x.etp x.sa x.pgn 2)
  else
    let s := s.lmEom n x
    let w := s.rd (CAN_LMRXWR_IDX n)
    let a := s.rd (CAN_LMRXB_BASE n) * 65536 + (w % 16) * 65536
    let s := s.stWords a [x.sa * 2 ^ 24 + x.da * 2 ^ 16, x.pgn, data.length, s.now % 2 ^ 32]
    ((s.stBytes (a + 16) data).wr (CAN_LMRXWR_IDX n) (w + 1)).canFlag n 9

/-- R337 (Table 12.2): a commanded address, PGN 65240: the NAME that it names claims the new address (PRESUMED: the layout of J1939-81;
assumption log, entry 32). -/
def State.bpeCommanded (n pgn : Nat) (data : List Nat) (s : State) : State :=
  s.when (pgn = 0xFED8 && data.length = 9 && data.take 8 = leBytes 8 (s.canName n) && decide (data.getD 8 0 < 254))
    (State.bpeClaim n (data.getD 8 0))

/-- A session replaced. -/
def State.lmSet (n : Nat) (x : CanSess) (s : State) : State :=
  s.setBpe n { s.bpe n with sess := (s.bpe n).sess.map (fun y => if y.sa = x.sa && y.da = x.da then x else y) }

/-- The sender of a connection is cleared to send the next packets. -/
def State.lmClear (n : Nat) (x : CanSess) (s : State) : State :=
  let k := min x.max (lmPackets x.len - x.got)
  (s.lmSet n { x with upTo := x.got + k }).lmCm n x.etp x.sa x.pgn
    (if x.etp then 21 :: k :: leBytes 3 (x.got + 1) else [17, k, x.got + 1, 255, 255])

/-- R339: a connection is refused or given up. -/
def State.lmRefuse (n : Nat) (x : CanSess) (reason : Nat) (s : State) : State :=
  (s.emit 0x0C0B [n, x.pgn, reason, 0]).lmAbort n x.etp x.sa x.pgn reason

/-- R339: a peer opens a connection or a broadcast; a newer one of the same peer takes the place of the old. -/
def State.lmOpen (n : Nat) (x : CanSess) (s : State) : State :=
  let s := s.lmDrop n x.sa x.da
  let same := (s.bpe n).sess.filter (fun y => y.bam = x.bam)
  if x.da != 255 && !(s.rd (CAN_ISOADDR_CSTATE n) = 2 && x.da = (s.bpe n).addr) then s
  else if !x.bam && decide (4 ≤ same.length) then s.lmRefuse n x 1
  else if !x.bam && (decide (65520 < x.len) || (decide (16 ≤ s.lmUnread n) && !s.canDictIn n x)) then s.lmRefuse n x 2
  else if 4 ≤ same.length then s
  else
    let t := s.setBpe n { s.bpe n with sess := (s.bpe n).sess ++ [x] }
    if x.bam then t else t.lmClear n x

/-- R339, R361: a message is complete: it goes to the ring, or to the dictionary. -/
def State.lmWhole (n : Nat) (x : CanSess) (data : List Nat) (s : State) : State :=
  if s.canDictIn n x then ((s.lmDrop n x.sa x.da).lmEom n x).signal (.canDict n x.sa (data.take x.len))
  else (s.lmStore n x (data.take x.len)).bpeCommanded n x.pgn (data.take x.len)

/-- R339: what happens on an inbound session. A connection that has timed out (reason 3) is aborted at the peer. -/
def State.lmRx (n : Nat) (m : CanLong) (s : State) : State :=
  match m with
  | .opens sa da pgn len bam => s.lmOpen n { sa := sa, da := da, pgn := pgn, len := len, bam := bam, etp := !bam && decide (1785 < len) }
  | .complete sa da data =>
    match (s.bpe n).sess.find? (fun x => x.sa = sa && x.da = da) with
    | some x => s.lmWhole n x data
    | none => s
  | .aborted sa da reason =>
    match (s.bpe n).sess.find? (fun x => x.sa = sa && x.da = da) with
    | some x =>
      if x.bam then s.lmDrop n sa da
      else if reason = 3 then (s.lmDrop n sa da).lmRefuse n x 3
      else (s.lmDrop n sa da).emit 0x0C0B [n, x.pgn, reason, 0]
    | none => s

/-- R339: a packet of an inbound session. One that is missing ends a connection with reason 7 and a broadcast. -/
def State.lmData (n sa da : Nat) (etp : Bool) (f : CanFrame) (s : State) : State :=
  match (s.bpe n).sess.find? (fun x => x.sa = sa && x.da = da && x.etp = etp) with
  | none => s
  | some x =>
    let p := x.base + f.data.headD 0
    if p ≤ x.got then s
    else if p != x.got + 1 then (s.lmDrop n sa da).when (!x.bam) (State.lmRefuse n x 7)
    else
      let y := { x with got := p, data := x.data ++ (f.data.drop 1).take 7 }
      let t := s.lmSet n y
      if lmPackets x.len ≤ p then t.lmWhole n y y.data
      else if !x.bam && p = x.upTo then t.lmClear n y
      else t

/-- R339: a connection-management frame: for the outbound session, or an inbound one. -/
def State.lmCmRx (n sa da : Nat) (etp : Bool) (f : CanFrame) (s : State) : State :=
  let d := f.data
  let pgn := leNat ((d.drop 5).take 3)
  let mine (o : CanOut) : Bool := o.da = sa && o.pgn = pgn && o.kind = (if etp then 3 else 2)
  let c := d.headD 0
  if (c = 16 && !etp) || (c = 20 && etp) then
    s.lmOpen n { sa := sa, da := da, pgn := pgn, len := leNat ((d.drop 1).take (if etp then 4 else 2)), bam := false, etp := etp,
                 max := if etp then 255 else max 1 (d.getD 4 255) }
  else if c = 32 && !etp && da = 255 then
    s.lmOpen n { sa := sa, da := da, pgn := pgn, len := leNat ((d.drop 1).take 2), bam := true }
  else if c = 22 && etp then
    match (s.bpe n).sess.find? (fun x => x.sa = sa && x.da = da && x.etp) with
    | some x => s.lmSet n { x with base := leNat ((d.drop 2).take 3) }
    | none => s
  else
    match (s.bpe n).dict.find? (fun o => mine o && da = (s.bpe n).addr) with
    | some o => s.canDictCm n o d
    | none =>
    match (s.bpe n).out with
    | some o =>
      if !mine o || da != (s.bpe n).addr then s
      else if (c = 17 && !etp) || (c = 21 && etp) then
        s.lmPacketsOut n (max 1 (if etp then leNat ((d.drop 2).take 3) else d.getD 2 1)) (d.getD 1 0) o
      else if (c = 19 && !etp) || (c = 23 && etp) then s.lmEnd n true 0
      else if c = 255 then s.lmEnd n false (d.getD 1 0)
      else s
    | none => s

/-- R337, R339: the frames of the transport protocols; an abort may also end an inbound session. -/
def State.lmFrame (n : Nat) (f : CanFrame) (s : State) : State :=
  let pf := f.id / 65536 % 256; let da := f.id / 256 % 256; let sa := f.id % 256
  let etp := pf = 0xC8 || pf = 0xC7
  if pf = 0xEB || pf = 0xC7 then s.lmData n sa da etp f
  else if pf = 0xEC || pf = 0xC8 then
    let inb := (s.bpe n).sess.any (fun x => x.sa = sa && x.da = da && x.etp = etp && !x.bam && x.pgn = leNat ((f.data.drop 5).take 3))
    if f.data.headD 0 = 255 && inb then s.lmRx n (.aborted sa da (f.data.getD 1 0)) else s.lmCmRx n sa da etp f
  else s

/-- R337–R339: the frames that the bus protocol engine takes: address claims, requests for address claimed, those of the transport
protocols. -/
def State.bpeFrame (n : Nat) (f : CanFrame) (s : State) : State :=
  let pgn := f.id / 256 % 2 ^ 18
  let pf := pgn / 256 % 256; let ps := pgn % 256
  if !s.on (CAN_CTL_ISOEN n) || !f.ide || s.rd (CAN_ISOADDR_CSTATE n) = 0 then s
  else if pf = 0xEE then s.bpeOther n (f.id % 256) (leNat (f.data.take 8))
  else if pf = 0xEA && (ps = 255 || ps = (s.bpe n).addr) && leNat (f.data.take 3) = 0xEE00 then
    s.bpeClaimFrame n (s.bpe n).addr
  else s.lmFrame n f

/-! ## Frames of CEN and SEC -/

/-- R167: a frame of drive message `d` handed to buffer 2 of its controller. -/
def State.canDrive (d : Nat) (u : Int) (s : State) : State :=
  let n := s.rd (CEN_DMFMT_CF d)
  let fd := s.on (CEN_DMID_FDF d)
  let f : CanFrame := { ide := s.on (CEN_DMID_IDE d), fdf := fd, brs := fd && s.on (CAN_CTL_BRSEN n), id := s.rd (CEN_DMID_ID d),
                        dlc := s.rd (CEN_DMFMT_DLC d), data := s.cenFrame d u }
  let repl := s.canWaits n 2
  let s := (s.canRequest n 2 f).inc (CEN_DMSTAT_SENT d)
  if repl then ((s.inc (CEN_DMSTAT_REPL d)).setFlag CEN_INTSTAT_DMREPL).emitSec 0x040C 0 (fun k => [d, k]) else s

/-- The 64 bytes of the section image (R196). -/
def State.secBytes (s : State) : List Nat := (List.range 16).flatMap (fun w => wordBytes (s.rd (SEC_IMAGE_BITS w)))

/-- A frame of the section image has replaced one not yet sent (R196). -/
def State.secReplaced (s : State) : State := (s.setFlag SEC_INTSTAT_IMGERR).emitSec 0x0909 0 (fun k => [k])

/-- R196: an image frame to buffer 1. -/
def State.canImageFrame (n : Nat) (f : CanFrame) (s : State) : State :=
  (s.canRequest n 1 f).when (s.canWaits n 1) State.secReplaced

/-- R196: a part of the classic image: it replaces the same part where that is not yet sent (held as the replacement where that is frozen,
R329), and else follows the parts that are. -/
def State.canImagePart (n j : Nat) (f : CanFrame) (s : State) : State :=
  let q := tabGet [] s.can.parts n
  let put (q : List (Nat × CanFrame)) : State := { s with can := { s.can with parts := tabSet [] s.can.parts n q } }
  if q.any (·.1 = j) then (put (q.map (fun e => if e.1 = j then (j, f) else e))).secReplaced
  else if !s.canPend n 1 then s.canRequest n 1 f
  else if (s.canBuf n 1).copy.id = f.id then s.canImageFrame n f
  else put (q ++ [(j, f)])

/-- R196: the section image on CAN: one FD frame, or a classic frame for each part that changed, one after the other. -/
def State.canImage (parts : Nat) (s : State) : State :=
  let n := s.rd SEC_IMGCFG_CF
  let ide := s.on SEC_IMGID_IDE
  let id (j : Nat) : Nat := (s.rd SEC_IMGID_ID + j) % (if ide then 2 ^ 29 else 2 ^ 11)
  let all := s.secBytes
  if s.rd SEC_IMGCFG_IMGBUS = 1 then
    s.canImageFrame n { ide := ide, fdf := true, brs := s.on (CAN_CTL_BRSEN n), id := id 0, dlc := 15, data := all }
  else
    s.each ((List.range 8).filter (bit parts)) (fun j s =>
      s.canImagePart n j { ide := ide, id := id j, dlc := 8, data := (all.drop (8 * j)).take 8 })

/-! ## Commits, reset, fence -/

/-- R352: a change of EN, bit timing, FDEN or ISOEN takes the node off the bus. -/
def State.canOffBus (n : Nat) (s : State) : State :=
  let s := s.each (List.range 3) (fun b s =>
    if s.canPend n b then (((s.setCanBuf n b {}).wr (CAN_TXSTAT_PEND n b) 0).wr (CAN_TXSTAT_FROZEN n b) 0).wr (CAN_TXSTAT_RES n b) 2
    else s)
  let s := (s.wr (CAN_STAT_TEC n) 0).wr (CAN_STAT_REC n) 0
  let s := { s with can := { s.can with acks := tabSet 0 s.can.acks n 0, parts := tabSet [] s.can.parts n [] } }
  let s := { s with can := { s.can with integ := tabSet 0 s.can.integ n (s.now + s.canEleven n) } }.setBpe n { s.bpe n with outq := [], fin := false }
  s.when (s.canEst n != 0) (fun s => ((s.wr (CAN_STAT_ESTATE n) 0).canFlag n 4).emit 0x0C02 [n, 0, 0])

/-- R338, R352: the ISO group has applied, or ISOEN has changed: the claim starts anew. -/
def State.canIsoApplied (n : Nat) (s : State) : State :=
  if s.on (CAN_CTL_ISOEN n) && s.on (CAN_CTL_EN n) then s.bpeClaim n (s.rd (CAN_ISOADDR_PREF n))
  else ((s.setBpe n {}).wr (CAN_ISOADDR_CSTATE n) 0).wr (CAN_ISOADDR_ADDR n) 0xFE

/-- What of a controller's group decides whether its apply takes the node off the bus. -/
def State.canKey (s : State) (n : Nat) : List Nat :=
  [CAN_CTL_EN n, CAN_CTL_FDEN n, CAN_CTL_ISOEN n, CAN_NBT_BRP n, CAN_NBT_TSEG1 n, CAN_NBT_TSEG2 n, CAN_NBT_SJW n,
   CAN_DBT_TDCEN n, CAN_DBT_TDCO n, CAN_DBT_BRP n, CAN_DBT_TSEG1 n, CAN_DBT_TSEG2 n, CAN_DBT_SJW n].map s.rd

/-- The group of a controller has applied; `old` is canKey before. -/
def State.canCtlApplied (n : Nat) (old : List Nat) (s : State) : State :=
  if s.canKey n = old then (s.canIdle n).canAuto n
  else
    let t := s.canOffBus n
    let t := t.canIdle n
    t.when (old.getD 0 0 != t.rd (CAN_CTL_EN n) || old.getD 2 0 != t.rd (CAN_CTL_ISOEN n)) (State.canIsoApplied n)

/-- A filter's group has applied: its supervision starts (R336). -/
def State.canFilterApplied (n k : Nat) (s : State) : State := s.canMatched n k

/-- R354. -/
def State.canReset (s : State) : State := { s with can := {} }

/-- R355: a fence: restricted operation once the frozen frame is complete. For EV 0x0C0D the spec names no controller: a free
value. -/
def State.canFence (s : State) : State :=
  let s := s.each (List.range 6) (fun n s => s.canIdle n)
  let r := s.takeFree 3
  r.2.emit 0x0C0D [r.1]

/-- R355: the fence is lifted. -/
def State.canLifted (s : State) : State := s.each (List.range 6) (fun n s => s.canIdle n)

/-! ## What the host reads -/

/-- The words of a FIFO's head frame: RXH, RXI, RXTL, RXTH, and data word `w` from 4 on. -/
def State.canHead (s : State) (n q i : Nat) : Nat :=
  match s.canFifo n q with
  | [] => 0
  | x :: _ =>
    let f := x.frame
    match i with
    | 0 => b2n f.ide * 2 ^ 31 + b2n f.fdf * 2 ^ 30 + b2n f.rtr * 2 ^ 29 + f.id
    | 1 => b2n x.valid * 2 ^ 31 + b2n f.brs * 2 ^ 30 + b2n x.esi * 2 ^ 29 + f.dlc * 2 ^ 25 + x.estate * 2 ^ 23 + x.filter * 2 ^ 16
    | 2 => x.ts % 2 ^ 32
    | 3 => x.ts / 2 ^ 32
    | i => leNat ((f.data.drop (4 * (i - 4))).take 4)

end Sys2Proof.Machine
end

