-- ==== Sys2Proof/Machine/Dict.lean ====
section
/-!
DEFINITION. The parameter dictionary's list (spec/13_parameter_dictionary_and_store.md, R358, and the parameter rules of the
block chapters): every parameter with its fields, its consistency group and its properties.

Types follow from the widths and the meanings of the fields; rights and PERSIST, which the spec leaves to Bodirok, are the
model's (assumption log, entry 33).
-/
namespace Sys2Proof.Machine

/-- What a parameter is: register fields; a blob of bytes up to a size; a number of its own with its range and factory default;
a write-only command; a role key; a page of the event log. -/
inductive PKind where
  | flds (l : List Fld)
  | blob (max : Nat) (words : Bool)
  | num (size lo hi dflt : Nat)
  | cmd
  | key (role : Nat)
  | page (n : Nat)
deriving DecidableEq, Repr

/-- A parameter (Table 13.1): its item, its type (Table 13.2), what it is, its group; the lowest roles that read and write
it, 4 where none does; STAGED, STANDSTILL, PERSIST. -/
structure PDef where
  item : Nat
  typ  : Nat
  kind : PKind
  grp  : Option Grp := none
  rd   : Nat := 0
  wr   : Nat := 2
  still : Bool := false
  keep : Bool := true
deriving DecidableEq, Repr

/-- The unsigned type of a width: BOOL, U8, U16, U32. -/
def typU (w : Nat) : Nat := if w = 1 then 0 else if w ≤ 8 then 1 else if w ≤ 16 then 3 else 5

/-- The signed type of a width: S8, S16, S32. -/
def typS (w : Nat) : Nat := if w ≤ 8 then 2 else if w ≤ 16 then 4 else 6

/-- A parameter of one field, unsigned, signed, or in Q16.16. -/
def pu (g : Grp) (f : Fld) (i : Nat) : PDef := { item := i, typ := typU f.wid, kind := .flds [f], grp := some g }
def ps (g : Grp) (f : Fld) (i : Nat) : PDef := { item := i, typ := typS f.wid, kind := .flds [f], grp := some g }
def pq (g : Grp) (f : Fld) (i : Nat) : PDef := { item := i, typ := 9, kind := .flds [f], grp := some g }

/-- A parameter of several fields, packed as in their registers. -/
def pf (g : Grp) (l : List Fld) (i : Nat) : PDef := { item := i, typ := 11, kind := .flds l, grp := some g }

/-- A LIVE parameter of one RW field. -/
def pl (f : Fld) (i : Nat) : PDef := { item := i, typ := typU f.wid, kind := .flds [f] }

/-- A double-banked table, with its largest size in bytes. -/
def pt (g : Grp) (max : Nat) (i : Nat) : PDef := { item := i, typ := 12, kind := .blob max true, grp := some g }

/-- A number of PDS or EVR that is no register field. -/
def pn (size lo hi dflt : Nat) (i : Nat) : PDef :=
  { item := i, typ := if size = 1 then 1 else if size = 2 then 3 else 5, kind := .num size lo hi dflt }

/-- The parameter with STANDSTILL; for a lower or a higher writing role. -/
def PDef.atRest (p : PDef) : PDef := { p with still := true }
def PDef.by_ (r : Nat) (p : PDef) : PDef := { p with wr := r }

/-- Parameters at consecutive items. -/
def items (start : Nat) (l : List (Nat → PDef)) : List PDef := (l.zip (List.range l.length)).map (fun e => e.1 (start + e.2))

/-- One field each, unsigned, at consecutive items. -/
def itemsU (g : Grp) (start : Nat) (l : List Fld) : List PDef := items start (l.map (pu g))

/-! ## The parameters of each block -/

/-- R2, R434, R524. -/
def dictSys (ii : Nat) : List PDef :=
  if ii != 0 then [] else
  [{ item := 1, typ := 5, kind := .flds [SYS_IDENT_PART, SYS_IDENT_GRADE, SYS_IDENT_HWMAJ, SYS_IDENT_HWMIN], wr := 4, keep := false }] ++
  itemsU .power 0x10 [SYS_PWRCFG_RUNON, SYS_PWRCFG_STBY, SYS_PWRCFG_STOREOFF, SYS_RTCALM_ALARM] ++
  (itemsU .io 0x20 [SYS_TBIMODE_MODE, SYS_DIFILT0_FILT, SYS_DIFILT1_FILT, SYS_DIPULL_PULL, SYS_AINMODE_RANGE]).map PDef.atRest

/-- Table 14.5: the parameters of a row. -/
def tsvPar (m : Nat) : List Fld :=
  match m with
  | 5 => [TSV_MPAR5_SSOB, TSV_MPAR5_SSOA]
  | 6 => [TSV_MPAR6_FCA, TSV_MPAR6_FCB, TSV_MPAR6_TOL, TSV_MPAR6_TIME]
  | 7 => [TSV_MPAR7_SUSP, TSV_MPAR7_BASES]
  | 8 => [TSV_MPAR8_GSBASE, TSV_MPAR8_GSREF, TSV_MPAR8_GSTOL, TSV_MPAR8_PROPFC, TSV_MPAR8_UMOT]
  | 9 => [TSV_MPAR9_CF]
  | _ => []

/-- R403. -/
def dictTsv (ii : Nat) : List PDef :=
  let l :=
    if ii = 0 then itemsU .tsvWd 1 [TSV_WDCFG_WDEN, TSV_WDCFG_WDACT, TSV_WDCFG_WMAX, TSV_WDCFG_WMIN] ++
      [{ item := 0xF0, typ := 5, kind := .cmd, rd := 4, wr := 1, keep := false },
       { item := 0xF1, typ := 5, kind := .cmd, rd := 4, wr := 1, keep := false }]
    else if 0x10 ≤ ii ∧ ii ≤ 0x1A then
      let m := ii - 0x10
      ([pf (.tsvRow m) [TSV_MCFG_EN m, TSV_MCFG_ALLGRP m, TSV_MCFG_SHUT m] 1, pu (.tsvRow m) (TSV_MCFG_GRP m) 2].map
        (fun p => if m ≤ 2 then p.by_ 4 else p)) ++
      (if m = 2 then [{ pu (.tsvRow m) TSV_MPAR2_CEMAX 3 with wr := 3 }]
       else if tsvPar m = [] then [] else [pf (.tsvRow m) (tsvPar m) 3])
    else if 0x20 ≤ ii ∧ ii ≤ 0x27 then
      let g := ii - 0x20
      itemsU (.tsvGrp g) 1 [TSV_SGLSLO_LS g, TSV_SGLSHI_LS g, TSV_SGSV_SV g, TSV_SGORP_ORPHT g]
    else []
  l.map PDef.atRest

/-- R84. -/
def dictCar (ii : Nat) : List PDef :=
  if ii != 0 then [] else itemsU .quota 1 ((List.range 5).map CAR_QUOTA_QUOTA) ++ [pl CAR_RETTHR_THR 6]

/-- Table 2.3. -/
def dictTbs (n : Nat) : List PDef :=
  if 8 ≤ n then [] else
  let s := Grp.tbStruct n; let l := Grp.tbLimits n
  items 1 [pu s (TBS_CFG_SRC n), pu s (TBS_CFG_KIND n), pu s (TBS_CFG_ESTW n), pu s (TBS_CFG_DIRSRC n), pu s (TBS_CFG_HYST n),
    pu s (TBS_CFG_INA n), pu s (TBS_CFG_INB n), pf s [TBS_CFG_INZ n, TBS_CFG_ZEN n], pf s [TBS_CFG_EDGE n, TBS_CFG_MULT n],
    pf s [TBS_TEETH_PULSES n, TBS_TEETH_MISS n], pu s (TBS_TEETH_GAPR n), pu s (TBS_TEETH_FILT n), pu s (TBS_SCALE_SCALE n),
    pu l (TBS_LIM_AMAX n), pu l (TBS_LIM_LOSSMARG n), pu l (TBS_LIM_STILLTO n), pu l (TBS_VMAX_VMAX n),
    pf l [TBS_PLAUS_PEN n, TBS_PLAUS_REF n, TBS_PLAUS_BLEND n, TBS_PLAUS_FAILOVER n], pu l (TBS_PLAUS_TOL n),
    pu l (TBS_PLAUS_TRIMLIM n), pu l (TBS_RATIO_RATIO n), pu s (TBS_IDXOFS_IDXOFS n)]

/-- Table 6.10: a slot, a function channel, a drive message. -/
def dictSlot (n : Nat) : List PDef :=
  let g := Grp.slot n
  items 1 [pu g (CEN_LCTL_TRIG n), pu g (CEN_LCTL_PRIO n), pu g (CEN_LCTL_TRACE n),
    pf g [CEN_LCTL_FFEN n, CEN_LCTL_FRICEN n, CEN_LCTL_COGEN n, CEN_LCTL_RLEN n], pu g (CEN_LCTL_BLESS n),
    pu g (CEN_LCTL_FRICSGN n), pf g [CEN_LCTL_CASCEN n, CEN_LCTL_INNER n], pf g [CEN_LCTL_IDXSRC n, CEN_LCTL_IDXSH n],
    pu g (CEN_LCTL_FBTC n), pu g (CEN_LFB_FBSRC n), pu g (CEN_LFB_DTC n), pq g (CEN_LFBG_FBGAIN n), ps g (CEN_LFBO_FBOFS n),
    pq g (CEN_LKP_KP n), pq g (CEN_LKI_KI n), pq g (CEN_LKD_KD n), pq g (CEN_LKFF_KFF n), pq g (CEN_LFFO_FFO n),
    pq g (CEN_LUMAX_UMAX n), pq g (CEN_LUMIN_UMIN n), pf g [CEN_LSHP_RATE n, CEN_LSHP_DB n],
    pf g [CEN_LTIM_PERIOD n, CEN_LTIM_OFS n], pu g (CEN_LSUP_STO n), pf g [CEN_LSUP_LATMAX n, CEN_LSUP_DTMAX n]] ++
  [pt g 4096 0x100, pt g 4096 0x101]

def dictChan (k : Nat) : List PDef :=
  let g := Grp.chan k
  items 1 [pu g (CEN_FCFG_APATH k), pu g (CEN_FCFG_OUTA k), pu g (CEN_FCFG_OUTB k), pu g (CEN_FCFG_LOOP k),
    pu g (CEN_FCFG_FAILACT k), fun i => (pu g (CEN_FCFG_PWM k) i).atRest, pq g (CEN_FSPMAX_SPMAX k), pq g (CEN_FSPMIN_SPMIN k),
    pu g (CEN_FSPRATE_SPRATE k), pq g (CEN_FSAFE_SAFEU k),
    pf g [CEN_FIL0_SRCA k, CEN_FIL0_POLA k, CEN_FIL0_ACTA k, CEN_FIL0_LATCHA k, CEN_FIL0_SRCB k, CEN_FIL0_POLB k,
      CEN_FIL0_ACTB k, CEN_FIL0_LATCHB k, CEN_FIL1_SRCA k, CEN_FIL1_POLA k, CEN_FIL1_ACTA k, CEN_FIL1_LATCHA k,
      CEN_FIL1_SRCB k, CEN_FIL1_POLB k, CEN_FIL1_ACTB k, CEN_FIL1_LATCHB k]]

def dictDrive (d : Nat) : List PDef :=
  let g := Grp.drive d
  items 1 [pf g [CEN_DMID_IDE d, CEN_DMID_FDF d, CEN_DMID_ID d],
    pf g [CEN_DMFMT_CF d, CEN_DMFMT_DLC d, CEN_DMFMT_BOFS d, CEN_DMFMT_WIDTH d, CEN_DMFMT_BE d, CEN_DMFMT_FILL d],
    pq g (CEN_DMSCL_SCL d)]

def dictCen (ii : Nat) : List PDef :=
  if ii < 0x60 then dictSlot ii else if ii < 0x90 then dictChan (ii - 0x60) else if ii < 0x98 then dictDrive (ii - 0x90) else []

/-- Table 4.11: the parameters of HSN. -/
def dictHsn (ii : Nat) : List PDef :=
  if ii = 0 then
    itemsU .hsnCtl 1 [HSN_CTL_RBASE, HSN_CTL_DBASE, HSN_CTL_RECEN, HSN_CTL_MOIEN, HSN_CTL_LOSSEN, HSN_CTL_YLDEN] ++
    [pu .hsnRec HSN_RCFG_PERIOD 0x10, (pu .hsnRec HSN_CROP_CROP 0x11).by_ 0,
     { item := 0x12, typ := typS HSN_TARE_TARE.wid, kind := .flds [HSN_TARE_TARE], wr := 1 },
     (pu .hsnMoi HSN_MOICFG_CEMPTY 0x20).by_ 1, (pu .hsnMoi HSN_MOICFG_FILLMIN 0x21).by_ 1,
     pu .hsnLoss HSN_NLCFG_MODE 0x30, pu .hsnLoss HSN_NLCFG_LRATE 0x31,
     pf .hsnLoss [HSN_NBAND_B3, HSN_NBAND_B2, HSN_NBAND_B1] 0x32, pt .hsnNoise 32768 0x300]
  else if 0x10 ≤ ii ∧ ii < 0x18 then
    let c := ii - 0x10
    itemsU .hsnLoss 1 [HSN_LCFG_EN c, HSN_LCFG_HPF c, HSN_LCFG_ENVTC c, HSN_LCFG_PGA c, HSN_LDET_THR c, HSN_LDET_KSIG c, HSN_LDET_HOLD c]
  else if 0x20 ≤ ii ∧ ii < 0x30 then
    let n := ii - 0x20
    itemsU (.hsnWin n) 1 [HSN_WCFG_BASE n, HSN_WCFG_FUNC n, HSN_WCFG_CHMASK n, HSN_WCFG_MAXLEN n]
  else if 0x40 ≤ ii ∧ ii < 0x48 then
    let p := ii - 0x40
    let g := Grp.hsnCrop p
    (items 1 [pu g (HSN_PDLY_TDLY p), pu g (HSN_PDLY_NPTS p), pu g (HSN_PMSTD_MSTD p), ps g (HSN_PMA0_COEF p),
      ps g (HSN_PMA1_COEF p), ps g (HSN_PMA2_COEF p), ps g (HSN_PMKT_COEF p)] ++
    itemsU g 0x10 ((List.range 8).flatMap (fun k => [HSN_PCI_VAL p k, HSN_PCM_VAL p k]))).map (PDef.by_ 1)
  else []

/-- The parameters of VIS: a port, a context. -/
def dictVis (ii : Nat) : List PDef :=
  if ii < 3 then
    let f := Grp.visFmt ii; let m := Grp.visMem ii
    items 1 [pu f (VIS_PFMT_EN ii), pu f (VIS_PFMT_BPP ii), pu f (VIS_PFMT_CFA ii), pu f (VIS_PFMT_PCLKE ii),
      pf f [VIS_PFMT_VSPOL ii, VIS_PFMT_HSPOL ii, VIS_PFMT_DEPOL ii], pu f (VIS_PFMT_DESRC ii), pu f (VIS_PSIZE_W ii),
      pu f (VIS_PSIZE_H ii), pu f (VIS_PTRIG_TMODE ii), pu f (VIS_PTRIG_TRIGPOL ii), pu f (VIS_PTRIG_TRIGWIN ii),
      pu f (VIS_PTRIG_FTO ii)] ++
    itemsU m 0x10 [VIS_PBUF_BASE ii, VIS_PBUF_NBUF ii, VIS_PSTR_BSTRIDE ii]
  else if 0x10 ≤ ii ∧ ii < 0x14 then
    let c := ii - 0x10
    let g := Grp.visCtx c
    itemsU g 1 [VIS_CCTL_ANA c, VIS_CCTL_IMGOUT c, VIS_CCTL_FRACBY c, VIS_CCTL_EDGEX c, VIS_CCTL_DYNDPC c, VIS_CCTL_STDPC c,
      VIS_CCTL_SCLX c, VIS_CCTL_SCLY c] ++
    itemsU g 0x10 [VIS_CBLK0_BLK0 c, VIS_CBLK0_BLK1 c, VIS_CBLK1_BLK2 c, VIS_CBLK1_BLK3 c, VIS_CDPC_DPTHR c, VIS_CWB0_GR c,
      VIS_CWB0_GG c, VIS_CWB1_GB c] ++
    items 0x18 ([VIS_CCM0_M00 c, VIS_CCM0_M01 c, VIS_CCM1_M02 c, VIS_CCM1_M10 c, VIS_CCM2_M11 c, VIS_CCM2_M12 c, VIS_CCM3_M20 c,
      VIS_CCM3_M21 c, VIS_CCM4_M22 c].map (ps g)) ++
    items 0x21 [pu g (VIS_CSEG_SEGM c), pu g (VIS_CSEG_THR c), pu g (VIS_CSEG_MINAREA c), pf g [VIS_CBG_BR c, VIS_CBG_BG c, VIS_CBG_BB c],
      pu g (VIS_CCLS_MINCONF c), pu g (VIS_CCLS_CSHIFT c), pu g (VIS_CIMG_IMGBASE c), pu g (VIS_CIMS_IMGSTR c)] ++
    [pt g 4096 0x200, pt g 3072 0x210, pt g 316 0x220]
  else []

/-- R294: one parameter per RWS field, in the order of the registers. -/
def dictGns (ii : Nat) : List PDef :=
  if ii != 0 then [] else
  itemsU .gnsRx 1 [GNS_CTL_EN, GNS_CTL_ANT1EN, GNS_CTL_RATE, GNS_CTL_CONST, GNS_CTL_ELMASK, GNS_SIGMASK_SIG] ++
  [ps .gnsRx GNS_ANTDLY_DLY1 7, ps .gnsRx GNS_ANTDLY_DLY0 8] ++
  itemsU .gnsTp 9 [GNS_TPCTL_TP0EN, GNS_TPCTL_TP0POL, GNS_TPCTL_TP1EN, GNS_TPCTL_TP1POL, GNS_TPCTL_NOFIX, GNS_TPCTL_TP1DOL,
    GNS_TPCTL_TSYS, GNS_TPCTL_HSTOP, GNS_TPCTL_TP0W, GNS_TP1PER_PER, GNS_TP1OFS_OFS, GNS_TP1W_W, GNS_HOLD_HDRIFT, GNS_HOLD_HAGE,
    GNS_SLEW_SLEWR, GNS_SLEW_HLIM] ++
  itemsU .gnsMotion 25 [GNS_HDGCFG_BLEN, GNS_HDGCFG_BTOL] ++ [ps .gnsMotion GNS_HDGOFS_MOUNTAZ 27] ++
  itemsU .gnsMotion 28 [GNS_SOGCFG_DSRC, GNS_SOGCFG_DI, GNS_SOGCFG_MINSV]

/-- R323. -/
def dictFus (ii : Nat) : List PDef :=
  if ii = 0 then itemsU .fusCtl 1 [FUS_CTL_EN, FUS_CTL_ORATE, FUS_CTL_PRIMS, FUS_CTL_ALT1, FUS_CTL_ALT2, FUS_CTL_REVDEC,
    FUS_CTL_CALDWELL, FUS_LIM_HSTDMAX, FUS_LIM_POSTO]
  else if 0x10 ≤ ii ∧ ii < 0x20 then
    let k := ii - 0x10
    let g := Grp.fusStream k
    itemsU g 1 [FUS_SCFG_EN k, FUS_SCFG_TYPE k, FUS_SCFG_TSRC k, FUS_SCFG_CALEN k, FUS_SCFG_CALFRZ k, FUS_SCFG_SRC k,
      FUS_SPER_PERIOD k, FUS_SPER_STALE k, FUS_SLAT_LATNOM k, FUS_SLAT_GATE k, FUS_SLAT_REJN k, FUS_SNOISE_NS1 k, FUS_SNOISE_NS2 k] ++
    items 14 ((List.range 8).map (fun j => fun i => (pf g [FUS_SNOM_NOM k j, FUS_SNOM_BND k j] i).by_ 1)) ++ [pq g (FUS_SCNV_CNV k) 22]
  else []

/-- R209. -/
def dictSec (ii : Nat) : List PDef :=
  if ii = 0 then
    itemsU .secCtl 1 [SEC_CTL_EN, SEC_CTL_SAFEOFF, SEC_CTL_HLMODE, SEC_CTL_CUTCOV, SEC_CTL_DBASE, SEC_CTL_HDRSRC, SEC_CTL_HDRPOL,
      SEC_PLAN0_LOOKAHEAD, SEC_PLAN0_STEP, SEC_PLAN0_MAXAGE, SEC_PLAN1_HORIZON, SEC_PLAN1_RETOL, SEC_PLAN1_MERGE, SEC_THR_ONPCT,
      SEC_THR_OFFPCT, SEC_THR_MINSPD] ++
    [ps .secMap SEC_MAPLAT_LAT 17, ps .secMap SEC_MAPLON_LON 18] ++
    itemsU .secMap 19 [SEC_MAPDIM_NY, SEC_MAPDIM_NXW, SEC_MAPDIM_CELL, SEC_BMAPA_ADDR, SEC_BMAPB_ADDR, SEC_CMAP_ADDR, SEC_CMAP_BSEL] ++
    itemsU .secImage 26 [SEC_IMGID_IDE, SEC_IMGID_ID, SEC_IMGCFG_IMGEN, SEC_IMGCFG_IMGBUS, SEC_IMGCFG_CF, SEC_IMGCFG_YULOFS]
  else if 0x40 ≤ ii ∧ ii < 0x80 then
    (List.range 8).flatMap (fun j =>
      let r := (ii - 0x40) * 8 + j
      let g := Grp.secRow r
      let o := 0x10 * j
      [ps g (SEC_RCGEO_LAT r) (o + 1), ps g (SEC_RCGEO_LON r) (o + 2), pf g [SEC_RCCFG_EN r, SEC_RCCFG_ROUTE r, SEC_RCCFG_DEST r] (o + 3),
       pu g (SEC_RCCFG_WIDTH r) (o + 4), pu g (SEC_RCLAT_ONLAT r) (o + 5), pu g (SEC_RCLAT_OFFLAT r) (o + 6)])
  else []

/-- Table 8.8. -/
def dictSol (ii : Nat) : List PDef :=
  if ii = 0 then itemsU .solCtl 1 [SOL_CTL_BEN, SOL_CTL_VBST, SOL_CTL_NFREQ]
  else if 0x10 ≤ ii ∧ ii < 0x28 then
    let n := ii - 0x10
    itemsU (.solChan n) 1 [SOL_CHCFG_MODE n, SOL_CHCFG_PAIR n, SOL_CHCFG_PKACT n, SOL_CHCFG_DIAGEN n, SOL_CHCFG_DFREQ n,
      SOL_CHCFG_DAMP n, SOL_CHCUR_IPEAK n, SOL_CHCUR_IHOLD n, SOL_CHTIM_TPEAK n, SOL_CHTIM_TPKTO n]
  else []

/-- Table 9.8. -/
def dictLsw (ii : Nat) : List PDef :=
  if ii = 0 then
    [pu (.lsBank 0) (LSW_BCFG_BANKLIM 0) 1, pu (.lsBank 1) (LSW_BCFG_BANKLIM 1) 2] ++
    itemsU (.lsProf 6) 0x10 [LSW_PTIM_TWIN 6, LSW_PTIM_OLBLANK 6, LSW_PLIM_ILIM 6, LSW_PLIM_TSC 6, LSW_PLIM_SLEW 6] ++
    itemsU (.lsProf 7) 0x18 [LSW_PTIM_TWIN 7, LSW_PTIM_OLBLANK 7, LSW_PLIM_ILIM 7, LSW_PLIM_TSC 7, LSW_PLIM_SLEW 7]
  else if 0x10 ≤ ii ∧ ii < 0x40 then
    let n := ii - 0x10
    let g := Grp.lsChan n
    (pu g (LSW_CHCFG_MODE n) 1).atRest :: itemsU g 2 [LSW_CHCFG_WIRE n, LSW_CHCFG_PROF n, LSW_CHCFG_PWMF n, LSW_CHCFG_OLACT n,
      LSW_CHCFG_DIAGEN n, LSW_CHSAFE_CLASS n, LSW_CHSAFE_DEFST n, LSW_CHSAFE_DEFDUTY n, LSW_CHOL_OLTHR n]
  else []

/-- R356: CAN, a controller and its filters. -/
def dictCan (ii : Nat) : List PDef :=
  if ii < 6 then
    itemsU (.canCtl ii) 1 [CAN_CTL_EN ii, CAN_CTL_FDEN ii, CAN_CTL_BRSEN ii, CAN_CTL_TXPRIO ii, CAN_CTL_BOAUTO ii, CAN_CTL_TERM ii,
      CAN_CTL_MODE ii, CAN_CTL_ISOEN ii, CAN_CTL_ISOKIND ii, CAN_NBT_BRP ii, CAN_NBT_TSEG1 ii, CAN_NBT_TSEG2 ii, CAN_NBT_SJW ii,
      CAN_DBT_TDCEN ii, CAN_DBT_TDCO ii, CAN_DBT_BRP ii, CAN_DBT_TSEG1 ii, CAN_DBT_TSEG2 ii, CAN_DBT_SJW ii] ++
    itemsU (.canIso ii) 20 [CAN_ISOADDR_PREF ii, CAN_NAMELO_NAME ii, CAN_NAMEHI_NAME ii] ++ [pu (.canRing ii) (CAN_LMRXB_BASE ii) 23]
  else if 0x10 ≤ ii ∧ ii < 0x16 then
    let n := ii - 0x10
    (List.range 128).flatMap (fun f =>
      let g := Grp.canFilter n f
      items (0x100 + 4 * f) [pf g [CAN_FID_IDE n f, CAN_FID_RTR n f, CAN_FID_ID n f],
        pf g [CAN_FMSK_IDE n f, CAN_FMSK_RTR n f, CAN_FMSK_ID n f],
        pf g [CAN_FCFG_EN n f, CAN_FCFG_ACT n f, CAN_FCFG_TSUP n f, CAN_FCFG_TMO n f]])
  else []

/-- R356: ETH. -/
def dictEth (ii : Nat) : List PDef :=
  if ii = 0 then
    itemsU .ethPtp 1 [ETH_PTPCTL_EN, ETH_PTPCTL_GMCAP, ETH_PTPCTL_PRIO1, ETH_PTPCTL_PRIO2, ETH_PTPCTL_DOMAIN] ++
    itemsU .ethRing 6 [ETH_HRXR_BASE, ETH_HRXR_SIZE, ETH_HTXR_BASE, ETH_HTXR_SIZE] ++
    [{ pf .ethVlan ((List.range 16).flatMap (fun v => [ETH_VLAN_VALID v, ETH_VLAN_VID v, ETH_VLAN_MEMBER v, ETH_VLAN_UNTAG v])) 0x100
        with typ := 12 }]
  else if 0x10 ≤ ii ∧ ii < 0x17 then
    let p := ii - 0x10
    itemsU (.ethPort p) 1 [ETH_PCTL_EN p, ETH_PCTL_ROLE p, ETH_PCTL_PTPEN p, ETH_PCTL_PVID p]
  else []

/-- R356: FLT with its key material. -/
def dictFlt (ii : Nat) : List PDef :=
  if ii = 0 then
    itemsU .fltNet 1 [FLT_IP_ADDR, FLT_GW_ADDR, FLT_NET_PREFIX, FLT_NET_VID, FLT_UDP_LPORT] ++ [pu .fltRing FLT_RXR_BASE 6] ++
    (List.range 8).flatMap (fun k =>
      [{ item := 0x200 + 16 * k, typ := 13, kind := .blob 65536 false, wr := 4, keep := false },
       { item := 0x201 + 16 * k, typ := 13, kind := .blob 65536 false, keep := false }]) ++
    (List.range 8).map (fun k => { item := 0x300 + 16 * k, typ := 13, kind := .blob 65536 false })
  else if 0x40 ≤ ii ∧ ii < 0x80 then
    let k := ii - 0x40
    itemsU (.fltSess k) 1 [FLT_SCFG_EN k, FLT_SCFG_ROLE k, FLT_SCFG_KEY k, FLT_SCFG_ANCHOR k, FLT_SPEER_PEER k, FLT_SPORT_PPORT k]
  else []

/-- R434: THM. -/
def dictThm (ii : Nat) : List PDef :=
  if ii = 0 then
    itemsU .thmThr 1 [THM_THR_THR1, THM_THR_THR2, THM_THR_THR3, THM_THR_HYST, THM_HTCTL_HTEN, THM_HTCTL_GRACE] ++
    [(pt .thmComp 128 0x200).by_ 3, (pt .thmComp 128 0x201).by_ 3, (pt .thmComp 128 0x202).by_ 3]
  else if 0x10 ≤ ii ∧ ii < 0x14 then
    let f := ii - 0x10
    let g := Grp.thmFan f
    itemsU g 1 [THM_FCFG_MODE f, THM_FCFG_SRC f, THM_FCFG_PPR f, THM_FCFG_KICKD f, THM_FCFG_DPR f, THM_FLOOP_TSET f, THM_FLOOP_KP f,
      THM_FLOOP_KI f, THM_FLIM_RPMMAX f, THM_FLIM_RPMMIN f, THM_FCUR_ISTALL f, THM_FCUR_IOPEN f, THM_FRAMP_RAMP f] ++
    items 0x14 ((List.range 4).map (fun k => fun i => (pf g [THM_FSKIP_HI f k, THM_FSKIP_LO f k] i).by_ 1))
  else []

/-- Table 16.3: DSP. -/
def dictDsp (ii : Nat) : List PDef :=
  if ii = 0 then
    itemsU .dspPanel 1 [DSP_PCFG_EN, DSP_PCFG_COLS, DSP_PCFG_ROWS, DSP_PCFG_FRATE, DSP_PCFG_UEN, DSP_PTIM_PRET, DSP_PTIM_VPRE,
      DSP_PTIM_VPANEL, DSP_PTIM_PCHT, DSP_PCUR_ICOL] ++
    itemsU .dspLabel 0x10 [DSP_LCFG_LEN, DSP_LCFG_LTSRC] ++ [pt .dspPanel 32768 0x100, pt .dspLabel 4096 0x200]
  else if 0x10 ≤ ii ∧ ii < 0x18 then
    let n := ii - 0x10
    itemsU .dspLabel 1 [DSP_UAGEO_EN n, DSP_UAGEO_X0 n, DSP_UAGEO_W n, DSP_UAGEO_Y0 n, DSP_UAGEO_H n]
  else []

/-- R471: EVR. -/
def dictEvr (ii : Nat) : List PDef :=
  if ii != 0 then [] else
  [pn 1 0 1 0 1, { item := 0xF0, typ := 5, kind := .cmd, rd := 4, wr := 2, still := true, keep := false }] ++
  (List.range 32).map (fun k => { item := 0x100 + k, typ := 13, kind := .page k, wr := 4, keep := false })

/-- Table 13.10: PDS. A role writes its own key and those of lower roles. -/
def dictPds (ii : Nat) : List PDef :=
  if ii != 0 then [] else
  [{ pn 1 0 15 15 1 with still := false }, pn 2 10 60000 1000 2, pn 2 5 600 30 3, pn 2 5 600 30 4, pn 1 0 63 3 5,
   pn 2 0 65535 19560 6] ++
  (List.range 4).map (fun r => { item := 0x10 + r, typ := 13, kind := .key r, rd := 4, wr := r, keep := false })

/-- R496: YUL. -/
def dictYul (ii : Nat) : List PDef :=
  if ii != 0 then [] else itemsU .yul 1 [YUL_CTL_EN, YUL_CTL_NODES, YUL_CTL_TBMASK, YUL_CTL_CABLEOUT]

/-- The parameters of an instance of a block, in the order of their items. -/
def dictInst (ss ii : Nat) : List PDef :=
  match ss with
  | 0x00 => dictSys ii | 0x01 => dictTsv ii | 0x02 => dictCar ii | 0x03 => dictTbs ii | 0x04 => dictCen ii | 0x05 => dictHsn ii
  | 0x06 => dictVis ii | 0x07 => dictGns ii | 0x08 => dictFus ii | 0x09 => dictSec ii | 0x0A => dictSol ii | 0x0B => dictLsw ii
  | 0x0C => dictCan ii | 0x0D => dictEth ii | 0x0E => dictFlt ii | 0x0F => dictThm ii | 0x10 => dictDsp ii | 0x11 => dictEvr ii
  | 0x12 => dictPds ii | 0x13 => dictYul ii | _ => []

/-! ## PIDs and groups -/

/-- R358: the parts of a PID. -/
def pidSs (pid : Nat) : Nat := pid / 2 ^ 20
def pidIi (pid : Nat) : Nat := pid / 2 ^ 12 % 256
def pidItem (pid : Nat) : Nat := pid % 2 ^ 12

/-- The parameter that a PID names. -/
def dictFind (pid : Nat) : Option PDef := (dictInst (pidSs pid) (pidIi pid)).find? (fun p => p.item = pidItem pid)

/-- The block of a group, by its code. -/
def Grp.block : Grp → Nat
  | .power | .io => 0x00
  | .tsvWd | .tsvRow _ | .tsvGrp _ => 0x01
  | .quota => 0x02
  | .tbStruct _ | .tbLimits _ => 0x03
  | .slot _ | .chan _ | .drive _ => 0x04
  | .hsnCtl | .hsnRec | .hsnCrop _ | .hsnLoss | .hsnWin _ | .hsnMoi | .hsnNoise => 0x05
  | .visFmt _ | .visMem _ | .visCtx _ => 0x06
  | .gnsRx | .gnsTp | .gnsMotion => 0x07
  | .fusCtl | .fusStream _ => 0x08
  | .secCtl | .secMap | .secImage | .secRow _ => 0x09
  | .solCtl | .solChan _ => 0x0A
  | .lsBank _ | .lsProf _ | .lsChan _ => 0x0B
  | .canCtl _ | .canFilter _ _ | .canIso _ | .canRing _ => 0x0C
  | .ethPort _ | .ethVlan | .ethPtp | .ethRing => 0x0D
  | .fltNet | .fltSess _ | .fltRing => 0x0E
  | .thmThr | .thmFan _ | .thmComp => 0x0F
  | .dspPanel | .dspLabel => 0x10
  | .yul => 0x13

/-- The instances in which a group has parameters, the lowest first. -/
def Grp.insts : Grp → List Nat
  | .tsvRow m => [0x10 + m] | .tsvGrp g => [0x20 + g]
  | .tbStruct n | .tbLimits n => [n]
  | .slot n => [n] | .chan k => [0x60 + k] | .drive d => [0x90 + d]
  | .hsnCrop p => [0x40 + p] | .hsnLoss => [0, 0x10, 0x11, 0x12, 0x13, 0x14, 0x15, 0x16, 0x17] | .hsnWin n => [0x20 + n]
  | .visFmt p | .visMem p => [p] | .visCtx c => [0x10 + c]
  | .fusStream k => [0x10 + k]
  | .secRow r => [0x40 + r / 8]
  | .solChan n => [0x10 + n]
  | .lsChan n => [0x10 + n]
  | .canCtl n | .canIso n | .canRing n => [n] | .canFilter n _ => [0x10 + n]
  | .ethPort p => [0x10 + p]
  | .fltSess k => [0x40 + k]
  | .thmFan f => [0x10 + f]
  | .dspLabel => [0, 0x10, 0x11, 0x12, 0x13, 0x14, 0x15, 0x16, 0x17]
  | _ => [0]

/-- The parameters of a group, each with its PID. -/
def Grp.params (g : Grp) : List (Nat × PDef) :=
  g.insts.flatMap (fun ii =>
    ((dictInst g.block ii).filter (fun p => p.grp = some g)).map (fun p => (g.block * 2 ^ 20 + ii * 2 ^ 12 + p.item, p)))

/-- R358: the group ID, the lowest PID of the group. -/
def Grp.id (g : Grp) : Nat := (g.params.head?.map (·.1)).getD 0

def PDef.flds (p : PDef) : List Fld := match p.kind with | .flds l => l | _ => []
def PDef.isBlob (p : PDef) : Bool := match p.kind with | .blob _ _ => true | _ => false

/-- The fields and the tables of a group. -/
def Grp.flds (g : Grp) : List Fld := g.params.flatMap (fun e => e.2.flds)
def Grp.blobs (g : Grp) : List Nat := (g.params.filter (fun e => e.2.isBlob)).map (·.1)

/-- The instance that a group's rejection event names, where it names one. -/
def Grp.inst : Grp → Nat
  | .tsvRow m => m | .tsvGrp g => g | .tbStruct n | .tbLimits n => n | .slot n => n | .chan k => 0x60 + k | .drive d => 0x90 + d
  | .hsnCrop p => p | .hsnWin n => n | .visFmt p | .visMem p => p | .visCtx c => c | .fusStream k => k
  | .secRow r => r | .solChan n => n | .lsBank b => b | .lsProf p => p | .lsChan n => n
  | .canCtl n | .canFilter n _ | .canIso n | .canRing n => n | .ethPort p => p | .fltSess k => k | .thmFan f => f | _ => 0

/-- The register families that hold staged fields, with the group that each index names. -/
def grpFams : List (RegFam × (List Nat → Grp)) :=
  let i (l : List Nat) : Nat := l.getD 0 0
  let j (l : List Nat) : Nat := l.getD 1 0
  ([SYS_PWRCFG_fam, SYS_RTCALM_fam].map (fun f => (f, fun _ => Grp.power))) ++
  ([SYS_TBIMODE_fam, SYS_DIFILT0_fam, SYS_DIFILT1_fam, SYS_DIPULL_fam, SYS_AINMODE_fam].map (fun f => (f, fun _ => Grp.io))) ++
  [(TSV_WDCFG_fam, fun _ => .tsvWd), (TSV_MCFG_fam, fun l => .tsvRow (i l))] ++
  [(TSV_MPAR5_fam, fun _ => .tsvRow 5), (TSV_MPAR6_fam, fun _ => .tsvRow 6), (TSV_MPAR7_fam, fun _ => .tsvRow 7),
   (TSV_MPAR8_fam, fun _ => .tsvRow 8), (TSV_MPAR9_fam, fun _ => .tsvRow 9)] ++
  ([TSV_SGLSLO_fam, TSV_SGLSHI_fam, TSV_SGSV_fam, TSV_SGORP_fam].map (fun f => (f, fun l => Grp.tsvGrp (i l)))) ++
  [(CAR_QUOTA_fam, fun _ => .quota)] ++
  ([TBS_CFG_fam, TBS_TEETH_fam, TBS_SCALE_fam, TBS_IDXOFS_fam].map (fun f => (f, fun l => Grp.tbStruct (i l)))) ++
  ([TBS_LIM_fam, TBS_VMAX_fam, TBS_PLAUS_fam, TBS_RATIO_fam].map (fun f => (f, fun l => Grp.tbLimits (i l)))) ++
  ([CEN_LCTL_fam, CEN_LFB_fam, CEN_LFBG_fam, CEN_LFBO_fam, CEN_LKP_fam, CEN_LKI_fam, CEN_LKD_fam, CEN_LKFF_fam, CEN_LFFO_fam,
    CEN_LUMAX_fam, CEN_LUMIN_fam, CEN_LSHP_fam, CEN_LTIM_fam, CEN_LSUP_fam].map (fun f => (f, fun l => Grp.slot (i l)))) ++
  ([CEN_FCFG_fam, CEN_FSPMAX_fam, CEN_FSPMIN_fam, CEN_FSPRATE_fam, CEN_FSAFE_fam, CEN_FIL0_fam, CEN_FIL1_fam].map
    (fun f => (f, fun l => Grp.chan (i l)))) ++
  ([CEN_DMID_fam, CEN_DMFMT_fam, CEN_DMSCL_fam].map (fun f => (f, fun l => Grp.drive (i l)))) ++
  [(HSN_CTL_fam, fun _ => .hsnCtl), (HSN_RCFG_fam, fun _ => .hsnRec), (HSN_CROP_fam, fun _ => .hsnRec), (HSN_MOICFG_fam, fun _ => .hsnMoi),
   (HSN_WCFG_fam, fun l => .hsnWin (i l))] ++
  ([HSN_NLCFG_fam, HSN_NBAND_fam, HSN_LCFG_fam, HSN_LDET_fam].map (fun f => (f, fun _ => Grp.hsnLoss))) ++
  ([HSN_PDLY_fam, HSN_PMSTD_fam, HSN_PMA0_fam, HSN_PMA1_fam, HSN_PMA2_fam, HSN_PMKT_fam, HSN_PCI_fam, HSN_PCM_fam].map
    (fun f => (f, fun l => Grp.hsnCrop (i l)))) ++
  ([VIS_PFMT_fam, VIS_PSIZE_fam, VIS_PTRIG_fam].map (fun f => (f, fun l => Grp.visFmt (i l)))) ++
  ([VIS_PBUF_fam, VIS_PSTR_fam].map (fun f => (f, fun l => Grp.visMem (i l)))) ++
  ([VIS_CCTL_fam, VIS_CBLK0_fam, VIS_CBLK1_fam, VIS_CDPC_fam, VIS_CWB0_fam, VIS_CWB1_fam, VIS_CCM0_fam, VIS_CCM1_fam, VIS_CCM2_fam,
    VIS_CCM3_fam, VIS_CCM4_fam, VIS_CSEG_fam, VIS_CBG_fam, VIS_CCLS_fam, VIS_CIMG_fam, VIS_CIMS_fam].map
    (fun f => (f, fun l => Grp.visCtx (i l)))) ++
  ([GNS_CTL_fam, GNS_SIGMASK_fam, GNS_ANTDLY_fam].map (fun f => (f, fun _ => Grp.gnsRx))) ++
  ([GNS_TPCTL_fam, GNS_TP1PER_fam, GNS_TP1OFS_fam, GNS_TP1W_fam, GNS_HOLD_fam, GNS_SLEW_fam].map (fun f => (f, fun _ => Grp.gnsTp))) ++
  ([GNS_HDGCFG_fam, GNS_HDGOFS_fam, GNS_SOGCFG_fam].map (fun f => (f, fun _ => Grp.gnsMotion))) ++
  [(FUS_CTL_fam, fun _ => .fusCtl), (FUS_LIM_fam, fun _ => .fusCtl)] ++
  ([FUS_SCFG_fam, FUS_SPER_fam, FUS_SLAT_fam, FUS_SNOISE_fam, FUS_SNOM_fam, FUS_SCNV_fam].map (fun f => (f, fun l => Grp.fusStream (i l)))) ++
  ([SEC_CTL_fam, SEC_PLAN0_fam, SEC_PLAN1_fam, SEC_THR_fam].map (fun f => (f, fun _ => Grp.secCtl))) ++
  ([SEC_MAPLAT_fam, SEC_MAPLON_fam, SEC_MAPDIM_fam, SEC_BMAPA_fam, SEC_BMAPB_fam, SEC_CMAP_fam].map (fun f => (f, fun _ => Grp.secMap))) ++
  ([SEC_IMGID_fam, SEC_IMGCFG_fam].map (fun f => (f, fun _ => Grp.secImage))) ++
  ([SEC_RCGEO_fam, SEC_RCCFG_fam, SEC_RCLAT_fam].map (fun f => (f, fun l => Grp.secRow (i l)))) ++
  [(SOL_CTL_fam, fun _ => .solCtl)] ++
  ([SOL_CHCFG_fam, SOL_CHCUR_fam, SOL_CHTIM_fam].map (fun f => (f, fun l => Grp.solChan (i l)))) ++
  [(LSW_BCFG_fam, fun l => .lsBank (i l)), (LSW_PTIM_fam, fun l => .lsProf (i l)), (LSW_PLIM_fam, fun l => .lsProf (i l))] ++
  ([LSW_CHCFG_fam, LSW_CHSAFE_fam, LSW_CHOL_fam].map (fun f => (f, fun l => Grp.lsChan (i l)))) ++
  ([CAN_CTL_fam, CAN_NBT_fam, CAN_DBT_fam].map (fun f => (f, fun l => Grp.canCtl (i l)))) ++
  ([CAN_FID_fam, CAN_FMSK_fam, CAN_FCFG_fam].map (fun f => (f, fun l => Grp.canFilter (i l) (j l)))) ++
  ([CAN_ISOADDR_fam, CAN_NAMELO_fam, CAN_NAMEHI_fam].map (fun f => (f, fun l => Grp.canIso (i l)))) ++
  [(CAN_LMRXB_fam, fun l => .canRing (i l)), (ETH_PTPCTL_fam, fun _ => .ethPtp), (ETH_HRXR_fam, fun _ => .ethRing),
   (ETH_HTXR_fam, fun _ => .ethRing), (ETH_PCTL_fam, fun l => .ethPort (i l)), (ETH_VLAN_fam, fun _ => .ethVlan)] ++
  ([FLT_IP_fam, FLT_GW_fam, FLT_NET_fam, FLT_UDP_fam].map (fun f => (f, fun _ => Grp.fltNet))) ++ [(FLT_RXR_fam, fun _ => .fltRing)] ++
  ([FLT_SCFG_fam, FLT_SPEER_fam, FLT_SPORT_fam].map (fun f => (f, fun l => Grp.fltSess (i l)))) ++
  ([THM_THR_fam, THM_HTCTL_fam].map (fun f => (f, fun _ => Grp.thmThr))) ++
  ([THM_FCFG_fam, THM_FLOOP_fam, THM_FLIM_fam, THM_FCUR_fam, THM_FRAMP_fam, THM_FSKIP_fam].map (fun f => (f, fun l => Grp.thmFan (i l)))) ++
  ([DSP_PCFG_fam, DSP_PTIM_fam, DSP_PCUR_fam].map (fun f => (f, fun _ => Grp.dspPanel))) ++
  [(DSP_LCFG_fam, fun _ => .dspLabel), (DSP_UAGEO_fam, fun _ => .dspLabel), (YUL_CTL_fam, fun _ => .yul)]

/-- The group of the staged fields of the register at an address. -/
def grpAt (a : Nat) : Option Grp :=
  grpFams.findSome? (fun e => if a < e.1.base then none else (dimIndex e.1.dims (a - e.1.base)).map e.2)

/-- A field belongs to a STANDSTILL parameter (R360). -/
def fldAtRest (f : Fld) : Bool :=
  match grpAt f.addr with
  | some g => g.params.any (fun e => e.2.still && e.2.flds.contains f)
  | none => false

/-! ## Every group and every parameter, in order -/

/-- The instances that a block may have. -/
def dictIis (ss : Nat) : List Nat :=
  match ss with
  | 0x01 => [0] ++ (List.range 11).map (0x10 + ·) ++ (List.range 8).map (0x20 + ·)
  | 0x03 => List.range 8
  | 0x04 => List.range 0x98
  | 0x05 => [0] ++ (List.range 8).map (0x10 + ·) ++ (List.range 16).map (0x20 + ·) ++ (List.range 8).map (0x40 + ·)
  | 0x06 => List.range 3 ++ (List.range 4).map (0x10 + ·)
  | 0x08 => [0] ++ (List.range 16).map (0x10 + ·)
  | 0x09 => [0] ++ (List.range 64).map (0x40 + ·)
  | 0x0A => [0] ++ (List.range 24).map (0x10 + ·)
  | 0x0B => [0] ++ (List.range 48).map (0x10 + ·)
  | 0x0C => List.range 6 ++ (List.range 6).map (0x10 + ·)
  | 0x0D => [0] ++ (List.range 7).map (0x10 + ·)
  | 0x0E => [0] ++ (List.range 64).map (0x40 + ·)
  | 0x0F => [0] ++ (List.range 4).map (0x10 + ·)
  | 0x10 => [0] ++ (List.range 8).map (0x10 + ·)
  | _ => [0]

/-- The parameters of a block, each with its PID, in PID order. -/
def dictBlock (ss : Nat) : List (Nat × PDef) :=
  (dictIis ss).flatMap (fun ii => (dictInst ss ii).map (fun p => (ss * 2 ^ 20 + ii * 2 ^ 12 + p.item, p)))

/-- The codes of the blocks that have parameters. -/
def dictBlocks : List Nat := List.range 20

/-- Every parameter, in PID order. -/
def dictAll : List (Nat × PDef) := dictBlocks.flatMap dictBlock

/-- The groups of a block, each once, in order of their IDs. -/
def dictGroups (ss : Nat) : List Grp :=
  (dictBlock ss).foldl (fun gs e => match e.2.grp with | some g => if gs.contains g then gs else gs ++ [g] | none => gs) []

end Sys2Proof.Machine
end

