-- ==== Sys2Proof/Machine/Trig.lean ====
section
/-!
DEFINITION. Sines and cosines of angles in 0.01°, scaled by 2^30, by their power series in integers. The spec names
projections and rotations without a number format; the format is the model's (DESIGN CHOICE, assumption log, entry 25).
-/
namespace Sys2Proof.Machine

/-- π · 2^40, rounded. -/
def piQ40 : Int := 3454217652358

/-- sin r, with r and the answer in 2^−40, for |r| up to a right angle. -/
def sinQ40 (r : Int) : Int :=
  let q := r * r / 2 ^ 40
  let step (t : Int) (k : Nat) : Int := -(t * q / 2 ^ 40) / ((2 * k) * (2 * k + 1) : Nat)
  let ts := [1, 2, 3, 4, 5, 6, 7, 8].foldl (fun (p : Int × Int) k => let t := step p.1 k; (t, p.2 + t)) (r, r)
  ts.2

/-- An angle in 0.01° brought to −18,000 … 17,999. -/
def wrapCdeg (x : Int) : Int := (x + 18000) % 36000 - 18000

/-- sin of an angle in 0.01°, scaled by 2^30. -/
def sinCdeg (x : Int) : Int :=
  let y := wrapCdeg x
  let y := if 9000 < y then 18000 - y else if y < -9000 then -18000 - y else y
  divRound (sinQ40 (y * piQ40 / 18000)) 1024

/-- cos of an angle in 0.01°, scaled by 2^30. -/
def cosCdeg (x : Int) : Int := sinCdeg (x + 9000)

end Sys2Proof.Machine
end

