-- ==== Sys2Proof/Machine/GnsOps.lean ====
section
/-!
DEFINITION. The operations of the GNSS baseband (spec/10_gnss_baseband_and_time_pulse.md).
-/
namespace Sys2Proof.Machine

/-! ## Channels (R269–R271) -/

/-- The epoch period, ns (RATE of GNS_CTL). -/
def State.gnsPeriod (s : State) : Nat :=
  [1000000000, 500000000, 200000000, 100000000, 50000000, 20000000].getD (s.rd GNS_CTL_RATE) 1000000000

/-- Table 10.1: the constellation of a signal. -/
def sigCon (g : Nat) : Nat := if g < 4 then 0 else if g < 8 then 1 else if g < 12 then 2 else if g < 14 then 3 else 4

/-- The band of a signal's carrier: 0 L1, 1 L2, 2 L5, 3 E6 and B3 (PRESUMED, assumption log, entry 26). -/
def sigBand (g : Nat) : Nat := [0, 0, 1, 2, 0, 2, 2, 3, 0, 0, 2, 3, 0, 1, 0, 1, 2].getD g 0

def State.gch (s : State) (c : Nat) : GnsCh := tabGet {} s.gns.ch c
def State.setGch (c : Nat) (x : GnsCh) (s : State) : State := { s with gns := { s.gns with ch := tabSet {} s.gns.ch c x } }
def State.gchSt (s : State) (c : Nat) : Nat := s.rd (GNS_CHSTAT_STATE c)

/-- NTRK kept: the channels in TRACK. -/
def State.gnsCount (s : State) : State :=
  s.wr GNS_STAT_NTRK ((List.range 184).filter (fun c => s.gchSt c = 3)).length

/-- A channel enters a state of Table 10.2. -/
def State.gnsEnter (c st : Nat) (s : State) : State :=
  let x := s.gch c
  let x := { x with since := s.now, lockAt := if st = 3 then s.now else x.lockAt, slip := x.slip || st = 4 }
  ((s.wr (GNS_CHSTAT_STATE c) st).setGch c x).gnsCount

/-- A channel freed: IDLE, with no assignment. -/
def State.gnsFree (c : Nat) (s : State) : State :=
  let t := ((s.wr (GNS_CHSTAT_STATE c) 0).wr (GNS_CHSTAT_CONST c) 0).wr (GNS_CHSTAT_SIG c) 0
  let t := ((t.wr (GNS_CHSTAT_SVID c) 0).wr (GNS_CHSTAT_ANT c) 0).wr (GNS_CHSTAT_CN0 c) 0
  t.setGch c {}

/-- The signals enabled (R269). -/
def State.gnsSignals (s : State) : List Nat :=
  (List.range 17).filter (fun g => bit (s.rd GNS_SIGMASK_SIG) g && bit (s.rd GNS_CTL_CONST) (sigCon g))

/-- Satellites ordered by elevation, highest first. -/
def byElevation (l : List GnsSat) : List GnsSat := sortBy (fun a => -(a.elev : Int)) l

/-- R270: the pairs of satellite, signal and antenna to be tracked, in the order of allocation. -/
def State.gnsPairs (s : State) (sats : List GnsSat) : List (Nat × Nat × Nat × Nat) :=
  let up := byElevation (sats.filter (fun v => s.rd GNS_CTL_ELMASK < v.elev))
  let one (ant : Nat) := up.flatMap (fun v => (s.gnsSignals.filter (fun g => sigCon g = v.con)).map (fun g => (v.con, g, v.svid, ant)))
  one 0 ++ (if s.on GNS_CTL_ANT1EN then one 1 else [])

/-- What a channel is assigned to. -/
def State.gnsPairOf (s : State) (c : Nat) : Nat × Nat × Nat × Nat :=
  (s.rd (GNS_CHSTAT_CONST c), s.rd (GNS_CHSTAT_SIG c), s.rd (GNS_CHSTAT_SVID c), s.rd (GNS_CHSTAT_ANT c))

/-- R270: channels whose pair is no longer wanted become IDLE; new pairs take free channels; pairs left out set ALLOCF. -/
def State.gnsAllocate (sats : List GnsSat) (s : State) : State :=
  let pairs := s.gnsPairs sats
  let s := s.each (List.range 184) (fun c s => if s.gchSt c != 0 && !pairs.contains (s.gnsPairOf c) then s.gnsFree c else s)
  let used := (List.range 184).filter (fun c => s.gchSt c != 0)
  let have_ := used.map s.gnsPairOf
  let want := pairs.filter (fun p => !have_.contains p)
  let free := (List.range 184).filter (fun c => s.gchSt c = 0)
  let s := s.each (want.zip free) (fun e s =>
    let c := e.2
    let t := ((s.wr (GNS_CHSTAT_CONST c) e.1.1).wr (GNS_CHSTAT_SIG c) e.1.2.1).wr (GNS_CHSTAT_SVID c) e.1.2.2.1
    (t.wr (GNS_CHSTAT_ANT c) e.1.2.2.2).gnsEnter c 1)
  let left := want.length - free.length
  let s := s.wr GNS_STAT_ALLOCF (b2n (left != 0))
  (s.when (left != 0) (State.emitRate 0x070F 0 60000000000 (fun _ => [left]))).gnsCount

/-! ## Measurements (R272, R273) -/

/-- Table 10.1: the carrier frequency of a signal, Hz, with the frequency number of GLONASS. -/
def sigHz (g : Nat) (k : Int) : Int :=
  if g = 12 then 1602000000 + 562500 * k
  else if g = 13 then 1246000000 + 437500 * k
  else ([1575420000, 1575420000, 1227600000, 1176450000, 1575420000, 1176450000, 1207140000, 1278750000, 1561098000, 1575420000,
         1176450000, 1268520000, 0, 0, 1575420000, 1227600000, 1176450000] : List Int).getD g 0

/-- R272: the cable delay of an antenna removed from a measurement: from the pseudorange at the speed of light, from the carrier phase,
which grows with the range, at the carrier's frequency; a Doppler has none (DEDUCED, assumption log, entry 91). -/
def State.gnsUndelay (s : State) (m : GnsMeas) : GnsMeas :=
  let d : Int := if s.rd (GNS_CHSTAT_ANT m.ch) = 0 then s.rdS GNS_ANTDLY_DLY0 else s.rdS GNS_ANTDLY_DLY1
  let pr : Int := (m.pri * 65536 + m.prf : Nat) - divRound (d * 299792458 * 65536) 10000000000
  let adr := m.adr - divRound (d * sigHz (s.rd (GNS_CHSTAT_SIG m.ch)) m.glok * 65536) 10000000000
  { m with pri := pr.toNat / 65536, prf := pr.toNat % 65536, adr := adr }

/-- Table 10.4: GLOK, the frequency number of a GLONASS signal, −7 … +6, and 0 of any other. -/
def sigGlok (sig : Nat) (k : Int) : Int := if sig = 12 || sig = 13 then clampI (-7) 6 k else 0

/-- Table 10.4: a channel's measurement entry, its antenna's cable delay removed. -/
def State.gnsEntry (s : State) (m : GnsMeas) : List Nat :=
  let m := s.gnsUndelay { m with glok := sigGlok (s.rd (GNS_CHSTAT_SIG m.ch)) m.glok }
  let c := m.ch
  let st := s.gchSt c
  let x := s.gch c
  let trk := st = 3
  let sig := s.rd (GNS_CHSTAT_SIG c)
  let prstd := if bit s.gns.bands (sigBand sig) then max m.prstd 1000 else m.prstd
  let slip := trk && x.slip
  let w0 := c * 0x1000000 + s.rd (GNS_CHSTAT_CONST c) * 0x200000 + sig * 0x10000 + s.rd (GNS_CHSTAT_SVID c) * 0x100 +
    s.rd (GNS_CHSTAT_ANT c) * 0x80 + b2n m.halfc * 0x40 + b2n slip * 0x20 + b2n trk * 0x10 + b2n (st = 2 || st = 3) * 8 +
    b2n m.dopv * 4
  let lock := if trk then (s.now - x.lockAt) / 1000000 else 0
  [w0, m.pri % 2 ^ 32, (m.prf % 2 ^ 16) * 0x10000 + m.cpstd % 2 ^ 16, tc 64 m.adr % 2 ^ 32, tc 64 m.adr / 2 ^ 32, tc 32 m.dop,
   tc 8 m.glok * 0x1000000 + (m.cn0 % 256) * 0x10000 + min prstd 0xFFFF, min lock 0xFFFFFFFF]

/-- Unread epochs. -/
def State.gnsUnread (s : State) : Nat := (s.rd GNS_EPWR_IDX + 16 - s.rd GNS_EPRD_IDX) % 16

/-- R273: an epoch goes to its slot, or is dropped when all eight are unread; under a fence none is written (R291). The channels of
`sent` have then given their SLIP (R271). -/
def State.gnsWriteEpoch (words sent : List Nat) (s : State) : State :=
  if s.isFenced 0x07 then s
  else if 8 ≤ s.gnsUnread then
    (((s.wr GNS_EPDROP_COUNT (min (s.rd GNS_EPDROP_COUNT + 1) 0xFFFFFFFF)).setFlag GNS_INTSTAT_EPDROP).emitSec 0x070B 0
      (fun k => [k]))
  else
    let w := s.rd GNS_EPWR_IDX
    let t := { s with gns := { s.gns with slots := tabPut s.gns.slots (w % 8) words } }
    let t := (t.wr GNS_EPWR_IDX (w + 1)).setFlag GNS_INTSTAT_EPOCH
    t.each sent (fun c s => if s.gchSt c = 3 then s.setGch c { s.gch c with slip := false } else s)

/-! ## Heading and speed (R274–R276) -/

/-- Satellites with a common signal in TRACK on both antennas (R274). -/
def State.gnsCommon (s : State) : Nat :=
  let on (a : Nat) := ((List.range 184).filter (fun c => s.gchSt c = 3 && s.rd (GNS_CHSTAT_ANT c) = a)).map
    (fun c => (s.rd (GNS_CHSTAT_CONST c), s.rd (GNS_CHSTAT_SIG c), s.rd (GNS_CHSTAT_SVID c)))
  let a1 := on 1
  (((on 0).filter a1.contains).map (fun p => (p.1, p.2.2))).eraseDups.length

/-- Table 10.5: the heading state of an epoch. -/
def State.gnsHstate (s : State) (e : GnsEpoch) : Nat :=
  if !s.on GNS_CTL_ANT1EN then 0
  else if !e.base then 1
  else
    let d := ((e.blen : Int) - (s.rd GNS_HDGCFG_BLEN : Int)).natAbs
    if 5 ≤ s.gnsCommon ∧ d ≤ s.rd GNS_HDGCFG_BTOL then 3 else 2

/-- A heading state and its values taken, with the events of R274. -/
def State.gnsHeadTo (h hdg pitch hstd : Nat) (s : State) : State :=
  let h0 := s.rd GNS_STAT_HSTATE
  let val (x : Nat) : Nat := if 2 ≤ h then x else 0
  let t := (((s.wr GNS_STAT_HSTATE h).wr GNS_HDG_HDG (val hdg)).wr GNS_HDG2_PITCH (val pitch)).wr GNS_HDG2_HSTD
    (if h = 3 then hstd else 0)
  if h = h0 then t
  else
    let t := t.setFlag GNS_INTSTAT_HDG
    if h = 3 then t.emit 0x0709 [hdg] else if h0 = 3 then t.emit 0x070A [h] else t

/-- R274: the heading of an epoch. -/
def State.gnsHeading (e : GnsEpoch) (s : State) : State := s.gnsHeadTo (s.gnsHstate e) e.hdg (tc 16 e.pitch) e.hstd

/-- Table 10.5: with the receiver off there is no solution: NOFIX, or OFF with ANT1EN = 0. -/
def State.gnsIdle (s : State) : State := s.gnsHeadTo (s.rd GNS_CTL_ANT1EN) 0 0 0

/-- R275: the along-track speed, signed mm/s. -/
def State.gnsSog (s : State) (e : GnsEpoch) : Int :=
  let sp : Int := if e.speed < 50 then 0 else e.speed
  match s.rd GNS_SOGCFG_DSRC with
  | 0 =>
    let fwd : Int := (e.hdg : Int) + s.rdS GNS_HDGOFS_MOUNTAZ
    divRound (sp * cosCdeg ((e.course : Int) - fwd)) (2 ^ 30)
  | 1 => if s.diLevel (s.rd GNS_SOGCFG_DI) then sp else -sp
  | _ => sp

/-- R276: the record is valid. -/
def State.gnsSogv (s : State) (e : GnsEpoch) : Bool :=
  decide (s.rd GNS_SOGCFG_MINSV ≤ e.nsv) && !(s.rd GNS_SOGCFG_DSRC = 0 && s.gnsHstate e != 3) && !s.isFenced 0x07

/-- R38, R276: the record reaches the GNSS-distance bases: valid, it renews v and a; invalid, the base is lost. The record gives no
acceleration: a is the change of v since the record before (DEDUCED, assumption log, entry 25). -/
def State.gnsToBases (s : State) : State :=
  let valid := s.on GNS_SOGST_SOGV
  let v := divRound (s.rdS GNS_SOG_SOG * 65536) 100000
  s.each (List.range 8) (fun n s =>
    if s.rd (TBS_CFG_SRC n) = 5 && s.tbSt n != 0 then
      if valid then
        let b := s.tb n
        let dt := s.now - b.te
        let a := if tbMovingSt b.st && dt != 0 then divRound ((v - b.raw) * 1000000) dt else 0
        s.tbSpeed n s.now v a
      else s.tbLose n 3
    else s)

/-- The speed record of an epoch taken and given to TBS. -/
def State.gnsSpeed (e : GnsEpoch) (s : State) : State :=
  let v := s.gnsSogv e
  let t := ((s.wrS GNS_SOG_SOG (s.gnsSog e)).wr GNS_SOGST_COURSE e.course).wr GNS_SOGST_NSV e.nsv
  ((t.wr GNS_SOGST_SOGV (b2n v)).wr GNS_STAT_SOGV (b2n v)).gnsToBases

/-- Table 10.3: an epoch's header. -/
def State.gnsHeader (s : State) (n : Nat) (e : GnsEpoch) : List Nat :=
  let w1 := n * 0x1000000 + s.rd GNS_STAT_TSTATE * 0x200000 + s.rd GNS_STAT_HSTATE * 0x80000 + s.rd GNS_SOGST_SOGV * 0x40000 +
    b2n e.clkv * 0x20000
  [s.gns.seq % 2 ^ 32, w1, s.now % 2 ^ 32, s.now / 2 ^ 32, (e.week % 2 ^ 16) * 0x10000, e.tow % 2 ^ 32, e.tow / 2 ^ 32,
   tc 32 e.clkb, tc 32 e.clkd, s.rd GNS_SOG_SOG, (e.course % 2 ^ 16) * 0x10000 + (e.nsv % 256) * 0x100,
   s.rd GNS_HDG_HDG * 0x10000 + s.rd GNS_HDG2_PITCH, 0, 0, 0, 0]

/-- R272: an epoch. Under a fence tracking continues (R291). -/
def State.gnsEpoch (sats : List GnsSat) (meas : List GnsMeas) (e : GnsEpoch) (s : State) : State :=
  let s := { s with gns := { s.gns with epAt := s.now + 1 } }.gnsAllocate sats
  let s := s.each meas (fun m s => if m.ch < 184 && s.gchSt m.ch != 0 then s.wr (GNS_CHSTAT_CN0 m.ch) m.cn0 else s)
  let s := (s.gnsHeading e).gnsSpeed e
  let live := (List.range 184).filter (fun c => (s.gchSt c = 2 || s.gchSt c = 3) && meas.any (fun m => m.ch = c))
  let ent := live.flatMap (fun c => match meas.find? (fun m => m.ch = c) with | some m => s.gnsEntry m | none => [])
  let s := s.gnsWriteEpoch (s.gnsHeader live.length e ++ ent) live
  { s with gns := { s.gns with seq := s.gns.seq + 1 } }

/-! ## Time (R277–R286) -/

def State.tst (s : State) : Nat := s.rd GNS_STAT_TSTATE

/-- The time state changes: the flag, and the events of R283. -/
def State.gnsTstate (st : Nat) (s : State) : State :=
  if s.tst = st then s
  else
    let t := (s.wr GNS_STAT_TSTATE st).setFlag GNS_INTSTAT_TSTATE
    if st = 1 then
      ({ t with gns := { t.gns with told := false, stopped := false, offs := [] } }).emit 0x0701 [t.gns.errSol]
    else if st = 2 then
      ({ t with gns := { t.gns with offs := [], told := false } }).emit 0x0702 []
    else if st = 3 then { t with gns := { t.gns with stopped := false } }
    else t

/-- Pulses run: TP0 is on and the state gives pulses (Table 10.6). -/
def State.gnsPulses (s : State) : Bool :=
  s.on GNS_TPCTL_TP0EN && !s.on GNS_STAT_TCXOFLT && (s.tst != 0 || s.on GNS_TPCTL_NOFIX)

/-- R284: ERREST, ns, at an instant in holdover. -/
def State.gnsErrest (s : State) (t : Nat) : Nat :=
  let tau := (t - s.gns.solAt) / 1000000
  let ns := s.gns.errSol + s.rd GNS_HOLD_HDRIFT * tau / 10000 + s.rd GNS_HOLD_HAGE * tau * tau / 20000000000
  min ns 0xFFFFFFFF

/-- R284: the holdover error beyond HLIM, by the configuration in `c`: EV 0x0705 once per entry; with HSTOP the outputs stop. -/
def State.gnsHoldLimit (c : State) (err : Nat) (s : State) : State :=
  if c.rd GNS_SLEW_HLIM * 1000 < err then
    let t := s.when (!s.gns.told) (State.emit 0x0705 [err])
    { t with gns := { t.gns with told := true, stopped := t.gns.stopped || c.on GNS_TPCTL_HSTOP } }
  else s

/-- A label a number of seconds on or back. -/
def addLabel (w t : Nat) (k : Int) : Nat × Nat :=
  let x := ((w * 604800 + t : Nat) + k).toNat
  (x / 604800, x % 604800)

/-- The label that follows a label, with an announced leap second of UTC (R281): the label, whether it is the inserted second's, and the
announcement that remains. -/
def State.gnsNextLabel (s : State) (w t : Nat) : Nat × Nat × Bool × Int :=
  let g := s.gns
  let n := addLabel w t 1
  let utc := s.rd GNS_TPCTL_TSYS = 3
  if utc && g.leap = 1 && n = (g.leapWeek, g.leapTow) then (w, t, true, 0)
  else if utc && g.leap = -1 && addLabel w t 2 = (g.leapWeek, g.leapTow) then
    let m := addLabel w t 2
    (m.1, m.2, false, 0)
  else (n.1, n.2, false, g.leap)

/-- The RTC, ns. -/
def State.rtc (s : State) : Nat := s.rtc0 + s.now

/-- R279: the time since week 0, ns, from the RTC: by the retained relation of time to the RTC, and the RTC itself without one (DEDUCED,
assumption log, entry 91). -/
def State.gnsRtcNs (s : State) : Nat :=
  match (tabGet {} s.ret.items 0).words with
  | [w, t, _, r] => (w * 604800 + t) * 1000000000 + (s.rtc - r)
  | _ => s.rtc

/-- R279: a label from the RTC. -/
def State.gnsRtcLabel (s : State) : Nat × Nat := addLabel 0 0 (s.gnsRtcNs / 1000000000 : Nat)

/-- R283: the module time of the next true second, by the last solution. -/
def State.gnsNextSec (s : State) : Nat :=
  let r := s.gns.solSec
  if s.now < r then r else r + ((s.now - r) / 1000000000 + 1) * 1000000000

/-- The label of the true second nearest to a module time, by the last solution. -/
def State.gnsSecLabel (s : State) (t : Nat) : Nat × Nat :=
  addLabel s.gns.solWeek s.gns.solTow (((t : Int) - s.gns.solSec + 500000000) / 1000000000)

/-- The seconds from the last pulse of the train to the one that the next message describes: 1, or more where pulses have been left out
for want of a message. -/
def State.gnsSecs (s : State) : Nat := if s.gns.labelled then (s.now - s.gns.pulseAt) / 1000000000 + 1 else 1

/-- R279: a message is written within 10 ms after the preceding pulse. -/
def State.gnsOnTime (s : State) : Bool := !s.gns.labelled || decide ((s.now - s.gns.pulseAt) % 1000000000 ≤ 10000000)

/-- R285: the true second of a step: with the train Δ late, by how many seconds its label departs from that of the pulse it replaces: the
first that leaves 500 ms after the pulse before. -/
def stepSecs (d : Int) : Int := (d - 500000000 + 999999999) / 1000000000

/-- The label of the next message, whether it is an inserted second's, the announcement that remains, and whether it starts a chain: one
more than the label before; the chain starts at a solution's label, or the RTC's (R279). In a time scale in which no solution has come the
label is free, `f2` and `f3` (assumption log, entry 91). `base` is the pulse's module time. -/
def State.gnsLabel (s : State) (base f2 f3 : Nat) : (Nat × Nat × Bool × Int) × Bool :=
  let g := s.gns
  let sys := s.rd GNS_TPCTL_TSYS
  if g.labelled && g.msg.tsys = sys then
    let b := addLabel g.week g.tow ((s.gnsSecs - 1 : Nat))
    (s.gnsNextLabel b.1 b.2, false)
  else
    let l :=
      if s.tst = 0 then s.gnsRtcLabel
      else if g.solSys = sys then s.gnsSecLabel base
      else (f2 % 65536, f3 % 604800)
    ((l.1, l.2, false, g.leap), true)

/-- R279, R284, R285: the message of the next TP0 pulse, by the configuration of this state; with the RESID that it leaves and the
announcement that remains. `f` are the free values. -/
def State.gnsMessage (s : State) (qerr : Int) (f : List Nat) : TimeqMsg × Int :=
  let st := s.tst
  let g := s.gns
  let n := s.gnsSecs
  let base := if g.labelled then g.pulseAt + n * 1000000000 else s.gnsNextSec
  let l := s.gnsLabel base (f.getD 2 0) (f.getD 3 0)
  let rate : Int := s.rd GNS_SLEW_SLEWR
  let hold := if st = 2 || st = 4 then s.gnsErrest base else g.errSol
  let ov := decide (s.rd GNS_SLEW_HLIM * 1000 < hold)
  let m : TimeqMsg := { week := l.1.1, tow := l.1.2.1, tstate := st, leap := l.1.2.2.1, tsys := s.rd GNS_TPCTL_TSYS,
                        qerr := clampI (-2000) 2000 qerr, errest := g.errSol, wrote := s.now,
                        at_ := if g.labelled || st != 0 then some base else none, secs := n, fresh := l.2 }
  let m : TimeqMsg :=
    if st = 0 then { m with nofix := true, resid := sx 32 (f.getD 0 0), errest := f.getD 1 0 }
    else if st = 1 then m
    else if st = 3 then
      let r := if 0 ≤ g.resid then max 0 (g.resid - rate) else min 0 (g.resid + rate)
      { m with slew := true, resid := r, at_ := m.at_.map (fun t => ((t : Int) + r - g.resid).toNat) }
    else if st = 4 then
      let k := stepSecs g.delta
      let x := addLabel m.week m.tow k
      { m with week := x.1, tow := x.2, step_ := true, step := -g.delta, dol := true, errest := hold, errlim := ov,
               at_ := m.at_.map (fun t => ((t : Int) + k * 1000000000 - g.delta).toNat), secs := n + k + g.leapPart }
    else { m with dol := true, errest := hold, errlim := ov, resid := sx 32 (f.getD 0 0) }
  (m, l.1.2.2.2)

/-- R279, R284, R285: the message of the next TP0 pulse is written, by the configuration that `c` holds, which applies at that pulse. -/
def State.gnsTimeq (c : State) (qerr : Int) (s : State) : State :=
  let (fs, s) := s.takeFrees 32 4
  let (m, left) := c.gnsMessage qerr fs
  let st := s.tst
  let s := s.when (st = 2 || st = 4) (State.gnsHoldLimit c m.errest)
  let g := s.gns
  let past := m.fresh && m.tsys = 3 && decide (g.leapWeek * 604800 + g.leapTow ≤ m.week * 604800 + m.tow)
  let taken := g.leap != 0 && (left = 0 || past)
  let done := if taken then some (g.leap, g.leapWeek, g.leapTow) else g.leapDone
  { s with gns := { g with next := some m, msg := m, leap := if taken then 0 else left, leapDone := done,
                           resid := if st = 3 then m.resid else if st = 4 then 0 else g.resid,
                           leapPart := if st = 4 then 0 else g.leapPart } }.setFlag GNS_INTSTAT_TIMEQ

/-- R279, R292: the Time pulse group has applied: without pulses there is no train, what announced one is void, and so is its offset. -/
def State.gnsTpApplied (s : State) : State :=
  s.when (!s.gnsPulses) (fun s => { s with gns := { s.gns with labelled := false, next := none, resid := 0, delta := 0 } })

/-- The word of GNS_TQWK that a message gives. -/
def TimeqMsg.flags (m : TimeqMsg) : List Nat :=
  [b2n m.dol, b2n m.slew, b2n m.step_, b2n m.errlim, b2n m.nofix, b2n m.leap]

/-- R279: a message's label and flags put into GNS_TQWK. -/
def State.gnsShowWk (s : State) : State :=
  let m := s.gns.msg
  let s := ((s.wr GNS_TQWK_WEEK m.week).wr GNS_TQWK_TSTATE m.tstate).wr GNS_TQWK_TSYS m.tsys
  let s := ((s.wr GNS_TQWK_DOL (b2n m.dol)).wr GNS_TQWK_SLEW (b2n m.slew)).wr GNS_TQWK_STEP (b2n m.step_)
  ((s.wr GNS_TQWK_ERRLIM (b2n m.errlim)).wr GNS_TQWK_NOFIX (b2n m.nofix)).wr GNS_TQWK_LEAP (b2n m.leap)

/-- R279: a read of GNS_TQWK latches the other five registers. -/
def State.gnsLatchTq (s : State) : State :=
  let m := s.gns.msg
  let s := ((s.wr GNS_TQTOW_TOW m.tow).wr GNS_TQERR_QERR (tc 32 m.qerr)).wr GNS_TQRES_RESID (tc 32 m.resid)
  (s.wr GNS_TQEST_ERREST m.errest).wr GNS_TQSTEP_STEP (tc 32 m.step)

/-- R285: the pulse at which a step is made: EV 0x0704; a STEPPEND state becomes LOCKED. -/
def State.gnsStepped (m : TimeqMsg) (s : State) : State :=
  let t := s.emit 0x0704 [tc 32 m.step, m.tow]
  if s.tst = 4 then State.gnsTstate 1 { t with gns := { t.gns with delta := 0, resid := 0 } } else t

/-- R280: the edge of TP0: module time and the label are latched, the output becomes active for its width. -/
def State.gnsEdge (m : TimeqMsg) (s : State) : State :=
  let t := ((s.wr GNS_TPMTLO_MT s.now).wr GNS_TPMTHI_MT (s.now / 2 ^ 32)).wr GNS_TPTOW_TOW m.tow
  { t with gns := { t.gns with tp := tabPut t.gns.tp 0 (t.now + t.rd GNS_TPCTL_TP0W * 1000) } }

/-- R277, R285: the pulse of a message comes in the tick of its ideal instant. A LOCKED one lies on the true second, which module time
follows (R282) to within the 10 ppm of Table 10.7 (DEDUCED, assumption log, entry 91). -/
def TimeqMsg.due (m : TimeqMsg) (now : Nat) : Bool :=
  match m.at_ with
  | none => true
  | some t => decide (t < now + (if m.tstate = 1 then 10000 else 5))

/-- The instant of a message's pulse, from which the train goes on. -/
def TimeqMsg.instant (m : TimeqMsg) (now : Nat) : Nat := if m.tstate = 1 then now else m.at_.getD now

/-- R281: the leap second of UTC that a week has had before its second `t`. -/
def State.gnsWeekLeap (s : State) (w t : Nat) : Int :=
  match s.gns.leapDone with
  | some (l, lw, lt) => if s.rd GNS_TPCTL_TSYS = 3 && lw = w && lt != 0 && decide (lt ≤ t) then l else 0
  | none => 0

/-- R277, R281: the elapsed seconds of the week at a message's pulse, counted from the start of the week. -/
def State.gnsElapsed (s : State) (m : TimeqMsg) : Nat :=
  if m.week != s.gns.week || m.fresh then ((m.tow : Int) + s.gnsWeekLeap m.week m.tow).toNat else (s.gns.elapsed + m.secs).toNat

/-- R280, R285: the pulse that the message describes: its label and module time, and the states that end with it. -/
def State.gnsPulse (m : TimeqMsg) (s : State) : State :=
  let g := s.gns
  let s := { s with gns := { g with next := none, pulseAt := m.instant s.now, week := m.week, tow := m.tow, elapsed := s.gnsElapsed m,
                                    labelled := true } }
  let s := s.when (s.tst = 2 || (s.tst = 4 && !m.step_)) (fun s => State.gnsHoldLimit s (s.gnsErrest s.now) s)
  let s := s.when (!s.gns.stopped) (State.gnsEdge m)
  let s := s.when m.step_ (State.gnsStepped m)
  if m.slew && m.resid = 0 && s.tst = 3 then s.gnsTstate 1 else s

/-- The level of TP0 (0) or TP1 (1): a pulse has the level that its polarity calls active (R277). -/
def State.tpHigh (s : State) (p : Nat) : Bool :=
  (tabFind s.gns.tp p).isSome != s.on (if p = 0 then GNS_TPCTL_TP0POL else GNS_TPCTL_TP1POL)

/-- The elapsed time of the week that TP1 counts, ns (R277, R281): by the train of TP0, whose slews and steps it follows (R285); without a
train by the last solution's seconds, and in NOTIME by the RTC. -/
def State.gnsWeekNs (s : State) : Int :=
  let g := s.gns
  if g.labelled then (g.elapsed * 1000000000 : Nat) + ((s.now : Int) - g.pulseAt)
  else if s.tst = 0 then (s.gnsRtcNs % 604800000000000 : Nat)
  else
    let k : Int := ((s.now : Int) - g.solSec) / 1000000000
    let l := addLabel g.solWeek g.solTow k
    ((l.2 : Int) + s.gnsWeekLeap l.1 l.2) * 1000000000 + ((s.now : Int) - g.solSec - k * 1000000000)

/-- R277: an instant of the week, µs elapsed, comes in this tick. -/
def State.gnsTp1Now (s : State) (t : Nat) : Bool :=
  decide ((t * 1000 : Nat) ≤ s.gnsWeekNs) && decide (s.gnsWeekNs < (t * 1000 + 5 : Nat))

/-- TP1 is inactive in DOLDRUMS and STEPPEND with TP1DOL = 0, without pulses, and under HSTOP. -/
def State.gnsTp1 (s : State) : Bool :=
  s.on GNS_TPCTL_TP1EN && !s.on GNS_STAT_TCXOFLT && (s.tst != 0 || s.on GNS_TPCTL_NOFIX) && !s.gns.stopped &&
  !(!s.on GNS_TPCTL_TP1DOL && (s.tst = 2 || s.tst = 4))

/-- R282, R421: the correction of the rate of module time, in 0.01 ppb: the steering of GNS and the oscillator's compensation. -/
def State.clockRate (s : State) : Int := s.rdS GNS_RATE_CORR + 100 * s.rdS THM_COMP_OSC

/-- R282: module time steered to the rate of TSYS, by at most 1 ppb per second. -/
def State.gnsSteer (rate : Int) (s : State) : State :=
  if s.tst = 1 || s.tst = 3 then
    let c := s.rdS GNS_RATE_CORR
    let lim : Int := ((s.now - s.gns.rateAt) / 10000000 : Nat)
    let t := s.wrS GNS_RATE_CORR (c + clampI (-lim) lim (rate - c))
    { t with gns := { t.gns with rateAt := t.now } }
  else { s with gns := { s.gns with rateAt := s.now } }

/-- Three offsets agree within 50 ns (R283). -/
def offsAgree (l : List Int) : Bool :=
  match l.take 3 with
  | [a, b, c] => decide (max a (max b c) - min a (min b c) ≤ 50)
  | _ => false

/-- R283, R285: the decision to slew or to step by an agreed offset, which a late leap second joins (R281). -/
def State.gnsDecide (off : Int) (s : State) : State :=
  let d := off - s.gns.late * 1000000000
  let s := { s with gns := { s.gns with delta := d, resid := d, leapPart := s.gns.late, late := 0, offs := [] } }
  if d.natAbs ≤ 1000 then (s.gnsTstate 3).emit 0x0703 [tc 32 d] else s.gnsTstate 4

/-- R281: an announcement whose day has ended already is late. -/
def State.gnsLate (leap : Int) (day : Nat × Nat) (s : State) : Bool :=
  leap != 0 && s.gns.labelled && s.rd GNS_TPCTL_TSYS = 3 && decide (day.1 * 604800 + day.2 ≤ s.gns.week * 604800 + s.gns.tow)

/-- R281: an announcement of the leap second that was taken last, repeated. -/
def State.gnsTaken (leap : Int) (day : Nat × Nat) (s : State) : Bool := s.gns.leapDone == some (leap, day.1, day.2)

/-- R281: what a solution says of a leap second: an announcement is kept until its second; a late one is made as a step, at once in LOCKED
and SLEW, and with the step in hand, or the next decision, otherwise. -/
def State.gnsLeap (leap : Int) (day : Nat × Nat) (s : State) : State :=
  if leap = 0 || s.gnsTaken leap day then s
  else if s.gnsLate leap day then
    { s with gns := { s.gns with late := leap, leapDone := some (leap, day.1, day.2) } }
  else { s with gns := { s.gns with leap := leap, leapWeek := day.1, leapTow := day.2 } }

/-- A step is in hand whose message has been written. -/
def State.gnsStepSaid (s : State) : Bool := match s.gns.next with | some m => m.step_ | none => false

/-- R281: a late leap second becomes a step, or part of one whose message has not been written. -/
def State.gnsLateStep (s : State) : State :=
  let g := s.gns
  if g.late = 0 || !(s.tst = 1 || s.tst = 3 || (s.tst = 4 && !s.gnsStepSaid)) then s
  else
    let d := (if s.tst = 4 then g.delta else g.resid) - g.late * 1000000000
    State.gnsTstate 4 { s with gns := { g with delta := d, resid := d, leapPart := (if s.tst = 4 then g.leapPart else 0) + g.late, late := 0 } }

/-- R283: an offset joins the consecutive ones; at the third that agrees GNS decides. -/
def State.gnsOffset (off : Int) (s : State) : State :=
  let l := off :: s.gns.offs
  if offsAgree l then s.gnsDecide off else { s with gns := { s.gns with offs := l.take 3 } }

/-- R283: a valid time solution. -/
def State.gnsSolution (errsol : Nat) (off : Int) (week tow ns : Nat) (rate leap : Int) (leapWeek leapTow : Nat) (s : State) : State :=
  let s := { s with gns := { s.gns with solAt := s.now, errSol := errsol, solWeek := week, solTow := tow,
                                        solSys := s.rd GNS_TPCTL_TSYS, solSec := s.now + ns, startBy := none } }
  let s := ((s.gnsSteer rate).gnsLeap leap (addLabel leapWeek leapTow 0)).gnsLateStep
  if s.tst = 0 then
    if s.on GNS_STAT_TCXOFLT then s
    else if s.on GNS_TPCTL_TP0EN && s.on GNS_TPCTL_NOFIX && s.gns.labelled then s.gnsOffset off
    else s.gnsTstate 1
  else if s.tst = 2 && !s.isFenced 0x07 then s.gnsOffset off
  else s

/-- R283, R286: DOLDRUMS is entered from LOCKED, SLEW or STEPPEND; the RESID that remains joins ERRSOL, and a step whose
message has not been written is cancelled; a late leap second in it waits for the next one. -/
def State.gnsDoldrums (s : State) : State :=
  if s.tst = 1 || s.tst = 3 || s.tst = 4 then
    let r := if s.tst = 1 then 0 else s.gns.resid.natAbs
    let back := if s.tst = 4 && !s.gnsStepSaid then s.gns.leapPart else 0
    ({ s with gns := { s.gns with errSol := s.gns.errSol + r, resid := 0, late := s.gns.late + back, leapPart := 0 } }).gnsTstate 2
  else s

/-! ## Retention (R287, R288) -/

/-- The CRC of an item's words (its polynomial is the model's choice: CRC-32, assumption log, entry 91). -/
def itemCrc (ws : List Nat) : Nat := crc32 (ws.flatMap (fun w => (List.range 8).map (fun i => w / 256 ^ i % 256)))

/-- R287: an item of retention memory is written, with its CRC. -/
def State.gnsKeep (k : Nat) (ws : List Nat) (s : State) : State :=
  { s with ret := { s.ret with items := tabPut s.ret.items k ⟨ws, itemCrc ws⟩ } }

/-- R287: ephemerides, almanac and position, whose contents the spec does not give (free values), and the relation of a label to the RTC,
the last pulse's or, without a train, the last solution's, go to retention memory. -/
def State.gnsRetain (s : State) : State :=
  let (f, s) := s.takeFrees 32 3
  let g := s.gns
  let rel := if g.labelled then [g.week, g.tow, g.msg.tsys, s.rtc0 + g.pulseAt] else [g.solWeek, g.solTow, g.solSys, s.rtc0 + g.solSec]
  let s := (((s.gnsKeep 3 (f.take 1)).gnsKeep 2 ((f.drop 1).take 1)).gnsKeep 1 (f.drop 2)).gnsKeep 0 rel
  { s with ret := { s.ret with at_ := s.rtc }, gns := { s.gns with savedAt := s.now } }

/-- R288: the items whose CRC is good, as bits of VALID. -/
def State.gnsGood (s : State) : Nat :=
  (s.ret.items.filter (fun e => e.2.crc = itemCrc e.2.words)).foldl (fun n e => setBit n e.1) 0

/-- The age of the retained data, ns. -/
def State.gnsAge (s : State) : Nat := s.rtc - s.ret.at_

/-- GNS_RET as it reads: the age of the ephemerides in minutes, and the items kept. -/
def State.gnsRetWord (s : State) : Nat :=
  let v := s.gnsGood
  let age := if bit v 3 then min (s.gnsAge / 60000000000) 0xFFFF else 0xFFFF
  age * 0x10000 + v

/-- R288: how long, at most, a start with the good items `v` takes to its first valid solution, s: 3 with ephemerides under 4 h old, 30 with
an almanac under 30 days old, 60 from cold. -/
def State.gnsStartTime (s : State) (v : Nat) : Nat :=
  if bit v 3 && decide (s.gnsAge < 14400000000000) then 3 else if bit v 2 && decide (s.gnsAge < 2592000000000000) then 30 else 60

/-- R288: a start with the retained items `v`; without any it is a cold start, EV 0x070D. -/
def State.gnsStart (v : Nat) (s : State) : State :=
  let t := { s with gns := { s.gns with taken := v, startBy := some (s.now + s.gnsStartTime v * 1000000000) } }
  t.when (v = 0) (State.emit 0x070D [])

/-- R288: the receiver is enabled: it uses every item whose CRC is good. -/
def State.gnsEnable (s : State) : State := s.gnsStart s.gnsGood

/-- Every channel is IDLE. -/
def State.gnsDisable (s : State) : State := (s.each (List.range 184) State.gnsFree).gnsCount

/-- A receiver that is switched off tracks nothing, and has no speed (R276: no satellites in its solution). -/
def State.gnsOff (s : State) : State :=
  ((s.gnsDisable.wr GNS_STAT_SOGV 0).wr GNS_SOGST_SOGV 0).gnsToBases

/-! ## Reset and fence (R290, R291) -/

/-- R290: a reset of the GNS domain; retention memory is kept. -/
def State.gnsReset (s : State) : State := { s with gns := {} }

/-- R291: a fence of GNS: the speed record is unavailable, the time state enters DOLDRUMS, EV 0x0710. -/
def State.gnsFence (s : State) : State :=
  let t := ((s.wr GNS_STAT_SOGV 0).wr GNS_SOGST_SOGV 0).setFlag GNS_INTSTAT_FENCE
  (t.gnsToBases.gnsDoldrums).emit 0x0710 []

/-- R279: a read of GNS_TQWK: the week word, with the other five TIMEQ registers latched. -/
def State.gnsReadTqwk (s : State) : Nat × State :=
  let t := s.gnsShowWk.gnsLatchTq
  (t.gns.msg.week % 2 ^ 16 * 0x10000 + t.gns.msg.tstate * 0x2000 + b2n t.gns.msg.dol * 0x1000 + b2n t.gns.msg.slew * 0x800 +
    b2n t.gns.msg.step_ * 0x400 + b2n t.gns.msg.errlim * 0x200 + b2n t.gns.msg.nofix * 0x100 + b2n t.gns.msg.leap * 0x80 +
    t.gns.msg.tsys * 0x20, t)

/-- The words of an epoch slot as the host reads them at an offset of the window (R273). -/
def State.gnsSlotWord (s : State) (off : Nat) : Nat :=
  let e := (off - 0x4000) / 0x1800
  nth (tabGet [] s.gns.slots e) ((off - 0x4000) % 0x1800 / 4) 0

end Sys2Proof.Machine
end

