-- ==== Sys2Proof/Machine/EthOps.lean ====
section
/-!
DEFINITION. The operations of the Ethernet switch (spec/12_field_buses_and_fleet_link.md, R340–R343).
-/
namespace Sys2Proof.Machine

/-- The big-endian number of some bytes. -/
def beNat (l : List Nat) : Nat := l.foldl (fun a b => a * 256 + b) 0

def State.ethFlag (i : Nat) (s : State) : State := s.setFlagBit ETH_INTSTAT_FLAGS i

/-- A port's link is up; P6 always (ETH_STAT). -/
def State.ethLink (s : State) (p : Nat) : Bool := p = 6 || bit (s.rd ETH_STAT_LINK) p

/-- The tag of a frame: its TCI, where it has one. -/
def ethTag (b : List Nat) : Option Nat := if (b.drop 12).take 2 = [0x81, 0x00] then some (beNat ((b.drop 14).take 2)) else none

/-- A frame without its tag, or with one. -/
def ethUntag (b : List Nat) : List Nat := if (ethTag b).isSome then b.take 12 ++ b.drop 16 else b
def ethRetag (tci : Nat) (b : List Nat) : List Nat := (ethUntag b).take 12 ++ [0x81, 0x00, tci / 256, tci % 256] ++ (ethUntag b).drop 12

/-- The valid VLAN entry of an identifier (R341). -/
def State.ethVlan (s : State) (vid : Nat) : Option Nat :=
  (List.range 16).find? (fun v => s.on (ETH_VLAN_VALID v) && s.rd (ETH_VLAN_VID v) = vid)

/-! ### Egress (R341) -/

/-- The time that a port takes for one byte: 100BASE-T1 on P0–P3, 1000BASE-T1 on P4 and P5. -/
def ethByteNs (p : Nat) : Nat := if p < 4 then 80 else 8

/-- What a port sends. -/
def State.ethWire (s : State) (p : Nat) : EthWire := tabGet {} s.eth.wire p

/-- A port starts a frame: it is busy for the frame, its preamble and the gap after it. -/
def State.ethStart (p : Nat) (o : EthOut) (t : Nat) (s : State) : State :=
  { s with eth := { s.eth with wire := tabSet {} s.eth.wire p ⟨t + (o.bytes.length + 20) * ethByteNs p, some o⟩ } }

/-- The frame that a port sends next: the oldest of its highest queue. -/
def State.ethNext (s : State) (p : Nat) : Option EthOut :=
  [3, 2, 1, 0].findSome? (fun q => s.eth.wait.find? (fun o => o.port = p && o.queue = q))

/-- The frames of a port's queues that have begun by now, one after the other: each at the end of the one before it. -/
def State.ethServe (p : Nat) : Nat → State → State
  | 0, s => s
  | n + 1, s =>
    match s.ethNext p with
    | none => s
    | some o =>
      let t := (s.ethWire p).until_
      if s.now < t then s
      else State.ethServe p n (State.ethStart p o t { s with eth := { s.eth with wait := s.eth.wait.erase o } })

/-- A frame reaches the egress of a port: it begins at once on an idle port, or waits in its queue. -/
def State.ethQueue (o : EthOut) (s : State) : State :=
  let s := s.ethServe o.port s.eth.wait.length
  if (s.ethWire o.port).until_ ≤ s.now then s.ethStart o.port o s.now
  else { s with eth := { s.eth with wait := s.eth.wait ++ [o] } }

/-- R352: no port is sending a frame. -/
def State.ethQuiet (s : State) : Bool :=
  (List.range 6).all (fun p => decide (((s.ethServe p s.eth.wait.length).ethWire p).until_ ≤ s.now))

/-- What a port was sending or had waiting is lost with its link. -/
def State.ethCut (p : Nat) (s : State) : State :=
  { s with eth := { s.eth with wait := s.eth.wait.filter (fun o => o.port != p), wire := tabDel s.eth.wire p } }

/-- The frame check sequence of IEEE 802.3. -/
def ethFcs (b : List Nat) : List Nat := leBytes 4 (crc32 b)

/-- A frame without its check sequence, at least as long as the shortest frame, closed with it. -/
def ethSeal (b : List Nat) : List Nat :=
  let b := b ++ List.replicate (60 - b.length) 0
  b ++ ethFcs b

/-- R341: a frame as it leaves: with the tag given, or untagged. -/
def ethForm (tci : Option Nat) (b : List Nat) : List Nat :=
  let body := b.take (b.length - 4)
  ethSeal (match tci with | some t => ethRetag t body | none => ethUntag body)

/-! ### Ingress -/

/-- R341: a source address is learned, up to 1,024. -/
def State.ethLearn (mac vid p : Nat) (s : State) : State :=
  let rest := s.eth.macs.filter (fun m => !(m.mac = mac && m.vid = vid))
  if rest.length < s.eth.macs.length || rest.length < 1024 then
    { s with eth := { s.eth with macs := ⟨mac, vid, p, s.now⟩ :: rest } }
  else s

/-- R341: an address ages out. -/
def State.ethAge (mac vid : Nat) (s : State) : State :=
  { s with eth := { s.eth with macs := s.eth.macs.filter (fun m =>
    !(m.mac = mac && m.vid = vid && decide (m.at_ + 300000000000 ≤ s.now))) } }

/-- R341: the ports to which a frame goes, ingress port apart. -/
def State.ethEgress (s : State) (p dst vid member : Nat) : List Nat :=
  let ok (q : Nat) : Bool := q != p && bit member q && s.on (ETH_PCTL_EN q) && s.ethLink q
  let ports := (List.range 7).filter ok
  if dst = Config.fltMac.toNat then [6].filter ok
  else if dst / 2 ^ 40 % 2 = 1 then ports
  else match s.eth.macs.find? (fun m => m.mac = dst && m.vid = vid) with
    | some m => [m.port].filter ok
    | none => ports

/-- The descriptors of a host ring. -/
def ethSize (f : Nat) : Nat := 16 * 2 ^ f

/-- R342, R343: the module time of the start-frame delimiter of a frame that has just ended at a port, in steps of 8 ns; a frame of the host
port is stamped when it passes to the switch. -/
def State.ethSfd (s : State) (p n : Nat) : Nat := (if p < 6 then s.now - n * ethByteNs p else s.now) / 8 * 8

/-- R343: a frame to the host's receive ring with its time stamp, or dropped. -/
def State.ethHostRx (b : List Nat) (err : Bool) (ts : Nat) (s : State) : State :=
  let size := ethSize (s.rd ETH_HRXR_SIZE)
  let w := s.rd ETH_HRXWR_IDX
  if size ≤ (w + 2048 - s.rd ETH_HRXRD_IDX) % 2048 then
    ((s.inc (ETH_PCNT_RXDROP 6)).ethFlag 3).emitSec 0x0D04 6 (fun k => [6, k])
  else
    let d := s.rd ETH_HRXR_BASE * 4096 + w % size * 16
    let s := s.stBytes (s.ldw d) b
    let s := s.stWords (d + 4) [2 ^ 31 + b2n err * 2 ^ 30 + b.length, ts % 2 ^ 32, ts / 2 ^ 32]
    (s.wr ETH_HRXWR_IDX (w + 1)).ethFlag 0

/-- R29: the agent detects a fault: the received frames that the host has not yet taken are flagged with ERR (Table 12.5). -/
def State.ethRxInvalid (s : State) : State :=
  let size := ethSize (s.rd ETH_HRXR_SIZE)
  let r := s.rd ETH_HRXRD_IDX
  s.each (List.range ((s.rd ETH_HRXWR_IDX + 2048 - r) % 2048)) (fun i s =>
    let d := s.rd ETH_HRXR_BASE * 4096 + (r + i) % size * 16 + 4
    s.stw d (setBit (s.ldw d) 30))

/-- R341, R343: what a frame's egress at the host port does: to FLT, to the ring, or both for a group address. -/
def State.ethToHost (dst : Nat) (b : List Nat) (ts : Nat) (s : State) : State :=
  if s.isFenced 0x0D then s
  else if dst = Config.fltMac.toNat then { s with eth := { s.eth with toFlt := true } }
  else
    let t := s.ethHostRx b false ts
    if dst / 2 ^ 40 % 2 = 1 then { t with eth := { t.eth with toFlt := true } } else t

/-- A dropped frame is counted at its port. -/
def State.ethDrop (p : Nat) (s : State) : State := s.inc (ETH_PCNT_RXDROP p)

/-- R341: the VLAN of a frame that enters at a port: its tag's, or the port's. -/
def State.ethVid (s : State) (p : Nat) (b : List Nat) : Nat :=
  let tci := (ethTag b).getD 0
  if tci % 4096 != 0 then tci % 4096 else s.rd (ETH_PCTL_PVID p)

/-- R341: the entry of the VLAN in which a port's frame is switched; none where the frame is dropped. -/
def State.ethEntry (s : State) (p : Nat) (b : List Nat) : Option Nat :=
  (s.ethVlan (s.ethVid p b)).filter (fun v => bit (s.rd (ETH_VLAN_MEMBER v)) p)

/-- R341: a frame as it leaves at a port, by VLAN entry `v`. -/
def State.ethOutAt (s : State) (p v : Nat) (b : List Nat) (q : Nat) : EthOut :=
  let tci := (ethTag b).getD 0
  let tagged := !bit (s.rd (ETH_VLAN_UNTAG v)) q
  ⟨q, tci / 2 ^ 13 / 2, tagged, ethForm (if tagged then some (tci / 4096 * 4096 + s.ethVid p b) else none) b⟩

/-- R341: a good frame that has entered at a port is switched. -/
def State.ethSwitch (p : Nat) (b : List Nat) (s : State) : State :=
  let s := { s with eth := { s.eth with out := [], toFlt := false } }
  match s.ethEntry p b with
  | none => s.ethDrop p
  | some v =>
    let dst := beNat (b.take 6); let vid := s.ethVid p b
    let s := s.ethLearn (beNat ((b.drop 6).take 6)) vid p
    let outs := (s.ethEgress p dst vid (s.rd (ETH_VLAN_MEMBER v))).map (s.ethOutAt p v b)
    let s := { s with eth := { s.eth with out := outs } }
    s.each outs (fun o s => if o.port = 6 then s.ethToHost dst o.bytes (s.ethSfd p b.length) else s.ethQueue o)

/-- Table 12.5: a frame received with an error goes nowhere but, where it was for the host, to its ring with ERR (assumption log, entry
100). -/
def State.ethBad (p : Nat) (b : List Nat) (s : State) : State :=
  let dst := beNat (b.take 6)
  match s.ethEntry p b with
  | none => s
  | some v =>
    let toHost := !s.isFenced 0x0D && dst != Config.fltMac.toNat && (s.ethEgress p dst (s.ethVid p b) (s.rd (ETH_VLAN_MEMBER v))).contains 6
    s.when toHost (State.ethHostRx (s.ethOutAt p v b 6).bytes true (s.ethSfd p b.length))

/-- No frame has been switched in this step yet. -/
def State.ethNone (s : State) : State := { s with eth := { s.eth with out := [], toFlt := false } }

/-- R344: a frame that FLT sends of itself, untagged and without its check sequence, in VLAN `vid`: it is switched from the host port, while
that is on and ETH is not fenced (R355). What the frame before it did stays shown. -/
def State.ethFromFlt (vid : Nat) (b : List Nat) (s : State) : State :=
  if s.isFenced 0x0D || !s.on (ETH_PCTL_EN 6) then s
  else
    let b := ethSeal (ethRetag vid b)
    let t := s.ethSwitch 6 b
    { t with eth := { t.eth with out := s.eth.out, toFlt := s.eth.toFlt, reply := b, replyOut := t.eth.out } }

/-- R340: a frame at a port. -/
def State.ethRx (p : Nat) (b : List Nat) (err : Bool) (s : State) : State :=
  if !s.on (ETH_PCTL_EN p) || !s.ethLink p then s
  else if err then (s.inc (ETH_PCNT_RXERR p)).when (decide (64 ≤ b.length) && decide (b.length ≤ 1522)) (State.ethBad p b)
  else if b.length < 64 || 1522 < b.length then s.ethDrop p
  else s.ethSwitch p b

/-- R343: the next frame of the host's transmit ring. -/
def State.ethHostTx (s : State) : State :=
  let size := ethSize (s.rd ETH_HTXR_SIZE)
  let r := s.rd ETH_HTXRD_IDX
  if r = s.rd ETH_HTXWR_IDX then s
  else
    let d := s.rd ETH_HTXR_BASE * 4096 + r % size * 16
    let w1 := s.ldw (d + 4)
    let len := w1 % 2048
    let b := s.ldBytes (s.ldw d) len
    let fits := decide (64 ≤ len) && decide (len ≤ 1522)
    let ok := fits && s.on (ETH_PCTL_EN 6)
    let ts := s.ethSfd 6 len
    let t := if ok then s.ethSwitch 6 b else s.when (!fits) (State.ethDrop 6)
    let t := if ok && (s.ethEntry 6 b).isSome then t.when (bit w1 31) (State.stWords (d + 8) [ts % 2 ^ 32, ts / 2 ^ 32])
      else t.stw (d + 4) (setBit w1 30)
    (t.wr ETH_HTXRD_IDX (r + 1)).ethFlag 1

/-- R340: a link comes up or goes down. -/
def State.ethLinkTo (p : Nat) (up : Bool) (sqi : Nat) (s : State) : State :=
  let s := s.wr (ETH_PSTAT_SQI p) sqi
  if s.ethLink p = up then s
  else
    let t := ((s.wr ETH_STAT_LINK (putBit (s.rd ETH_STAT_LINK) p up)).wr (ETH_PSTAT_LINK p) (b2n up)).ethFlag 2
    (t.when (!up) (State.ethCut p)).emit (if up then 0x0D01 else 0x0D02) [p, sqi]

/-- R342: the module's clockClass. -/
def State.ethClass (s : State) : Nat :=
  match s.rd GNS_STAT_TSTATE with | 1 => 6 | 3 => 6 | 2 => 7 | 4 => 7 | _ => 248

/-- R342: gPTP time minus module time while the module is grandmaster: GPS time plus 19 s, by the relation that GNS has latched at the last
TP0 edge (R280). -/
def State.ethOwnOfs (s : State) : Int :=
  ((s.gns.week * 604800 + s.rd GNS_TPTOW_TOW + 19) * 1000000000 : Nat) - (s.rd GNS_TPMTLO_MT + s.rd GNS_TPMTHI_MT * 2 ^ 32 : Nat)

/-- R342: another grandmaster is better than the module. -/
def State.ethBetter (s : State) (g : EthGm) : Bool :=
  let a := [g.prio1, g.cls, g.prio2]; let b := [s.rd ETH_PTPCTL_PRIO1, s.ethClass, s.rd ETH_PTPCTL_PRIO2]
  if a = b then g.lower
  else if g.prio1 != s.rd ETH_PTPCTL_PRIO1 then decide (g.prio1 < s.rd ETH_PTPCTL_PRIO1)
  else if g.cls != s.ethClass then decide (g.cls < s.ethClass)
  else decide (g.prio2 < s.rd ETH_PTPCTL_PRIO2)

/-- The role, the class and the offset of R342; with no grandmaster and none capable, PTPROLE is 3. -/
def State.ethRole (s : State) (gm : Option EthGm) : Nat × Nat × Int :=
  let own : Nat × Nat × Int := if s.on ETH_PTPCTL_GMCAP then (1, s.ethClass, s.ethOwnOfs) else (3, 0xF8, s.eth.ofs)
  match gm with
  | some g => if !s.on ETH_PTPCTL_GMCAP || s.ethBetter g then (2, g.cls, g.ofs + (tabGet 0 s.eth.delay g.port : Nat)) else own
  | none => own

/-- PTPROLE and GMCLASS change; for EV 0x0D03 the spec names no port: a free value. -/
def State.ethSetRole (role cls : Nat) (s : State) : State :=
  let old := s.rd ETH_STAT_PTPROLE
  let t := (s.wr ETH_STAT_PTPROLE role).wr ETH_STAT_GMCLASS cls
  if old = role then t
  else
    let r := t.takeFree 3
    (r.2.ethFlag 4).emit 0x0D03 [r.1, role, cls]

/-- R342: the roles of the ports. With the module unsynchronised the spec does not give them: free values. -/
def State.ethPtpPorts (role : Nat) (gm : Option EthGm) (s : State) : State :=
  s.each (List.range 6) (fun p s =>
    if !(s.on (ETH_PCTL_EN p) && s.on (ETH_PCTL_PTPEN p)) then s.wr (ETH_PSTAT_PTPSTATE p) 0
    else if role = 3 then (s.takeFree 2).2.wr (ETH_PSTAT_PTPSTATE p) (s.takeFree 2).1
    else s.wr (ETH_PSTAT_PTPSTATE p) (if role = 2 && (gm.map (·.port)) = some p then 2 else 1))

/-- R342: a port runs 802.1AS. -/
def State.ethTimed (s : State) (p : Nat) : Bool := decide (p < 6) && s.on (ETH_PCTL_EN p) && s.ethLink p && s.on (ETH_PCTL_PTPEN p)

/-- R342: a grandmaster is heard on a port that runs 802.1AS, in the module's domain. -/
def State.ethHears (s : State) (g : EthGm) : Bool := s.ethTimed g.port && g.domain = s.rd ETH_PTPCTL_DOMAIN

/-- An interval of `dt` that last ran at `t` is over. -/
def State.ethElapsed (s : State) (t : Option Nat) (dt : Nat) : Bool := match t with | some t => decide (t + dt ≤ s.now) | none => true

/-- R342: the peer-delay interval: the delay of each port that runs 802.1AS is measured anew. -/
def State.ethPeer (delays : List (Nat × Nat)) (s : State) : State :=
  if s.ethElapsed s.eth.peerAt 1000000000 then
    { s with eth := { s.eth with
      peerAt := some s.now, delay := (delays.filter (fun e => s.ethTimed e.1)).foldl (fun t e => tabSet 0 t e.1 e.2) s.eth.delay } }
  else s

/-- R342: the sync interval: role, offset and port states are renewed. -/
def State.ethSync (gm : Option EthGm) (delays : List (Nat × Nat)) (s : State) : State :=
  let s := State.ethPeer delays { s with eth := { s.eth with syncAt := some s.now } }
  let gm := gm.filter s.ethHears
  let r := s.ethRole gm
  let t := { s with eth := { s.eth with ofs := r.2.2 } }
  (t.ethSetRole r.1 r.2.1).ethPtpPorts r.1 gm

/-- ETH_PTPOFSLO: a read latches HI. -/
def State.ethReadOfs (s : State) : Nat × State :=
  let v := tc 64 s.eth.ofs
  (v % 2 ^ 32, s.wr ETH_PTPOFSHI_OFS (v / 2 ^ 32))

/-- R352: the PTP group has applied. -/
def State.ethPtpApplied (s : State) : State :=
  if s.on ETH_PTPCTL_EN then s
  else
    let s := { s with eth := { s.eth with syncAt := none, peerAt := none, delay := [] } }
    (s.ethSetRole 0 0xF8).each (List.range 6) (fun p s => s.wr (ETH_PSTAT_PTPSTATE p) 0)

/-- R352: a port's group has applied: a change of ROLE, or switching the port off, ends its link. -/
def State.ethPortApplied (p role : Nat) (s : State) : State :=
  if p < 6 && s.ethLink p && (s.rd (ETH_PCTL_ROLE p) != role || !s.on (ETH_PCTL_EN p)) then s.ethLinkTo p false (s.rd (ETH_PSTAT_SQI p))
  else s

/-- R354. -/
def State.ethReset (s : State) : State := { s with eth := {} }

/-- R355: the fence event; the spec names no port: a free value. -/
def State.ethFence (s : State) : State :=
  let r := s.takeFree 3
  (r.2.ethFlag 5).emit 0x0D06 [r.1]

end Sys2Proof.Machine
end

