-- ==== Sys2Proof/Machine/FltOps.lean ====
section
/-!
DEFINITION. The operations of the fleet engine (spec/12_field_buses_and_fleet_link.md, R344–R351).
-/
namespace Sys2Proof.Machine

def State.fls (s : State) (k : Nat) : FltSess := tabGet {} s.flt.sess k
def State.setFls (k : Nat) (x : FltSess) (s : State) : State := { s with flt := { s.flt with sess := tabSet {} s.flt.sess k x } }
def State.flSt (s : State) (k : Nat) : Nat := s.rd (FLT_SSTAT_STATE k)
def State.fltFlag (i : Nat) (s : State) : State := s.setFlagBit FLT_INTSTAT_FLAGS i

/-! ## The IPv4 host (R344) -/

/-- FLT's MAC and IPv4 addresses as bytes. -/
def fltMacBytes : List Nat := beBytes 6 Config.fltMac.toNat
def State.fltIp (s : State) : List Nat := beBytes 4 (s.rd FLT_IP_ADDR)

/-- R344: the answer to an ARP request for FLT's address (RFC 826). -/
def State.fltArp (s : State) (b : List Nat) : Option (List Nat) :=
  let sha := (b.drop 22).take 6; let spa := (b.drop 28).take 4
  if (b.drop 12).take 10 = [8, 6, 0, 1, 8, 0, 6, 4, 0, 1] && (b.drop 38).take 4 = s.fltIp then
    some (sha ++ fltMacBytes ++ [8, 6, 0, 1, 8, 0, 6, 4, 0, 2] ++ fltMacBytes ++ s.fltIp ++ sha ++ spa)
  else none

/-- R344: a frame of FLT's in its VLAN. -/
def State.fltFrame (b : List Nat) (s : State) : State := s.ethFromFlt (s.rd FLT_NET_VID) b

/-- R344: the ARP request for an address. -/
def State.fltAsk (ip : Nat) (s : State) : State :=
  s.fltFrame (List.replicate 6 255 ++ fltMacBytes ++ [8, 6, 0, 1, 8, 0, 6, 4, 0, 1] ++ fltMacBytes ++ s.fltIp ++ List.replicate 6 0 ++ beBytes 4 ip)

/-- R344: an IPv4 datagram to the next hop, whose address ARP has found; else it waits, and ARP asks. -/
def State.fltIpOut (hop : Nat) (d : List Nat) (s : State) : State :=
  match tabFind s.flt.arp hop with
  | some mac => s.fltFrame (beBytes 6 mac ++ fltMacBytes ++ [8, 0] ++ d)
  | none => State.fltAsk hop { s with flt := { s.flt with wait := s.flt.wait ++ [(hop, d)] } }

/-- R344: an ARP packet for FLT's address names its sender's MAC address; a known sender's is renewed by any (RFC 826). What waited for it
goes out. -/
def State.fltArpSeen (b : List Nat) (s : State) : State :=
  let ip := beNat ((b.drop 28).take 4)
  let head := (b.drop 12).take 9 = [8, 6, 0, 1, 8, 0, 6, 4, 0] && (b.getD 21 0 = 1 || b.getD 21 0 = 2)
  if head && ((b.drop 38).take 4 = s.fltIp || (tabFind s.flt.arp ip).isSome) then
    let out := s.flt.wait.filter (fun e => e.1 = ip)
    let s := { s with flt := { s.flt with arp := tabPut s.flt.arp ip (beNat ((b.drop 22).take 6)), wait := s.flt.wait.filter (fun e => e.1 != ip) } }
    s.each out (fun e s => s.fltIpOut e.1 e.2)
  else s

/-- A ones' complement sum of 16 bits. -/
def sum16 (a b : Nat) : Nat := if a + b < 0x10000 then a + b else a + b - 0xFFFF

/-- The ones' complement sum of some bytes, as 16-bit words. -/
def sumBytes : List Nat → Nat
  | [] => 0
  | [a] => a * 256
  | a :: b :: r => sum16 (a * 256 + b) (sumBytes r)

/-- R344: the payload of an IPv4 packet to FLT's address of a protocol, with the length of its header and the packet: not of a fragment, in at
most 1,400 bytes. -/
def State.fltIn (s : State) (proto : Nat) (b : List Nat) : Option (List Nat × Nat × List Nat) :=
  let ip := b.drop 14
  let len := beNat ((ip.drop 2).take 2); let hl := ip.headD 0 % 16 * 4
  if (b.drop 12).take 2 = [8, 0] && ip.headD 0 / 16 = 4 && decide (20 ≤ hl) && decide (hl + 8 ≤ len) && decide (len ≤ ip.length) &&
      beNat ((ip.drop 6).take 2) % 0x4000 = 0 && ip.getD 9 0 = proto && (ip.drop 16).take 4 = s.fltIp then
    some (ip, hl, (ip.take len).drop hl)
  else none

/-- R344: the answer to an ICMP echo request to FLT's address (RFC 792), in at most 1,400 bytes: the request with its addresses exchanged and
type 0 (its other header fields as they came: assumption log, entry 93). -/
def State.fltEcho (s : State) (b : List Nat) : Option (List Nat) :=
  match s.fltIn 1 b with
  | some (ip, hl, icmp) =>
    if icmp.take 2 = [8, 0] && decide (hl + icmp.length ≤ 1400) then
      let c := sum16 (beNat ((icmp.drop 2).take 2)) 0x0800
      some ((b.drop 6).take 6 ++ fltMacBytes ++ [8, 0] ++ ip.take 12 ++ s.fltIp ++ (ip.drop 12).take 4 ++ (ip.take hl).drop 20 ++
        [0, 0, c / 256, c % 256] ++ icmp.drop 4)
    else none
  | none => none

/-- R344, R347: a UDP datagram on LPORT from a session's peer is one of that session's. -/
def State.fltUdpSeen (b : List Nat) (s : State) : State :=
  match s.fltIn 17 b with
  | some (ip, _, udp) =>
    let src := beNat ((ip.drop 12).take 4); let port := beNat (udp.take 2)
    if beNat ((udp.drop 2).take 2) = s.rd FLT_UDP_LPORT && beNat ((udp.drop 4).take 2) = udp.length then
      s.each ((List.range 64).filter (fun k => s.flSt k = 2 && s.rd (FLT_SPEER_PEER k) = src && s.rd (FLT_SPORT_PPORT k) = port))
        (fun k s => s.setFls k { s.fls k with rx := s.now })
    else s
  | none => s

/-- R344: what FLT does with a frame that reaches it in its VLAN: ARP, ICMP echo, and UDP on LPORT; a fenced session pauses (R355). -/
def State.fltAnswers (p : Nat) (frame : List Nat) (s : State) : State :=
  let b := ethUntag frame
  if !s.eth.toFlt || !s.blockOn 0x0E || s.ethVid p frame != s.rd FLT_NET_VID then s
  else
    let s := (s.fltArpSeen b).when (s.live 0x0E) (State.fltUdpSeen b)
    match (s.fltArp b).or (s.fltEcho b) with
    | some r => s.fltFrame r
    | none => s

/-- R344: a UDP datagram from LPORT to a session's peer. For the identification, the fragment flag and the time to live of its IPv4 header the
spec gives no value: `x`, a free value. -/
def State.fltDatagram (s : State) (k x : Nat) (b : List Nat) : List Nat :=
  let adr := s.fltIp ++ beBytes 4 (s.rd (FLT_SPEER_PEER k))
  let udp := beBytes 2 (s.rd FLT_UDP_LPORT) ++ beBytes 2 (s.rd (FLT_SPORT_PPORT k)) ++ beBytes 2 (b.length + 8)
  let c := 0xFFFF - sumBytes (adr ++ [0, 17] ++ beBytes 2 (b.length + 8) ++ udp ++ [0, 0] ++ b)
  let ip := [0x45, 0] ++ beBytes 2 (b.length + 28) ++ beBytes 2 x ++ [x / 2 ^ 16 % 2 * 64, 0, x / 2 ^ 17 % 256, 17]
  ip ++ beBytes 2 (0xFFFF - sumBytes (ip ++ adr)) ++ adr ++ udp ++ beBytes 2 (if c = 0 then 0xFFFF else c) ++ b

/-- R344: the next hop to a session's peer: the peer where PREFIX puts it on FLT's network, else the gateway. -/
def State.fltHop (s : State) (k : Nat) : Nat :=
  let m := 2 ^ (32 - s.rd FLT_NET_PREFIX)
  let peer := s.rd (FLT_SPEER_PEER k)
  if peer / m = s.rd FLT_IP_ADDR / m then peer else s.rd FLT_GW_ADDR

/-- R344, R345: `n` bytes of DTLS go to a session's peer in one datagram; they are enciphered, with keys that nothing else shows: a free
value. -/
def State.fltUdp (k n : Nat) (s : State) : State :=
  let r := s.takeFree (8 * n)
  let h := r.2.takeFree 25
  h.2.fltIpOut (h.2.fltHop k) (h.2.fltDatagram k h.1 (leBytes n r.1))

/-! ## What a session sends (R348, R349) -/

/-- A session's messages go out: it is UP and, sending not being paused, APP is on (R349). -/
def State.fltTalks (s : State) (k : Nat) : Bool := s.live 0x0E && s.flSt k = 2 && s.domOn 3

/-- R348: a message in one DTLS 1.3 record: a 16-byte header and the payload, in 5 bytes of record header, the content type and a tag of 16
(assumption log, entry 100). -/
def State.fltSend (k : Nat) (m : FltMsg) (s : State) : State :=
  (s.setFls k { s.fls k with tx := s.now, sent := some m }).fltUdp k (16 + m.payload.length + 22)

/-- Table 12.8: a record as its message: DATA, or GAP. -/
def FltRec.msg (r : FltRec) : FltMsg := ⟨if r.gap then 4 else 1, r.prio, r.seq, r.data⟩

/-- R349: the records of a session that have not been sent since it entered UP go out in sequence order. -/
def State.fltPump (k : Nat) (s : State) : State :=
  if s.fltTalks k then
    s.each (s.flt.queue.filter (fun r => r.sess = k && decide ((s.fls k).nxt ≤ r.seq))) (fun r s =>
      (s.setFls k { s.fls k with nxt := r.seq + 1 }).fltSend k r.msg)
  else s

/-- R351: descriptors of the inbound ring that the host has not freed. -/
def State.fltUnread (s : State) : Nat := (s.rd FLT_RXWR_IDX + 512 - s.rd FLT_RXRD_IDX) % 512

/-- R348, R351: the acknowledgement that a session owes, of every record up to the last one delivered: no ACK while the ring is full. -/
def State.fltAckOut (k : Nat) (s : State) : State :=
  let x := s.fls k
  if x.owed && s.fltTalks k && decide (s.fltUnread < 256) then
    (s.setFls k { x with owed := false, acked := x.last }).fltSend k ⟨2, 0, x.last, []⟩
  else s

/-- What has waited goes out, where it may now. -/
def State.fltGo (k : Nat) (s : State) : State := (s.fltAckOut k).fltPump k

/-! ## Sessions (R347) -/

/-- R347: a change of state: EV 0x0E01 on entering UP, else EV 0x0E02 with the cause; a state entered again is no change. In CONNECT a client
sends ClientHello, whose bytes and length the spec does not fix: free values. -/
def State.flEnter (k st cause : Nat) (s : State) : State :=
  let t := (s.wr (FLT_SSTAT_STATE k) st).setFls k { s.fls k with at_ := s.now, owed := false }
  let t := if s.flSt k = st then t else (t.fltFlag 2).emit (if st = 2 then 0x0E01 else 0x0E02) (if st = 2 then [k] else [k, cause])
  if st = 1 && !t.on (FLT_SCFG_ROLE k) then (t.takeFree 11).2.fltUdp k (min 1372 (t.takeFree 11).1) else t

/-- EV 0x0E02 has no cause for a change that is neither a timeout, nor a commit, nor a fence: a free one. -/
def State.flEnterFree (k st : Nat) (s : State) : State := (s.takeFree 16).2.flEnter k st (s.takeFree 16).1

/-- The handshake has completed: UP, the back-off returns to 2 s, and unacknowledged records are sent again. -/
def State.flUp (k : Nat) (s : State) : State :=
  let t := (s.flEnter k 2 0).wr (FLT_SSTAT_NOTIME k) (b2n (s.rd GNS_STAT_TSTATE = 0))
  (t.setFls k { t.fls k with rx := t.now, tx := t.now, wait := 2, next := 2, nxt := 0 }).fltPump k

/-- BACKOFF after a timeout: each entry doubles the next back-off, up to 300 s. -/
def State.flBackoff (k : Nat) (s : State) : State :=
  let t := s.flEnter k 3 1
  let x := t.fls k
  t.setFls k { x with wait := x.next, next := min (x.next * 2) 300 }

/-- R345, R347: an authentication failure. -/
def State.flAuth (k alert : Nat) (s : State) : State := ((s.flEnterFree k 4).fltFlag 5).emit 0x0E03 [k, alert]

/-- Table 12.6: why what a peer offers is refused, as the alert of RFC 8446; none where it is the profile. While TSTATE is NOTIME the dates of
certificates are not checked (R346). -/
def State.fltRefuses (s : State) (k : Nat) (o : DtlsOffer) : Option Nat :=
  if o.suite != 0x1301 || o.group != 0x17 || o.sig != 0x0403 || !o.plain || !o.shown then some 40
  else if o.depth = 0 then some 116
  else if o.anchor != s.rd (FLT_SCFG_ANCHOR k) then some 48
  else if 3 < o.depth then some 42
  else if !o.dated && s.rd GNS_STAT_TSTATE != 0 then some 45
  else none

/-- R345, R347: a handshake has come to its end with a peer. -/
def State.flShake (k : Nat) (o : DtlsOffer) (s : State) : State :=
  match s.fltRefuses k o with | some alert => s.flAuth k alert | none => s.flUp k

/-- R352: a session's commit, or one of the network's, has applied: the session closes and, if enabled, connects. -/
def State.flApplied (k : Nat) (s : State) : State :=
  if s.on (FLT_SCFG_EN k) then s.flEnter k 1 2 else (s.flEnter k 0 2).wr (FLT_SSTAT_NOTIME k) 0

/-- R352: the network's commit has applied; what FLT has learned of the network before is void. -/
def State.fltNetApplied (s : State) : State :=
  ({ s with flt := { s.flt with arp := [], wait := [] } } : State).each (List.range 64) State.flApplied

/-! ## The queue (R349, R350) -/

/-- The bytes that a record occupies. -/
def FltRec.size (r : FltRec) : Nat := if r.gap then 32 else 32 + (r.data.length + 31) / 32 * 32

def fltUsed (q : List FltRec) : Nat := (q.map FltRec.size).sum
def fltRoom : Nat := 134217728

/-- R350: the record to displace for a priority: the oldest of the lowest priority below it. -/
def fltVictim (prio : Nat) (q : List FltRec) : Option FltRec :=
  (List.range prio).findSome? (fun p => q.find? (fun r => !r.gap && r.prio = p))

/-- R350: records are displaced until `need` bytes fit: the queue and the priorities displaced; none if not enough can be. -/
def fltMake : Nat → Nat → Nat → List FltRec → List Nat → Option (List FltRec × List Nat)
  | 0, _, _, _, _ => none
  | f + 1, need, prio, q, d =>
    if fltUsed q + need ≤ fltRoom then some (q, d)
    else match fltVictim prio q with
      | none => none
      | some v =>
        fltMake f need prio (q.map (fun r => if r.sess = v.sess && r.seq = v.seq then { r with gap := true, data := [] } else r))
          (v.prio :: d)

/-- The queue's registers. -/
def State.fltShow (s : State) : State := s.wr FLT_QSTAT_USED (fltUsed s.flt.queue / 1024)

/-- A submission's result; a refusal shows in QFULL and is reported at most once per second. -/
def State.fltResult (k status : Nat) (s : State) : State :=
  let t := (s.wr FLT_SUBRES_BUSY 0).wr FLT_SUBRES_STATUS status
  if status = 0 then t else ((t.wr FLT_STAT_QFULL 1).fltFlag 4).emitSec 0x0E05 0 (fun n => [k, status, n])

/-- R350: a record displaced: its session's peer is sent the GAP, unless that goes out later in its turn. -/
def State.fltGapOut (r : FltRec) (s : State) : State :=
  s.when (s.fltTalks r.sess && decide (r.seq < (s.fls r.sess).nxt)) (State.fltSend r.sess r.msg)

/-- R349: a record is written to the queue with the session's next sequence number, and goes out. -/
def State.fltPut (k prio len : Nat) (q : List FltRec) (disp : List Nat) (s : State) : State :=
  let x := s.fls k
  let r : FltRec := { sess := k, seq := x.seq + 1, prio := prio, data := s.ldBytes (s.rd FLT_SUBA_ADDR) len }
  let t := (({ s with flt := { s.flt with queue := q ++ [r] } }.setFls k { x with seq := x.seq + 1 }).wr FLT_SUBSEQ_SEQ (x.seq + 1)).fltShow
  let t := (t.each (q.filter (fun r => r.gap && !s.flt.queue.contains r)) State.fltGapOut).fltPump k
  let t := t.wr FLT_STAT_QFULL (b2n (!disp.isEmpty))
  let t := t.when (!disp.isEmpty) (fun t => (t.fltFlag 3).emit 0x0E04 [k, disp.length, disp.foldl min 3])
  t.fltResult k 0

/-- R349, R350: SUBGO. -/
def State.fltSubmit (s : State) : State :=
  let k := s.rd FLT_SUBC_SESS; let prio := s.rd FLT_SUBC_PRIO; let len := s.rd FLT_SUBC_LEN
  if !s.on (FLT_SCFG_EN k) then s.fltResult k 1
  else if len = 0 || 1200 < len then s.fltResult k 2
  else if !s.domOn 3 then s.fltResult k 4
  else
    let need := 32 + (len + 31) / 32 * 32
    match fltMake (s.flt.queue.length + 1) need prio s.flt.queue [] with
    | none => s.fltResult k 3
    | some (q, d) => s.fltPut k prio len q d

/-! ## Messages (R348, R351) -/

/-- A session's records. -/
def State.fltRecs (s : State) (k : Nat) : Nat := (s.flt.queue.filter (fun r => r.sess = k)).length

/-- R349: an ACK removes every record up to its sequence. -/
def State.fltAck (k seq : Nat) (s : State) : State :=
  let n := s.fltRecs k
  let t := State.fltShow { s with flt := { s.flt with queue := s.flt.queue.filter (fun r => !(r.sess = k && decide (r.seq ≤ seq))) } }
  t.when (t.fltRecs k != n) (State.fltFlag 1)

/-- R348, R351: every record up to the last one delivered is acknowledged, as soon as an ACK may go out. -/
def State.fltAcked (k : Nat) (s : State) : State := (s.setFls k { s.fls k with owed := true }).fltAckOut k

/-- R351: a DATA record into the ring. -/
def State.fltDeliver (k prio seq : Nat) (payload : List Nat) (s : State) : State :=
  let w := s.rd FLT_RXWR_IDX
  let a := s.rd FLT_RXR_BASE * 4096 + w % 256 * 2048
  let s := s.stWords a [k * 2 ^ 26 + prio % 4 * 2 ^ 24 + payload.length, seq % 2 ^ 32, seq / 2 ^ 32, s.now % 2 ^ 32]
  let s := ((s.stBytes (a + 16) payload).wr FLT_RXWR_IDX (w + 1)).fltFlag 0
  (s.setFls k { s.fls k with last := seq }).fltAcked k

/-- R348, R351: a message of a session in UP. -/
def State.fltMessage (k typ prio seq : Nat) (payload : List Nat) (s : State) : State :=
  let s := s.setFls k { s.fls k with rx := s.now }
  let x := s.fls k
  match typ with
  | 1 =>
    if seq ≤ x.last then s.fltAcked k
    else if seq != x.last + 1 || decide (256 ≤ s.fltUnread) || payload.isEmpty || 1200 < payload.length then s
    else s.fltDeliver k prio seq payload
  | 2 => s.fltAck k seq
  | 4 =>
    if seq ≤ x.last then s.fltAcked k
    else if seq != x.last + 1 then s
    else (s.setFls k { x with last := seq }).fltAcked k
  | _ => s

/-! ## Keys (R346) -/

/-- GENKEY: the key pair is a free value; the private key is never readable. -/
def State.fltGenkey (slot : Nat) (s : State) : State :=
  let r := s.takeFree 256
  { r.2 with flt := { r.2.flt with keys := tabPut r.2.flt.keys slot r.1 } }

/-- CSR: the signing request goes to the slot's dictionary item; its bytes are free values. -/
def State.fltCsr (slot : Nat) (s : State) : State :=
  if (tabFind s.flt.keys slot).isNone then s
  else
    let r := s.takeFrees 8 64
    { r.2 with blobs := tabPut r.2.blobs (0x00E00200 + slot * 16) r.1 }

/-- ERASE. -/
def State.fltErase (slot : Nat) (s : State) : State := { s with flt := { s.flt with keys := tabDel s.flt.keys slot } }

/-! ## Reset, fence, status -/

/-- R347, R354: a reset takes every session to IDLE. -/
def State.fltIdle (s : State) : State := s.each ((List.range 64).filter (fun k => s.flSt k != 0)) (fun k s => s.flEnterFree k 0)

/-- R354: every session is IDLE; the queue and the key slots are kept, and with them the sequence numbers. -/
def State.fltReset (s : State) : State :=
  { s with flt := { s.flt with arp := [], wait := [], sess := (s.flt.sess.map (fun (e : Nat × FltSess) =>
    (e.1, ({ seq := e.2.seq, last := e.2.last, acked := e.2.acked } : FltSess)))).filter (fun e => e.2 != ({} : FltSess)) } }

/-- R355: a session has paused for a time, in which its timers stood. -/
def State.fltResume (dt k : Nat) (s : State) : State :=
  let x := s.fls k
  s.when (s.flSt k != 0) (State.setFls k { x with at_ := x.at_ + dt, rx := x.rx + dt, tx := x.tx + dt })

/-- R355: the fence is lifted: every session resumes from where it stood. -/
def State.fltLifted (s : State) : State :=
  (s.each (List.range 64) (State.fltResume (s.now - s.flt.fencedAt))).each (List.range 64) State.fltGo

/-- R355: every session pauses in its state; EV 0x0E07, whose session the spec does not name: a free value. -/
def State.fltFence (s : State) : State :=
  let r := { s with flt := { s.flt with fencedAt := s.now } }.takeFree 6
  (r.2.fltFlag 6).emit 0x0E07 [r.1]

/-- FLT_STAT and FLT_SSTATs. -/
def State.fltStat (s : State) : Nat :=
  ((List.range 64).filter (fun k => s.flSt k = 2)).length * 2 ^ 25 + s.rd FLT_STAT_QFULL * 2 ^ 24
def State.fltSstat (s : State) (k : Nat) : Nat :=
  s.flSt k * 2 ^ 29 + s.rd (FLT_SSTAT_NOTIME k) * 2 ^ 28 + min (s.fltRecs k) 0xFFFFFF

end Sys2Proof.Machine
end

