-- ==== Sys2Proof/Machine/CarOps.lean ====
section
/-!
DEFINITION. The operations of Carillon (spec/03_carillon_event_engine.md) on its slots, ports and retirement ring.
-/
namespace Sys2Proof.Machine

/-! ## Slots -/

def State.slot (s : State) (k : Nat) : CarSlot := tabGet {} s.car.slots k
def State.setSlot (k : Nat) (x : CarSlot) (s : State) : State :=
  { s with car := { s.car with slots := tabSet {} s.car.slots k x } }

def carSlots : List Nat := List.range 256

/-- The slots that are not FREE; those of a port; those in a state. -/
def State.carUsed (s : State) : Nat := (s.car.slots.filter (fun e => e.2.st != 0)).length
def State.carOfPort (s : State) (p : Nat) : Nat := (s.car.slots.filter (fun e => e.2.st != 0 && e.2.port = p)).length
def State.carHeld (s : State) : Nat := (s.car.slots.filter (fun e => e.2.st = 3)).length
def State.carInState (s : State) (st : Nat) : List Nat := (s.car.slots.filter (fun e => e.2.st = st)).map (·.1)

/-- R62: RANGE of a base. -/
def State.carRange (s : State) (base : Nat) : Nat :=
  if base = 8 then 2000000000 else if s.tbKind base = 0 then 0x04000000 else 2000000

/-- The phase of an event's base now: module time's low 32 bits for base 8. -/
def State.carPhase (s : State) (base : Nat) : Nat := if base = 8 then s.now % 2 ^ 32 else s.tbPhase base

/-- The distance left in the crossing direction. -/
def State.carDist (s : State) (d : CarDesc) : Int :=
  let x := phaseDiff d.tgt (s.carPhase d.base)
  if d.rev then -x else x

/-- R66: the predicted firing time of an event: the earliest module time after the present one at which the model reaches the
target, or none. -/
def State.carPredict (s : State) (d : CarDesc) : Option Nat :=
  if d.base = 8 then
    let x := phaseDiff d.tgt (s.now % 2 ^ 32)
    if x ≤ 0 then none else some (s.now + x.toNat)
  else if !s.live 0x03 || s.tbFwd d.base = d.rev then none
  else match s.tbReach d.base d.tgt with
    | some t => if t ≤ s.now then none else some t
    | none => none

/-! ## Retirement (R75–R77) -/

/-- Entries in decision order; those of one tick in slot order. -/
def retIn (r : CarRet) : List CarRet → List CarRet
  | [] => [r]
  | e :: q => if e.at_ = r.at_ && r.slot < e.slot then r :: e :: q else e :: retIn r q

/-- Unread entries of the ring. -/
def State.carUnread (s : State) : Nat := (s.rd CAR_RETWR_WR + 1024 - s.rd CAR_RETRD_RD) % 1024

/-- The words of a retirement entry; SUSPECT tells the base's state at a firing. -/
def State.carEntry (s : State) (k : Nat) (x : CarSlot) (status : Nat) (rep collide : Bool) : List Nat :=
  let d := x.desc
  let susp := status = 1 && d.base < 8 && s.tbSt d.base = 4
  let w1 := status * 2 ^ 28 + x.port * 2 ^ 25 + d.base * 2 ^ 21 + d.typ * 2 ^ 17 + b2n rep * 2 ^ 15 + b2n x.late * 2 ^ 14 +
    b2n x.moved * 2 ^ 13 + b2n susp * 2 ^ 12 + b2n collide * 2 ^ 11 + b2n x.jshift * 2 ^ 10
  [d.tag * 2 ^ 16 + x.gen * 2 ^ 8 + k, w1, s.now % 2 ^ 32, s.now / 2 ^ 32, d.tgt, s.carPhase d.base,
   if x.late then min (s.now - x.lateAt) 0xFFFFFFFF else 0, x.occ % 2 ^ 32]

/-- An entry is decided: it waits for the ring. RETFULL is set while a slot is HELD for want of space in the ring (R77). -/
def State.carDecide (k : Nat) (final : Bool) (words : List Nat) (s : State) : State :=
  let t := { s with car := { s.car with wait := retIn ⟨s.now, k, final, words⟩ s.car.wait } }
  t.when (final && s.carUnread = 512) (State.setFlag CAR_INTSTAT_RETFULL)

/-- R77: RETFULL stays set while a slot is HELD for want of space in the ring, whatever the host clears. -/
def State.carFullAgain (s : State) : State :=
  s.when (s.carHeld != 0 && s.carUnread = 512) (State.setFlag CAR_INTSTAT_RETFULL)

/-- The handle of a slot. -/
def carHandle (k gen : Nat) : Nat := gen * 256 + k

/-- The final decision on an event: its slot is HELD until the entry is written. SEC learns of its own events. -/
def State.carRetire (k status : Nat) (collide : Bool) (s : State) : State :=
  let x := s.slot k
  let words := s.carEntry k x status false collide
  let t := (s.setSlot k { x with st := 3, pred := none }).carDecide k true words
  t.when (x.port = 4) (State.signal (.secOutcome (carHandle k x.gen) x.desc.tag status s.now))

/-- R77: the next entry is written when space allows; the slot of a final entry becomes FREE with the next generation. EV 0x0206 is
emitted each time the ring fills. -/
def State.carWriteEntry (s : State) : State :=
  match s.car.wait with
  | [] => s
  | r :: q =>
    if 512 ≤ s.carUnread then s
    else
      let w := s.rd CAR_RETWR_WR
      let t := { s with car := { s.car with wait := q, ring := tabPut s.car.ring (w % 512) r.words } }
      let t := t.wr CAR_RETWR_WR (w + 1)
      let t := if r.final then t.setSlot r.slot { gen := ((t.slot r.slot).gen + 1) % 256 } else t
      let thr := min (t.rd CAR_RETTHR_THR) 512
      let t := t.when (thr != 0 && t.carUnread = thr) (State.setFlag CAR_INTSTAT_RETTHR)
      (t.when (t.carUnread = 512) (fun t => t.emit 0x0206 [t.carHeld])).carFullAgain

/-! ## Posting (R61–R64) -/

/-- Table 3.4: the number of targets of an action type. -/
def carTargets : Nat → Nat
  | 0 => 1 | 1 => 48 | 2 => 24 | 3 => 16 | 4 => 96 | 5 => 16 | 6 => 3 | 7 => 16 | 8 => 4 | _ => 0

/-- Table 3.4: the minimum horizon, µs. -/
def carMinHorizon (d : CarDesc) : Nat := if d.typ = 2 && bit d.arg 0 then 100 else 20

/-- The module time that a 32-bit target on module time names: the one nearest to now with that low word. -/
def State.carFull64 (s : State) (tgt : Nat) : Int := (s.now : Int) + phaseDiff tgt (s.now % 2 ^ 32)

/-- R62: a target on module time is a multiple of 5. It is the module time named that must be one, not its low word: 2^32 is no
multiple of 5, and only instants on the 5 ns grid can be met (DEDUCED, assumption log, entry 85). -/
def State.carOffGrid (s : State) (base tgt : Nat) : Bool := base = 8 && s.carFull64 tgt % 5 != 0

/-- Table 3.2, check 1, and R73. -/
def State.carBadDesc (s : State) (d : CarDesc) : Bool :=
  let per := sx 32 d.per
  decide (8 < d.typ) || decide (carTargets d.typ ≤ d.target) || (d.typ = 6 && d.arg = 0) ||
  decide (d.horizon < carMinHorizon d) || decide (20000 < d.horizon) || decide (8 < d.base) || (d.base = 8 && d.rev) ||
  d.onjump = 3 || s.carOffGrid d.base d.tgt ||
  (d.count != 1 && (per = 0 || (decide (per < 0) != d.rev) || decide (s.carRange d.base < per.natAbs)))

/-- Table 3.2, check 3: 0 where the target lies ahead within RANGE, 5 PAST, 6 RANGE. -/
def State.carAhead (s : State) (d : CarDesc) : Nat :=
  let x := s.carDist d
  let r : Int := s.carRange d.base
  if 0 < x ∧ x ≤ r then 0 else if x ≤ 0 ∧ -r ≤ x then 5 else 6

/-- Table 3.2: a post's result code; 0 is DONE. While CAR is fenced, SEC's port refuses with FULL (R82). -/
def State.carPostCheck (s : State) (p : Nat) (d : CarDesc) : Nat :=
  if p = 4 && s.isFenced 0x02 then 1
  else if s.carBadDesc d then 3
  else if d.base < 8 && !s.tbUsable d.base then 4
  else if s.carAhead d != 0 then s.carAhead d
  else if s.rd (CAR_QUOTA_QUOTA p) ≤ s.carOfPort p then 2
  else if 256 ≤ s.carUsed then 1
  else 0

/-- The answer of a port's command: RES of a host port, or SEC's own answer. -/
def State.carAnswer (p kind status handle tag : Nat) (s : State) : State :=
  if p = 4 then s.signal (.secAnswer kind status handle tag)
  else ((s.wr (CAR_HPRES_BUSY p) 0).wr (CAR_HPRES_STATUS p) status).wr (CAR_HPRES_HANDLE p) handle

/-- The lowest FREE slot. -/
def State.carFree (s : State) : Nat := (carSlots.find? (fun k => (s.slot k).st = 0)).getD 0

/-- The transitions of a base that no round has applied yet. -/
def State.carWaiting (s : State) (base : Nat) : List CarTrans := tabGet [] s.car.trans base

/-- R61: a post is processed. One of a host port that is accepted while CAR is fenced retires FENCED at once: no event is in PROV under
the fence (R82; DEDUCED, assumption log, entry 85). -/
def State.carPost (p : Nat) (c : CarCmd) (s : State) : State :=
  let st := s.carPostCheck p c.desc
  if st = 0 then
    let k := s.carFree
    let gen := (s.slot k).gen
    let t := s.setSlot k { st := 1, gen := gen, port := p, desc := c.desc }
    (t.carAnswer p 0 0 (carHandle k gen) c.desc.tag).when (s.isFenced 0x02) (State.carRetire k 9 false)
  else
    let t := s.when (st = 1 || st = 2) (State.emitRate 0x0201 0 100000000 (fun n => [p, n]))
    t.carAnswer p 0 st c.handle c.desc.tag

/-- Table 3.3: the result code of RETIME or REVOKE on a handle before the event's own state decides; 0 lets it. -/
def State.carOwn (s : State) (p h : Nat) : Nat :=
  let x := s.slot (h % 256)
  if !(x.st = 1 || x.st = 2) || x.gen != h / 256 % 256 then 7 else if x.port != p then 9 else 0

/-- Table 3.3: RETIME. A new target on module time off the 5 ns grid is BADDESC, as R62 says of such a value (DEDUCED: Table 3.3 has
no line for it; assumption log, entry 85). -/
def State.carRetime (p : Nat) (c : CarCmd) (s : State) : State :=
  let k := c.handle % 256
  let x := s.slot k
  let own := s.carOwn p c.handle
  if own != 0 then s.carAnswer p 1 own c.handle 0
  else if x.st = 2 then s.carAnswer p 1 8 c.handle x.desc.tag
  else
    let d := { x.desc with tgt := c.desc.tgt }
    let bad := if s.carOffGrid d.base d.tgt then 3 else s.carAhead d
    if bad != 0 then s.carAnswer p 1 bad c.handle x.desc.tag
    else (s.setSlot k { x with desc := d }).carAnswer p 1 0 c.handle x.desc.tag

/-- Table 3.3: REVOKE. -/
def State.carRevoke (p : Nat) (c : CarCmd) (s : State) : State :=
  let k := c.handle % 256
  let x := s.slot k
  let own := s.carOwn p c.handle
  if own != 0 then s.carAnswer p 2 own c.handle 0
  else if x.st = 1 then (s.carRetire k 2 false).carAnswer p 2 0 c.handle x.desc.tag
  else if x.desc.count = 1 then s.carAnswer p 2 8 c.handle x.desc.tag
  else (s.setSlot k { x with last := true }).carAnswer p 2 10 c.handle x.desc.tag

/-- R64: FLUSH. -/
def State.carFlush (p : Nat) (c : CarCmd) (s : State) : State :=
  let t := s.each carSlots (fun k s =>
    let x := s.slot k
    if x.port != p then s
    else if x.st = 1 then s.carRetire k 2 false
    else if x.st = 2 then s.setSlot k { x with last := true }
    else s)
  t.carAnswer p 3 0 c.handle 0

/-- R65: a port's pending command is processed. -/
def State.carCommand (p : Nat) (c : CarCmd) (s : State) : State :=
  match c.kind with
  | 0 => s.carPost p c
  | 1 => s.carRetime p c
  | 2 => s.carRevoke p c
  | _ => s.carFlush p c

/-- The descriptor registers of a host port (R60). -/
def State.carDescOf (s : State) (p : Nat) : CarDesc :=
  { tgt := s.rd (CAR_HPTGT_TGT p), per := s.rd (CAR_HPPER_PER p), typ := s.rd (CAR_HPACT_TYPE p),
    target := s.rd (CAR_HPACT_TARGET p), arg := s.rd (CAR_HPACT_ARG p), base := s.rd (CAR_HPCTL_BASE p),
    rev := s.on (CAR_HPCTL_EDIR p), onrev := s.on (CAR_HPCTL_ONREV p), onstall := s.on (CAR_HPCTL_ONSTALL p),
    onjump := s.rd (CAR_HPCTL_ONJUMP p), retend := s.on (CAR_HPCTL_RETEND p), count := s.rd (CAR_HPCTL_COUNT p),
    horizon := s.rd (CAR_HPCTL_HORIZON p), tag := s.rd (CAR_HPTAG_TAG p) }

/-- R60: a strobe of a host port: dropped while the port is BUSY, else its command runs. -/
def State.carStrobe (p kind : Nat) (strobe : Fld) (s : State) : State :=
  if s.on (CAR_HPRES_BUSY p) then
    (((s.wr (CAR_HPRES_DROP p) 1).setFlag CAR_INTSTAT_DROP).emit 0x020B [p, addrOff strobe.addr])
  else
    let t := (s.wr (CAR_HPRES_BUSY p) 1).wr (CAR_HPRES_DROP p) 0
    { t with car := { t.car with ports := tabSet none t.car.ports p (some ⟨kind, s.carDescOf p, s.rd (CAR_HPHDL_HANDLE p)⟩) } }

/-- SEC issues a command on port 4; it is processed in a later round (R65). -/
def State.carSec (c : CarCmd) (s : State) : State := { s with car := { s.car with secq := s.car.secq ++ [c] } }

/-- R197: SEC's post of a late switch, on module time, is for HORIZON after the module time of the post: that of its round. -/
def State.carSecNow (s : State) (c : CarCmd) : CarCmd :=
  if c.kind = 0 && c.desc.base = 8 then
    { c with desc := { c.desc with tgt := (s.now + c.desc.horizon * 1000 + 4) / 5 * 5 % 2 ^ 32 } }
  else c

/-- R65, step 2: the ports' commands in port order. -/
def State.carPorts (s : State) : State :=
  let s := s.each (List.range 4) (fun p s =>
    match tabGet none s.car.ports p with
    | some c => State.carCommand p c { s with car := { s.car with ports := tabSet none s.car.ports p none } }
    | none => s)
  match s.car.secq with
  | [] => s
  | c :: q => State.carCommand 4 (s.carSecNow c) { s with car := { s.car with secq := q } }

/-! ## Base transitions (R78, R79) -/

/-- A base transition is reported: events committed on the base carry MOVED (R68; a return to TRACK is no such change), and the next
round applies it. -/
def State.carBase (n what : Nat) (size : Int) (s : State) : State :=
  let x : CarTrans := ⟨what, s.now, if (s.tb n).sub.isSome then s.tbPhase n else tc 32 ((s.tb n).pe / lsb16), size⟩
  let s := { s with car := { s.car with trans := tabSet [] s.car.trans n (tabGet [] s.car.trans n ++ [x]) } }
  s.each (s.carInState 2) (fun k s =>
    let y := s.slot k
    if y.desc.base = n && what != 5 then s.setSlot k { y with moved := true } else s)

/-- The events in PROV on a base: a transition of it concerns each of them (Table 3.5). -/
def State.carProv (s : State) (n : Nat) : List Nat :=
  (s.carInState 1).filter (fun k => (s.slot k).desc.base = n)

/-- Table 3.5: a reversal. The base moves away from events of the other crossing direction. -/
def State.carReversal (n : Nat) (s : State) : State :=
  let away := (s.carProv n).filter (fun k => (s.slot k).desc.rev = s.tbFwd n)
  let kill := away.filter (fun k => (s.slot k).desc.onrev)
  let s := s.each kill (fun k s => s.carRetire k 3 false)
  s.when (!away.isEmpty) (State.emit 0x0203 [n, 1, kill.length, away.length - kill.length])

/-- Table 3.5: STILL entered. -/
def State.carStill (n : Nat) (s : State) : State :=
  let all := s.carProv n
  let kill := all.filter (fun k => (s.slot k).desc.onstall)
  let s := s.each kill (fun k s => s.carRetire k 4 false)
  s.when (!all.isEmpty) (State.emit 0x0203 [n, 2, kill.length, all.length - kill.length])

/-- Table 3.5: LOST entered, or the source unavailable. -/
def State.carLost (n : Nat) (s : State) : State :=
  let all := s.carProv n
  let s := s.each all (fun k s => s.carRetire k 5 false)
  s.when (!all.isEmpty) (fun s => (s.setFlag CAR_INTSTAT_BASELOSS).emit 0x0202 [n, all.length])

/-- A jump of an event's base carried the phase to or past its target in the crossing direction. -/
def carPassed (d : CarDesc) (x : CarTrans) : Bool :=
  let after := phaseDiff d.tgt x.phase * (if d.rev then -1 else 1)
  let before := after + x.size * (if d.rev then -1 else 1)
  decide (after ≤ 0) && decide (0 < before)

/-! ## Reset and fence (R81, R82) -/

/-- An RT domain reset. What the host complex has latched of CAR's actions is its own (R72). -/
def State.carReset (s : State) : State := { s with car := { irq := s.car.irq, dma := s.car.dma, dmaLvl := s.car.dmaLvl } }

/-- R82: every event in PROV retires FENCED, EV 0x0209 with the count. -/
def State.carFence (s : State) : State :=
  let all := s.carInState 1
  let s := s.each all (fun k s => s.carRetire k 9 false)
  s.when (!all.isEmpty) (fun s => (s.setFlag CAR_INTSTAT_FENCE).emit 0x0209 [all.length])

/-! ## What the host reads of a slot -/

/-- CAR_SLOTSTn and CAR_SLOTPREDn. -/
def State.carSlotSt (s : State) (k : Nat) : Nat :=
  let x := s.slot k
  x.st * 2 ^ 30 + (if x.st = 0 then 0 else x.port * 2 ^ 27 + x.desc.base * 2 ^ 23 + b2n x.desc.rev * 2 ^ 22 +
    b2n (x.st = 1 && x.pred.isSome) * 2 ^ 21) + x.gen * 2 ^ 8
def State.carSlotPred (s : State) (k : Nat) : Nat :=
  let x := s.slot k
  if x.st = 1 then (match x.pred with | some t => t % 2 ^ 32 | none => 0xFFFFFFFF)
  else if x.st = 2 then x.fireAt % 2 ^ 32 else 0xFFFFFFFF

end Sys2Proof.Machine
end

