-- ==== Sys2Proof/Machine/HsnOps.lean ====
section
/-!
DEFINITION. The operations of harvest sensing (spec/04_harvest_sensing.md).
-/
namespace Sys2Proof.Machine

def State.hsnWin (s : State) (n : Nat) : HsnWin := tabGet {} s.hsn.wins n
def State.setHsnWin (n : Nat) (w : HsnWin) (s : State) : State :=
  { s with hsn := { s.hsn with wins := tabSet {} s.hsn.wins n w } }
def State.hsnCh (s : State) (c : Nat) : HsnCh := tabGet {} s.hsn.chs c
def State.setHsnCh (c : Nat) (x : HsnCh) (s : State) : State :=
  { s with hsn := { s.hsn with chs := tabSet {} s.hsn.chs c x } }

/-- The yield window: the window whose FUNC is yield. -/
def State.hsnYieldWin (s : State) : Option Nat := (List.range 16).find? (fun n => s.on (HSN_WCFG_FUNC n))

/-- The base of a window; for base 8, module time, the state reads as TRACK. -/
def State.hsnBaseSt (s : State) (n : Nat) : Nat :=
  let b := s.rd (HSN_WCFG_BASE n)
  if b = 8 then 2 else if s.live 0x03 then s.tbSt b else 5

/-- R94: the yield base moves in reverse. -/
def State.hsnBack (s : State) : Bool :=
  s.hsnYieldWin.any (fun n =>
    let b := s.rd (HSN_WCFG_BASE n)
    decide (b < 8) && s.tbUsable b && tbMovingSt (s.tbSt b) && !s.tbFwd b)

/-- R109: the interval in progress carries REV where the yield base moves in reverse. -/
def State.hsnNoteRev (s : State) : State :=
  s.when (s.hsnBack && !s.hsn.rev) (fun s => { s with hsn := { s.hsn with rev := true } })

/-- R103: RBASE is VALID. -/
def State.hsnRotorOk (s : State) : Bool := decide (s.rd HSN_CTL_RBASE < 8) && s.tbUsable (s.rd HSN_CTL_RBASE)

/-- R111: RBASE is in TRACK. -/
def State.hsnRotorTrack (s : State) : Bool := s.hsnRotorOk && decide (s.tbSt (s.rd HSN_CTL_RBASE) = 2)

/-- The turn count of RBASE (R11). -/
def State.hsnTurn (s : State) : Nat := if s.rd HSN_CTL_RBASE < 8 then s.tbPhase (s.rd HSN_CTL_RBASE) / 2 ^ 24 else 0

/-- The rotor's speed in 0.1 rpm. -/
def State.hsnRpm (s : State) : Nat :=
  if s.rd HSN_CTL_RBASE < 8 then (s.tbVel (s.rd HSN_CTL_RBASE)).natAbs * 600000000 / 2 ^ 40 else 0

/-! ## The result rings (R110) -/

def State.hsnUnreadW (s : State) : Nat := (s.rd HSN_WRWR_IDX + 128 - s.rd HSN_WRRD_IDX) % 128
def State.hsnUnreadY (s : State) : Nat := (s.rd HSN_YRWR_IDX + 256 - s.rd HSN_YRRD_IDX) % 256

/-- A loss record is written, or dropped into a full ring. Each ring has its own limit of EV 0x0508, as each window has of EV 0x050E
(DESIGN CHOICE, assumption log, entry 97). -/
def State.hsnPutLoss (ws : List Nat) (s : State) : State :=
  if 64 ≤ s.hsnUnreadW then
    ((s.inc HSN_DROP_WDROP).setFlag HSN_INTSTAT_WOVF).emitSec 0x0508 0 (fun n => [0, n])
  else
    let w := s.rd HSN_WRWR_IDX
    (({ s with hsn := { s.hsn with wring := tabPut s.hsn.wring (w % 64) ws } }).wr HSN_WRWR_IDX (w + 1)).setFlag
      HSN_INTSTAT_WREC

/-- A yield record is written, or dropped into a full ring. -/
def State.hsnPutYield (ws : List Nat) (s : State) : State :=
  if 128 ≤ s.hsnUnreadY then
    ((s.inc HSN_DROP_YDROP).setFlag HSN_INTSTAT_YOVF).emitSec 0x0508 1 (fun n => [1, n])
  else
    let w := s.rd HSN_YRWR_IDX
    (({ s with hsn := { s.hsn with yring := tabPut s.hsn.yring (w % 128) ws } }).wr HSN_YRWR_IDX (w + 1)).setFlag
      HSN_INTSTAT_YREC

/-! ## Loss windows (R88, R89, R99) -/

/-- The words of one channel in a loss record (Table 4.5). -/
def hsnChWords (w : HsnWin) (mask c : Nat) : List Nat :=
  if !bit mask c then [0, 0, 0]
  else
    let a := tabGet {} w.ch c
    let mean := if a.n = 0 then 0 else a.floor / a.n
    [a.count * 0x10000 + min a.peak 0xFFFF, min (a.sq / 256) 0xFFFFFFFF,
     min mean 0xFFFF * 0x10000 + b2n a.sat * 4 + b2n a.flt * 2 + b2n (!a.flt && !a.bad && !w.norot)]

/-- The words of a loss record (Table 4.5); `open_` and `dur` are TOPEN and DURATION. -/
def State.hsnLossWords (s : State) (n status open_ dur : Nat) : List Nat :=
  let w := s.hsnWin n
  let mask := s.rd (HSN_WCFG_CHMASK n)
  let nsamp := ((List.range 8).map (fun c => (tabGet ({} : HsnAcc) w.ch c).n)).foldl max 0
  let valid := !(status = 3 || status = 5 || w.norot)
  let w0 := status * 2 ^ 28 + n * 2 ^ 24 + mask * 2 ^ 16 + b2n w.susp * 256 + b2n w.sat * 128 + b2n w.bandchg * 64 +
    b2n w.nobin * 32 + b2n w.jump * 16 + b2n w.rev * 8 + b2n w.still * 4 + b2n valid
  [w0, open_ % 2 ^ 32, open_ / 2 ^ 32 % 2 ^ 32, min dur 0xFFFFFFFF, w.phOpen, s.carPhase (s.rd (HSN_WCFG_BASE n)),
   min nsamp 0xFFFFFFFF, min s.hsnRpm 0xFFFF * 0x10000 + s.rd HSN_STAT_BAND] ++
  (List.range 8).flatMap (hsnChWords w mask)

/-- A loss window's occurrence ends and its record is formed. Where it has no sample, TOPEN and DURATION are free values. -/
def State.hsnLossRecord (n status : Nat) (s : State) : State :=
  match (s.hsnWin n).first with
  | some t => s.hsnPutLoss (s.hsnLossWords n status t (s.now - t))
  | none =>
    let r := s.takeFrees 32 3
    r.2.hsnPutLoss (r.2.hsnLossWords n status (r.1.getD 0 0 * 2 ^ 32 + r.1.getD 1 0) (r.1.getD 2 0))

/-- What an occurrence keeps of the channels at its start: their faults (R104), and those that are off. -/
def State.hsnFreshAccs (s : State) : Tab HsnAcc :=
  (List.range 8).filterMap (fun c =>
    if bit (s.rd HSN_STAT_LFLT) c then some (c, { flt := true : HsnAcc })
    else if s.on (HSN_LCFG_EN c) then none else some (c, { bad := true : HsnAcc }))

/-- A new occurrence of a window, with what its base and the rotor already are. -/
def State.hsnOpenWin (n : Nat) (s : State) : State :=
  let st := s.hsnBaseSt n
  let noRot := !s.on (HSN_WCFG_FUNC n) && !s.hsnRotorOk
  s.setHsnWin n { isOpen := true, openAt := s.now, stillAt := if st = 3 then s.now + 1 else 0,
                  phOpen := s.carPhase (s.rd (HSN_WCFG_BASE n)), band := s.rd HSN_STAT_BAND, susp := st = 4, still := st = 3,
                  nobin := noRot, norot := noRot,
                  ch := s.hsnFreshAccs }

/-! ## The yield window: paddles and time-domain estimation (R91–R97) -/

/-- The segment of a crop profile's curve that an impulse lies on, by its upper point. -/
def State.hsnSeg (s : State) (p num den : Nat) : Nat :=
  let npts := min (s.rd (HSN_PDLY_NPTS p)) 8
  (((List.range npts).drop 1).find? (fun k => decide (num < s.rd (HSN_PCI_VAL p k) * den))).getD (npts - 1)

/-- R92: the curve of profile `p` at the impulse `num / den`, as a numerator and a denominator, in 0.1 g. -/
def State.hsnCurve (s : State) (p num den : Nat) : Int × Nat :=
  let i0 := s.rd (HSN_PCI_VAL p 0)
  if num < i0 * den then ((s.rd (HSN_PCM_VAL p 0) * num : Nat), i0 * den)
  else
    let k := s.hsnSeg p num den
    let ia := s.rd (HSN_PCI_VAL p (k - 1))
    let ma := s.rd (HSN_PCM_VAL p (k - 1))
    let di := s.rd (HSN_PCI_VAL p k) - ia
    let dm := (s.rd (HSN_PCM_VAL p k) : Int) - ma
    (ma * (di * den : Nat) + dm * ((num : Int) - (ia * den : Nat)), di * den)

/-- R91: the mass of a paddle from its impulse, in 0.1 g. -/
def State.hsnMass (s : State) (i : Nat) : Nat :=
  let c := s.hsnCurve (s.rd HSN_CROP_CROP) i 1
  (divRound c.1 c.2).toNat

/-- A slot of time-domain estimation, ns. -/
def hsnSlot : Nat := 50000000

/-- R95: the mass of a slot, or of the part of one, with the impulse `i`: n = r × 0.05 paddles, f(i/n) · n; 0 where no rate is
known. -/
def State.hsnSlotMass (s : State) (i : Nat) : Nat :=
  let num := s.hsn.rateK * hsnSlot
  let den := s.hsn.rateT
  if num = 0 || den = 0 then 0
  else
    let c := s.hsnCurve (s.rd HSN_CROP_CROP) (i * den) num
    (divRound (c.1 * num) (c.2 * den)).toNat

/-- A paddle or slot that ended. -/
def State.hsnPiece (p : HsnPiece) (s : State) : State := { s with hsn := { s.hsn with pieces := s.hsn.pieces ++ [p] } }

/-- R93: YFLOW over the last 16 paddles, g/s. -/
def hsnFlow (pads : List (Nat × Nat × Nat)) : Nat :=
  let mass := (pads.map (fun p => p.2.2)).foldl (· + ·) 0
  match pads.head?, pads.getLast? with
  | some a, some z => if a.2.1 ≤ z.1 then 0 else (divRound (mass * 100000000 : Nat) (a.2.1 - z.1)).toNat
  | _, _ => 0

/-- A paddle starts. -/
def State.hsnPadStart (s : State) : State :=
  let b := match s.hsnYieldWin with | some n => s.hsnBaseSt n | none => 2
  { s with hsn := { s.hsn with padStart := s.now, padSum := 0, padSlots := [], padSat := false, padRev := false, padSusp := b = 4,
                               padFlt := s.on HSN_STAT_PLATEFLT } }

/-- R96: the tare ends without a new value. -/
def State.hsnTareAbort (cause : Nat) (s : State) : State :=
  if s.on HSN_STAT_TAREBSY then
    (({ s with hsn := { s.hsn with tareLeft := 0, tareOn := false } }.wr HSN_STAT_TAREBSY 0).setFlag
      HSN_INTSTAT_TAREDONE).emit 0x0502 [cause]
  else s

/-- R96: the tare begins anew where the yield window closes by itself: the paddle periods after it do not follow those before it
(DEDUCED, assumption log, entry 86). -/
def State.hsnTareAgain (s : State) : State :=
  s.when (s.on HSN_STAT_TAREBSY) (fun s => { s with hsn := { s.hsn with tareSum := 0, tareN := 0, tareLeft := 16, tareOn := false } })

/-- R96: a paddle starts while the tare waits for one. -/
def State.hsnTareBegin (s : State) : State :=
  s.when (s.on HSN_STAT_TAREBSY && !s.hsn.tareOn) (fun s => { s with hsn := { s.hsn with tareOn := true } })

/-- R96: a paddle boundary while the tare runs: the first begins it, the sixteenth period's end completes it. -/
def State.hsnTareStep (s : State) : State :=
  if !s.on HSN_STAT_TAREBSY then s
  else if !s.hsn.tareOn then { s with hsn := { s.hsn with tareOn := true } }
  else if 1 < s.hsn.tareLeft then { s with hsn := { s.hsn with tareLeft := s.hsn.tareLeft - 1 } }
  else
    let v := tc 16 (satS 16 (divRound s.hsn.tareSum s.hsn.tareN))
    (((({ s with hsn := { s.hsn with tareLeft := 0, tareOn := false } }).wr HSN_TARE_TARE v).wr HSN_STAT_TAREBSY 0).setFlag
      HSN_INTSTAT_TAREDONE).emit 0x0501 [v]

/-- R97: the calibration sums take a paddle. -/
def State.hsnCalAdd (i mass : Nat) (s : State) : State :=
  if !s.on HSN_STAT_CALRUN then s
  else
    let sum := s.rd HSN_CALSUMHI_SUM * 2 ^ 32 + s.rd HSN_CALSUMLO_SUM + i
    let t := ((s.wr HSN_CALSUMLO_SUM sum).wr HSN_CALSUMHI_SUM (sum / 2 ^ 32)).inc HSN_CALPAD_PAD
    { t with hsn := { t.hsn with cal := t.hsn.cal + mass } }.wr HSN_CALMASS_MASS ((s.hsn.cal + mass) / 10)

/-- R91, R93, R97: the paddle in progress ends. -/
def State.hsnPadEnd (s : State) : State :=
  let i := s.hsn.padSum.toNat
  let m := s.hsnMass i
  let pads := ((s.hsn.padStart, s.now, m) :: s.hsn.pads).take 16
  let t := s.hsnPiece ⟨s.now, m, true, s.hsn.padSusp, s.hsn.padSat, s.hsn.padRev, s.hsn.padFlt⟩
  ((({ t with hsn := { t.hsn with pads := pads } }).wr HSN_YFLOW_FLOW (hsnFlow pads)).hsnCalAdd i m).hsnTareStep

/-- R95: a slot of time-domain estimation, or the part of one, that ended at `t`. -/
def State.hsnSlotPiece (t : Nat) (sum : Int) (s : State) : State :=
  s.hsnPiece ⟨t, s.hsnSlotMass sum.toNat, false, false, false, s.hsn.slotRev, s.hsn.slotFlt⟩

/-- R95: a slot, or the part of one, ends. -/
def State.hsnSlotEnd (s : State) : State :=
  let t := s.hsnSlotPiece s.now s.hsn.slotSum
  { t with hsn := { t.hsn with slotSum := 0, slotRev := false, slotFlt := t.on HSN_STAT_PLATEFLT } }

/-- The start of the oldest measurement interval whose record has not been formed. -/
def State.hsnOldest (s : State) : Nat := match s.hsn.due with | some iv => iv.ts | none => s.hsn.ts

/-- R94, R95: the paddle in progress is discarded and its samples pass to time-domain estimation, each to its slot of 50 ms. A slot
that ended in an interval whose record is written counts in the next (DEDUCED, assumption log, entry 86). -/
def State.hsnToTime (cause : Nat) (s : State) : State :=
  if s.hsn.tdom then s else
  let last := s.hsn.pads.take 8
  let span := match last.head?, last.getLast? with | some a, some z => a.2.1 - z.1 | _, _ => 0
  let h := s.hsn
  let k := s.now / hsnSlot
  let t := { s with hsn := { h with tdom := true, rateK := last.length, rateT := span, slotRev := h.padRev, slotFlt := h.padFlt } }
  let t := t.each (h.padSlots.filter (fun e => e.1 < k)).reverse (fun e t => t.hsnSlotPiece (max ((e.1 + 1) * hsnSlot) t.hsnOldest) e.2)
  let here := ((h.padSlots.filter (fun e => e.1 = k)).map (·.2)).foldl (· + ·) 0
  (({ t with hsn := { t.hsn with slotSum := here, padSum := 0, padSlots := [] } }).setFlag HSN_INTSTAT_TDOM).emit 0x0504 [cause]

/-! ## Window events (Table 4.2) -/

/-- A window closes by itself: base loss (3), TIMEOUT (4), fence (5) or commit of HSN_CTL (6). -/
def State.hsnForceClose (n status : Nat) (s : State) : State :=
  let w := s.hsnWin n
  if !w.isOpen then s
  else
    let yield := s.on (HSN_WCFG_FUNC n)
    let t := if yield then s else s.hsnLossRecord n status
    let t := t.setHsnWin n { skip := true }
    let t := if status = 3 then (t.setFlag HSN_INTSTAT_BASELOSS).emit 0x0506 [n, s.rd (HSN_WCFG_BASE n)]
      else if status = 4 then t.emit 0x0507 [n] else t
    if !yield then t
    else if status = 3 then (t.hsnTareAbort 1).hsnToTime 1
    else if status = 4 then t.hsnTareAgain.hsnToTime 2
    else { t with hsn := { t.hsn with padSum := 0, padSlots := [] } }.hsnTareAgain

/-- Every open window closes: a fence, or a commit of HSN_CTL. -/
def State.hsnCloseAll (status : Nat) (s : State) : State := s.each (List.range 16) (fun n => State.hsnForceClose n status)

/-- An open action of Table 4.2 ends what the window has open, under the setup in effect: a loss window's occurrence, with REOPEN, or
the paddle in progress, which in STILL does not end (R94). -/
def State.hsnOpenEnd (n : Nat) (s : State) : State :=
  let w := s.hsnWin n
  if !w.isOpen then s
  else if !s.on (HSN_WCFG_FUNC n) then s.hsnLossRecord n 2
  else s.when (!s.hsn.tdom && s.hsnBaseSt n != 3) State.hsnPadEnd

/-- A base that an open action finds without a valid phase (R94): neither TRACK, STILL nor SUSPECT. -/
def State.hsnBaseGone (s : State) (n : Nat) : Bool := !tbValidSt (s.hsnBaseSt n)

/-- An open action opens the window under the setup that has applied at it (R111): a new occurrence; for the yield window a paddle, with
the return from time-domain estimation (R95). With its base LOST the yield window opens in time-domain estimation (R94). `was`: the
window was open as the yield window, so that in STILL its paddle goes on. -/
def State.hsnOpenBegin (n : Nat) (was : Bool) (s : State) : State :=
  if !s.on (HSN_WCFG_FUNC n) then s.hsnOpenWin n
  else if s.hsn.tdom then
    if s.hsnBaseSt n = 2 then
      let t := s.hsnSlotEnd
      (((({ t with hsn := { t.hsn with tdom := false } }).hsnOpenWin n).hsnPadStart).emit 0x0505 []).hsnTareBegin
    else s.hsnOpenWin n
  else if was && s.hsnBaseSt n = 3 then s
  else
    let t := (s.hsnOpenWin n).hsnPadStart
    if s.hsnBaseGone n then t.hsnToTime 1 else t.hsnTareBegin

/-- A capture-window close action (Table 4.2), with EV 0x050E at most once per second for each window (DESIGN CHOICE, assumption log, entry
97). On the open yield window it ends the paddle in progress, which counts (DEDUCED,
assumption log, entry 86). -/
def State.hsnClose (n : Nat) (s : State) : State :=
  let w := s.hsnWin n
  if !w.isOpen then
    if w.skip then s.setHsnWin n { w with skip := false }
    else s.emitSec 0x050E n (fun k => [n, k])
  else if s.on (HSN_WCFG_FUNC n) then
    (s.when (!s.hsn.tdom && s.hsnBaseSt n != 3) State.hsnPadEnd).setHsnWin n {}
  else (s.hsnLossRecord n 1).setHsnWin n {}

/-- The windows on a base and the interval in progress take what happens to it (Table 4.2, R94, R96, R103). -/
def State.hsnBase (b what : Nat) (s : State) : State :=
  let s := s.each (List.range 16) (fun n s =>
    let w := s.hsnWin n
    if !w.isOpen then s
    else
      let gone := what = 2 || what = 6
      let s := if gone && b = s.rd HSN_CTL_RBASE && !s.on (HSN_WCFG_FUNC n) then
          s.setHsnWin n { w with norot := true, nobin := true } else s
      let w := s.hsnWin n
      if s.rd (HSN_WCFG_BASE n) != b then s
      else if gone then s.hsnForceClose n 3
      else
        let left := if w.stillAt = 0 then w.stillNs else w.stillNs + (s.now + 1 - w.stillAt)
        let w := if what = 1 then { w with still := true, stillAt := s.now + 1 }
          else if what = 5 || what = 4 then { w with stillNs := left, stillAt := 0 } else w
        s.setHsnWin n { w with rev := w.rev || what = 0, jump := w.jump || what = 3, susp := w.susp || what = 4 })
  match s.hsnYieldWin with
  | none => s
  | some n =>
    if s.rd (HSN_WCFG_BASE n) != b then s
    else
      let s := (s.when (what = 1 || what = 2 || what = 4 || what = 6) (State.hsnTareAbort 1)).hsnNoteRev
      if what = 4 then { s with hsn := { s.hsn with padSusp := true } } else s

/-- An open action of a window has committed for an instant not after `t`. -/
def State.hsnOpenAhead (s : State) (n t : Nat) : Bool :=
  s.car.slots.any (fun e => e.2.st = 2 && e.2.desc.typ = 5 && e.2.desc.target = n && bit e.2.desc.arg 0 && decide (e.2.fireAt ≤ t))

/-- R87: a capture-window action for the instant `t` is refused at its commit, judged by the setup that the action will find: a window
group that waits applies at the window's next open action, so it is that of an open, and of a close before which an open has committed
(DEDUCED, assumption log, entry 86). -/
def State.hsnRefuses (s : State) (n arg t : Nat) : Bool :=
  let want (f : Fld) : Nat := if bit arg 0 || s.hsnOpenAhead n t then s.toApply (.hsnWin n) f else s.rd f
  if want (HSN_WCFG_FUNC n) != 0 then !s.on HSN_CTL_YLDEN
  else want (HSN_WCFG_CHMASK n) = 0 || !s.on HSN_CTL_LOSSEN

/-- The time a window counts toward MAXLEN, ns: for the yield window without the time in STILL. -/
def State.hsnOpenFor (s : State) (n : Nat) : Nat :=
  let w := s.hsnWin n
  let still := if w.stillAt = 0 then w.stillNs else w.stillNs + (s.now + 1 - w.stillAt)
  if s.on (HSN_WCFG_FUNC n) then s.now - w.openAt - still else s.now - w.openAt

/-- MAXLEN of an open window has elapsed (Table 4.2). -/
def State.hsnTimedOut (s : State) (n : Nat) : Bool :=
  (s.hsnWin n).isOpen && decide (s.rd (HSN_WCFG_MAXLEN n) * 50000 ≤ s.hsnOpenFor n)

/-- R104, R29: a loss channel in fault: its bit, FAULT, and every occurrence that is open (CHFLT). -/
def State.hsnChFault (c : Nat) (s : State) : State :=
  ((s.wr HSN_STAT_LFLT (setBit (s.rd HSN_STAT_LFLT) c)).each (List.range 16) (fun n s =>
    let w := s.hsnWin n
    if w.isOpen then s.setHsnWin n { w with ch := tabSet {} w.ch c { tabGet {} w.ch c with flt := true } } else s)).setFlag
    HSN_INTSTAT_FAULT

/-- R29, R505: the impact plate in fault: its bit, FAULT; the paddle and the slot in progress are flagged, and with them their record. -/
def State.hsnPlateFault (s : State) : State :=
  ({ s with hsn := { s.hsn with padFlt := true, slotFlt := true } }.wr HSN_STAT_PLATEFLT 1).setFlag HSN_INTSTAT_FAULT

/-! ## Samples (R88, R91, R94, R98–R103) -/

/-- R91, R94, R95, R96: a sample of the impact plate. After TIMEOUT the yield base may be in STILL while the estimation goes on: of the two
rows of R94 that then apply, the samples are taken (DESIGN CHOICE, assumption log, entry 97). -/
def State.hsnPlate (x : Int) (s : State) : State :=
  let sat := decide (x ≤ -32768) || decide (32767 ≤ x)
  let s := s.when sat (fun s => ((s.setFlag HSN_INTSTAT_SAT).emitSec 0x0509 0 (fun n => [n])).hsnTareAbort 2)
  let v := x - s.rdS HSN_TARE_TARE
  match s.hsnYieldWin with
  | none => s
  | some n =>
    let b := s.rd (HSN_WCFG_BASE n)
    let back := decide (b < 8) && !s.tbFwd b && s.tbUsable b
    let s := s.hsnNoteRev
    let h := s.hsn
    if h.tdom then
      { s with hsn := if back then { h with slotRev := true } else { h with slotSum := h.slotSum + v } }
    else if !(s.hsnWin n).isOpen || s.hsnBaseSt n = 3 then s
    else
      let h := { h with padSat := h.padSat || sat, padRev := h.padRev || back,
                        tareSum := if h.tareOn then h.tareSum + x else h.tareSum,
                        tareN := if h.tareOn then h.tareN + 1 else h.tareN }
      let k := s.now / hsnSlot
      let slots := match h.padSlots with
        | (j, x) :: r => if j = k then (j, x + v) :: r else (k, v) :: (j, x) :: r
        | [] => [(k, v)]
      { s with hsn := if back then h else { h with padSum := h.padSum + v, padSlots := slots } }

/-- R100: the thresholds of the bands, in 0.1 rpm. -/
def State.hsnBandThr (s : State) (k : Nat) : Nat :=
  20 * (if k = 1 then s.rd HSN_NBAND_B1 else if k = 2 then s.rd HSN_NBAND_B2 else s.rd HSN_NBAND_B3)

/-- R100: one move of the active band, with its 2 % of hysteresis. -/
def State.hsnBandMove (s : State) (b : Nat) : Nat :=
  let v := s.hsnRpm * 100
  if b < 3 && decide (s.hsnBandThr (b + 1) * 102 < v) then b + 1
  else if 0 < b && decide (v < s.hsnBandThr b * 98) then b - 1
  else b

/-- R100: the active band follows the rotor's speed; windows that are open carry BANDCHG. -/
def State.hsnBand (s : State) : State :=
  let b := s.rd HSN_STAT_BAND
  let b' := s.hsnBandMove (s.hsnBandMove (s.hsnBandMove b))
  if b' = b || !s.hsnRotorOk then s
  else (s.wr HSN_STAT_BAND b').each (List.range 16) (fun n s =>
    let w := s.hsnWin n
    if w.isOpen then s.setHsnWin n { w with bandchg := true } else s)

/-- The key of a bin in the live table. -/
def hsnKey (band c bin : Nat) : Nat := band * 2048 + c * 256 + bin

/-- R102: a bin is learned. -/
def State.hsnLearned (s : State) (k : Nat) : Bool :=
  decide (2 ^ s.rd HSN_NLCFG_LRATE ≤ (tabGet ({} : HsnBin) s.hsn.noise k).upd)

/-- R102: bins of a band learned on every enabled channel (that NLCOV counts a bin by all of them: DESIGN CHOICE, assumption log, entry
97). -/
def State.hsnCov (s : State) (band : Nat) : Nat :=
  let chs := (List.range 8).filter (fun c => s.on (HSN_LCFG_EN c))
  if chs.isEmpty then 0
  else ((List.range 256).filter (fun b => chs.all (fun c => s.hsnLearned (hsnKey band c b)))).length

/-- R101–R103: the mean and the spread that a sample of channel `c` uses, and whether it lies in an unlearned bin, which in BYPASS, where
no bin is used, it does not (DESIGN CHOICE, assumption log, entry 97). -/
def State.hsnFloor (s : State) (c bin : Nat) : Nat × Nat × Bool :=
  let band := s.rd HSN_STAT_BAND
  let k := hsnKey band c bin
  if s.rd HSN_NLCFG_MODE = 3 then (0, 0, !s.hsnRotorOk)
  else if s.hsnRotorOk && s.hsnLearned k then
    let e := tabGet ({} : HsnBin) s.hsn.noise k
    (e.mean / 65536, e.dev / 65536, false)
  else
    let l := (s.hsn.noise.filter (fun e => decide (hsnKey band c 0 ≤ e.1) && decide (e.1 < hsnKey band c 256) &&
      s.hsnLearned e.1)).map (·.2)
    if l.isEmpty then (0, 0, true)
    else (((l.map (·.mean)).foldl (· + ·) 0) / l.length / 65536, ((l.map (·.dev)).foldl (· + ·) 0) / l.length / 65536, true)

/-- R101: μ_b and σ_b of a bin take a sample; both are kept in 2^−16 of a count, the quotients rounded to the nearest (DESIGN CHOICE,
assumption log, entry 97). -/
def hsnLearn (e : HsnBin) (env lrate : Nat) : HsnBin :=
  let x : Int := (env * 65536 : Nat)
  let m := (e.mean : Int) + divRound (x - e.mean) (2 ^ lrate)
  let d := (e.dev : Int) + divRound (((x - m).natAbs : Int) - e.dev) (2 ^ lrate)
  ⟨m.toNat, d.toNat, e.upd + 1⟩

/-- R101, R102: learning at a sample; a band that becomes learned sets NLDONE. -/
def State.hsnLearnAt (c bin env : Nat) (s : State) : State :=
  let band := s.rd HSN_STAT_BAND
  let k := hsnKey band c bin
  let e := hsnLearn (tabGet {} s.hsn.noise k) env (s.rd HSN_NLCFG_LRATE)
  let t := { s with hsn := { s.hsn with noise := tabSet {} s.hsn.noise k e } }
  if decide (2 ^ s.rd HSN_NLCFG_LRATE ≤ e.upd) && !bit t.hsn.told band && t.hsnCov band = 256 then
    ({ t with hsn := { t.hsn with told := setBit t.hsn.told band } }.setFlag HSN_INTSTAT_NLDONE).emit 0x050D [band]
  else t

/-- R99: a sample of channel `c` enters an open occurrence. -/
def hsnAccAdd (a : HsnAcc) (begun : Bool) (r mu : Nat) (sat : Bool) : HsnAcc :=
  { a with n := a.n + 1, count := if begun then incSat 16 a.count else a.count, peak := max a.peak r,
           sq := a.sq + r * r, floor := a.floor + mu, sat := a.sat || sat }

/-- A sample enters every open loss window of its channel. -/
def State.hsnToWins (c : Nat) (begun : Bool) (r mu : Nat) (sat nobin norot : Bool) (s : State) : State :=
  s.each (List.range 16) (fun n s =>
    let w := s.hsnWin n
    if w.isOpen && !s.on (HSN_WCFG_FUNC n) && bit (s.rd (HSN_WCFG_CHMASK n)) c then
      s.setHsnWin n { w with first := some (w.first.getD s.now), sat := w.sat || sat, nobin := w.nobin || nobin,
                             norot := w.norot || norot,
                             ch := tabSet {} w.ch c (hsnAccAdd (tabGet {} w.ch c) begun r mu sat) }
    else s)

/-- R99: an impact's hold-off after a sample: samples since it began, plus 1; 0 where none is held. A fall below DET / 2 counts where it is
seen once HOLD samples have passed (DESIGN CHOICE, assumption log, entry 97). -/
def hsnHold (held hold r det4 : Nat) : Nat × Bool :=
  if held = 0 then (if det4 < 4 * r then (1, true) else (0, false))
  else if hold ≤ held && decide (8 * r < det4) then (0, false)
  else (held + 1, false)

/-- The channel's envelope after a sample whose high-pass filtered value is `y` (R98, steps 3 and 4): one pole with the weight 2^−ENVTC for
each sample, in 2^−16 of a count, of an input held to 65,535 (DESIGN CHOICE, assumption log, entry 97). -/
def hsnEnv (env : Nat) (y : Int) (tc_ : Nat) : Nat :=
  let x : Int := (min y.natAbs 65535 * 65536 : Nat)
  ((env : Int) + divRound (x - env) (2 ^ tc_)).toNat

/-- R98–R103: a filtered sample `y` of channel `c`; `sat`: the sample is saturated. -/
def State.hsnLoss (c : Nat) (y : Int) (sat : Bool) (s : State) : State :=
  let s := s.hsnBand
  let x := s.hsnCh c
  let envq := hsnEnv x.env y (s.rd (HSN_LCFG_ENVTC c))
  let env := envq / 65536
  let bin := bits (s.tbPhase (s.rd HSN_CTL_RBASE)) 16 8
  let f := s.hsnFloor c bin
  let r := env - f.1
  let h := hsnHold x.held (s.rd (HSN_LDET_HOLD c)) r (4 * s.rd (HSN_LDET_THR c) + s.rd (HSN_LDET_KSIG c) * f.2.1)
  let s := (s.setHsnCh c ⟨envq, h.1⟩).hsnToWins c h.2 r f.1 sat f.2.2 (!s.hsnRotorOk)
  let mode := s.rd HSN_NLCFG_MODE
  let learns := s.hsnRotorOk && s.tbSt (s.rd HSN_CTL_RBASE) = 2 && !bit (s.rd HSN_STAT_LFLT) c && !sat &&
    (mode = 1 || (mode = 2 && h.1 = 0))
  s.when learns (State.hsnLearnAt c bin env)

/-- R98: PGA. -/
def hsnGain (pga : Nat) : Int := 4 ^ pga

/-- A capture-window action is due and has not been carried out: samples at this instant come after it (R88). -/
def State.hsnActionDue (s : State) : Bool :=
  s.car.slots.any (fun e => e.2.st = 2 && e.2.desc.typ = 5 && decide (e.2.fireAt ≤ s.now))

/-! ## Moisture (R105, R106) -/

/-- R105: the moisture of a reading, in 0.01 %. -/
def State.hsnReading (s : State) (cap : Nat) (tg : Int) : Int :=
  let p := s.rd HSN_CROP_CROP
  let x : Int := (cap : Int) - (s.rd HSN_MOICFG_CEMPTY : Int)
  s.rdS (HSN_PMA0_COEF p) + divRound (s.rdS (HSN_PMA1_COEF p) * x) 256 + divRound (s.rdS (HSN_PMA2_COEF p) * x * x) 65536 +
    divRound (s.rdS (HSN_PMKT_COEF p) * (tg - 200)) 256

/-- The mean of some readings. -/
def hsnMean (l : List Nat) : Nat := if l.isEmpty then 0 else (divRound ((l.foldl (· + ·) 0 : Nat)) l.length).toNat

/-- A reading is kept: MOIST is the mean of those of the last second (R106). -/
def State.hsnKeepReading (m : Nat) (s : State) : State :=
  let l := ((s.now, m) :: s.hsn.moist).filter (fun e => decide (s.now < e.1 + 6000000000))
  let sec := (l.filter (fun e => decide (s.now < e.1 + 1000000000))).map (·.2)
  ((({ s with hsn := { s.hsn with moist := l, readAt := s.now } }).wr HSN_MOIST_MOIST (hsnMean sec)).wr HSN_MOIST_STALE
    0).wr HSN_MOIST_VALID 1

/-- R105: a 100 ms average. -/
def State.hsnAverage (cap : Nat) (tg : Int) (s : State) : State :=
  let s := (s.wr HSN_MCAP_CAP cap).wr HSN_MCAP_TG (tc 16 tg)
  let full := decide (s.rd HSN_MOICFG_CEMPTY + s.rd HSN_MOICFG_FILLMIN ≤ cap)
  let at_ := if !full then 0 else if s.hsn.fullAt = 0 then s.now + 1 else s.hsn.fullAt
  let s := ({ s with hsn := { s.hsn with fullAt := at_ } }).wr HSN_MOIST_FULL (b2n full)
  if !full || decide (s.now + 1 < at_ + 1000000000) then s
  else
    let m := s.hsnReading cap tg
    if 0 ≤ m ∧ m < 65536 then s.hsnKeepReading m.toNat
    else let r := s.takeFree 16; r.2.hsnKeepReading r.1

/-! ## History and yield records (R107–R109) -/

/-- The time between two instants. -/
def timeDist (a b : Nat) : Nat := (a - b) + (b - a)

/-- The FUS result nearest an instant, within 50 ms. -/
def hsnNearest (t : Nat) (l : List HsnPos) : Option HsnPos :=
  (l.filter (fun p => decide (timeDist p.t t ≤ 50000000))).foldl (fun b p =>
    match b with
    | none => some p
    | some q => if timeDist p.t t < timeDist q.t t then some p else some q) none

/-- R107: a history step. -/
def State.hsnStep (s : State) : State :=
  let d := s.rd HSN_CTL_DBASE
  let ok := decide (d < 8) && s.tbUsable d && s.live 0x09
  let st : HsnStep := ⟨s.now, s.tbPhase d, s.rd SEC_CUTW_CUTW, ok, hsnNearest s.now s.hsn.fus⟩
  { s with hsn := { s.hsn with hist := (st :: s.hsn.hist).take 701 } }

/-- R107: a FUS result, or its revision, reaches HSN. -/
def State.hsnFus (p : HsnPos) (s : State) : State :=
  let upd (st : HsnStep) : HsnStep :=
    match st.pos with
    | none => if timeDist p.t st.at_ ≤ 50000000 then { st with pos := some p } else st
    | some q =>
      if q.t = p.t then
        (if decide (q.rev < p.rev) && decide (s.now < st.at_ + 1600000000) then { st with pos := some p } else st)
      else if timeDist p.t st.at_ < timeDist q.t st.at_ && decide (timeDist p.t st.at_ ≤ 50000000) then { st with pos := some p }
      else st
  let old := s.hsn.fus.filter (fun q => q.t != p.t)
  { s with hsn := { s.hsn with hist := s.hsn.hist.map upd, fus := (p :: old).take 16 } }

/-- PERIOD in ns. -/
def State.hsnPeriod (s : State) : Nat :=
  match s.rd HSN_RCFG_PERIOD with | 0 => 500000000 | 1 => 1000000000 | 2 => 2000000000 | _ => 5000000000

/-- The end of the measurement interval: the next multiple of PERIOD (R108). -/
def State.hsnEnd (s : State) : Nat := (s.hsn.ts / s.hsnPeriod + 1) * s.hsnPeriod

/-- The measurement interval that runs from `ts` to `te`, with what is in effect. -/
def State.hsnIval (s : State) (te : Nat) : HsnIval :=
  let p := s.rd HSN_CROP_CROP
  ⟨s.hsn.ts, te, p, s.rd (HSN_PDLY_TDLY p), s.rd (HSN_PMSTD_MSTD p), s.hsn.cropchg, s.rd HSN_MOIST_MOIST, s.on HSN_MOIST_VALID,
   s.on HSN_MOIST_STALE, s.hsn.rev⟩

/-- A measurement interval that has ended becomes the one whose record is due, and the next begins (R108). Of intervals that
passed while HSN took nothing no record is due. -/
def State.hsnRoll (s : State) : State :=
  let e := s.hsnEnd
  if s.now < e then s
  else
    let next := s.now / s.hsnPeriod * s.hsnPeriod
    { s with hsn := { s.hsn with due := if next = e then some (s.hsnIval e) else none, ts := next, cropchg := false, rev := s.hsnBack } }

/-- One pair of neighbouring history steps over the cut interval: distance and area in 1/1000 of their units, and the sign
of the motion. -/
def hsnPart (c0 c1 : Int) (a b : HsnStep) : Int × Int × Bool × Bool :=
  let lo := max c0 (a.at_ : Int)
  let hi := min c1 (b.at_ : Int)
  if hi ≤ lo then (0, 0, false, true)
  else
    let d := phaseDiff b.phase a.phase
    let x := divRound ((d.natAbs : Int) * (hi - lo) * 1000) (b.at_ - a.at_)
    (x, x * a.width, decide (d < 0), a.ok && b.ok)

/-- The parts of the cut interval, summed: distance, area, reverse motion, availability. -/
def hsnCut (c0 c1 : Int) : List HsnStep → Int × Int × Bool × Bool
  | b :: a :: r =>
    let p := hsnPart c0 c1 a b
    let q := hsnCut c0 c1 (a :: r)
    (p.1 + q.1, p.2.1 + q.2.1, p.2.2.1 || q.2.2.1, p.2.2.2 && q.2.2.2)
  | _ => (0, 0, false, true)

/-- The history step nearest an instant. -/
def hsnAt (m : Int) (l : List HsnStep) : Option HsnStep :=
  l.foldl (fun b p =>
    match b with
    | none => some p
    | some q => if ((p.at_ : Int) - m).natAbs < ((q.at_ : Int) - m).natAbs then some p else some q) none

/-- What the record takes from the position of its midpoint step; with none, free values (R108). -/
def State.hsnPosWords (p : Option HsnPos) (s : State) : List Nat × State :=
  match p with
  | some p => ([p.lat, p.lon, p.rev, p.age], s)
  | none => s.takeFrees 16 4

/-- R109: the flags of a yield record; `ok`: no input of it was flagged invalid beside (R22). -/
def hsnFlags (est susp noarea posinv nohist mstale moinv dly rev sat fence crop ok : Bool) : Nat :=
  let valid := ok && !(est || noarea || posinv || nohist || moinv || sat || fence)
  b2n valid + b2n est * 2 + b2n susp * 4 + b2n noarea * 8 + b2n posinv * 16 + b2n nohist * 32 + b2n mstale * 64 +
    b2n moinv * 128 + b2n dly * 256 + b2n rev * 512 + b2n sat * 1024 + b2n fence * 2048 + b2n crop * 4096

/-- The record of an interval (R108, R109, Table 4.6). -/
def State.hsnRecord (iv : HsnIval) (fence : Bool) (s : State) : State :=
  let mine (p : HsnPiece) : Bool := decide (p.at_ < iv.te) || (fence && iv.te = s.now && p.at_ = s.now)
  let ps := s.hsn.pieces.filter (fun p => decide (iv.ts ≤ p.at_) && mine p)
  let rest := s.hsn.pieces.filter (fun p => !mine p)
  let mass : Nat := (ps.map (·.mass)).foldl (· + ·) 0
  let dly : Int := (iv.tdly * 10000000 : Nat)
  let c0 := (iv.ts : Int) - dly
  let c1 := (iv.te : Int) - dly
  let mid := (c0 + c1) / 2
  let cut := hsnCut c0 c1 s.hsn.hist
  let dist := divRound cut.1 1000
  let area := divRound cut.2.1 10000000
  let step := hsnAt mid s.hsn.hist
  let nohist := match s.hsn.hist.getLast? with | some o => decide (c0 < (o.at_ : Int)) | none => true
  let ms := (s.hsn.moist.filter (fun e => decide (iv.ts ≤ e.1) && decide (e.1 < iv.te))).map (·.2)
  let moist := if ms.isEmpty then iv.moist else hsnMean ms
  let moinv := !iv.valid
  let dry := if moinv then 0 else divRound ((mass : Int) * (10000 - moist)) (10000 - iv.mstd)
  let yld := if area ≤ 0 then 0 else divRound (dry * 10000) area.toNat
  let r := s.hsnPosWords (step.bind (·.pos))
  let t := r.2
  let fl := hsnFlags (ps.any (fun p => !p.paddle)) (ps.any (·.susp)) (decide (area ≤ 0)) (!(step.bind (·.pos)).any (·.valid)) nohist
    (ms.isEmpty || iv.stale) moinv (s.hsn.lastDly.isSome && s.hsn.lastDly != some iv.tdly)
    (cut.2.2.1 || iv.rev || ps.any (·.rev)) (ps.any (·.sat)) fence iv.cropchg
    (cut.2.2.2 && !ps.any (·.flt))
  let npad := (ps.filter (·.paddle)).length
  let mt := tc 64 mid
  let ws := [s.hsn.seq % 2 ^ 32, fl * 0x10000 + iv.crop * 256, iv.ts % 2 ^ 32, iv.ts / 2 ^ 32, mt % 2 ^ 32, mt / 2 ^ 32,
    min mass 0xFFFFFFFF, satU 32 dry, satU 32 area, satU 32 yld, r.1.getD 0 0, r.1.getD 1 0,
    (match step with | some x => min x.width 0xFFFF | none => 0) * 0x10000 + moist, satU 32 dist,
    r.1.getD 2 0 % 0x10000 * 0x10000 + min npad 0xFFFF, iv.tdly * 0x10000 + min (r.1.getD 3 0) 0xFFFF]
  { t with hsn := { t.hsn with pieces := rest, lastDly := some iv.tdly, seq := s.hsn.seq + 1, due := none } }.hsnPutYield ws

/-! ## Reset, fence, commits -/

/-- R113: an RT domain reset. -/
def State.hsnReset (s : State) : State := { s with hsn := { ts := s.now / s.hsnPeriod * s.hsnPeriod, readAt := s.now } }

/-- R114: a fence. An interval that has ended and whose record is not formed yet is written at once too, before the one in progress
(DEDUCED, assumption log, entry 86); between the lifting of a fence and the next boundary there is none. Time-domain estimation
ends without EV 0x0505 (DESIGN CHOICE, assumption log, entry 97). -/
def State.hsnFence (s : State) : State :=
  let s := s.hsnRoll.hsnCloseAll 5
  let on := s.on HSN_CTL_RECEN
  let s := match s.hsn.due with | some iv => s.when on (State.hsnRecord iv true) | none => s
  let s := s.when (on && decide (s.hsn.ts < s.now)) (fun s => s.hsnRecord (s.hsnIval s.now) true)
  { s with hsn := { s.hsn with ts := s.hsnEnd, tdom := false, due := none, pieces := [] } }

/-- R114: the fence is lifted: the first record starts at the next interval boundary. -/
def State.hsnLifted (s : State) : State :=
  { s with hsn := { s.hsn with ts := (s.now + s.hsnPeriod - 1) / s.hsnPeriod * s.hsnPeriod, rev := false } }

/-- HSN_CTL applies: open windows close with CONFIG (Table 4.2). Where it clears YLDEN, time-domain estimation ends without EV 0x0505
(DESIGN CHOICE, assumption log, entry 97). -/
def State.hsnCtlApplied (s : State) : State :=
  let s := s.hsnCloseAll 6
  s.when (!s.on HSN_CTL_YLDEN) (fun s => { s with hsn := { s.hsn with tdom := false } })

/-- HSN_CROP applies with another profile: no reading belongs to it yet (R106, R109). -/
def State.hsnCropApplied (s : State) : State :=
  { s with hsn := { s.hsn with cropchg := true } }.wr HSN_MOIST_VALID 0

/-- The noise table of P.05.00.300 is swapped in: its bins count as learned (assumption log, entry 27). -/
def State.hsnSwap (words : List Nat) (s : State) : State :=
  let bins := (List.range 8192).filterMap (fun k =>
    let w := words.getD k 0
    if w = 0 then none else some (k, ({ mean := bits w 16 16 * 65536, dev := bits w 0 16 * 65536, upd := 32768 } : HsnBin)))
  { s with hsn := { s.hsn with noise := bins } }

/-- The word of a bin as the noise table shows it. -/
def State.hsnNoiseWord (s : State) (k : Nat) : Nat :=
  let e := tabGet ({} : HsnBin) s.hsn.noise k
  min (e.mean / 65536) 0xFFFF * 0x10000 + min (e.dev / 65536) 0xFFFF

/-- HSN_STAT.YMODE (R94). It is 0 where the base is LOST and the window closed outside time-domain estimation, and 2 while that goes on,
be the base in STILL (DESIGN CHOICE, assumption log, entry 97). -/
def State.hsnYmode (s : State) : Nat :=
  match s.hsnYieldWin with
  | none => 0
  | some n =>
    if !s.on HSN_CTL_YLDEN then 0
    else if s.hsn.tdom then 2
    else match s.hsnBaseSt n with
      | 2 => 1
      | 4 => 1
      | 3 => 3
      | _ => 0

end Sys2Proof.Machine
end

