-- ==== Sys2Proof/Machine/Geo.lean ====
section
/-!
DEFINITION. Places on the WGS 84 ellipsoid in the tangent plane of a grid corner (R187), and arcs of constant curvature
(R190), in integers. The spec bounds the error (5 mm within 8 km) and gives no formula; the formula is the ellipsoid's own,
the number format is the model's (DESIGN CHOICE, assumption log, entry 30). Lengths are in 2^−10 mm, angles in 10^−10 degree.
-/
namespace Sys2Proof.Machine

/-- π · 2^60, rounded. -/
def piQ60 : Int := 3622009729038561421

/-- sin r, with r and the answer in 2^−60, for |r| up to a right angle. -/
def sinQ60 (r : Int) : Int :=
  let q := r * r / 2 ^ 60
  let ts := (List.range 14).foldl (fun (p : Int × Int) k =>
    let t := -(p.1 * q / 2 ^ 60) / ((2 * (k + 1)) * (2 * (k + 1) + 1) : Nat); (t, p.2 + t)) (r, r)
  ts.2

/-- A full turn, in 10^−10 degree. -/
def turnE10 : Int := 3600000000000

/-- sin of an angle in 10^−10 degree, in 2^−60. -/
def sinE10 (x : Int) : Int :=
  let h := turnE10 / 2
  let y := (x + h) % turnE10 - h
  let y := if h / 2 < y then h - y else if y < -(h / 2) then -h - y else y
  sinQ60 (y * piQ60 / h)

/-- cos of an angle in 10^−10 degree, in 2^−60. -/
def cosE10 (x : Int) : Int := sinE10 (x + turnE10 / 4)

/-- WGS 84: the semi-major axis in 2^−10 mm, and the square of the eccentricity in 2^−60. -/
def wgsA : Int := 6378137000 * 1024
def wgsE2 : Int := 7718094650643697

/-- Q60 product. -/
def mulQ (a b : Int) : Int := a * b / 2 ^ 60

/-- The prime-vertical radius at a latitude whose sine is `sn`. -/
def wgsN (sn : Int) : Int :=
  let w := 2 ^ 60 - mulQ wgsE2 (mulQ sn sn)
  wgsA * 2 ^ 60 / (isqrt ((w * 2 ^ 60).toNat) : Int)

/-- R187: east and north of a place, latitude and longitude in 10^−10 degree, in the tangent plane at a corner. -/
def geoEN (lat0 lon0 lat lon : Int) : Int × Int :=
  let s0 := sinE10 lat0; let c0 := cosE10 lat0
  let s1 := sinE10 lat; let c1 := cosE10 lat
  let n0 := wgsN s0; let n1 := wgsN s1
  let sl := sinE10 (lon - lon0); let cl := cosE10 (lon - lon0)
  let p1 := mulQ n1 c1
  let x := mulQ p1 cl - mulQ n0 c0
  let z := mulQ (mulQ n1 s1 - mulQ n0 s0) (2 ^ 60 - wgsE2)
  (mulQ p1 sl, mulQ c0 z - mulQ s0 x)

/-- The horizontal distance of two places, mm. -/
def geoDist (lat0 lon0 lat lon : Int) : Nat :=
  let p := geoEN lat0 lon0 lat lon
  isqrt (p.1 * p.1 + p.2 * p.2).toNat / 1024

/-- A pose in the tangent plane: east, north, the heading from north, clockwise. -/
structure Pose where
  e : Int
  n : Int
  h : Int
deriving DecidableEq, Repr

/-- A point of the machine frame, `f` forward and `l` left, at a pose. -/
def Pose.place (p : Pose) (f l : Int) : Int × Int :=
  let s := sinE10 p.h; let c := cosE10 p.h
  (p.e + (f * s - l * c) / 2 ^ 60, p.n + (f * c + l * s) / 2 ^ 60)

/-- R190: the pose after `s` (in 0.1 mm) of travel on an arc: a yaw rate in 0.01°/s, positive to the left (R191), at a speed
in mm/s. The chord is s · sin(x) / x at half the turn. -/
def Pose.arc (p : Pose) (yawr spd : Int) (s : Int) : Pose :=
  if spd = 0 then p
  else
    let turn := yawr * 10000000 * s / spd
    let half := turn / 2
    let x := half * piQ60 / (turnE10 / 2)
    let chord := if x = 0 then s * 1024 / 10 else s * 1024 * sinE10 half / x / 10
    let d := p.h - half
    ⟨p.e + chord * sinE10 d / 2 ^ 60, p.n + chord * cosE10 d / 2 ^ 60, p.h - turn⟩

/-- The cells of a grid with cells of `c` that a segment crosses: column by column. -/
def segCells (x0 y0 x1 y1 c : Int) : List (Int × Int) :=
  let (xa, ya, xb, yb) := if x0 ≤ x1 then (x0, y0, x1, y1) else (x1, y1, x0, y0)
  let i0 := xa / c
  (List.range (xb / c - i0 + 1).toNat).flatMap (fun (k : Nat) =>
    let i := i0 + k
    let at_ (x : Int) : Int := if xb = xa then ya else ya + (yb - ya) * (x - xa) / (xb - xa)
    let p := if xb = xa then ya else at_ (max xa (i * c))
    let q := if xb = xa then yb else at_ (min xb ((i + 1) * c))
    let lo := min p q / c
    (List.range (max p q / c - lo + 1).toNat).map (fun (m : Nat) => (i, lo + m)))

/-- Twice the signed area of a triangle. -/
def cross2 (a b p : Int × Int) : Int := (b.1 - a.1) * (p.2 - a.2) - (b.2 - a.2) * (p.1 - a.1)

/-- A point lies in a triangle, its edges included. -/
def inTri (a b c p : Int × Int) : Bool :=
  let x := cross2 a b p; let y := cross2 b c p; let z := cross2 c a p
  (decide (0 ≤ x) && decide (0 ≤ y) && decide (0 ≤ z)) || (decide (x ≤ 0) && decide (y ≤ 0) && decide (z ≤ 0))

/-- The cells whose centres lie in the quadrilateral that a segment sweeps from (a, b) to (d, c). -/
def sweptCells (a b c d : Int × Int) (cell : Int) : List (Int × Int) :=
  let xs := [a.1, b.1, c.1, d.1]; let ys := [a.2, b.2, c.2, d.2]
  let mn (l : List Int) : Int := l.foldl min (l.headD 0)
  let mx (l : List Int) : Int := l.foldl max (l.headD 0)
  let i0 := mn xs / cell; let j0 := mn ys / cell
  (List.range (mx xs / cell - i0 + 1).toNat).flatMap (fun (k : Nat) =>
    ((List.range (mx ys / cell - j0 + 1).toNat).map (fun (m : Nat) => (i0 + (k : Int), j0 + (m : Int)))).filter (fun ij =>
      let p := (ij.1 * cell + cell / 2, ij.2 * cell + cell / 2)
      inTri a b c p || inTri a c d p))

end Sys2Proof.Machine
end

