-- ==== Sys2Proof/Machine/FusOps.lean ====
section
/-!
DEFINITION. The operations of fusion (spec/11_fusion_engine.md). The numbers that an operation of the estimator answers (R304: a
propagation, a measurement update, a normalised innovation) are open functions of all that it is given, and so free values; the states,
which operations happen, with which operands and in which order, and everything that rests on them, are modelled.
-/
namespace Sys2Proof.Machine

def State.fstr (s : State) (k : Nat) : FusStr := tabGet {} s.fus.str k
def State.setFstr (k : Nat) (x : FusStr) (s : State) : State :=
  { s with fus := { s.fus with str := tabSet {} s.fus.str k x } }
def fusStreams : List Nat := List.range 16
def State.fusSt (s : State) (k : Nat) : Nat := s.rd (FUS_SSTAT_SSTATE k)
def State.fusType (s : State) (k : Nat) : Nat := s.rd (FUS_SCFG_TYPE k)
def State.fusEst (s : State) : Nat := s.rd FUS_STAT_ESTATE
def State.fusPrim (s : State) : Nat := s.rd FUS_STAT_PRIM

/-- OUTPER, ns (R311). -/
def State.fusPer (s : State) : Nat := [4, 5, 10, 20, 40, 100].getD (s.rd FUS_CTL_ORATE) 4 * 1000000

/-- The TV of the newest issued result. -/
def State.fusNewest (s : State) : Option Nat := s.fus.hist.head?.map (·.tv)

/-- R314: the history window, ns. -/
def fusWindow : Nat := 1500000000

/-- A time of measurement lies before the history window. -/
def State.fusOld (s : State) (tm : Nat) : Bool :=
  match s.fusNewest with | some tv => decide (tm + fusWindow < tv) | none => false

/-! ## The estimator's numbers (R304) -/

def FusCore.ints (c : FusCore) : List Int := c.x ++ c.p ++ c.out

/-- A state. -/
def FusCore.v (c : FusCore) (i : Nat) : Int := c.x.getD i 0

/-- An entry of the covariance, `j` up to `i`. -/
def FusCore.cov (c : FusCore) (i j : Nat) : Int := c.p.getD (i * (i + 1) / 2 + j) 0

/-- The fused forward speed, mm/s. -/
def FusCore.spd (c : FusCore) : Int := satS 16 (c.out.getD 1 0)

/-- A deviation from its variance. -/
def fusDev (v : Int) : Nat := min (isqrt v.toNat) 65535

/-- Table 11.5, R312: the numbers of a result. HSTD is the root of the larger eigenvalue of the horizontal position covariance. -/
def FusCore.est (c : FusCore) : FusEst :=
  let d := c.cov 0 0 - c.cov 1 1
  let root : Int := isqrt (d * d + 4 * c.cov 1 0 * c.cov 1 0).toNat
  { lat := clampI (-900000000000) 900000000000 (c.v 0), lon := clampI (-1800000000000) 1800000000000 (c.v 1), hgt := satS 32 (c.v 2),
    vn := satS 16 (c.v 3), ve := satS 16 (c.v 4), vu := satS 16 (c.v 5), spd := c.spd, roll := satS 16 (c.v 6), pitch := satS 16 (c.v 7),
    yaw := (c.v 8 % 36000).toNat, yawr := satS 16 (c.out.getD 0 0), hstd := fusDev ((c.cov 0 0 + c.cov 1 1 + root) / 2),
    vstd := fusDev (c.cov 2 2), velstd := min (c.out.getD 2 0).toNat 65535, hdgstd := fusDev (c.cov 8 8) }

/-- The state that an operation answers. -/
def fusAnswer (operands : List Int) (c : FusCore) : FusCore :=
  let n := Config.estimate (operands ++ c.ints)
  { x := (List.range 24).map n, p := (List.range 300).map (fun i => n (24 + i)), out := (List.range 3).map (fun i => n (324 + i)) }

/-- What an operation is given beside the state. -/
def FusOp.operands (o : FusOp) : List Int :=
  [(o.kind : Int), o.tm, o.strm, o.set.typ, o.set.ns1, o.set.ns2] ++ o.set.cal ++ o.args

/-- R307: the normalised innovation of a measurement, in 0.001 σ. -/
def FusOp.innov (o : FusOp) (c : FusCore) : Nat := (Config.estimate (-1 :: (o.operands ++ c.ints)) 0).toNat

/-- R307: a type-7 sample counts only from a forward speed of 0.5 m/s on. -/
def FusOp.slow (o : FusOp) (c : FusCore) : Bool := o.set.typ = 7 && decide (c.spd < 500)

/-- R307: a measurement is rejected when its normalised innovation exceeds GATE × 0.1 σ; in ALIGN it initialises and is not tested. -/
def FusOp.passes (o : FusOp) (c : FusCore) : Bool := !o.gated || decide (o.innov c ≤ o.set.gate * 100)

/-- A state with its calibration states replaced. -/
def FusCore.withCal (c : FusCore) (f : Nat → Int) : FusCore :=
  { c with x := (List.range 15).map c.v ++ (List.range 9).map f }

/-- R308: an interval that a calibration state's estimate keeps to: it is refined from 1.0 m/s on. -/
def FusOp.bound (o : FusOp) (c : FusCore) (i : Nat) : Option (Int × Int) := if c.spd < 1000 then none else o.bnds.getD i none

/-- R304, R308: a propagation or an update; a calibration state that it does not refine stays, one that it refines is held within its
interval. -/
def FusOp.estimate (o : FusOp) (c : FusCore) : FusCore :=
  let r := fusAnswer o.operands c
  r.withCal (fun i => match o.bound c i with | some b => clampI b.1 b.2 (r.v (15 + i)) | none => c.v (15 + i))

/-- R308: the components whose estimate would leave its interval. -/
def FusOp.over (o : FusOp) (c : FusCore) : List Nat :=
  let r := fusAnswer o.operands c
  (List.range 9).filter (fun i => match o.bound c i with | some b => clampI b.1 b.2 (r.v (15 + i)) != r.v (15 + i) | none => false)

/-- R308: the calibration states take the components of the stream in focus, with their σ: `args` holds the nine values and variances. -/
def FusOp.load (o : FusOp) (c : FusCore) : FusCore :=
  let row (i : Nat) : List Int := (List.range (i + 1)).map (fun j => if j = i then o.args.getD (9 + (i - 15)) 0 else 0)
  { c.withCal (fun i => o.args.getD i 0) with
    p := (List.range 120).map (fun i => c.p.getD i 0) ++ (List.range 9).flatMap (fun i => row (15 + i)) }

/-- An operation carried out on a state. -/
def FusOp.run (o : FusOp) (c : FusCore) : FusCore :=
  if o.kind = 2 then o.load c else if o.kind = 1 && (o.slow c || !o.passes c) then c else o.estimate c

/-- The operations from one time to another. -/
def fusSpan (lo hi : Nat) (l : List FusOp) : List FusOp := l.filter (fun o => decide (lo ≤ o.tm) && decide (o.tm ≤ hi))

/-- The stored state of the newest instant, or of the restart, and the time from which operations follow it. -/
def State.fusBase (s : State) : Nat × FusCore :=
  match s.fus.hist.head? with
  | some i => (i.tv + 1, i.core)
  | none => (0, s.fus.base)

/-- The live lane's state at a time: the newest stored state with the operations since. -/
def State.fusCoreAt (s : State) (t : Nat) : FusCore :=
  (fusSpan s.fusBase.1 t s.fus.ops).foldl (fun c o => o.run c) s.fusBase.2

/-- The live lane's state follows from the newest stored state and the operations after it. -/
def State.fusRefold (s : State) : State :=
  { s with fus := { s.fus with core := (s.fus.ops.filter (fun o => decide (s.fusBase.1 ≤ o.tm))).foldl (fun c o => o.run c) s.fusBase.2 } }

/-- An operation at its place among those of the history. -/
def opIn (x : FusOp) : List FusOp → List FusOp
  | [] => [x]
  | e :: q => if x.tm < e.tm then x :: e :: q else e :: opIn x q

/-- An operation of the live lane, which the history keeps. -/
def State.fusLog (o : FusOp) (s : State) : State := State.fusRefold { s with fus := { s.fus with ops := opIn o s.fus.ops } }

/-- A stream's settings now, and those with which a sample of an earlier time is processed (R318). -/
def State.fusSetNow (s : State) (k : Nat) : FusSet :=
  ⟨s.fusType k, s.rd (FUS_SNOISE_NS1 k), s.rd (FUS_SNOISE_NS2 k), s.rd (FUS_SLAT_GATE k), (List.range 8).map (fun c => sx 32 (s.rd (FUS_RCAL_VAL k c)))⟩
def State.fusSetAt (s : State) (k tm : Nat) : FusSet :=
  match (s.fus.olds.filter (fun e => e.2.1 = k && decide (tm < e.1))).getLast? with
  | some e => e.2.2
  | none => s.fusSetNow k

/-! ## States -/

/-- R305: the estimator's state changes. -/
def State.fusEstate (st : Nat) (s : State) : State :=
  if s.fusEst = st then s else ((s.wr FUS_STAT_ESTATE st).setFlag FUS_INTSTAT_ESTATE).emit 0x0801 [st]

/-- WAITIMU: the count of usable samples and the initialisation begin anew (R305). -/
def State.fusWaitImu (s : State) : State :=
  State.fusEstate 1 { s with fus := { s.fus with align := 0, hdg := false, pos := false, fast5 := 0, last3 := none, track := 0 } }

/-- R306: with no IMU acting, the first alternate that is USED takes over; one that has been left is not taken back before a restart. The
attitude is carried over through the calibrated mounting angles of both. -/
def State.fusPick (s : State) : State :=
  if s.fusPrim != 0xF || s.fusEst = 0 then s
  else
    match [s.rd FUS_CTL_ALT1, s.rd FUS_CTL_ALT2].find? (fun q => q != 0xF && s.fusSt q = 2 && !s.fus.left.contains q) with
    | some q =>
      let p := s.fus.left.headD (s.rd FUS_CTL_PRIMS)
      let t := { s with fus := { s.fus with imusw := true, align := 0 } }.wr FUS_STAT_PRIM q
      ((t.setFlag FUS_INTSTAT_IMUSW).emit 0x0807 [p, q]).fusLog
        { tm := s.now, kind := 3, strm := q, set := s.fusSetNow q, args := p :: (s.fusSetNow p).cal }
    | none => s

/-- R306: the acting primary has become STALE or FAULT: an alternate takes over; without one the estimator enters WAITIMU. -/
def State.fusSwitch (s : State) : State :=
  let p := s.fusPrim
  if p != 0xF && (s.fusSt p = 3 || s.fusSt p = 5) then
    let t := ({ s with fus := { s.fus with left := p :: s.fus.left } }.wr FUS_STAT_PRIM 0xF).fusPick
    if t.fusPrim = 0xF then t.fusWaitImu else t
  else s

/-- A stream enters WAIT: its clock model and what it holds are gone. -/
def State.fusWait (k : Nat) (s : State) : State :=
  (((s.setFstr k { sigma := (s.fstr k).sigma }).wr (FUS_SSTAT_SSTATE k) 1).wr (FUS_SSTAT_HELD k) 0)

/-- Table 11.7: a usable sample of a stream has arrived; with no IMU acting, an alternate that is USED now takes over (R306). -/
def State.fusUsable (k : Nat) (s : State) : State :=
  let t := s.setFstr k { s.fstr k with seen := s.now }
  if t.fusSt k = 1 || t.fusSt k = 3 then (t.wr (FUS_SSTAT_SSTATE k) 2).fusPick else t

/-- Table 11.7, R302: STALE. -/
def State.fusStale (k : Nat) (s : State) : State :=
  (((s.wr (FUS_SSTAT_SSTATE k) 3).setFlag FUS_INTSTAT_STALE).emit 0x0802 [k]).fusSwitch

/-- Table 11.7, R299: FAULT, which is reported (R23). -/
def State.fusStrFault (k : Nat) (rho : Int) (s : State) : State :=
  (((s.wr (FUS_SSTAT_SSTATE k) 5).setFlag FUS_INTSTAT_FAULT).emit 0x080C [k, tc 32 (rho / 10000)]).toTocsin.fusSwitch

/-! ## Calibration components (R308) -/

/-- Table 11.1: the calibration components of a type: LAX, LAY, LAZ, MR, MP, MY, TOF, SCL are 0–7. -/
def fusComps : Nat → List Nat
  | 1 => [0, 1, 2, 3, 4, 5]
  | 2 => [0, 1, 2, 3, 4, 5, 6]
  | 3 => [0, 1, 2, 6]
  | 4 => [5, 6]
  | 5 => [0, 1, 2, 6]
  | 6 => [0, 1, 2, 6, 7]
  | 7 => [0, 5, 6, 7]
  | 8 => [0, 1, 2, 3, 4, 5, 6, 7]
  | _ => []

/-- The components of a stream that its bounds let move. -/
def State.fusFreeComps (s : State) (k : Nat) : List Nat := (fusComps (s.fusType k)).filter (fun c => s.rd (FUS_SNOM_BND k c) != 0)

/-- A component's nominal value and bound in units of FUS_RCALs. -/
def State.fusNom (s : State) (k c : Nat) : Int := s.rdS (FUS_SNOM_NOM k c) * 10
def State.fusBnd (s : State) (k c : Nat) : Int := s.rd (FUS_SNOM_BND k c) * 10

/-- The initial σ of a component, bound / 3, in 2^−16 of a unit of FUS_RCALs. -/
def State.fusSigma0 (s : State) (k c : Nat) : Nat := s.rd (FUS_SNOM_BND k c) * 10 * 65536 / 3
def State.fusSigma (s : State) (k c : Nat) : Nat := (tabFind (s.fstr k).sigma c).getD (s.fusSigma0 k c)

/-- R308: the calibration states take the components of the stream in focus, if one is. -/
def State.fusLoadCal (s : State) : State :=
  match s.fus.focus with
  | some k =>
    s.fusLog { tm := s.now, kind := 2, strm := k,
               args := (List.range 9).map (fun c => if c < 8 then sx 32 (s.rd (FUS_RCAL_VAL k c)) else 0) ++
                 (List.range 9).map (fun c => if c < 8 then (s.fusSigma k c : Int) ^ 2 else 0) }
  | none => s

/-- R316: a restart of the estimator; its state starts from values that the spec does not give. A stream in FAULT stays there until a stream
commit (Table 11.7), so a primary there is left at once (R306). -/
def State.fusRestart (s : State) : State :=
  let c := fusAnswer [-2, (s.now : Int)] {}
  let t := { s with fus := { s.fus with hist := [], used := [], rp := none, res := none, imusw := false, first := true, left := [],
                                        anchor := s.now / s.fusPer * s.fusPer, oseq := 0, posAt := s.now, imuAt := 0, ops := [], olds := [],
                                        base := c, core := c } }
  let t := t.each (fusStreams.filter (fun k => t.on (FUS_SCFG_EN k) && t.fusSt k != 5)) State.fusWait
  ((((t.wr FUS_STAT_REPLAY 0).wr FUS_STAT_PRIM (t.rd FUS_CTL_PRIMS)).fusWaitImu).fusSwitch).fusLoadCal

/-! ## The clock model of a TSRC 2 stream (R299) -/

/-- A point onto the lower hull, newest first. -/
def hullPush (p : Nat × Int) : List (Nat × Int) → List (Nat × Int)
  | b :: a :: r =>
    if (b.1 - a.1 : Int) * (p.2 - a.2) - (b.2 - a.2) * (p.1 - a.1 : Int) ≤ 0 then hullPush p (a :: r) else p :: b :: a :: r
  | l => p :: l

/-- The edge of the lower hull over a place. -/
def hullEdge (m : Nat) : List (Nat × Int) → Option ((Nat × Int) × (Nat × Int))
  | b :: a :: r => if a.1 ≤ m then some (a, b) else hullEdge m (a :: r)
  | _ => none

/-- The value of a line of slope `rho` (10^−12) at a distance. -/
def clockAt (theta rho : Int) (sref s : Nat) : Int := theta + rho * ((s : Int) - (sref : Int)) / 10 ^ 12

/-- R299: the fit of the samples (newest first): the lower hull's edge over their mean s, its slope held within ±200 ppm.
Answers θ, ρ and whether a slope beyond the limit was required (assumption log, entry 31). One sample alone keeps the slope. -/
def clockFit (sref : Nat) (rho0 : Int) (pts : List (Nat × Int)) : Int × Int × Bool :=
  let hull := pts.reverse.foldl (fun h p => hullPush p h) []
  let m := (pts.map (·.1)).sum / pts.length
  match hullEdge m hull with
  | some (a, b) =>
    let r := (b.2 - a.2) * 10 ^ 12 / ((b.1 : Int) - (a.1 : Int))
    if r.natAbs ≤ 200000000 then (a.2 + r * ((sref : Int) - (a.1 : Int)) / 10 ^ 12, r, false)
    else
      let c := clampI (-200000000) 200000000 r
      let ths := pts.map (fun p => p.2 - c * ((p.1 : Int) - (sref : Int)) / 10 ^ 12)
      (ths.foldl min (ths.headD 0), c, true)
  | none =>
    let p := pts.headD (0, 0)
    (p.2 - rho0 * ((p.1 : Int) - (sref : Int)) / 10 ^ 12, rho0, false)

/-- R299: the model is renewed with a sample; ten seconds of a required slope beyond the limit put the stream in FAULT. -/
def State.fusRenew (k sOwn : Nat) (o : Int) (s : State) : State :=
  let x := s.fstr k
  let pts := (sOwn, o) :: x.pts.filter (fun p => decide (sOwn ≤ p.1 + 10000000000))
  let f := clockFit x.sref x.rho pts
  let ov := if f.2.2 then (if x.overAt = 0 then s.now + 1 else x.overAt) else 0
  let t := (s.setFstr k { x with pts := pts, theta := f.1, rho := f.2.1, overAt := ov, prevS := sOwn }).wr (FUS_SCLK_RATE k)
    (tc 16 (satS 16 (f.2.1 / 10000)))
  t.when (ov != 0 && decide (ov + 9999999999 ≤ t.now)) (State.fusStrFault k f.2.1)

/-- The model is seeded from a sample (R298, R300). -/
def State.fusSeed (k sOwn : Nat) (o rho : Int) (s : State) : State :=
  let x := s.fstr k
  (s.setFstr k { x with seeded := true, sref := sOwn, theta := o, rho := rho, pts := [(sOwn, o)], prevS := sOwn, overAt := 0 }).wr
    (FUS_SCLK_RATE k) (tc 16 (satS 16 (rho / 10000)))

/-! ## Admission (R298–R303) -/

/-- The refined time offset of a stream, ns (R298, R308). -/
def State.fusTof (s : State) (k : Nat) : Int := sx 32 (s.rd (FUS_RCAL_VAL k 6)) * 100

/-- R314: a sample beyond the history window. -/
def State.fusLate (s : State) : State :=
  ((s.inc FUS_DROP_LATEDROP).setFlag FUS_INTSTAT_LATEDROP).emitSec 0x0806 0 (fun n => [n])

/-- The queue in order of t_m. -/
def sampIn (x : FusSamp) : List FusSamp → List FusSamp
  | [] => [x]
  | e :: q => if x.tm < e.tm then x :: e :: q else e :: sampIn x q

/-- QDEPTH of FUS_STAT. -/
def State.fusDepth (s : State) : State := s.wr FUS_STAT_QDEPTH s.fus.queue.length

/-- A sample into the input queue. -/
def State.fusQueue (x : FusSamp) (s : State) : State :=
  State.fusDepth { s with fus := { s.fus with queue := sampIn x s.fus.queue } }

/-- A sample of a stream can be used as far as the stream and the record go: it is not in FAULT, and a position has a
quality (R297). -/
def State.fusGood (s : State) (x : FusSamp) : Bool := s.fusSt x.strm != 5 && !(s.fusType x.strm = 3 && x.qual = 0)

/-- R297: a type-8 record that opens a chain. -/
def State.fusChain (x : FusSamp) (s : State) : FusSamp × State :=
  let y := s.fstr x.strm
  if s.fusType x.strm = 8 && y.chain then ({ x with opens := true }, s.setFstr x.strm { y with chain := false }) else (x, s)

/-- Table 11.3, checks 3 and 4, and the sample's way into the queue: the status. -/
def State.fusTake (x : FusSamp) (s : State) : Nat × State :=
  if s.fusOld x.tm then (3, s.fusLate)
  else if 64 ≤ s.fus.queue.length then (4, s)
  else if !s.fusGood x then (0, s)
  else
    let r := s.fusChain x
    (0, (r.2.fusQueue r.1).fusUsable x.strm)

/-- A sample of a TSRC 2 stream at its time by the model in effect. -/
def State.fusTimed (s : State) (x : FusSamp) : FusSamp :=
  let y := s.fstr x.strm
  { x with tm := ((x.s : Int) + clockAt y.theta y.rho y.sref x.s + s.fusTof x.strm).toNat }

/-- Held or kept samples enter the estimator as late samples (R300). -/
def State.fusRelease (k : Nat) (s : State) : State :=
  let l := (s.fstr k).held
  let t := (s.setFstr k { s.fstr k with held := [] }).wr (FUS_SSTAT_HELD k) 0
  t.each l (fun x t => (t.fusTake (t.fusTimed x)).2)

/-- R300, 2: RESYNC. -/
def State.fusResync (x : FusSamp) (o r rho : Int) (s : State) : State :=
  let k := x.strm
  let t := s.fusSeed k x.s o rho
  let t := t.setFstr k { t.fstr k with held := [x], good := 1, chain := true }
  let t := ((t.wr (FUS_SSTAT_SSTATE k) 4).wr (FUS_SSTAT_HELD k) 0).inc (FUS_SCNT_RSYNCNT k)
  (t.setFlag FUS_INTSTAT_RESYNC).emit 0x0803 [k, tc 32 (r / 1000)]

/-- R300, 3: a sample in RESYNC. -/
def State.fusInResync (x : FusSamp) (o r : Int) (s : State) : State :=
  let k := x.strm
  let y := s.fstr k
  if x.s ≤ y.prevS then s.fusResync x o r 0
  else
    let good := if r.natAbs ≤ s.rd (FUS_SPER_PERIOD k) * 250 then y.good + 1 else 0
    let t := s.fusRenew k x.s o
    let t := t.setFstr k { t.fstr k with held := y.held ++ [x], good := good }
    if good = 8 && t.fusSt k = 4 then ((t.wr (FUS_SSTAT_SSTATE k) 2).fusRelease k).emit 0x0804 [k] else t

/-- R299, R300: a sample of a TSRC 2 stream outside RESYNC, with a seeded model. -/
def State.fusClocked (x : FusSamp) (o r : Int) (s : State) : Nat × State :=
  let k := x.strm
  let y := s.fstr k
  if x.s ≤ y.prevS then (0, s.fusResync x o r 0)
  else if s.rd (FUS_SPER_PERIOD k) * 1000 < r.natAbs then
    if 2 ≤ y.held.length then (0, s.fusResync x o r y.rho)
    else
      let t := s.fusRenew k x.s o
      let t := if t.fusPrim = k then { t with fus := { t.fus with align := 0 } } else t
      (0, (t.setFstr k { t.fstr k with held := y.held ++ [x] }).wr (FUS_SSTAT_HELD k) 1)
  else
    let z := s.fusTimed x
    let t := (s.fusRenew k x.s o).fusRelease k
    if s.now < z.tm then (2, t) else t.fusTake z

/-- R298–R301: a push record of a stream that may push: its status. A stream in FAULT waits for a stream commit (Table 11.7). -/
def State.fusAdmit (k w0 w1 w2 : Nat) (data : List Nat) (s : State) : Nat × State :=
  let own := w1 + w2 * 2 ^ 32
  let x : FusSamp := { strm := k, tm := 0, s := own, qual := bits w0 16 8, words := data }
  let lat : Int := s.rd (FUS_SLAT_LATNOM k) * 1000
  if s.rd (FUS_SCFG_TSRC k) = 2 then
    let o : Int := (s.now : Int) - own - lat
    let y := s.fstr k
    if !y.seeded then
      let t := s.fusSeed k own o 0
      let z := t.fusTimed x
      if s.now < z.tm then (2, t) else t.fusTake z
    else
      let r := o - clockAt y.theta y.rho y.sref own
      let t := s.wr (FUS_SCLK_RESID k) (tc 16 (satS 16 (r / 1000)))
      if s.fusSt k = 4 then (0, t.fusInResync x o r) else if s.fusSt k = 5 then (0, t) else t.fusClocked x o r
  else
    let tm : Int := (if s.rd (FUS_SCFG_TSRC k) = 1 then (s.now : Int) - lat else (own : Int)) + s.fusTof k
    if s.rd (FUS_SCFG_TSRC k) = 0 && decide ((s.now : Int) < tm) then (2, s) else s.fusTake { x with tm := tm.toNat }

/-- R301: a push port still runs its last push. -/
def State.fusBusy (s : State) (p : Nat) : Bool := decide (s.now + 1 < tabGet 0 s.fus.busy p)

/-- R301: a refused record is counted, with its status. -/
def State.fusRefuse (p status : Nat) (s : State) : State := s.emitSec 0x0810 p (fun n => [p, status, n])

/-- R301: the record of a push port. The result comes within 1 µs: until when the push runs is a free value (assumption log, entry 92); a
PUSH meanwhile is ignored and counted as FULL. -/
def State.fusPush (p : Nat) (s : State) : State :=
  if s.fusBusy p then s.fusRefuse p 4 else
  let w (i : Nat) : Nat := s.rd (FUS_PW_W p i)
  let k := w 0 / 2 ^ 28
  let r := if s.on (FUS_SCFG_EN k) && [2, 3, 8].contains (s.fusType k)
    then s.fusAdmit k (w 0) (w 1) (w 2) ((List.range 13).map (fun i => w (i + 3))) else (1, s)
  let (d, t) := (r.2.wr (FUS_PRES_STATUS p) r.1).takeFree 10
  let t := { t with fus := { t.fus with busy := tabPut t.fus.busy p (t.now + min d 1000 + 1) } }
  t.when (r.1 != 0) (State.fusRefuse p r.1)

/-- R302: the sample that an internal stream has now, if it is usable: its words (type 4 heading, type 5 speed, type 6
phase, type 7 angle in millidegrees). -/
def State.fusInternal (s : State) (k : Nat) : Option (List Nat) :=
  let src := s.rd (FUS_SCFG_SRC k)
  match s.fusType k with
  | 4 => if s.live 0x07 && s.rd GNS_STAT_HSTATE = 3 then some [s.rd GNS_HDG_HDG] else none
  | 5 => if s.live 0x07 && s.on GNS_SOGST_SOGV then some [(s.rdS GNS_SOG_SOG).natAbs, s.rd GNS_SOGST_COURSE] else none
  | 6 => if s.tbUsable src then some [s.tbPhase src] else none
  | 7 =>
    let conv (raw : Int) : List Nat := [tc 32 (raw * s.rdS (FUS_SCNV_CNV k) / 65536)]
    if src < 16 then (if s.ainValid src then some (conv (s.ainValue src)) else none)
    else if s.tbUsable (src - 16) then some (conv (s.tbPhase (src - 16))) else none
  | _ => none

/-- R302: now is a sampling instant of the stream: a GNSS epoch, or a multiple of PERIOD. -/
def State.fusInstant (s : State) (k : Nat) : Bool :=
  match s.fusType k with
  | 4 => s.gns.epAt = s.now + 1
  | 5 => s.gns.epAt = s.now + 1
  | 6 => s.now % (s.rd (FUS_SPER_PERIOD k) * 1000) = 0
  | 7 => s.now % (s.rd (FUS_SPER_PERIOD k) * 1000) = 0
  | _ => false

/-- R302: an internal stream is sampled; a sample that finds no place or lies before the window is dropped. -/
def State.fusSample (k : Nat) (s : State) : State :=
  match s.fusInternal k with
  | some ws => (s.fusTake { strm := k, tm := ((s.now : Int) + s.fusTof k).toNat, words := ws }).2
  | none => s

/-! ## The estimator (R304–R307) -/

/-- R305: ALIGN ends once attitude (0.2 s of levelling), heading and position are initialised. -/
def State.fusAligned (s : State) : State :=
  if s.fusEst = 2 && s.fus.hdg && s.fus.pos && decide (s.fus.alnAt + 200000000 ≤ s.now) then
    State.fusEstate 3 { s with fus := { s.fus with posAt := s.now } }
  else s

/-- R315: a late sample starts a replay from the stored state of the latest instant before it, joins the one that runs, or restarts it. -/
def State.fusReplayFrom (tm : Nat) (s : State) : State :=
  let i := s.fus.hist.find? (fun i => decide (i.tv < tm))
  let base := (i.map (·.tv)).getD (tm - 1)
  let rp : FusReplay := { from_ := base, point := base, at120 := s.now * 120, tm := tm, core := (i.map (·.core)).getD s.fus.base,
                          lo := (i.map (·.tv + 1)).getD 0 }
  match s.fus.rp with
  | none => (({ s with fus := { s.fus with rp := some rp } }.wr FUS_STAT_REPLAY 1).inc FUS_RPCNT_REPLAYS)
  | some r =>
    if r.point < tm then s else ({ s with fus := { s.fus with rp := some rp } }.inc FUS_RPCNT_RESTARTS)

/-- R314: a time at or before the newest issued instant. -/
def State.fusIsLate (s : State) (tm : Nat) : Bool := match s.fusNewest with | some tv => decide (tm ≤ tv) | none => false

/-- R303, R314: an operation of the live lane, or a late one, which a replay processes. -/
def State.fusEnter (o : FusOp) (s : State) : State :=
  if s.fusIsLate o.tm then State.fusReplayFrom o.tm { s with fus := { s.fus with ops := opIn o s.fus.ops } } else s.fusLog o

/-- R304: the propagation that a sample of the primary IMU makes; a saturated one has its process noise multiplied by 100. The operands say
the state of Table 11.4 too, as ALIGN levels from the accelerometers (R305). -/
def State.fusProp (s : State) (x : FusSamp) : FusOp :=
  { tm := x.tm, kind := 0, strm := x.strm, set := s.fusSetAt x.strm x.tm,
    args := (if x.words.getD 6 0 % 2 = 1 then 100 else 1) :: (s.fusEst : Int) :: (x.words.take 6).map (fun w => sx 32 w) }

/-- R304, R305: a usable sample of the primary IMU propagates the state; in WAITIMU it is one of 200. -/
def State.fusImu (x : FusSamp) (s : State) : State :=
  let t := s.fusEnter (s.fusProp x)
  let t := { t with fus := { t.fus with imuAt := max t.fus.imuAt x.tm, align := t.fus.align + 1, used := (x.strm, x.tm) :: t.fus.used } }
  let t := t.inc (FUS_SCNT_USEDCNT x.strm)
  if t.fusEst = 1 && decide (200 ≤ t.fus.align) then State.fusEstate 2 { t with fus := { t.fus with alnAt := t.now } }
  else t.fusAligned

/-- R305: what a used sample does for the initialisation of heading and position. -/
def State.fusInit (x : FusSamp) (s : State) : State :=
  let f := s.fus
  match s.fusType x.strm with
  | 4 => { s with fus := { f with hdg := true } }
  | 5 =>
    if x.words.getD 0 0 < 1000 then { s with fus := { f with fast5 := 0 } }
    else if f.fast5 = 0 then { s with fus := { f with fast5 := x.tm + 1 } }
    else { s with fus := { f with hdg := f.hdg || decide (f.fast5 + 1999999999 ≤ x.tm) } }
  | 3 =>
    let lat := sx 64 (x.words.getD 0 0 + x.words.getD 1 0 * 2 ^ 32)
    let lon := sx 64 (x.words.getD 2 0 + x.words.getD 3 0 * 2 ^ 32)
    let track : Nat :=
      match f.last3 with
      | some (t0, la, lo) =>
        let d := geoDist la lo lat lon
        if t0 < x.tm && decide (x.tm - t0 ≤ d * 1000000) then f.track + d else 0
      | none => 0
    { s with fus := { f with pos := true, last3 := some (x.tm, lat, lon), track := track,
                             hdg := f.hdg || decide (5000 ≤ track) } }
  | _ => s

/-! ## Calibration (R308–R310) -/

/-- R308: the intervals in which a measurement refines the calibration states: those of the stream in focus. -/
def State.fusBounds (s : State) : List (Option (Int × Int)) :=
  match s.fus.focus with
  | some k =>
    if !s.on (FUS_SCFG_CALEN k) || s.on (FUS_SCFG_CALFRZ k) then []
    else (List.range 9).map (fun c =>
      if (s.fusFreeComps k).contains c then some (s.fusNom k c - s.fusBnd k c, s.fusNom k c + s.fusBnd k c) else none)
  | none => []

/-- R308: an estimate that would leave its interval. -/
def State.fusAtBound (k c : Nat) (s : State) : State :=
  let t := (s.wr (FUS_SSTAT_CALBND k) 1).setFlag FUS_INTSTAT_CALBND
  if bit t.fus.bndTold c then t
  else { t with fus := { t.fus with bndTold := setBit t.fus.bndTold c } }.emit 0x0808 [k, c]

/-- R308: a component's refined value and σ as the calibration states hold them. -/
def State.fusRefine (k c : Nat) (s : State) : State :=
  let t := s.wr (FUS_RCAL_VAL k c) (tc 32 (s.fus.core.v (15 + c)))
  t.setFstr k { t.fstr k with sigma := tabPut (t.fstr k).sigma c (isqrt (s.fus.core.cov (15 + c) (15 + c)).toNat) }

/-- R309: PROG and CALCONV. -/
def State.fusProgress (k : Nat) (s : State) : State :=
  let cs := s.fusFreeComps k
  let left := (cs.map (fun c => (s.fusSigma k c * 100 + s.fusSigma0 k c - 1) / s.fusSigma0 k c)).foldl max 0
  let t := s.wr (FUS_SSTAT_PROG k) (100 - min left 100)
  let done := !cs.isEmpty && cs.all (fun c => decide (s.fusSigma k c * 30 ≤ s.rd (FUS_SNOM_BND k c) * 10 * 65536))
  if !done then t.wr (FUS_SSTAT_CALCONV k) 0
  else if !t.on (FUS_SSTAT_CALCONV k) then ((t.wr (FUS_SSTAT_CALCONV k) 1).setFlag FUS_INTSTAT_CALCONV).emit 0x0809 [k]
  else t

/-- R308: an update from the state `c` has refined the components of the stream in focus, at a speed of 1.0 m/s or more. -/
def State.fusLearn (o : FusOp) (c : FusCore) (s : State) : State :=
  match s.fus.focus with
  | some k =>
    if o.bnds.isEmpty || decide (c.spd < 1000) then s
    else ((s.each (s.fusFreeComps k) (State.fusRefine k)).each (o.over c) (State.fusAtBound k)).fusProgress k
  | none => s

/-- R308: the streams among which focus moves. -/
def State.fusCands (s : State) : List Nat :=
  fusStreams.filter (fun k => s.on (FUS_SCFG_EN k) && s.on (FUS_SCFG_CALEN k) && !s.on (FUS_SCFG_CALFRZ k))

/-- R308: focus moves to the next stream, in stream order. -/
def State.fusFocus (s : State) : State :=
  let cs := s.fusCands
  let nxt := match s.fus.focus with
    | some k => (match cs.find? (fun j => decide (k < j)) with | some j => some j | none => cs.head?)
    | none => cs.head?
  let t := s.each fusStreams (fun k s => s.wr (FUS_SSTAT_FOCUS k) (b2n (nxt = some k)))
  { t with fus := { t.fus with focus := nxt, focAt := t.now, bndTold := 0 } }.fusLoadCal

/-- R308: focus is due to move: its time is up, its stream has left the round, or none has it yet. -/
def State.fusFocusDue (s : State) : Bool :=
  match s.fus.focus with
  | some k => decide (s.fus.focAt + s.rd FUS_CTL_CALDWELL * 1000000000 ≤ s.now) || !s.fusCands.contains k
  | none => !s.fusCands.isEmpty

/-- A stream's refined value set to nominal, σ to the initial σ (R310). -/
def State.fusNominal (k c : Nat) (s : State) : State :=
  let t := s.wr (FUS_RCAL_VAL k c) (tc 32 (s.fusNom k c))
  t.setFstr k { t.fstr k with sigma := tabDel (t.fstr k).sigma c }

/-- Refined values or their σ have been set: the calibration states of the stream in focus, and PROG (R309), follow. -/
def State.fusCalSet (k : Nat) (s : State) : State := (s.when (s.fus.focus = some k) State.fusLoadCal).fusProgress k

/-- CALRESET of a stream (R310). -/
def State.fusCalReset (k : Nat) (s : State) : State :=
  ((s.each (List.range 8) (fun c => State.fusNominal k c)).wr (FUS_SSTAT_CALCONV k) 0).fusCalSet k

/-- CALSNAP of a stream (R310). -/
def State.fusCalSnap (k : Nat) (s : State) : State :=
  s.each (fusComps (s.fusType k)) (fun c s => s.stage (FUS_SNOM_NOM k c) (tc 16 (satS 16 (divRound (sx 32 (s.rd (FUS_RCAL_VAL k c))) 10))))

/-! ## Measurement updates and replays (R307, R314, R315) -/

/-- R307: a rejected sample. -/
def State.fusReject (k : Nat) (s : State) : State :=
  let n := (s.fstr k).rej + 1
  let t := (s.setFstr k { s.fstr k with rej := n }).inc (FUS_SSTAT_REJCNT k)
  if s.rd (FUS_SLAT_REJN k) ≤ n then
    ((t.wr (FUS_SSTAT_OUTLIER k) 1).setFlag FUS_INTSTAT_OUTLIER).emitSec 0x0805 k (fun _ => [k, n])
  else t

/-- R305, R307: an accepted sample. -/
def State.fusAccept (x : FusSamp) (s : State) : State :=
  let k := x.strm
  let t := ((s.setFstr k { s.fstr k with rej := 0 }).wr (FUS_SSTAT_OUTLIER k) 0).inc (FUS_SCNT_USEDCNT k)
  let t := { t with fus := { t.fus with used := (k, x.tm) :: t.fus.used } }
  if t.fusEst < 2 then t
  else
    let t := t.fusInit x
    let t := if t.fusType k = 3 then
        let u := { t with fus := { t.fus with posAt := t.now } }
        if u.fusEst = 4 then u.fusEstate 3 else u
      else t
    t.fusAligned

/-- R307: a measurement is judged by the state `c` in which it finds the estimator. -/
def State.fusJudge (o : FusOp) (x : FusSamp) (c : FusCore) (s : State) : State :=
  if o.slow c then s else if o.passes c then s.fusAccept x else s.fusReject x.strm

/-- The operation that fuses a sample; in ALIGN it initialises and the gate does not test it. -/
def State.fusMeas (s : State) (x : FusSamp) : FusOp :=
  { tm := x.tm, kind := 1, strm := x.strm, set := s.fusSetAt x.strm x.tm, gated := s.fusEst != 2 || s.fusIsLate x.tm,
    args := (x.qual : Int) :: x.words.map (fun w => (w : Int)), bnds := s.fusBounds, late := if s.fusIsLate x.tm then some x else none }

/-- R303, R307, R314: the head of the queue is tested and fused; a late one starts a replay, which judges it. -/
def State.fusMeasure (x : FusSamp) (s : State) : State :=
  let s := State.fusDepth { s with fus := { s.fus with queue := s.fus.queue.tail } }
  let o := s.fusMeas x
  if s.fusOld x.tm then s.fusLate
  else if s.fusSt x.strm != 2 || x.opens then s
  else if s.fusIsLate x.tm then s.fusEnter o
  else if s.fusEst < 2 then s
  else
    let c := s.fusCoreAt x.tm
    let t := (s.fusEnter o).fusJudge o x c
    if o.slow c || !o.passes c then t else t.fusLearn o c

/-- R303, R314: a pushed sample of the acting primary IMU leaves the queue; a late one starts a replay. -/
def State.fusPushedImu (x : FusSamp) (s : State) : State :=
  let s := State.fusDepth { s with fus := { s.fus with queue := s.fus.queue.tail } }
  if s.fusOld x.tm then s.fusLate else s.fusImu x

/-! ## Results (R311–R313) -/

/-- R311: the next output instant to be issued and its number. -/
def State.fusNext (s : State) : Nat × Nat :=
  let p := s.fusPer
  ((s.fus.anchor / p + 1) * p, s.fus.oseq)

/-- R312: AGE in ns. -/
def State.fusAge (s : State) (tv : Nat) : Nat :=
  let ks := fusStreams.filter (fun k => s.fusSt k = 2 && !s.on (FUS_SSTAT_OUTLIER k))
  let ages := ks.filterMap (fun k =>
    let l := (s.fus.used.filter (fun u => u.1 = k && decide (u.2 ≤ tv))).map (·.2)
    if l.isEmpty then none else some (tv - l.foldl max 0))
  ages.foldl max 0

/-- Table 11.5: a stream is STALE, in RESYNC or in FAULT. -/
def State.fusMiss (s : State) : Bool := fusStreams.any (fun k => s.on (FUS_SCFG_EN k) && decide (3 ≤ s.fusSt k))
def State.fusOutl (s : State) : Bool := fusStreams.any (fun k => s.on (FUS_SSTAT_OUTLIER k))

/-- R312: VALID. -/
def State.fusValid (s : State) (e : FusEst) : Bool :=
  (s.fusEst = 3 || s.fusEst = 4) && decide (e.hstd ≤ s.rd FUS_LIM_HSTDMAX) && s.fus.pos && s.fus.hdg

/-- Table 11.5: the flags of word 0x04. -/
def State.fusFlags (s : State) (e : FusEst) (first : Bool) : Nat :=
  b2n first * 256 + b2n (s.rd FUS_STAT_TLVL != 0) * 128 + b2n s.fusOutl * 64 + b2n s.fusMiss * 32 + b2n s.fus.imusw * 16 +
  b2n (s.fusEst = 4) * 8 + b2n (!s.fus.hdg) * 4 + b2n (!s.fus.pos) * 2 + b2n (s.fusValid e)

/-- Table 11.5: the words of a result. -/
def State.fusWords (s : State) (i : FusInst) (e : FusEst) (first : Bool) : List Nat :=
  let la := tc 64 e.lat; let lo := tc 64 e.lon
  let two (a b : Nat) : Nat := (a % 65536) * 65536 + b % 65536
  [i.oseq % 2 ^ 32, (i.rev % 65536) * 65536 + s.fusFlags e first, i.tv % 2 ^ 32, i.tv / 2 ^ 32 % 2 ^ 32,
   min (s.fusAge i.tv / 1000) 0xFFFFFFFF, la % 2 ^ 32, la / 2 ^ 32, lo % 2 ^ 32, lo / 2 ^ 32, tc 32 e.hgt,
   two (tc 16 e.vn) (tc 16 e.ve), two (tc 16 e.vu) (tc 16 e.spd), two (tc 16 e.roll) (tc 16 e.pitch), two e.yaw (tc 16 e.yawr),
   two e.hstd e.vstd, two e.velstd e.hdgstd]

/-- Unread results of the ring. -/
def State.fusUnread (s : State) : Nat := (s.rd FUS_RESWR_IDX + 1024 - s.rd FUS_RESRD_IDX) % 1024

/-- R313: a result into the ring, or dropped. -/
def State.fusRing (words : List Nat) (flag : Fld) (s : State) : State :=
  if 512 ≤ s.fusUnread then ((s.inc FUS_DROP_RESDROP).setFlag FUS_INTSTAT_ROVF).emitSec 0x080B 0 (fun n => [n])
  else
    let w := s.rd FUS_RESWR_IDX
    (({ s with fus := { s.fus with ring := tabPut s.fus.ring (w % 512) words } }.wr FUS_RESWR_IDX (w + 1)).setFlag flag)

/-- What the consumers inside the module see of a result. -/
def State.fusSeen (s : State) (i : FusInst) (e : FusEst) : FusRes :=
  { tv := i.tv, oseq := i.oseq, rev := i.rev, ok := s.fusValid e, age := s.fusAge i.tv / 1000, est := e }

/-- The sample times that are still needed: those in the window, and the newest of each stream. -/
def fusPrune (tv : Nat) (l : List (Nat × Nat)) : List (Nat × Nat) :=
  let old := l.filter (fun u => decide (u.2 + fusWindow < tv))
  let keep := fusStreams.filterMap (fun k =>
    let m := (old.filter (fun u => u.1 = k)).map (·.2)
    if m.isEmpty then none else some (k, m.foldl max 0))
  l.filter (fun u => decide (tv ≤ u.2 + fusWindow)) ++ keep

/-- R314: the stored instants that the window needs: those in it, and the latest one before it. -/
def fusStored (tv : Nat) (l : List FusInst) : List FusInst :=
  let inside (j : FusInst) : Bool := decide (tv ≤ j.tv + fusWindow)
  l.takeWhile inside ++ (l.dropWhile inside).take 1

/-- R311–R314: the result of the next output instant, into the history, FUS_LAST and the ring. -/
def State.fusIssue (s : State) : State :=
  let n := s.fusNext
  let c := s.fusCoreAt n.1
  let i : FusInst := ⟨n.1, n.2, 0, c⟩
  let ws := s.fusWords i c.est s.fus.first
  let f := s.fus
  let hist := fusStored n.1 (i :: f.hist)
  let oldest := match hist.getLast? with | some j => j.tv | none => 0
  let t := { s with fus := { f with hist := hist, first := false, anchor := n.1, oseq := n.2 + 1, res := some (s.fusSeen i c.est), last := ws,
                                    used := fusPrune n.1 f.used,
                                    ops := if hist.length ≤ f.hist.length then f.ops.filter (fun o => decide (oldest < o.tm)) else f.ops,
                                    olds := f.olds.filter (fun e => decide (n.1 ≤ e.1 + fusWindow)) } }
  (t.fusRefold.wr (FUS_LAST_WORD 0) (ws.getD 0 0)).fusRing ws FUS_INTSTAT_RES

/-- R311: the live lane may issue: the primary has delivered at or after TV, and no sample at or before TV still waits. -/
def State.fusReady (s : State) : Bool :=
  decide (s.fusNext.1 ≤ s.fus.imuAt) && decide (s.fusNext.1 ≤ s.now) && s.fus.queue.all (fun x => decide (s.fusNext.1 < x.tm))

/-- R315: the next instant that the replay reaches. -/
def State.fusRpNext (s : State) (r : FusReplay) : Option FusInst :=
  s.fus.hist.reverse.find? (fun i => decide (r.point < i.tv))

/-- R315, R317: when the replay reaches an instant, in 1/120 ns: 30 × real time, slower by the throttle. -/
def State.fusRpDue (s : State) (r : FusReplay) (tv : Nat) : Nat :=
  r.at120 + (tv - r.point) * (4 + [0, 1, 4, 12].getD (s.rd FUS_STAT_TLVL) 0)

/-- R315: the replay reprocesses the operations up to an instant in order of time; a late sample is judged where it meets it. -/
def State.fusReprocess (r : FusReplay) (tv : Nat) (s : State) : FusCore × State :=
  let a := (fusSpan r.lo tv s.fus.ops).foldl (fun (a : FusCore × State) o =>
    (o.run a.1, match o.late with | some x => a.2.fusJudge o x a.1 | none => a.2)) (r.core, s)
  let done (o : FusOp) : FusOp := if r.lo ≤ o.tm ∧ o.tm ≤ tv then { o with late := none } else o
  (a.1, { a.2 with fus := { a.2.fus with ops := a.2.fus.ops.map done } })

/-- R313, R315: a revision of an instant, whose stored state it replaces; of the newest instant, the live lane's with it. -/
def State.fusRevise (r : FusReplay) (i : FusInst) (s : State) : State :=
  let due := s.fusRpDue r i.tv
  let a := s.fusReprocess r i.tv
  let s := a.2
  let e := a.1.est
  let j : FusInst := { i with rev := i.rev + 1, core := a.1 }
  let ws := s.fusWords j e false
  let newest := s.fusNewest = some i.tv
  let t := { s with fus := { s.fus with hist := s.fus.hist.map (fun (h : FusInst) => if h.tv = i.tv then j else h),
                                        rp := some { r with point := i.tv, at120 := due, core := a.1, lo := i.tv + 1 },
                                        res := if newest then some (s.fusSeen j e) else s.fus.res } }.fusRefold
  t.when (newest || i.oseq % max 1 (s.rd FUS_CTL_REVDEC) = 0) (State.fusRing ws FUS_INTSTAT_REV)

/-- R315: the end of a replay. -/
def State.fusRpEnd (r : FusReplay) (s : State) : State :=
  let t := { s with fus := { s.fus with rp := none } }.fusRefold.wr FUS_STAT_REPLAY 0
  let span := (r.point - r.from_) / 1000
  t.wr FUS_RPMAX_SPAN (max (t.rd FUS_RPMAX_SPAN) (min span 0xFFFFFFFF))

/-- R29: a fault of the estimator: the newest result is flagged where its consumers hold it, its revision does not advance, and the
estimator restarts (R316, R322), if it is on. -/
def State.fusFault (s : State) : State :=
  let tv := match s.fus.res with | some x => x.tv | none => 0
  let bad (p : HsnPos) : HsnPos := if p.t = tv then { p with valid := false } else p
  let t := if s.fus.res.isNone then s else
    { s with sec := { s.sec with res := s.sec.res.map (fun x => { x with ok := x.ok && x.tv != tv }) },
             hsn := { s.hsn with fus := s.hsn.fus.map bad, hist := s.hsn.hist.map (fun h => { h with pos := h.pos.map bad }) } }
  (t.setFlag FUS_INTSTAT_FAULT).when (s.on FUS_CTL_EN) State.fusRestart

/-- R322: an uncorrectable memory error in the history. -/
def State.fusMemory (s : State) : State := s.when (s.live 0x08 && s.on FUS_CTL_EN) (fun s => ((s.emit 0x080D [2]).fusFault).toTocsin)

/-! ## Commits, reset, fence, throttle -/

/-- Table 11.6: the Global group has applied: a change of EN, PRIMS, ALT1 or ALT2 restarts the estimator. -/
def State.fusCtlApplied (en prims alt1 alt2 : Nat) (s : State) : State :=
  let s := s.when (s.rd FUS_CTL_EN != en) (fun s => { s with fus := { s.fus with enAt := s.now } })
  if s.rd FUS_CTL_EN = en && s.rd FUS_CTL_PRIMS = prims && s.rd FUS_CTL_ALT1 = alt1 && s.rd FUS_CTL_ALT2 = alt2 then s
  else if s.on FUS_CTL_EN then s.fusRestart
  else
    let t := { s with fus := { s.fus with hist := [], used := [], rp := none, res := none, queue := [], ops := [], olds := [] } }
    (((t.wr FUS_STAT_REPLAY 0).wr FUS_STAT_PRIM 0xF).fusDepth).fusEstate 0

/-- R310: a nominal value after an apply: it replaces a refined value that differs by more than one unit; the refined value
stays within its interval. -/
def State.fusNomApplied (k c : Nat) (s : State) : State :=
  let v := sx 32 (s.rd (FUS_RCAL_VAL k c))
  let nom := s.fusNom k c; let bnd := s.fusBnd k c
  if 10 < (v - nom).natAbs then s.fusNominal k c
  else s.wr (FUS_RCAL_VAL k c) (tc 32 (clampI (nom - bnd) (nom + bnd) v))

/-- Table 11.6, Table 11.7: a stream's group has applied; `o` is the state before, whose settings the history's samples keep (R318). -/
def State.fusStreamApplied (k : Nat) (o s : State) : State :=
  let t := { s with fus := { s.fus with olds := (s.now, k, o.fusSetNow k) :: s.fus.olds } }
  let t := ((t.wr (FUS_SSTAT_REJCNT k) 0).each (List.range 8) (fun c => State.fusNomApplied k c)).fusCalSet k
  let same := s.rd (FUS_SCFG_EN k) = o.rd (FUS_SCFG_EN k) && s.fusType k = o.fusType k &&
    s.rd (FUS_SCFG_TSRC k) = o.rd (FUS_SCFG_TSRC k) && s.rd (FUS_SCFG_SRC k) = o.rd (FUS_SCFG_SRC k)
  if !t.on (FUS_SCFG_EN k) then
    (((t.setFstr k { sigma := (t.fstr k).sigma }).wr (FUS_SSTAT_SSTATE k) 0).wr (FUS_SSTAT_HELD k) 0).wr (FUS_SSTAT_OUTLIER k) 0
  else if !same || t.fusSt k = 5 then t.fusWait k
  else t

/-- R320. -/
def State.fusReset (s : State) : State := { s with fus := {} }

/-- R321: a fence: the estimator stops, history and queue are cleared. -/
def State.fusFence (s : State) : State :=
  let t := { s with fus := { s.fus with hist := [], used := [], queue := [], rp := none, res := none, ops := [], olds := [] } }
  (((t.wr FUS_STAT_REPLAY 0).fusDepth).setFlag FUS_INTSTAT_FENCE).emit 0x080E []

/-- R321: the fence is lifted: the estimator restarts. -/
def State.fusLifted (s : State) : State := s.when (s.on FUS_CTL_EN) State.fusRestart

/-- R317: the throttle level that THM orders. -/
def State.fusThrottle (l : Nat) (s : State) : State :=
  let t := s.when (s.rd FUS_STAT_TLVL != l) (fun s => { s with fus := { s.fus with lvAt := s.now } })
  { t with fus := { t.fus with level := l } }.wr FUS_STAT_TLVL l

/-- The estimator has been on in some part of the last completed second. -/
def State.fusRan (s : State) : Bool :=
  let sec := s.now / 1000000000 * 1000000000
  if s.on FUS_CTL_EN then decide (s.fus.enAt < sec) else s.fus.enAt != 0 && decide (sec < s.fus.enAt + 1000000000)

/-- FUS_LOAD (R317): the shares of the last completed second, none where the estimator was off in it. The spec gives no time of an estimator
operation: the busy share is a free value up to 22 %, drawn once for a second; the quiet share is its k-fold, and where the level changed
in or after that second a free value up to three times it. -/
def State.fusLoad (s : State) : Nat × State :=
  let sec := s.now / 1000000000
  if sec = 0 || !s.fusRan then (0, s)
  else if s.fus.loadAt = sec then (s.fus.loadW, s)
  else
    let r := s.takeFree 8
    let q := r.2.takeFree 10
    let busy := r.1 % 221
    let quiet := if s.fus.lvAt ≤ (sec - 1) * 1000000000 then busy * [0, 1, 4, 12].getD (s.rd FUS_STAT_TLVL) 0 / 4 else q.1 % (busy * 3 + 1)
    (busy * 65536 + quiet, { q.2 with fus := { q.2.fus with loadAt := sec, loadW := busy * 65536 + quiet } })

/-- R313: a read of FUS + 0x0040 latches the other fifteen words of FUS_LAST. -/
def State.fusReadLast (s : State) : Nat × State :=
  (s.rd (FUS_LAST_WORD 0), s.each ((List.range 15).map (· + 1)) (fun i => State.wr (FUS_LAST_WORD i) (s.fus.last.getD i 0)))

/-- A word of FUS's result ring at FUS + 0x8000. -/
def State.fusRingWord (s : State) (off : Nat) : Nat := ((tabFind s.fus.ring (off / 64)).getD []).getD (off % 64 / 4) 0

end Sys2Proof.Machine
end

