-- ==== Sys2Proof/Machine/SecOps.lean ====
section
/-!
DEFINITION. The operations of section and row control (spec/07_section_and_row_control.md).
-/
namespace Sys2Proof.Machine

def secRows : List Nat := List.range 512
def State.secSt (s : State) : Nat := s.rd SEC_STAT_STATE
def State.secBase (s : State) : Nat := s.rd SEC_CTL_DBASE
def State.rcSt (s : State) (r : Nat) : Nat := s.rd (SEC_RCSTAT_STATE r)
def State.rcRoute (s : State) (r : Nat) : Nat := s.rd (SEC_RCCFG_ROUTE r)

/-- R202: the first cause of HOLD present, in the order 6, 1, 5, 2, 3, 4; 0 with none. -/
def State.secCause (s : State) : Nat :=
  let d := s.secBase
  if s.isFenced 0x09 then 6
  else if 8 ≤ d || !s.tbUsable d then 1
  else if !s.tbFwd d then 5
  else
    match s.sec.res with
    | none => 2
    | some r =>
      if !s.live 0x08 || decide (r.tv + s.rd SEC_PLAN0_MAXAGE * 1000000 < s.now) then 2
      else if !r.ok then 3
      else if r.est.spd < (s.rd SEC_THR_MINSPD : Int) then 4
      else 0

/-! ## Maps (R185–R188) -/

/-- The side of a cell, 2^−10 mm; the cells eastward and northward. -/
def State.secCell (s : State) : Int := s.rd SEC_MAPDIM_CELL * 10240
def State.secNx (s : State) : Nat := s.rd SEC_MAPDIM_NXW * 32
def State.secNy (s : State) : Nat := s.rd SEC_MAPDIM_NY

/-- A cell's number, where it lies in the grid. -/
def State.secIndex (s : State) (c : Int × Int) : Option Nat :=
  if 0 ≤ c.1 ∧ c.1 < s.secNx ∧ 0 ≤ c.2 ∧ c.2 < s.secNy then some (c.2.toNat * s.secNx + c.1.toNat) else none

/-- R185: a cell's boundary value, in the map that BSEL selects. -/
def State.secBound (s : State) (k : Nat) : Nat :=
  let base := (if s.on SEC_CMAP_BSEL then s.rd SEC_BMAPB_ADDR else s.rd SEC_BMAPA_ADDR) * 4096
  bits (s.ldb (base + k / 4)) (2 * (k % 4)) 2

/-- R186: the coverage map. -/
def State.secCmap (s : State) : Nat := s.rd SEC_CMAP_ADDR * 4096
def State.secCovered (s : State) (k : Nat) : Bool := bit (s.ldb (s.secCmap + k / 8)) (k % 8)
def State.secCoverCell (k : Nat) (s : State) : State :=
  let a := s.secCmap + k / 8
  s.stb a (setBit (s.ldb a) (k % 8))

/-- R187: a cell is applicable. -/
def State.secApplicable (s : State) (k : Nat) : Bool :=
  let v := s.secBound k
  v = 1 || (v = 3 && !s.on SEC_CTL_HLMODE)

/-- CLRCOV: every bit of the coverage map is cleared. -/
def State.secClear (s : State) : State :=
  { s with mem := tabDrop s.mem s.secCmap (s.secCmap + s.secNx * s.secNy / 8) }

/-- The pose of a result in the grid's plane (R187). -/
def State.secPose (s : State) (e : FusEst) : Pose :=
  let p := geoEN (s.rdS SEC_MAPLAT_LAT * 1000) (s.rdS SEC_MAPLON_LON * 1000) e.lat e.lon
  ⟨p.1, p.2, e.yaw * 100000000⟩

/-- R184: the ends of a row's footprint at a pose, left and right. -/
def State.secEnds (s : State) (r : Nat) (p : Pose) : (Int × Int) × (Int × Int) :=
  let f := s.rdS (SEC_RCGEO_LON r) * 1024; let l := s.rdS (SEC_RCGEO_LAT r) * 1024
  let h : Int := s.rd (SEC_RCCFG_WIDTH r) * 512
  (p.place f (l + h), p.place f (l - h))

/-- The cells of a row's footprint at a pose. -/
def State.secFoot (s : State) (r : Nat) (p : Pose) : List (Int × Int) :=
  let e := s.secEnds r p
  segCells e.1.1 e.1.2 e.2.1 e.2.2 s.secCell

/-- R191: how many cells of a footprint are applicable and not covered, and how many it has. -/
def State.secShare (s : State) (r : Nat) (p : Pose) : Nat × Nat :=
  let cs := s.secFoot r p
  ((cs.filter (fun c => match s.secIndex c with | some k => s.secApplicable k && !s.secCovered k | none => false)).length,
   cs.length)

/-- R204: COVPCT of a row at a pose. -/
def State.secCovPct (s : State) (r : Nat) (p : Pose) : Nat :=
  let cs := s.secFoot r p
  (cs.filter (fun c => match s.secIndex c with | some k => s.secCovered k | none => false)).length * 100 / max 1 cs.length

/-- A point between two points, at `a` of `b`. -/
def between (p q : Int × Int) (a b : Nat) : Int × Int :=
  if b = 0 then q else (p.1 + (q.1 - p.1) * a / b, p.2 + (q.2 - p.2) * a / b)

/-- R188: the cells that a row's footprint sweeps between two results, within a span of time. -/
def State.secSweep (r : Nat) (a b : FusRes) (from_ till : Nat) (s : State) : State :=
  let t0 := max a.tv from_; let t1 := min b.tv till
  if t1 ≤ t0 then s
  else
    let p := s.secEnds r (s.secPose a.est); let q := s.secEnds r (s.secPose b.est)
    let w := b.tv - a.tv
    let cs := sweptCells (between p.1 q.1 (t0 - a.tv) w) (between p.2 q.2 (t0 - a.tv) w) (between p.2 q.2 (t1 - a.tv) w)
      (between p.1 q.1 (t1 - a.tv) w) s.secCell
    s.each cs (fun c s => match s.secIndex c with | some k => s.secCoverCell k | none => s)

/-- R188: marking at a FUS result. It needs two consecutive results that are flagged valid (R22). -/
def State.secMark (x : FusRes) (s : State) : State :=
  let t := { s with sec := { s.sec with marked := some x } }
  match s.sec.marked with
  | some a =>
    if s.secSt = 0 || s.sec.nomark || !a.ok || !x.ok then t
    else t.each s.sec.cover (fun e t => t.each e.2 (fun iv t => State.secSweep e.1 a x iv.1 (if iv.2 = 0 then x.tv else iv.2) t))
  | none => t

/-- R188: a row begins or ends to cover ground. -/
def State.secSpan (r : Nat) (on : Bool) (s : State) : State :=
  let lat (f : Nat → Fld) : Nat := if s.rcRoute r = 0 then 0 else s.rd (f r) * 100000
  let l := tabGet [] s.sec.cover r
  let keep := l.filter (fun iv => iv.2 = 0 || decide (s.now ≤ iv.2 + 2000000000))
  let l := if on then (s.now + lat SEC_RCLAT_ONLAT, 0) :: keep
    else keep.map (fun iv => if iv.2 = 0 then (iv.1, s.now + lat SEC_RCLAT_OFFLAT) else iv)
  { s with sec := { s.sec with cover := tabSet [] s.sec.cover r l } }

/-- A row of state OFF or ON takes its new state. -/
def State.secRow (r : Nat) (on : Bool) (s : State) : State :=
  if s.rcSt r = 0 then s.secSpan r on
  else if s.rcSt r = (if on then 2 else 1) then s
  else (s.wr (SEC_RCSTAT_STATE r) (if on then 2 else 1)).secSpan r on

/-! ## Planning (R190–R192) -/

/-- R190: the DBASE phase at a time, between the two samples either side of it. -/
def prefAt (tv : Nat) : List (Nat × Nat) → Option Nat
  | [] => none
  | [(t, p)] => if t = tv then some p else none
  | (t1, p1) :: (t0, p0) :: r =>
    if t1 = tv then some p1
    else if t1 < tv then none
    else if t0 ≤ tv then some (tc 32 ((p0 : Int) + phaseDiff p1 p0 * ((tv : Int) - t0) / ((t1 : Int) - t0)))
    else prefAt tv ((t0, p0) :: r)

/-- R191: the own speed of a row over ground is positive: v × (1 − κ × LAT) with κ v the yaw rate. -/
def State.secMoves (s : State) (r : Nat) (e : FusEst) : Bool :=
  decide (e.yawr * s.rdS (SEC_RCGEO_LAT r) * piQ60 < e.spd * 18000 * 2 ^ 60)

/-- R191: a row in state `on` wants to be ON at a sample point, `x` of 0.1 mm ahead. -/
def State.secWant (s : State) (pl : SecPlan) (r : Nat) (on : Bool) (x : Nat) : Bool :=
  if !s.secMoves r pl.res.est then false
  else
    let f := s.secShare r ((s.secPose pl.res.est).arc pl.res.est.yawr pl.res.est.spd x)
    if on then decide (s.rd SEC_THR_OFFPCT * f.2 ≤ f.1 * 100) else decide (s.rd SEC_THR_ONPCT * f.2 ≤ f.1 * 100)

/-- R190: the sample points from a place on, in 0.1 mm: that place, then the multiples of STEP behind it up to LOOKAHEAD. -/
def State.secPoints (s : State) (x0 : Nat) : List Nat :=
  let st := max 1 (s.rd SEC_PLAN0_STEP) * 100
  let n := s.rd SEC_PLAN0_LOOKAHEAD * 1000 / st
  x0 :: ((List.range (n + 1)).map (· * st)).filter (fun x => decide (x0 < x))

/-- R191, R192: the transition of a row that has the state `on` from a place on: its new state and its target, as travel
from P_ref in 0.1 mm. -/
def State.secTrans (s : State) (pl : SecPlan) (r : Nat) (on : Bool) (x0 : Nat) : Option (Bool × Int) :=
  match (s.secPoints x0).find? (fun x => s.secWant pl r on x != on) with
  | some x => some (!on, (x : Int) - divRound (pl.res.est.spd * s.rd (if on then SEC_RCLAT_OFFLAT r else SEC_RCLAT_ONLAT r)) 1000)
  | none => none

/-- HORIZON as travel at the present speed, 0.1 mm (R192). -/
def State.secAhead (s : State) (pl : SecPlan) : Int := pl.res.est.spd * s.rd SEC_PLAN1_HORIZON / 100000

/-- R197: a target lies less than HORIZON ahead, or has passed. -/
def State.secIsLate (s : State) (pl : SecPlan) (target : Nat) : Bool :=
  decide (phaseDiff target (s.tbPhase s.secBase) < s.secAhead pl)

/-! ## Posting (R192–R198) -/

/-- R195: the batches of transitions in ascending order: the open batch's target, its members so far (latest first). With MERGE = 0 each
row has a batch of its own. -/
def secMerge (merge : Int) : List SecWant → Option (Int × List SecWant) → List (List SecWant)
  | [], none => []
  | [], some b => [b.2.reverse]
  | x :: r, none => secMerge merge r (some (x.rel, [x]))
  | x :: r, some b =>
    if 0 < merge ∧ x.rel - b.1 ≤ merge then secMerge merge r (some (b.1, x :: b.2))
    else b.2.reverse :: secMerge merge r (some (x.rel, [x]))

/-- The descriptor of an event (R193); the target of a late one is set as it is posted (R197). -/
def State.secDesc (s : State) (e : SecEv) : CarDesc :=
  let r := e.rows.headD 0
  { tgt := if e.late then 0 else e.target, typ := if e.batch then 0 else s.rcRoute r,
    target := if e.batch then 0 else s.rd (SEC_RCCFG_DEST r), arg := b2n e.on_, base := if e.late then 8 else s.secBase,
    onrev := true, horizon := s.rd SEC_PLAN1_HORIZON, tag := e.tag }

/-- A command to Carillon; its answer is awaited. -/
def State.secSend (c : CarCmd) (s : State) : State := State.carSec c { s with sec := { s.sec with out := s.sec.out + 1 } }

/-- The lowest batch number that no batch has. -/
def State.secBatchNo (s : State) : Option Nat :=
  (List.range 256).find? (fun b => !s.sec.evs.any (fun e => e.batch && e.tag % 256 = b))

/-- R193, R197: an event is posted; a late one fires HORIZON after its post (State.carSecNow). -/
def State.secPost (rows : List Nat) (on : Bool) (target : Nat) (batch late : Bool) (s : State) : State :=
  match (if batch then s.secBatchNo else some (rows.headD 0)) with
  | none => s
  | some k =>
    let tag := (if late then 2 ^ 15 else 0) + (if batch then 2 ^ 14 else 0) + k
    let e : SecEv := { tag := tag, rows := rows, on_ := on, target := target, batch := batch, late := late }
    State.secSend ⟨0, s.secDesc e, 0⟩ { s with sec := { s.sec with evs := s.sec.evs ++ [e] } }

/-- Wanted changes as posts: rows with an output singly, image rows in batches; ascending by target (R195, R198). -/
def State.secGroups (s : State) (ws : List SecWant) : List (List SecWant) :=
  let img (on : Bool) := sortBy (fun w => w.rel) (ws.filter (fun w => s.rcRoute w.row = 4 && w.on_ = on))
  let m : Int := s.rd SEC_PLAN1_MERGE * 10
  let one := (ws.filter (fun w => s.rcRoute w.row != 4 && s.rcRoute w.row != 0)).map (fun w => [w])
  sortBy (fun (g : List SecWant) => (g.head?.map (·.rel)).getD 0) (one ++ secMerge m (img true) none ++ secMerge m (img false) none)

/-- R192, R197, R198: the wanted changes are posted, in ascending order of target. -/
def State.secPostAll (pl : SecPlan) (ws : List SecWant) (s : State) : State :=
  let at_ (w : SecWant) : Nat := tc 32 ((pl.pref : Int) + w.rel)
  let late (w : SecWant) : Bool := w.how = 2 || s.secIsLate pl (at_ w)
  let ws := ws.filter (fun w => w.how != 1 || late w)
  let gs := sortBy (fun (g : List SecWant) => (g.head?.map (·.rel)).getD 0)
    (s.secGroups (ws.filter (·.how != 2)) ++ s.secGroups (ws.filter (·.how = 2)))
  s.each gs (fun g s =>
    match g with
    | [] => s
    | w :: _ => s.secPost (g.map (·.row)) w.on_ (at_ w) (s.rcRoute w.row = 4) (late w))

/-- Wanted changes of the plan that runs: they wait for its posts (R200), or are posted where those have been made. Out of RUN nothing is
planned or posted (Table 7.2). -/
def State.secAdd (ws : List SecWant) (s : State) : State :=
  if s.secSt != 2 then s
  else if s.sec.busy && !s.sec.posting then { s with sec := { s.sec with todo := s.sec.todo ++ ws } } else s.secPostAll s.sec.plan ws

/-- R197, R203: late switches to a state that no transition asks for; their target is the present phase. -/
def State.secForce (rows : List Nat) (on : Bool) (s : State) : State :=
  let ph := if s.secBase < 8 then s.tbPhase s.secBase else 0
  let s := s.each (rows.filter (fun r => s.rcRoute r != 4)) (fun r s => s.secPost [r] on ph false true)
  let img := rows.filter (fun r => s.rcRoute r = 4)
  s.when (!img.isEmpty) (State.secPost img on ph true true)

/-- R203, step 2: every row that is ON is switched off by late switches, ROUTE 0 at once; marking stops. -/
def State.secAllOff (s : State) : State :=
  let on := secRows.filter (fun r => s.rcSt r = 2)
  let s := s.each (on.filter (fun r => s.rcRoute r = 0)) (fun r s => s.secRow r false)
  let going (r : Nat) : Bool := s.sec.evs.any (fun e => e.late && !e.on_ && e.rows.contains r)
  State.secForce (on.filter (fun r => s.rcRoute r != 0 && !going r)) false { s with sec := { s.sec with nomark := true } }

/-! ## What CAR answers (R194, R200) -/

/-- The status fields of an event's rows. -/
def State.secShow (e : SecEv) (pend : Bool) (s : State) : State :=
  s.each e.rows (fun r s =>
    let t := (s.wr (SEC_RCSTAT_PEND r) (b2n pend)).wr (SEC_RCSTAT_INBATCH r) (b2n (pend && e.batch))
    if pend then (t.wr (SEC_RCNEXT_TARGET r) e.target).wr (SEC_RCSTAT_LATE r) (b2n e.late) else t)

def State.secSetEv (h : Nat) (f : SecEv → SecEv) (s : State) : State :=
  { s with sec := { s.sec with evs := s.sec.evs.map (fun e => if e.st != 0 && e.handle = h then f e else e) } }

def State.secEv (s : State) (h : Nat) : Option SecEv := s.sec.evs.find? (fun e => e.st != 0 && e.handle = h)

def State.secCount (f : SecCount → SecCount) (s : State) : State := { s with sec := { s.sec with count := f s.sec.count } }

/-- R200, COMMITTED: the event stands; its rows are planned from the committed state, and a correction is a late switch. -/
def State.secStood (h : Nat) (s : State) : State :=
  match s.secEv h with
  | none => s
  | some e =>
    let s := (s.secSetEv h (fun e => { e with st := 2 })).secCount (fun c => { c with stood := c.stood + 1 })
    let pl := s.sec.plan
    let x0 := (phaseDiff e.target pl.pref).toNat
    s.secAdd (e.rows.filterMap (fun r => (s.secTrans pl r e.on_ x0).map (fun t => ⟨r, t.1, t.2, 1⟩)))

/-- An event of rate-limited code is free to be emitted now. -/
def State.rateFree (s : State) (code inst per : Nat) : Bool :=
  let e := tabGet (0, 0) s.rate (code * 0x10000 + inst)
  e.1 = 0 || decide (e.1 - 1 + per ≤ s.now)

/-- R198: EV 0x0905 reports the posts refused since it was last emitted. -/
def State.secTellRefused (s : State) : State :=
  s.when (s.sec.count.refused != 0) (fun s =>
    (s.emit 0x0905 [s.sec.count.refused]).secCount (fun c => { c with refused := 0 }))

/-- R201: a plan is complete: its counts, and its events. -/
def State.secPlanEnd (s : State) : State :=
  let c := s.sec.count
  let u : SecCount := { revoked := s.sec.sum.revoked + c.revoked, retimed := s.sec.sum.retimed + c.retimed,
                        stood := s.sec.sum.stood + c.stood }
  let s := { s with sec := { s.sec with busy := false, sum := u } }
  let s := (s.wr SEC_PCNT0_REVOKED (min c.revoked 0xFFFF)).wr SEC_PCNT0_RETIMED (min c.retimed 255)
  let s := ((s.wr SEC_PCNT1_POSTED (min c.posted 0xFFFF)).wr SEC_PCNT1_STOOD (min c.stood 255)).wr SEC_PCNT1_LATE (min c.late 255)
  let s := s.setFlag SEC_INTSTAT_PLAN
  let s := if c.revoked + c.retimed = 0 then s
    else
      let t := s.setFlag SEC_INTSTAT_REVIS
      let free := t.rateFree 0x0904 0 1000000000
      let t := t.emitSec 0x0904 0 (fun _ => [u.revoked, u.retimed, u.stood])
      if free then { t with sec := { t.sec with sum := {} } } else t
  s.secTellRefused

/-- R200: the answers to a plan's revokes and retimes are in: its posts are made; without any the plan is complete. -/
def State.secPostTodo (s : State) : State :=
  let t := State.secPostAll s.sec.plan s.sec.todo { s with sec := { s.sec with todo := [], posting := true } }
  t.when (t.sec.out = 0) State.secPlanEnd

/-- A post has been accepted. -/
def State.secPosted (e : SecEv) (h : Nat) (s : State) : State :=
  let f : SecEv := { e with st := 1, handle := h }
  let s := { s with sec := { s.sec with evs := s.sec.evs.map (fun (x : SecEv) => if x.st = 0 && x.tag = e.tag then f else x) } }
  let s := (s.secShow f true).secCount (fun c => { c with posted := c.posted + 1, late := c.late + b2n e.late })
  s.when e.late (fun s => (s.setFlag SEC_INTSTAT_LATE).inc SEC_LATECNT_COUNT)

/-- A post has been refused: its transition stays unposted. -/
def State.secRefused (e : SecEv) (s : State) : State :=
  let s := { s with sec := { s.sec with evs := s.sec.evs.filter (fun (x : SecEv) => !(x.st = 0 && x.tag = e.tag)) } }
  (s.setFlag SEC_INTSTAT_REFUSED).secCount (fun c => { c with refused := c.refused + 1 })

/-- R200: the answer to a RETIME. -/
def State.secRetimed (status h : Nat) (s : State) : State :=
  match s.secEv h with
  | none => s
  | some e =>
    if status = 0 then
      let f := { e with target := e.move }
      ((s.secSetEv h (fun _ => f)).secShow f true).secCount (fun c => { c with retimed := c.retimed + 1 })
    else if status = 8 then s.secStood h
    else if status = 5 || status = 6 then
      (s.secSetEv h (fun e => { e with again := true })).secSend ⟨2, {}, h⟩
    else s

/-- R208: the answer to the FLUSH of a fence is in: EV 0x090A with the events revoked. -/
def State.secCutEnd (s : State) : State :=
  match s.sec.cut with
  | none => s
  | some c =>
    if 1 < c.1 then { s with sec := { s.sec with cut := some (c.1 - 1, c.2) } }
    else State.emit 0x090A [c.2] { s with sec := { s.sec with cut := none } }

/-- R198, R200: an answer of CAR on port 4. After the last answer to a plan's revokes and retimes its posts are made; after the last
answer to those the plan is complete. -/
def State.secAnswer (kind status h tag : Nat) (s : State) : State :=
  let s := { s with sec := { s.sec with out := s.sec.out - 1 } }
  let s := s.secCutEnd
  let s :=
    match kind with
    | 0 =>
      match s.sec.evs.find? (fun (e : SecEv) => e.st = 0 && e.tag = tag) with
      | some e => if status = 0 then s.secPosted e h else s.secRefused e
      | none => s
    | 1 => s.secRetimed status h
    | 2 =>
      if status = 0 then s.secCount (fun c => { c with revoked := c.revoked + 1 })
      else if status = 8 then s.secStood h
      else s
    | _ => s
  if s.sec.out != 0 then s
  else if !s.sec.busy then s.secTellRefused
  else if s.sec.posting then s.secPlanEnd
  else s.secPostTodo

/-- R196: the section image takes a batch's new state, and is transmitted while SEC is not fenced. -/
def State.secImage (rows : List Nat) (on : Bool) (s : State) : State :=
  let ds := rows.map (fun r => s.rd (SEC_RCCFG_DEST r))
  let t := s.each ds (fun d s => s.wr (SEC_IMAGE_BITS (d / 32)) (putBit (s.rd (SEC_IMAGE_BITS (d / 32))) (d % 32) on))
  let parts := (List.range 8).foldl (fun m j =>
    if t.rd (SEC_IMAGE_BITS (2 * j)) = s.rd (SEC_IMAGE_BITS (2 * j)) && t.rd (SEC_IMAGE_BITS (2 * j + 1)) = s.rd (SEC_IMAGE_BITS (2 * j + 1))
    then m else setBit m j) 0
  t.when (!t.isFenced 0x09) (State.signal (.secImage parts))

/-- R194, R197: an event has fired. -/
def State.secFired (e : SecEv) (s : State) : State :=
  let s := s.each e.rows (fun r s => s.secRow r e.on_)
  let s := s.when e.batch (State.secImage e.rows e.on_)
  if e.late then
    let ph := if s.secBase < 8 then s.tbPhase s.secBase else 0
    s.emitSec 0x0903 0 (fun n => [e.rows.headD 0, tc 32 (phaseDiff ph e.target), n])
  else s

/-- R194: the rows of an event whose action was blocked. -/
def State.secBlocked (e : SecEv) (s : State) : State :=
  (s.each e.rows (fun r s => (s.wr (SEC_RCSTAT_STATE r) 3).emit 0x0906 [r])).setFlag SEC_INTSTAT_BLOCKED

/-- R194, R200: CAR has decided an event of port 4. -/
def State.secOutcome (h status : Nat) (s : State) : State :=
  match s.secEv h with
  | none => s
  | some e =>
    let s := { s with sec := { s.sec with evs := s.sec.evs.filter (fun (x : SecEv) => !(x.st != 0 && x.handle = h)) } }
    let s := s.secShow e false
    let s := s.when (status = 2) (fun s => { s with sec := { s.sec with cut := s.sec.cut.map (fun c => (c.1, c.2 + 1)) } })
    if status = 1 then s.secFired e
    else if status = 8 then s.secBlocked e
    else if status = 2 && e.again then
      let pl := s.sec.plan
      let rs := e.rows.filter (fun r => s.rcSt r = 1 || s.rcSt r = 2)
      let rel := phaseDiff e.move pl.pref
      s.secAdd (rs.filterMap (fun r => (s.secTrans pl r (s.rcSt r = 2) 0).bind (fun t =>
        if t.1 = e.on_ then some ⟨r, e.on_, rel, 2⟩ else none)))
    else s

/-! ## A plan (R189–R200) -/

/-- R199: what becomes of a posted event under a new plan: the rows that it keeps and its new target, or none. -/
def State.secKept (s : State) (pl : SecPlan) (tr : Nat → Option (Bool × Int)) (e : SecEv) : Option (List Nat × Nat) :=
  let ws := e.rows.filterMap (fun r => match tr r with | some t => if t.1 = e.on_ then some (r, t.2) else none | none => none)
  match ws with
  | [] => none
  | w :: q =>
    let m := q.foldl (fun m x => min m x.2) w.2
    let merge : Int := s.rd SEC_PLAN1_MERGE * 10
    let keep := if merge = 0 then ((w :: q).filter (fun x => x.2 = m)).take 1 else (w :: q).filter (fun x => decide (x.2 - m ≤ merge))
    some (keep.map (·.1), tc 32 ((pl.pref : Int) + m))

/-- An event is still open to reconciliation: in CAR, not a late switch, not known to be committed. -/
def SecEv.isOpen (e : SecEv) : Bool := e.st = 1 && !e.late

/-- R199: the target has moved by more than RETOL. -/
def State.secMoved (s : State) (e : SecEv) (target : Nat) : Bool :=
  decide (s.rd SEC_PLAN1_RETOL * 10 < (phaseDiff target e.target).natAbs)

/-- R199, R200: revokes, then retimes, each in ascending order of posted target; the rows that leave a batch. -/
def State.secReconcile (pl : SecPlan) (tr : Nat → Option (Bool × Int)) (s : State) : State :=
  let evs := sortBy (fun (e : SecEv) => phaseDiff e.target pl.pref) (s.sec.evs.filter SecEv.isOpen)
  let dead := evs.filter (fun e => (s.secKept pl tr e).isNone)
  let s := s.each dead (fun e s => s.secSend ⟨2, {}, e.handle⟩)
  s.each evs (fun e s =>
    match s.secKept pl tr e with
    | none => s
    | some k =>
      let s := s.secShow { e with rows := e.rows.filter (fun r => !k.1.contains r) } false
      let s := s.secSetEv e.handle (fun e => { e with rows := k.1, move := k.2 })
      if s.secMoved e k.2 then s.secSend ⟨1, { tgt := k.2 }, e.handle⟩ else s)

/-- The enabled rows that are OFF or ON. -/
def State.secActive (s : State) : List Nat := secRows.filter (fun r => s.on (SEC_RCCFG_EN r) && (s.rcSt r = 1 || s.rcSt r = 2))

/-- R183: ROUTE 0 rows take the state that they want where they are. -/
def State.secDirect (pl : SecPlan) (s : State) : State :=
  s.each (s.secActive.filter (fun r => s.rcRoute r = 0)) (fun r s => s.secRow r (s.secWant pl r (s.rcSt r = 2) 0))

/-- R189–R200: the plan's decisions and commands. -/
def State.secDecide (pl : SecPlan) (s : State) : State :=
  let s := s.each (s.secActive) (fun r s => s.wr (SEC_RCSTAT_COVPCT r) (s.secCovPct r (s.secPose pl.res.est)))
  let s := s.secDirect pl
  let rows := s.secActive.filter (fun r => s.rcRoute r != 0 && !s.sec.evs.any (fun e => !e.isOpen && e.rows.contains r))
  let trs := rows.map (fun r => (r, s.secTrans pl r (s.rcSt r = 2) 0))
  let tr (r : Nat) : Option (Bool × Int) := match trs.find? (fun p => p.1 = r) with | some p => p.2 | none => none
  let had := s.sec.evs.filter SecEv.isOpen
  let gone := had.filter (fun e => (s.secKept pl tr e).isNone)
  let s := s.secReconcile pl tr
  let busy (r : Nat) : Bool := s.sec.evs.any (fun e => e.rows.contains r) || gone.any (fun e => e.rows.contains r)
  let ws := (rows.filter (fun r => !busy r)).filterMap (fun r => (tr r).map (fun t => ⟨r, t.1, t.2, 0⟩))
  let s := { s with sec := { s.sec with todo := ws, posting := false } }
  s.when (s.sec.out = 0) State.secPostTodo

/-- R64: port 4 is flushed; its events are no longer open to a plan. -/
def State.secFlush (s : State) : State :=
  State.secSend ⟨3, {}, 0⟩ { s with sec := { s.sec with
    busy := false, todo := [],
    evs := s.sec.evs.map (fun (e : SecEv) => if e.isOpen then { e with st := 2 } else e) } }

/-- R203, R208: HOLD is entered. -/
def State.secHold (cause : Nat) (off : Bool) (s : State) : State :=
  let s := { s with sec := { s.sec with causeAt := s.now } }
  let s := (((s.wr SEC_STAT_STATE 3).setFlag SEC_INTSTAT_HOLD).emit 0x0902 [cause]).secFlush
  s.when (off && s.on SEC_CTL_SAFEOFF) State.secAllOff

/-- R189: a plan may start: none runs, and two plans start at least 2 ms apart. -/
def State.secMayStart (s : State) : Bool :=
  s.live 0x09 && (s.secSt = 1 || s.secSt = 2) && !s.sec.busy && (s.sec.planAt = 0 || decide (s.sec.planAt + 1999999 ≤ s.now))

/-- R189: the time of a plan has come: the commands of the last one are answered too. -/
def State.secMayPlan (s : State) : Bool := s.secMayStart && s.sec.out = 0

/-- R189: a plan is asked for, by a newer result, an apply point or REPLAN. -/
def State.secAsked (s : State) : Bool :=
  s.sec.replan ||
  (match s.sec.res with
   | some r => (match s.sec.planned with
     | some p => decide (p.1 < r.tv) || (p.1 = r.tv && decide (p.2 < r.rev))
     | none => true)
   | none => false)

/-- R189: a plan starts. -/
def State.secStart (s : State) : State :=
  let s := { s with sec := { s.sec with planAt := s.now + 1, replan := false,
                                        planned := match s.sec.res with | some r => some (r.tv, r.rev) | none => s.sec.planned } }
  let c := s.secCause
  if c != 0 then s.when (s.secSt = 2) (State.secHold c true)
  else
    match s.sec.res with
    | none => s
    | some r =>
      match prefAt r.tv s.sec.samples with
      | none => s
      | some p =>
        let s := if s.secSt = 1 then (s.wr SEC_STAT_STATE 2).emit 0x0901 [] else s
        let pl : SecPlan := ⟨r, p⟩
        State.secDecide pl { s with sec := { s.sec with plan := pl, busy := true, count := {}, nomark := false } }

/-! ## Cut width (R204) -/

/-- The header input reads raised. -/
def State.secRaised (s : State) : Bool :=
  let src := s.rd SEC_CTL_HDRSRC
  let lowered (v : Bool) : Bool := v != s.on SEC_CTL_HDRPOL
  if src = 0x80 then !lowered (s.on SEC_HOST_HDRDN)
  else if 1 ≤ src && src ≤ 32 then !lowered (s.diLevel (src - 1))
  else false

/-- R204: the report. -/
def State.secCut (s : State) : State :=
  let on := secRows.filter (fun r => s.on (SEC_RCCFG_EN r) && s.rcSt r = 2)
  let s := if s.on SEC_CTL_CUTCOV then
      (match s.sec.res with
       | some x => s.each on (fun r s => s.wr (SEC_RCSTAT_COVPCT r) (s.secCovPct r (s.secPose x.est)))
       | none => s)
    else s
  let w (r : Nat) : Nat :=
    if s.on SEC_CTL_CUTCOV then s.rd (SEC_RCCFG_WIDTH r) * (100 - s.rd (SEC_RCSTAT_COVPCT r)) / 100 else s.rd (SEC_RCCFG_WIDTH r)
  let cut := if s.secRaised then 0 else min (on.map w).sum 0xFFFF
  let t := (s.wr SEC_CUTW_CUTW cut).wr SEC_CUTW_HDRUP (b2n s.secRaised)
  t.when (cut != s.rd SEC_CUTW_CUTW) (State.setFlag SEC_INTSTAT_CUT)

/-! ## Results, samples, commits, reset, fence -/

/-- R188, R189: a result or a revision reaches SEC. Marking runs at results, not at revisions. -/
def State.secResult (x : FusRes) (s : State) : State :=
  let newer := match s.sec.res with | some r => decide (r.tv ≤ x.tv) | none => true
  let s := s.when (x.rev = 0 && s.live 0x09) (State.secMark x)
  if newer then { s with sec := { s.sec with res := some x } } else s

/-- R190: a sample of DBASE; 2 s are kept. -/
def State.secSample (s : State) : State :=
  let l := s.sec.samples.filter (fun p => decide (s.now ≤ p.1 + 2000000000))
  if s.secBase < 8 && s.tbUsable s.secBase then
    { s with sec := { s.sec with samples := (s.now, s.tbPhase s.secBase) :: l } }
  else { s with sec := { s.sec with samples := l } }

/-- Table 7.3: the Global group has applied: a change of EN or DBASE flushes port 4 and returns SEC to OFF or WAIT. -/
def State.secCtlApplied (en dbase : Nat) (s : State) : State :=
  if s.rd SEC_CTL_EN = en && s.rd SEC_CTL_DBASE = dbase then s
  else
    let s := { s with sec := { s.sec with samples := if s.rd SEC_CTL_DBASE = dbase then s.sec.samples else [] } }
    s.secFlush.wr SEC_STAT_STATE (b2n (s.on SEC_CTL_EN))

/-- Table 7.3: a row's group has applied: a row whose EN clears has its transition revoked and is switched off. -/
def State.secRowApplied (r : Nat) (s : State) : State :=
  if s.on (SEC_RCCFG_EN r) then s.when (s.rcSt r = 0) (State.wr (SEC_RCSTAT_STATE r) 1)
  else if s.rcSt r = 0 then s
  else
    let mine := s.sec.evs.filter (fun e => e.isOpen && e.rows = [r])
    let s := s.each mine (fun e s => s.secSend ⟨2, {}, e.handle⟩)
    let many (e : SecEv) : Bool := e.isOpen && e.batch && e.rows != [r] && e.rows.contains r
    let s := s.each (s.sec.evs.filter many) (fun e s => s.secShow { e with rows := [r] } false)
    let s := { s with sec := { s.sec with evs := s.sec.evs.map (fun (e : SecEv) =>
      if many e then { e with rows := e.rows.erase r } else if e.isOpen && e.rows = [r] then { e with st := 2 } else e) } }
    let on := s.rcSt r = 2
    let s := (s.wr (SEC_RCSTAT_STATE r) 0).when (s.rcRoute r = 0 && on) (State.secSpan r false)
    s.when (on && s.rcRoute r != 0) (State.secForce [r] false)

/-- R207, R208: a fence whose FLUSH has not been answered yet has its EV 0x090A now, with the events of port 4 that the fence found in
PROV. -/
def State.secReset (s : State) : State :=
  let s := s.when s.sec.cut.isSome (State.emit 0x090A [s.sec.cutAll])
  { s with sec := {} }

/-- R208: a fence: HOLD with cause 6, where EN = 1 (in OFF there is none to leave it for; DEDUCED, assumption log, entry 88); port 4 is
flushed, and EV 0x090A follows with the answer. What the rows sweep from now until the first result after the lift is not marked. -/
def State.secFence (s : State) : State :=
  let s := { s with sec := { s.sec with marked := none } }
  let s := if s.secSt = 0 then s.secFlush else s.secHold 6 false
  let n := (s.car.slots.filter (fun e => e.2.st = 1 && e.2.port = 4)).length
  { s with sec := { s.sec with cut := some (s.sec.out, 0), cutAll := n } }.setFlag SEC_INTSTAT_FENCE

/-- SEC_STAT: CAUSE is the first cause of HOLD present, where SEC is on (R202); ROWSON and POSTED. -/
def State.secStat (s : State) : Nat :=
  s.secSt * 2 ^ 30 + (if s.secSt = 0 then 0 else s.secCause) * 2 ^ 27 + (secRows.filter (fun r => s.rcSt r = 2)).length * 2 ^ 17 +
  (min (s.sec.evs.filter (fun e => e.st != 0)).length 256) * 2 ^ 8

end Sys2Proof.Machine
end

