-- ==== Sys2Proof/Machine/VisPipe.lean ====
section
/-!
DEFINITION. The stages of the vision pipeline (spec/05_grain_vision.md, R132–R136) as functions of a frame's pixels and of
the fields of its context.
-/
namespace Sys2Proof.Machine

/-- The fields and tables of a context (Table 5.4), as processing takes them at its start (R138). -/
structure VisCtx where
  ana     : Bool
  imgout  : Bool
  fracby  : Bool
  edgex   : Bool
  dyndpc  : Bool
  stdpc   : Bool
  sclx    : Nat
  scly    : Nat
  blk     : List Nat
  dpthr   : Nat
  gain    : List Nat
  m       : List Int
  segm    : Nat
  thr     : Nat
  minarea : Nat
  bg      : List Nat
  minconf : Nat
  cshift  : Nat
  defects : List Nat
  lut     : List Nat
  cls     : List Int
  imgbase : Nat
  imgstr  : Nat
deriving DecidableEq, Repr

/-- A coordinate mirrored at the edges of `n` (DEDUCED: about the edge pixel, which keeps the colour phase). -/
def mirror (n : Nat) (i : Int) : Nat :=
  if i < 0 then (-i).toNat else if (n : Int) ≤ i then (2 * (n : Int) - 2 - i).toNat else i.toNat

/-- Stage 1: the black level of the pixel's colour phase. -/
def visBlack (c : VisCtx) (px : Nat → Nat → Nat) (x y : Nat) : Nat :=
  px x y - c.blk.getD (2 * (y % 2) + x % 2) 0

/-- Stage 2: a defect pixel is replaced by the rounded mean of its four neighbours of the same colour. -/
def visDefect (c : VisCtx) (mono : Bool) (w h : Nat) (px : Nat → Nat → Nat) (x y : Nat) : Nat :=
  let d : Int := if mono then 1 else 2
  let p := visBlack c px
  let v := p x y
  let l := [p (mirror w (x - d)) y, p (mirror w (x + d)) y, p x (mirror h (y - d)), p x (mirror h (y + d))]
  let hi := l.foldl max 0
  let lo := l.foldl min 0xFFFF
  let bad := (c.stdpc && c.defects.contains (x * 0x10000 + y)) ||
    (c.dyndpc && (decide (hi + c.dpthr < v) || decide (v + c.dpthr < lo)))
  if bad then ((l.foldl (· + ·) 0) + 2) / 4 else v

/-- The colour filter over a pixel, 0 red, 1 green, 2 blue (CFA of the port). -/
def cfaColour (cfa x y : Nat) : Nat :=
  let k := 2 * (y % 2) + x % 2
  (match cfa with
   | 0 => [0, 1, 1, 2]
   | 1 => [1, 0, 2, 1]
   | 2 => [1, 2, 0, 1]
   | _ => [2, 1, 1, 0]).getD k 1

/-- Stage 3: R, G and B of a pixel. MONO gives the pixel in all three; with a colour filter the pixel gives its own colour,
and `interp` the two that the interpolation gives, of which the spec states the window alone (assumption log, entry 29). -/
def visRgb (c : VisCtx) (cfa w h : Nat) (px : Nat → Nat → Nat) (interp : Nat → Nat) (x y : Nat) : List Nat :=
  let p := visDefect c (cfa = 4) w h px x y
  if cfa = 4 then [p, p, p]
  else
    let own := cfaColour cfa x y
    (List.range 3).map (fun k => if k = own then p else interp (3 * (y * w + x) + k))

/-- Stages 4 and 5: white balance and the colour matrix, 4.12, rounded and clamped. -/
def visColour (c : VisCtx) (rgb : List Nat) : List Nat :=
  let b := (List.range 3).map (fun k => min ((rgb.getD k 0 * c.gain.getD k 0 + 2048) / 4096) 65535)
  (List.range 3).map (fun k =>
    (clampI 0 65535 ((sumI ((List.range 3).map (fun j => c.m.getD (3 * k + j) 0 * (b.getD j 0 : Int))) + 2048) / 4096)).toNat)

/-- Stage 6: the tone curves, by the top 10 bits. -/
def visTone (c : VisCtx) (rgb : List Nat) : List Nat :=
  (List.range 3).map (fun k => c.lut.getD (1024 * k + rgb.getD k 0 / 64) 0)

/-- Stage 7: a pixel of the analysis image: the mean of its block, halves rounded up. -/
def visScale (sx_ sy_ : Nat) (px : Nat → Nat → List Nat) (x y : Nat) : List Nat :=
  let blk := (List.range sy_).flatMap (fun j => (List.range sx_).map (fun i => px (x * sx_ + i) (y * sy_ + j)))
  (List.range 3).map (fun k => (2 * ((blk.map (·.getD k 0)).foldl (· + ·) 0) + sx_ * sy_) / (2 * (sx_ * sy_)))

def visLuma (rgb : List Nat) : Nat := (77 * rgb.getD 0 0 + 150 * rgb.getD 1 0 + 29 * rgb.getD 2 0 + 128) / 256

/-- Stage 8: an object pixel. -/
def visObject (c : VisCtx) (rgb : List Nat) : Bool :=
  match c.segm with
  | 0 => decide (c.thr ≤ visLuma rgb)
  | 1 => decide (visLuma rgb ≤ c.thr)
  | _ =>
    let d (k : Nat) : Nat := (rgb.getD k 0 - c.bg.getD k 0) + (c.bg.getD k 0 - rgb.getD k 0)
    decide (c.thr ≤ d 0 + d 1 + d 2)

/-- Two pixels touch (8-connectivity). -/
def visTouch (p q : Nat × Nat) : Bool := decide (p.1 ≤ q.1 + 1) && decide (q.1 ≤ p.1 + 1) && decide (p.2 ≤ q.2 + 1) &&
  decide (q.2 ≤ p.2 + 1)

/-- Stage 9: a pixel, in raster order, joins the objects it touches, which become one in the place of the first. -/
def visJoin (p : Nat × Nat) : List (List (Nat × Nat)) → List (List (Nat × Nat))
  | [] => [[p]]
  | o :: r =>
    if o.any (visTouch p) then
      (o ++ (r.filter (·.any (visTouch p))).flatten ++ [p]) :: r.filter (fun q => !q.any (visTouch p))
    else o :: visJoin p r

/-- A labelled object's features (Table 5.5); `free` is f2 of an object without extent, of which the spec gives none. With T the sum and δ
the determinant of the central moments and D = T² − 4δ, the ratio of the axes is (T + √D) / (2√δ); f2 is what of it 8.8 holds, the root of
D taken to 32 binary places (DESIGN CHOICE, assumption log, entry 98). -/
def visFeatures (img : Nat → Nat → List Nat) (o : List (Nat × Nat)) (free : Nat) : List Nat :=
  let n := o.length
  let sum (f : Nat × Nat → Nat) : Nat := (o.map f).foldl (· + ·) 0
  let inside (x y : Int) : Bool := decide (0 ≤ x) && decide (0 ≤ y) && o.contains (x.toNat, y.toNat)
  let edge (p : Nat × Nat) : Bool :=
    !(inside (p.1 - 1) p.2 && inside (p.1 + 1) p.2 && inside p.1 (p.2 - 1) && inside p.1 (p.2 + 1))
  let mx := n * sum (fun p => p.1 * p.1) - sum (·.1) * sum (·.1)
  let my := n * sum (fun p => p.2 * p.2) - sum (·.2) * sum (·.2)
  let mxy : Int := (n * sum (fun p => p.1 * p.2) : Nat) - (sum (·.1) * sum (·.2) : Nat)
  let disc := (((mx : Int) - my) * ((mx : Int) - my) + 4 * mxy * mxy).toNat
  let det := ((mx * my : Nat) - mxy * mxy).toNat
  let major := (mx + my) * 2 ^ 32 + isqrt (disc * 2 ^ 64)
  let f2 := if mx + my = 0 then free else if det = 0 then 0xFFFF else min (isqrt (2 ^ 14 * major * major / (det * 2 ^ 64))) 0xFFFF
  let xs := o.map (·.1)
  let ys := o.map (·.2)
  let bw := xs.foldl max 0 - xs.foldl min 0xFFFF + 1
  let bh := ys.foldl max 0 - ys.foldl min 0xFFFF + 1
  let mean (k : Nat) : Nat := (2 * sum (fun p => (img p.1 p.2).getD k 0) + n) / (2 * n)
  let sy_ := sum (fun p => visLuma (img p.1 p.2))
  let dev := sum (fun p => let y := n * visLuma (img p.1 p.2); (y - sy_) + (sy_ - y))
  [n, (o.filter edge).length, f2, 256 * n / (bw * bh), mean 0, mean 1, mean 2, (2 * 10 * dev + n * n) / (2 * n * n)]

/-- 32-bit signed arithmetic (R135). -/
def wrap32 (i : Int) : Int := sx 32 (tc 32 i)

/-- R135: the scores of the seven classes. -/
def visScores (t : List Int) (f : List Nat) : List Int :=
  let g := (List.range 8).map (fun j =>
    clampI (-32768) 32767 (wrap32 (wrap32 ((f.getD j 0 : Int) - t.getD j 0) * t.getD (8 + j) 0) / 256))
  (List.range 7).map (fun k =>
    (List.range 8).foldl (fun s j => wrap32 (s + wrap32 (t.getD (17 + 9 * k + j) 0 * g.getD j 0) / 256)) (t.getD (16 + 9 * k) 0))

/-- The class with the largest score, the lower on a tie, and the confidence (R135). -/
def visClass (sc : List Int) (cshift : Nat) : Nat × Nat :=
  let best := (List.range 7).foldl (fun b k => if sc.getD b 0 < sc.getD k 0 then k else b) 0
  let rest := ((List.range 7).filter (· != best)).map (fun k => sc.getD k 0)
  let second := rest.foldl max (rest.getD 0 0)
  (best, min 255 ((sc.getD best 0 - second) / (2 ^ cshift : Nat)).toNat)

/-- An object as classified: class, confidence, weight, whether it is uncertain. -/
structure VisObj where
  cls    : Nat
  conf   : Nat
  weight : Nat
  unc    : Bool
deriving DecidableEq, Repr

/-- R133: an object touches the edge of the analysis image. -/
def visAtEdge (w h : Nat) (o : List (Nat × Nat)) : Bool :=
  o.any (fun p => p.1 = 0 || p.2 = 0 || p.1 + 1 = w || p.2 + 1 = h)

/-- Stages 8 to 11 and R136 over an analysis image of `w` by `h` pixels. -/
def visAnalyse (c : VisCtx) (w h : Nat) (img : Nat → Nat → List Nat) (free : Nat → Nat) (o : VisOut) : VisOut :=
  let pix := ((List.range h).flatMap (fun y => (List.range w).map (fun x => (x, y)))).filter (fun p => visObject c (img p.1 p.2))
  let all := (pix.foldl (fun l p => visJoin p l) []).filter (fun q => decide (c.minarea ≤ q.length))
  let kept := all.take 4096
  let inner := kept.filter (fun q => !(c.edgex && visAtEdge w h q))
  let objs := inner.zipIdx.map (fun e =>
    let r := visClass (visScores c.cls (visFeatures img e.1 (free e.2))) c.cshift
    (⟨r.1, r.2, if c.fracby then 1 else e.1.length, decide (r.2 < c.minconf)⟩ : VisObj))
  let weight (l : List VisObj) : Nat := (l.map (·.weight)).foldl (· + ·) 0
  let a := weight objs
  let share (l : List VisObj) : Nat := if a = 0 then 0 else 10000 * weight l / a
  let of (k : Nat) : List VisObj := objs.filter (fun x => x.cls = k && !x.unc)
  { o with nobj := objs.length, nedge := kept.length - inner.length, novf := all.length - kept.length,
           uncert := share (objs.filter (·.unc)), frac := (List.range 7).map (fun k => share (of k)),
           conf := (List.range 7).map (fun k =>
             let l := of k
             if l.isEmpty then 0 else (2 * ((l.map (·.conf)).foldl (· + ·) 0) + l.length) / (2 * l.length)),
           area := a }

/-- The pipeline over a frame of `w` by `h` pixels (R132): the analysis image, the result, and its size. -/
def visRun (c : VisCtx) (cfa w h : Nat) (px : Nat → Nat → Nat) (interp free : Nat → Nat) : VisOut × List Nat :=
  let col (x y : Nat) : List Nat := visColour c (visRgb c cfa w h px interp x y)
  let img := visScale (2 ^ c.sclx) (2 ^ c.scly) (fun x y => visTone c (col x y))
  let aw := w / 2 ^ c.sclx
  let ah := h / 2 ^ c.scly
  let sat := ((List.range h).map (fun y => ((List.range w).filter (fun x => (col x y).contains 65535)).length)).foldl (· + ·) 0
  let o : VisOut := { satpx := min sat 0xFFFF }
  let o := if c.ana then visAnalyse c aw ah img free o else o
  (o, (List.range ah).flatMap (fun y => (List.range aw).map (fun x =>
    let p := img x y
    p.getD 0 0 * 0x10000 + p.getD 1 0 * 0x100 + p.getD 2 0)))

end Sys2Proof.Machine
end

