-- ==== Sys2Proof/Machine/VisOps.lean ====
section
/-!
DEFINITION. The operations of grain vision (spec/05_grain_vision.md) on its ports, queue, pipeline and results.
-/
namespace Sys2Proof.Machine

/-- The state of a port (Table 5.2): 0 OFF, 1 ARMED, 2 IDLE, 3 FRAME, 4 NOCLK. -/
def State.visSt (s : State) (p : Nat) : Nat := s.rd (VIS_PSTAT_STATE p)
def State.setVisSt (p st : Nat) (s : State) : State := s.wr (VIS_PSTAT_STATE p) st

/-- A flag of a port, with the interrupt flag it belongs to. -/
def State.visFlag (f : Nat → Fld) (i : Fld) (p : Nat) (s : State) : State := (s.setFlag (f p)).setFlag i

/-- The bytes of a buffer of a port. -/
def State.visStride (s : State) (p : Nat) : Nat := s.rd (VIS_PSTR_BSTRIDE p) * 4096

/-! ## Results (R143, Table 5.8) -/

/-- The words of a result but for RDLO. -/
def visWords (f : VisFrame) (o : VisOut) (parrev : Nat) (parchg dropped fence memerr : Bool) : List Nat :=
  let valid := !(f.short || f.timeout || f.lineerr || dropped || fence || memerr || f.bad)
  let w0 := f.frno % 65536 * 0x10000 + f.port * 0x4000 + b2n memerr * 0x2000 + b2n o.skip * 0x1000 + o.imgb * 0x800 +
    b2n fence * 0x400 + b2n parchg * 0x200 + b2n (decide (0 < o.novf)) * 0x100 + b2n dropped * 0x80 + b2n f.untrig * 0x40 +
    b2n f.timeout * 0x20 + b2n f.lineerr * 0x10 + b2n f.long * 8 + b2n f.short * 4 + b2n valid
  let fr (k : Nat) : Nat := o.frac.getD k 0
  let cf (k : Nat) : Nat := o.conf.getD k 0
  [w0, f.ts % 2 ^ 32, f.ts / 2 ^ 32, (match f.trig with | some t => t % 2 ^ 32 | none => 0xFFFFFFFF), f.fe % 2 ^ 32,
   min o.nobj 0xFFFF * 0x10000 + min o.nedge 0xFFFF, min o.novf 0xFFFF * 0x10000 + o.uncert, fr 0 * 0x10000 + fr 1,
   fr 2 * 0x10000 + fr 3, fr 4 * 0x10000 + fr 5, fr 6 * 0x10000 + parrev,
   cf 0 * 0x1000000 + cf 1 * 0x10000 + cf 2 * 0x100 + cf 3, cf 4 * 0x1000000 + cf 5 * 0x10000 + cf 6 * 0x100,
   min f.lines 0xFFFF * 0x10000 + o.satpx, o.area]

/-- A result is decided: it is written 200 ns later (R129). -/
def State.visDecide (ctx : Nat) (ws : List Nat) (s : State) : State :=
  { s with vis := { s.vis with results := s.vis.results ++ [⟨s.now + 200, ctx, ws⟩] } }

/-- A frame that is not analysed has its result decided now. -/
def State.visEnd (f : VisFrame) (dropped fence : Bool) (s : State) : State :=
  s.visDecide f.port (visWords f {} (s.rd (VIS_CREV_PARREV f.port)) false dropped fence false)

def State.visUnread (s : State) : Nat := (s.rd VIS_RESWR_IDX + 128 - s.rd VIS_RESRD_IDX) % 128

/-- R143, R148: a result is written to the ring, or dropped. -/
def State.visWrite (r : VisRes) (s : State) : State :=
  if 64 ≤ s.visUnread then
    ((s.inc VIS_RESDROP_COUNT).setFlag VIS_INTSTAT_ROVF).emitSec 0x060E 0 (fun n => [r.ctx, n])
  else
    let w := s.rd VIS_RESWR_IDX
    let t := { s with vis := { s.vis with ring := tabPut s.vis.ring (w % 64) (r.words ++ [s.now % 2 ^ 32]) } }
    ((t.wr VIS_RESWR_IDX (w + 1)).setFlag VIS_INTSTAT_RES).when (r.ctx = 3) (State.setFlag VIS_INTSTAT_RPLY)

/-! ## Buffers and the queue (R127, R128) -/

/-- The frames of a port that are QUEUED, oldest first; those that hold a buffer. -/
def State.visQueued (s : State) (p : Nat) : List VisFrame := (s.vis.queue ++ s.vis.ended).filter (·.port = p)
def State.visBusy (s : State) (p : Nat) : List Nat :=
  (s.visQueued p).map (·.buf) ++ (match tabFind s.vis.cur p with | some f => [f.buf] | none => []) ++
  (match s.vis.proc with | some x => if x.frame.port = p then [x.frame.buf] else [] | none => [])

/-- R127: with no buffer FREE the port's oldest QUEUED frame is dropped. -/
def State.visOverrun (p : Nat) (s : State) : State :=
  match s.visQueued p with
  | [] => s
  | f :: _ =>
    let t := { s with vis := { s.vis with queue := s.vis.queue.erase f, ended := s.vis.ended.erase f } }
    ((((t.visEnd f true false).inc (VIS_PCNT_DROPS p)).visFlag VIS_PFLAG_OVERRUN VIS_INTSTAT_DROP p)).emitSec 0x0607 p
      (fun n => [p, n])

/-- The lowest FREE buffer of a port. -/
def State.visFreeBuf (s : State) (p : Nat) : Option Nat :=
  (List.range (s.rd (VIS_PBUF_NBUF p))).find? (fun k => !(s.visBusy p).contains k)

/-! ## Triggers (R124–R126) -/

/-- R124: a camera-trigger action is refused at its commit. -/
def State.visRefuses (s : State) (p : Nat) : Bool := !s.on (VIS_PFMT_EN p) || !s.on (VIS_PTRIG_TMODE p)

/-- R126: a pending trigger is discarded. -/
def State.visMiss (p : Nat) (s : State) : State :=
  match tabFind s.vis.trig p with
  | none => s
  | some t =>
    ({ s with vis := { s.vis with trig := tabDel s.vis.trig p } }.visFlag VIS_PFLAG_TRIGMISS VIS_INTSTAT_TRIG p).emit 0x0608
      [p, t % 2 ^ 32]

/-- R125, R126: a camera-trigger firing; in OFF the pin stays inactive (Table 5.2). -/
def State.visTrigger (p arg : Nat) (s : State) : State :=
  let t := if s.visSt p = 0 then s else { s with vis := { s.vis with pulse := tabPut s.vis.pulse p (s.now + arg * 1000) } }
  if s.on (VIS_PTRIG_TMODE p) then
    let u := t.visMiss p
    { u with vis := { u.vis with trig := tabPut u.vis.trig p s.now } }
  else t

/-- R126: what a frame start takes of the triggers. -/
def State.visPair (p : Nat) (s : State) : Option Nat × Bool × State :=
  if !s.on (VIS_PTRIG_TMODE p) then (none, false, s)
  else
    let s := s.when (match tabFind s.vis.trig p with
      | some t => decide (t + s.rd (VIS_PTRIG_TRIGWIN p) * 1000 < s.now) | none => false) (State.visMiss p)
    match tabFind s.vis.trig p with
    | some t => (some t, false, { s with vis := { s.vis with trig := tabDel s.vis.trig p } })
    | none => (none, true, (s.visFlag VIS_PFLAG_UNTRIG VIS_INTSTAT_TRIG p).emitSec 0x0609 p (fun n => [p, n]))

/-! ## Frames (R119–R122) -/

/-- R119, R127: a frame starts. -/
def State.visStart (p : Nat) (s : State) : State :=
  let s := if (s.visFreeBuf p).isNone then s.visOverrun p else s
  let k := (s.visFreeBuf p).getD 0
  let r := s.visPair p
  let s := r.2.2
  let frno := if bit s.vis.counted p then (s.rd (VIS_PCNT_FRNO p) + 1) % 65536 else 0
  let f : VisFrame := { port := p, frno := frno, ts := s.now, buf := k,
                        addr := s.rd (VIS_PBUF_BASE p) * 4096 + k * s.visStride p, w := s.rd (VIS_PSIZE_W p),
                        h := s.rd (VIS_PSIZE_H p), cfa := s.rd (VIS_PFMT_CFA p), trig := r.1, untrig := r.2.1 }
  let s := { s with vis := { s.vis with cur := tabPut s.vis.cur p f, counted := setBit s.vis.counted p } }
  (s.wr (VIS_PCNT_FRNO p) frno).setVisSt p 3

/-- The stored words of one line (R118, R122): `w` pixels, each aligned to the top of its word, missing ones 0. -/
def visLine (w bpp : Nat) (l : List Nat) : List Nat :=
  (List.range w).flatMap (fun i => let v := l.getD i 0 * 2 ^ (8 - 2 * bpp) % 65536; [v % 256, v / 256])

/-- R127: the lines of a frame stored in its buffer. -/
def State.visStore (f : VisFrame) (bpp : Nat) (lines : List (List Nat)) (s : State) : State :=
  (lines.take f.h).zipIdx.foldl (fun t e => t.stBytes (f.addr + e.2 * 2 * f.w) (visLine f.w bpp e.1)) s

/-- The lines whose length differs from W. -/
def visBadLines (f : VisFrame) (lines : List (List Nat)) : Nat := ((lines.take f.h).filter (fun l => l.length != f.w)).length

/-- R122: a frame of `lines` lines has departed from its height and in `bad` lines from its width: flags and events of the port. -/
def State.visShape (f : VisFrame) (lines bad : Nat) (s : State) : State :=
  let p := f.port
  let s := s.when (decide (0 < bad)) (fun s =>
    (s.visFlag VIS_PFLAG_LINEERR VIS_INTSTAT_PORTERR p).emitRateN bad 0x0604 p 1000000000 (fun n => [p, n]))
  s.when (decide (f.h < lines)) (fun s => (s.visFlag VIS_PFLAG_LONG VIS_INTSTAT_PORTERR p).emit 0x0603 [p, lines - f.h])

/-- LINES and LASTW of the port, and the frame's departures from its shape (R122). -/
def State.visLines (p : Nat) (f : VisFrame) (lines : List (List Nat)) (s : State) : State :=
  let s := (s.wr (VIS_PSTAT_LINES p) (min lines.length 8191)).wr (VIS_PSTAT_LASTW p)
    (min (match lines.getLast? with | some l => l.length | none => 0) 8191)
  s.visShape f lines.length (visBadLines f lines)

/-- R122: a frame ends by VSYNC. A short one is released, another waits for the queue. -/
def State.visFrameEnd (p : Nat) (f : VisFrame) (lines : List (List Nat)) (s : State) : State :=
  let s := ((s.visStore f (s.rd (VIS_PFMT_BPP p)) lines).visLines p f lines).setVisSt p 2
  let s := { s with vis := { s.vis with cur := tabDel s.vis.cur p } }
  let n := lines.length
  let g := { f with fe := s.now, lines := n, lineerr := decide (0 < visBadLines f lines), short := decide (n < f.h),
                    long := decide (f.h < n) }
  if g.short then ((s.visFlag VIS_PFLAG_SHORT VIS_INTSTAT_PORTERR p).emit 0x0602 [p, n]).visEnd g false false
  else { s with vis := { s.vis with ended := s.vis.ended ++ [g] } }

/-- Table 5.3: the frame in progress is closed at this tick with TIMEOUT. -/
def State.visTimeout (p : Nat) (lines : List (List Nat)) (s : State) : State :=
  match tabFind s.vis.cur p with
  | none => s
  | some f =>
    let s := (s.visStore f (s.rd (VIS_PFMT_BPP p)) lines).visLines p f lines
    let s := { s with vis := { s.vis with cur := tabDel s.vis.cur p } }
    let n := lines.length
    let g := { f with fe := s.now, lines := n, lineerr := decide (0 < visBadLines f lines), timeout := true, long := decide (f.h < n) }
    ((s.visFlag VIS_PFLAG_TIMEOUT VIS_INTSTAT_PORTERR p).emit 0x0605 [p, n]).visEnd g false false

/-- The order in which ended frames enter the queue: frame end, then port (R128). -/
def visNextEnded : List VisFrame → Option VisFrame
  | [] => none
  | f :: r =>
    match visNextEnded r with
    | none => some f
    | some g => if g.fe < f.fe || (g.fe = f.fe && g.port < f.port) then some g else some f

/-! ## Processing (R128–R130, R138, R141) -/

/-- The fields and tables of a context in effect. -/
def State.visCtx (s : State) (c : Nat) : VisCtx :=
  let blob (n : Nat) : List Nat := tabGet [] s.blobs (0x00610000 + c * 0x1000 + n)
  let word (l : List Nat) (i : Nat) : Nat := leNat ((l.drop (4 * i)).take 4)
  let dl := blob 0x200
  let cl := blob 0x220
  { ana := s.on (VIS_CCTL_ANA c), imgout := s.on (VIS_CCTL_IMGOUT c), fracby := s.on (VIS_CCTL_FRACBY c),
    edgex := s.on (VIS_CCTL_EDGEX c), dyndpc := s.on (VIS_CCTL_DYNDPC c), stdpc := s.on (VIS_CCTL_STDPC c),
    sclx := s.rd (VIS_CCTL_SCLX c), scly := s.rd (VIS_CCTL_SCLY c),
    blk := [s.rd (VIS_CBLK0_BLK0 c), s.rd (VIS_CBLK0_BLK1 c), s.rd (VIS_CBLK1_BLK2 c), s.rd (VIS_CBLK1_BLK3 c)],
    dpthr := s.rd (VIS_CDPC_DPTHR c), gain := [s.rd (VIS_CWB0_GR c), s.rd (VIS_CWB0_GG c), s.rd (VIS_CWB1_GB c)],
    m := [s.rdS (VIS_CCM0_M00 c), s.rdS (VIS_CCM0_M01 c), s.rdS (VIS_CCM1_M02 c), s.rdS (VIS_CCM1_M10 c),
          s.rdS (VIS_CCM2_M11 c), s.rdS (VIS_CCM2_M12 c), s.rdS (VIS_CCM3_M20 c), s.rdS (VIS_CCM3_M21 c), s.rdS (VIS_CCM4_M22 c)],
    segm := s.rd (VIS_CSEG_SEGM c), thr := s.rd (VIS_CSEG_THR c), minarea := s.rd (VIS_CSEG_MINAREA c),
    bg := [s.rd (VIS_CBG_BR c), s.rd (VIS_CBG_BG c), s.rd (VIS_CBG_BB c)], minconf := s.rd (VIS_CCLS_MINCONF c),
    cshift := s.rd (VIS_CCLS_CSHIFT c), defects := (List.range (dl.length / 4)).map (word dl), lut := blob 0x210,
    cls := (List.range 79).map (fun i => sx 32 (word cl i)), imgbase := s.rd (VIS_CIMG_IMGBASE c),
    imgstr := s.rd (VIS_CIMS_IMGSTR c) }

/-- R141: the analysis image to write, or that it is skipped. -/
def visImage (c : VisCtx) (b : Nat) (r : VisOut × List Nat) : VisOut :=
  if !c.imgout then r.1
  else if c.imgstr * 4096 < r.2.length * 4 then { r.1 with skip := true }
  else { r.1 with img := some (c.imgbase * 4096 + b * c.imgstr * 4096, r.2), imgb := b }

/-- The frame that starts processing next: the head of the live queue, or the replay frame when that is empty. -/
def State.visNext (s : State) : Option VisFrame := if s.vis.queue.isEmpty then s.vis.replay else s.vis.queue.head?

/-- R128, R129: a frame starts processing under the set of its context (R138). The frame's time is 1,200 + W · H + 4 · N
cycles of 600 MHz. -/
def State.visBegin (f : VisFrame) (s : State) : State :=
  let c := f.port
  let cx := s.visCtx c
  let n := if f.cfa = 4 then 0 else 3 * f.w * f.h
  let fv (k : Nat) : Nat := (Config.freeValue 16 (s.free + k)).toNat
  let px (x y : Nat) : Nat := s.ldb (f.addr + 2 * (y * f.w + x)) + 256 * s.ldb (f.addr + 2 * (y * f.w + x) + 1)
  let out := visImage cx (b2n (bit s.vis.imgb c)) (visRun cx f.cfa f.w f.h px fv (fun k => fv (n + k)))
  let t := 1200 + f.w * f.h + 4 * out.nobj
  let pr : VisProc := ⟨f, out, s.rd (VIS_CREV_PARREV c), bit s.vis.fresh c, s.now, s.now + (t * 5 + 2) / 3⟩
  { s with free := s.free + n + 4096,
           vis := { s.vis with proc := some pr, queue := s.vis.queue.erase f,
                               replay := if c = 3 then none else s.vis.replay, fresh := clrBit s.vis.fresh c } }

/-- R130: k of a throttle level, in quarters. -/
def visQuiet4 : Nat → Nat
  | 0 => 0 | 1 => 1 | 2 => 4 | _ => 12

/-- The time of the last seconds that VIS_LOAD counts. -/
def State.visSpan (quiet : Bool) (a b : Nat) (s : State) : State :=
  { s with vis := { s.vis with spans := ((a, b, quiet) :: s.vis.spans).filter (fun e => decide (s.now < e.2.1 + 2000000000)) } }

/-- Processing or a quiet slot that was to last longer ends now. -/
def State.visCut (s : State) : State :=
  { s with vis := { s.vis with spans := s.vis.spans.map (fun e => (e.1, min e.2.1 s.now, e.2.2)) } }

/-- R130: the throttle level takes effect. -/
def State.visLevel (s : State) : State := s.wr VIS_STAT_TLVL s.vis.level

/-- R129, R130, R138, R141: processing ends: the image is written, the result decided, a quiet slot begins. -/
def State.visFinish (p : VisProc) (s : State) : State :=
  let c := p.frame.port
  let s := match p.out.img with
    | some im => let t := s.stWords im.1 im.2; { t with vis := { t.vis with imgb := putBit t.vis.imgb c (p.out.imgb = 0) } }
    | none => s
  let s := s.when p.out.skip (fun s =>
    (s.setFlag VIS_INTSTAT_IMGSKIP).emit 0x060B
      [c, 4 * (p.frame.w / 2 ^ s.rd (VIS_CCTL_SCLX c)) * (p.frame.h / 2 ^ s.rd (VIS_CCTL_SCLY c))])
  let s := s.when (decide (0 < p.out.novf)) (fun s =>
    (s.setFlag VIS_INTSTAT_OBJOVF).emitSec 0x060A c (fun _ => [c, p.out.novf]))
  let s := (s.visDecide c (visWords p.frame p.out p.parrev p.parchg false false false)).visSpan false p.begun s.now
  let s := { s with vis := { s.vis with proc := none } }.visLevel
  let q := (p.ends - p.begun) * visQuiet4 (s.rd VIS_STAT_TLVL) / 4
  if q = 0 then s else { s with vis := { s.vis with quiet := some (s.now + q) } }.visSpan true s.now (s.now + q)

/-- R146: an uncorrectable memory error ends the frame's processing. -/
def State.visMemErr (p : VisProc) (s : State) : State :=
  let c := p.frame.port
  let s := (s.visDecide c (visWords p.frame {} p.parrev p.parchg false false true)).visSpan false p.begun s.now
  ({ s with vis := { s.vis with proc := none } }.visLevel.setFlag VIS_INTSTAT_MEMERR).emit 0x0612 [c, p.frame.frno]

/-- R29: the agent detects a fault at a port, or of the block: the results of its frames are flagged invalid with their context. -/
def State.visFault (inst : Nat) (s : State) : State :=
  let mark (f : VisFrame) : VisFrame := if f.port = inst || 3 < inst then { f with bad := true } else f
  { s with vis := { s.vis with
      cur := s.vis.cur.map (fun e => (e.1, mark e.2)), ended := s.vis.ended.map mark, queue := s.vis.queue.map mark,
      replay := s.vis.replay.map mark, proc := s.vis.proc.map (fun x => { x with frame := mark x.frame }) } }

/-- R130: THM orders a throttle level: in effect at once while the pipeline is idle. -/
def State.visThrottle (l : Nat) (s : State) : State :=
  let t := { s with vis := { s.vis with level := l } }
  if s.vis.proc.isNone && s.vis.quiet.isNone then t.visLevel else t

/-! ## Commits, reset, fence -/

/-- A port-format group has applied (Table 5.2): EN in effect moves the port to ARMED or to OFF. -/
def State.visPortApplied (p : Nat) (s : State) : State :=
  if s.on (VIS_PFMT_EN p) then s.when (s.visSt p = 0) (State.setVisSt p 1)
  else
    let s := s.visMiss p
    { s with vis := { s.vis with counted := clrBit s.vis.counted p, pulse := tabDel s.vis.pulse p } }.setVisSt p 0

/-- A context's set has applied (R138, R141). -/
def State.visCtxApplied (c : Nat) (s : State) : State :=
  { s with vis := { s.vis with fresh := setBit s.vis.fresh c, imgb := clrBit s.vis.imgb c } }.wr (VIS_CREV_PARREV c)
    (s.rd (VIS_CREV_PARREV c) + 1)

/-- R144. -/
def State.visReset (s : State) : State := { s with vis := {} }

/-- R145, R122: a frame in FRAME is closed by a fence. The lines received so far, how many of them differed from W, and the length of the
last are the camera's, and no command tells them: free values (assumption log, entry 84). -/
def State.visCloseFrame (f : VisFrame) (s : State) : State :=
  let r := s.takeFrees 16 3
  let n := r.1.getD 0 0
  let bad := r.1.getD 1 0 % (min n f.h + 1)
  let s := (r.2.wr (VIS_PSTAT_LINES f.port) (min n 8191)).wr (VIS_PSTAT_LASTW f.port) (min (r.1.getD 2 0) 8191)
  (s.visShape f n bad).visEnd { f with fe := s.now, lines := n, lineerr := decide (0 < bad), long := decide (f.h < n) } false true

/-- R145: every frame ends with FENCE; the pins go inactive; enabled ports restart from ARMED when the fence is lifted; a trigger that
is pending is discarded (R126). For EV 0x060F the spec names no port: a free value. -/
def State.visFence (s : State) : State :=
  let cur := s.vis.cur.map (·.2)
  let fs := s.vis.queue ++ s.vis.ended ++ (match s.vis.replay with | some f => [f] | none => [])
  let n := cur.length + fs.length + b2n s.vis.proc.isSome
  let s := s.each cur State.visCloseFrame
  let s := s.each fs (fun f s => s.visEnd f false true)
  let s := match s.vis.proc with
    | some x => (s.visDecide x.frame.port (visWords x.frame {} x.parrev x.parchg false true false)).visSpan false x.begun s.now
    | none => s
  let s := s.visCut.each (List.range 3) State.visMiss
  let s := { s with vis := { s.vis with cur := [], queue := [], ended := [], replay := none, proc := none, quiet := none,
                                        pulse := [], trig := [] } }
  let s := s.each (List.range 3) (fun p s => s.when (s.visSt p != 0) (State.setVisSt p 1))
  let x := s.takeFree 2
  (x.2.setFlag VIS_INTSTAT_FENCE).emit 0x060F [x.1, n]

/-! ## What the host reads -/

/-- VIS_STAT. -/
def State.visStat (s : State) : Nat :=
  let ps := if s.isFenced 0x06 then 3 else if s.vis.proc.isSome then 1 else if s.vis.quiet.isSome then 2 else 0
  let ctx := match s.vis.proc with | some x => x.frame.port | none => 0
  let rp := s.vis.replay.isSome || (match s.vis.proc with | some x => x.frame.port = 3 | none => false)
  ps * 2 ^ 30 + ctx * 2 ^ 28 + s.rd VIS_STAT_TLVL * 2 ^ 26 + min s.vis.queue.length 15 * 2 ^ 22 + b2n rp * 2 ^ 21

/-- VIS_LOAD: the time of a kind in the last completed second, in per mille. -/
def State.visLoadOf (s : State) (quiet : Bool) : Nat :=
  let e := s.now / 1000000000 * 1000000000
  let b := e - 1000000000
  let run := match s.vis.proc with | some x => [(x.begun, s.now, false)] | none => []
  let ns := ((run ++ s.vis.spans).filter (·.2.2 = quiet)).map (fun x => min x.2.1 e - max x.1 b)
  if e = 0 then 0 else ns.foldl (· + ·) 0 / 1000000

end Sys2Proof.Machine
end

