-- ==== Sys2Proof/Machine/YulOps.lean ====
section
/-!
DEFINITION. The operations of the Yulis cascade link (spec/18_yulis_cascade_link.md).

A frame is its 2,596 bytes (Table 18.1). Byte 0x000 arrives with one command; what hangs on its last byte is a later one.
-/
namespace Sys2Proof.Machine

/-! ## Frames (Tables 18.1 and 18.2) -/

/-- A 32-bit word of a frame. -/
def yw (b : List Nat) (o : Nat) : Nat := leNat ((b.drop o).take 4)

/-- Bytes of a frame replaced from an offset on. -/
def ySet (o : Nat) (v b : List Nat) : List Nat := b.take o ++ v ++ b.drop (o + v.length)

/-- The frame's CRC is good. -/
def yCrcOk (b : List Nat) : Bool := crc32 (b.take 0xA20) = yw b 0xA20

/-- A node's safety entry, tunnel field and image. -/
def ySafe (k : Nat) : Nat := 0xA0 + 16 * k
def yTun (k : Nat) : Nat := 0x120 + 32 * k
def yImg (k : Nat) : Nat := 0x220 + 256 * k

/-- A safety entry has VALID = 1 and a good SCRC. -/
def yEntryOk (b : List Nat) (k : Nat) : Bool :=
  bit (yw b (ySafe k + 4)) 31 && crc32 ((b.drop (ySafe k)).take 12) = yw b (ySafe k + 12)

def yHb (b : List Nat) (k : Nat) : Nat := yw b (ySafe k) / 2 ^ 16
def yEcho (b : List Nat) (k : Nat) : Nat := yw b (ySafe k) % 2 ^ 16
def yRingOk (b : List Nat) : Bool := bit (yw b 0x14) 26
def yEmpty (b : List Nat) : Bool := bit (yw b 0x14) 27

/-! ## States (Table 18.3) -/

def State.yulSt (s : State) : Nat := s.rd YUL_STAT_STATE
def State.yulMaster (s : State) : Bool := s.yul.id = 0
def State.yulFlag (i : Nat) (s : State) : State := s.setFlagBit YUL_INTSTAT_FLAGS i
def State.yulSet (f : Yul → Yul) (s : State) : State := { s with yul := f s.yul }

/-- R488: row 10's condition: the link is on and not in RUN. -/
def State.yulCond (s : State) : Bool := s.blockOn 0x13 && s.on YUL_CTL_EN && s.yulSt != 3

/-- The node's part in the ring begins anew: nothing has been judged, taken or kept. -/
def State.yulFresh (s : State) : State :=
  s.yulSet (fun y => { y with inc := none, arr := none, judged := 0, hbIn := none, missRun := 0, clean := 0, soc := none, cyc := 0,
                              home := false, missed := false, absent := [], slots := [], sec := [], void := true, jcnt := [], imgHb := [],
                              own := [], reasm := [] })

/-- R485: SYNC is entered: the node view counts images from here on. -/
def State.yulSync (s : State) : State :=
  ((s.wr YUL_STAT_STATE 2).yulSet (fun y => { y with clean := 0, missRun := 0 })).each (List.range 8)
    (fun k s => s.wr (YUL_NODE_VALID k) 0)

/-- R485: RUN is entered. -/
def State.yulRun (s : State) : State :=
  ((s.wr YUL_STAT_STATE 3).yulFlag 4).emit 0x1301 [s.yul.id, s.rd YUL_STAT_HOPS]

/-- R485, R486, R488: LOST is entered from SYNC or RUN; row 10 fires. For a break that concerns no node the spec gives
no node number: a free value. -/
def State.yulLost (cause : Nat) (node : Option Nat) (s : State) : State :=
  if s.yulSt = 2 || s.yulSt = 3 then
    let s := ((s.wr YUL_STAT_STATE 4).yulFlag 3).yulSet (fun y => { y with clean := 0 })
    let s := if !s.yulMaster then s.emit 0x1302 [cause]
      else match node with
        | some k => s.emit 0x1303 [cause, k]
        | none => (s.takeFree 3).2.emit 0x1303 [cause, (s.takeFree 3).1]
    s.signal (.rowFires 10 0)
  else s

/-- R489: FAULT is entered. -/
def State.yulFault (s : State) : State :=
  if s.yulSt = 5 then s
  else (((s.wr YUL_STAT_STATE 5).yulFlag 6).emit 0x1305 [s.yul.id]).signal (.rowFires 10 0)

/-- R486: a miss of a slave, or a return miss of the master, is counted, and no entry is taken in its cycle but by a frame that still
ends; a second consecutive one means LOST. -/
def State.yulMiss (cause : Nat) (s : State) : State :=
  let s := (((s.inc YUL_CNT_MISS).wr YUL_STAT_SEEN 0).yulFlag 2).yulSet (fun y => { y with missRun := y.missRun + 1, clean := 0 })
  s.when (decide (2 ≤ s.yul.missRun)) (State.yulLost cause none)

/-- A bad CRC is counted (YUL_CNT, EV 0x1304). -/
def State.yulCrcErr (s : State) : State := ((s.inc YUL_CNT_CRCERR).yulFlag 5).emitSec 0x1304 0 (fun n => [n])

/-! ## What a node writes (R476–R479, R482, R484) -/

/-- SEC's section image in bytes. -/
def State.yulSec (s : State) : List Nat := (List.range 16).flatMap (fun w => wordBytes (s.rd (SEC_IMAGE_BITS w)))

/-- The image as it is sent: SEC's section image replaces its bytes with IMGBUS = 2 (R196, R482), while SEC is not fenced (R208). The
master, whose frame leaves after byte 0x000 has come back, sends the one taken then. -/
def State.yulImage (s : State) : List Nat :=
  let o := s.rd SEC_IMGCFG_YULOFS
  let sec := s.live 0x09 && s.on SEC_IMGCFG_IMGEN && s.rd SEC_IMGCFG_IMGBUS = 2
  let img := if s.yulMaster && s.yul.sec != [] then s.yul.sec else s.yulSec
  (List.range 256).map (fun j =>
    if sec && decide (o ≤ j) && decide (j < o + 64) then img.getD (j - o) 0
    else tabGet 0 s.yul.tx j)

/-- This node's safety entry, with HB as it stands. -/
def State.yulEntry (s : State) (echo : Nat) : List Nat :=
  let w0 := wordBytes (s.yul.hb * 2 ^ 16 + echo)
  let w1 := wordBytes (2 ^ 31 + s.yulSt * 2 ^ 28 + s.rd TSV_STAT_SLEVEL * 2 ^ 26 + s.rd TSV_STAT_GRPSS * 2 ^ 18)
  let b := w0 ++ w1 ++ wordBytes 0
  b ++ wordBytes (crc32 b)

/-- R484: the next fragment of the message in front, and what is left of it. -/
def YulMsg.fragment (m : YulMsg) : List Nat × Option YulMsg :=
  let p := m.bytes.take 28
  let last := decide (m.bytes.length ≤ 28)
  let w := 2 ^ 31 + b2n m.first * 2 ^ 30 + b2n last * 2 ^ 29 + m.node % 8 * 2 ^ 26 + p.length * 2 ^ 21 + m.mseq % 2 ^ 16
  (wordBytes w ++ p ++ List.replicate (28 - p.length) 0,
   if last then none else some { m with bytes := m.bytes.drop 28, first := false })

/-- The tunnel field of this cycle, and the queue after it. -/
def State.yulTunnel (s : State) : List Nat × List YulMsg :=
  match s.yul.tunQ with
  | [] => (List.replicate 32 0, [])
  | m :: q => (m.fragment.1, match m.fragment.2 with | none => q | some r => r :: q)

/-- R476: this node's entry, field and image in a frame, with HB one further. -/
def State.yulWrite (echo : Option Nat) (b : List Nat) (s : State) : List Nat × State :=
  let s := s.yulSet (fun y => { y with hb := (y.hb + 1) % 2 ^ 16 })
  let k := s.yul.id
  let e := s.yulEntry (echo.getD s.yul.hb)
  let t := s.yulTunnel
  (ySet (yImg k) s.yulImage (ySet (yTun k) t.1 (ySet (ySafe k) e b)),
   s.yulSet (fun y => { y with own := e, tunQ := t.2 }))

/-- R484: a message to another node waits to be sent. -/
def State.yulSend (node : Nat) (bytes : List Nat) (s : State) : State :=
  s.yulSet (fun y => { y with tunQ := y.tunQ ++ [{ node := node, mseq := y.mseq, bytes := bytes }], mseq := (y.mseq + 1) % 2 ^ 16 })

/-! ## Images (R482) -/

/-- R482: the swap that waits takes place, unless it was written on this tick. -/
def State.yulSwap (s : State) : State :=
  if s.on YUL_STAT_TXPEND && decide (s.yul.swapAt < s.now) then
    (s.wr YUL_STAT_TXPEND 0).yulSet (fun y => { y with tx := y.back, back := y.tx })
  else s

/-- R482: a swap is asked for; while one is pending nothing further happens. -/
def State.yulTxSwap (s : State) : State :=
  if s.on YUL_STAT_TXPEND then s else (s.wr YUL_STAT_TXPEND 1).yulSet (fun y => { y with swapAt := s.now })

/-- A word of the back buffer (YUL + 0x1000) or of the received images (YUL + 0x2000). -/
def State.yulBackWord (s : State) (o : Nat) : Nat := leNat ((List.range 4).map (fun i => tabGet 0 s.yul.back (o + i)))
def State.yulRxWord (s : State) (o : Nat) : Nat := leNat (((tabGet [] s.yul.rx (o / 256)).drop (o % 256)).take 4)
def State.yulBackWrite (o v : Nat) (s : State) : State :=
  s.yulSet (fun y => { y with back := (List.range 4).foldl (fun t i => tabSet 0 t (o + i) (byteOf v i)) y.back })

/-! ## The master's cycle (R475, R477, R479, R487) -/

/-- R479: the entry of a base; one outside TBMASK has VALID = 0. -/
def State.yulTb (s : State) (b : Nat) : List Nat :=
  if bit (s.rd YUL_CTL_TBMASK) b then
    let w := s.tbStatWord b
    wordBytes (s.tbPhase b) ++ wordBytes (tc 32 (satS 32 (s.tbVel b))) ++ wordBytes (tc 32 (satS 32 (s.tbAcc b))) ++
      wordBytes (w / 2 ^ 29 * 2 ^ 29 + bits w 28 1 * 2 ^ 28 + bits w 27 1 * 2 ^ 27 + s.tbKind b * 2 ^ 26 +
        tabGet 0 s.yul.jumps b % 256 * 2 ^ 18)
  else List.replicate 16 0

/-- The header of the frame that leaves now. -/
def State.yulHeader (s : State) (empty ringOk : Bool) : List Nat :=
  [0xC35A0F96, s.yul.cyc % 2 ^ 32, s.now % 2 ^ 32, s.now / 2 ^ 32 % 2 ^ 32, s.rd YUL_CTL_CABLEOUT,
   b2n empty * 2 ^ 27 + b2n ringOk * 2 ^ 26, 0, 0].flatMap wordBytes

/-- An entry or field with VALID = 0: the bit cleared in its word, an entry's SCRC over what it then holds. -/
def yVoidEntry (e : List Nat) : List Nat :=
  let b := e.take 4 ++ wordBytes (clrBit (yw e 4) 31) ++ (e.drop 8).take 4
  b ++ wordBytes (crc32 b)
def yVoidField (f : List Nat) : List Nat := wordBytes (clrBit (yw f 0) 31) ++ f.drop 4

/-- R477: the slots that the frame starts with: those of the last returned frame, voided after a return miss. -/
def State.yulSlots (s : State) : List Nat :=
  let b := if s.yul.slots = [] then List.replicate 0xA20 0 else s.yul.slots
  let entries := (List.range 8).flatMap (fun k => let e := (b.drop (ySafe k)).take 16; if s.yul.void then yVoidEntry e else e)
  let fields := (List.range 8).flatMap (fun k => let f := (b.drop (yTun k)).take 32; if s.yul.void then yVoidField f else f)
  entries ++ fields ++ (b.drop 0x220).take 2048

/-- R475, R487: a cycle starts: the frame leaves YUL-OUT, empty where the slot is not held or YUL is fenced. -/
def State.yulFrame (s : State) : State :=
  let empty := s.isFenced 0x13 || !s.holds 3 0x13
  let ringOk := s.yulSt != 4
  let hdr := s.yulHeader empty ringOk
  let s := s.wr YUL_STAT_RINGOK (b2n ringOk)
  let r : List Nat × State :=
    if empty then (hdr ++ List.replicate 2560 0, s)
    else s.yulWrite none (hdr ++ (List.range 8).flatMap s.yulTb ++ s.yulSlots)
  r.2.yulSet (fun y => { y with out := r.1 ++ wordBytes (crc32 r.1), cyc := (y.cyc + 1) % 2 ^ 32,
                                soc0 := if y.soc.isSome then y.soc0 else s.now, soc := some s.now, home := false, missed := false })

/-- R486: the cycle has a return miss; the nodes are absent in it. -/
def State.yulReturnMiss (s : State) : State :=
  let s := s.yulSet (fun y =>
    { y with missed := true, void := true, absent := (List.range 8).map (fun k => (k, tabGet 0 y.absent k + 1)) })
  s.yulMiss 1

/-- R475, R487: the SOC at the master, with the slot taken on lease. A return that is still out by then is a return miss. -/
def State.yulCycle (s : State) : State :=
  let due := s.yul.soc.isSome && !s.yul.home && !s.yul.missed
  let s := s.when due State.yulReturnMiss
  (s.when (!s.isFenced 0x13) (State.requestLease 3 0x13)).yulFrame

/-- The master sends frames in SYNC, RUN and LOST. -/
def State.yulSends (s : State) : Bool :=
  s.blockOn 0x13 && s.on YUL_CTL_EN && s.yulMaster && (s.yulSt = 2 || s.yulSt = 3 || s.yulSt = 4)

/-- R489: the SOC of a frame is one that the master has sent. -/
def State.yulOwnSoc (s : State) (soc : Nat) : Bool :=
  match s.yul.soc with
  | some l => decide (s.yul.soc0 ≤ soc) && decide (soc ≤ l) && soc % 25000 = 0
  | none => false

/-- R486: byte 0x000 of a frame returns to the master: RINGDLY, and the swap of the images. A frame of an earlier cycle is a return miss already. -/
def State.yulReturn (b : List Nat) (s : State) : State :=
  if !s.yulOwnSoc (yw b 8 + yw b 12 * 2 ^ 32) then s.yulFault
  else if s.yul.soc != some (yw b 8 + yw b 12 * 2 ^ 32) then s.yulSwap
  else
    let l := s.yul.soc.getD 0
    ((s.wr YUL_DLY_DLY (s.now - l)).yulSwap).yulSet (fun y => { y with home := true, sec := s.yulSec, inc := some ⟨s.now, b, y.missed, false⟩ })

/-- R486: a node is present in the returned frame. -/
def State.yulPresent (s : State) (b : List Nat) (k : Nat) : Bool := yEntryOk b k && yEcho b k = s.yul.hb

/-- R485, R486: the master judges the cycle whose frame has come back with a good CRC; one that was late is a return miss (R477). -/
def State.yulMasterJudge (b : List Nat) (missed : Bool) (s : State) : State :=
  let nodes := (List.range 8).filter (bit (s.rd YUL_CTL_NODES))
  let gone := nodes.filter (fun k => !s.yulPresent b k)
  let s := s.yulSet (fun y =>
    { y with absent := if missed then y.absent else gone.map (fun k => (k, tabGet 0 y.absent k + 1)), slots := b, void := missed,
             missRun := if missed then y.missRun else 0, clean := if missed || !gone.isEmpty then 0 else y.clean + 1 })
  let s := match gone.find? (fun k => decide (2 ≤ tabGet 0 s.yul.absent k)) with
    | some k => s.yulLost 2 (some k)
    | none => s
  s.when (decide (8 ≤ s.yul.clean) && (s.yulSt = 2 || s.yulSt = 4)) State.yulRun

/-- R476: RINGERR of the returned frame; EV 0x1307 as its magnitude rises above 20 ns. -/
def State.yulRingErr (b : List Nat) (s : State) : State :=
  let was := (s.rdS YUL_DLY_RINGERR).natAbs
  let e : Int := (s.rd YUL_DLY_DLY : Int) - (yw b 0x10 : Int)
  (s.wrS YUL_DLY_RINGERR e).when (decide (was ≤ 20) && decide (20 < e.natAbs)) (State.emit 0x1307 [tc 32 e])

/-! ## A slave's cycle (R476, R478, R486, R489) -/

/-- The cycles from the last good arrival to a frame that arrives now. -/
def State.yulK (s : State) (a : Nat) : Nat := max 1 ((s.now - a + 12500) / 25000)

/-- R489: the node finds its entry written by another node: valid, and not the one that it wrote itself. -/
def State.yulDouble (s : State) (b : List Nat) : Bool :=
  yEntryOk b s.yul.id && (b.drop (ySafe s.yul.id)).take 16 != s.yul.own

/-- R476: the frame as it is forwarded: DLYACC and HOPS brought up to date, the entries of a node that is not fenced and not in
FAULT, the CRC; a frame that came in bad goes on with its CRC inverted. -/
def State.yulForward (b : List Nat) (s : State) : State :=
  let f := ySet 0x10 (wordBytes (yw b 0x10 + 24 + s.rd YUL_CTL_CABLEOUT)) b
  let f := ySet 0x14 (wordBytes ((yw b 0x14 + 2 ^ 28) % 2 ^ 32)) f
  let r := if s.isFenced 0x13 || s.yulSt = 5 then (f, s) else s.yulWrite (some (yHb b 0)) f
  let d := r.1.take 0xA20
  let c := crc32 d
  r.2.yulSet (fun y => { y with out := d ++ wordBytes (if yCrcOk b then c else c ^^^ 0xFFFFFFFF) })

/-- R486: the deadlines of a slave that have passed by now and are not judged yet. -/
def State.yulOverdue (s : State) : Nat :=
  match s.yul.arr with
  | some a => if s.yulSt = 5 then 0 else (s.now - a - 1257) / 25000 - s.yul.judged
  | none => 0

/-- R476, R486: byte 0x000 of a frame arrives at a slave; the deadlines that have passed by then are misses. -/
def State.yulArrive (b : List Nat) (s : State) : State :=
  let n := s.yulOverdue
  let s := (s.each (List.range (min n 65535)) (fun _ => State.yulMiss 1)).yulSet (fun y => { y with judged := y.judged + n })
  let s := if s.yulDouble b then s.yulFault else s
  let k := match s.yul.arr with | some a => s.yulK a | none => 0
  let late := s.yul.arr.isSome && decide (k ≤ s.yul.judged)
  let s := s.yulSwap.yulForward b
  s.yulSet (fun y => { y with inc := some ⟨s.now, b, late, false⟩, judged := max y.judged k })

/-- R486: HB is the one that is due. -/
def State.yulHbDue (s : State) (at_ hb : Nat) : Bool :=
  match s.yul.hbIn with
  | none => true
  | some (h, a) => hb = (h + max 1 ((at_ - a + 12500) / 25000)) % 2 ^ 16

/-- R486: the slave acts on the master's entry, as soon as byte 0x0AF is in. EMPTY in the header names the cause of an entry that is not
valid; of a frame whose entry is good it is judged at the frame's end. -/
def State.yulEntryIn (f : YulIn) (s : State) : State :=
  let b := f.bytes
  let ok := yEntryOk b 0
  let good := ok && s.yulHbDue f.at_ (yHb b 0)
  let s := s.yulSet (fun y => { y with inc := some { f with judged := true, miss := f.miss || !good },
                                       hbIn := if ok then some (yHb b 0, f.at_) else y.hbIn })
  let s := if ok then s.wr YUL_STAT_RINGOK (b2n (yRingOk b)) else s
  let s := if good || f.miss then s else s.yulMiss (if yEmpty b then 4 else 2)
  s.when (ok && !yRingOk b) (State.yulLost 3 none)

/-- R485, R486: the slave judges the cycle at the frame's end. -/
def State.yulSlaveJudge (f : YulIn) (s : State) : State :=
  if f.miss then s
  else if yEmpty f.bytes then s.yulMiss 4
  else
    let s := s.yulSet (fun y => { y with missRun := 0, clean := y.clean + 1 })
    if s.yulSt = 4 then s.when (yRingOk f.bytes) State.yulSync
    else s.when (s.yulSt = 2 && decide (8 ≤ s.yul.clean)) State.yulRun

/-- R479: an entry is a source update of a slave's base. -/
def State.yulTbIn (f : YulIn) (n : Nat) (s : State) : State :=
  let b := s.rd (TBS_CFG_INA n)
  if s.rd (TBS_CFG_SRC n) != 6 || 8 ≤ b then s
  else
    let o := 0x20 + 16 * b
    let w := yw f.bytes (o + 12)
    let j := bits w 18 8
    let was := tabGet 0 s.yul.jcnt n
    let s := s.yulSet (fun y => { y with jcnt := tabSet 0 y.jcnt n (j + 1) })
    if bit w 27 && bits w 26 1 = s.tbKind n then
      s.tbSample n (f.at_ - yw f.bytes 0x10) (yw f.bytes o) (sx 32 (yw f.bytes (o + 4))) (was != 0 && was != j + 1)
    else s.tbLose n 3

/-- R481: MTOFS of a slave. -/
def State.yulMtofs (f : YulIn) (s : State) : State :=
  let b := f.bytes
  let o := tc 64 (((yw b 8 + yw b 12 * 2 ^ 32 : Nat) : Int) - ((f.at_ : Int) - (yw b 0x10 : Int)))
  s.yulSet (fun y => { y with mtofs := o })

/-- R481: a read of YUL_MTOFSLO latches HI; 0 on the master. -/
def State.yulReadOfs (s : State) : Nat × State :=
  let o := if s.on YUL_STAT_MASTER then 0 else s.yul.mtofs
  (o % 2 ^ 32, s.wr YUL_MTOFSHI_OFS (o / 2 ^ 32))

/-! ## Both: images and tunnel (R483, R484) -/

/-- R483: node `k`'s image and entry in a good frame. -/
def State.yulImgIn (f : YulIn) (k : Nat) (s : State) : State :=
  let b := f.bytes
  let hb := yHb b k
  let w := yw b (ySafe k + 4)
  if k = s.yul.id then s
  else if yEntryOk b k && tabGet 0 s.yul.imgHb k != hb + 1 then
    let s := s.yulSet (fun y => { y with imgHb := tabSet 0 y.imgHb k (hb + 1), newest := tabSet [] y.newest k ((b.drop (yImg k)).take 256) })
    let s := ((s.wr (YUL_NODE_STATE k) (bits w 28 3)).wr (YUL_NODE_SLEVEL k) (bits w 26 2)).wr (YUL_NODE_GRPSS k) (bits w 18 8)
    (((s.wr (YUL_NODE_AGE k) 0).wr (YUL_NODE_VALID k) 1).wr YUL_STAT_SEEN (setBit (s.rd YUL_STAT_SEEN) k)).yulFlag 1
  else s.inc (YUL_NODE_AGE k)

/-- R483: a frame end without an image for any node. -/
def State.yulAgeAll (s : State) : State :=
  (s.wr YUL_STAT_SEEN 0).each ((List.range 8).filter (· != s.yul.id)) (fun k s => s.inc (YUL_NODE_AGE k))

/-- R484: a discarded message. -/
def State.yulTunDrop (s : State) : State := (s.inc YUL_TUNCNT_TUNDROP).emitSec 0x130A 0 (fun n => [n])

/-- R484: the message of sender `k` that is being reassembled goes without its fragment in this cycle. -/
def State.yulTunCut (k : Nat) (s : State) : State :=
  match tabFind s.yul.reasm k with
  | some _ => (s.yulSet (fun y => { y with reasm := tabDel y.reasm k })).yulTunDrop
  | none => s

/-- R484: the fragment of sender `k`. -/
def State.yulTunIn (f : YulIn) (k : Nat) (s : State) : State :=
  let w := yw f.bytes (yTun k)
  let cyc := yw f.bytes 4
  let data := (f.bytes.drop (yTun k + 4)).take (bits w 21 5)
  if k = s.yul.id then s
  else if !bit w 31 || bits w 26 3 != s.yul.id then s.yulTunCut k
  else
    let old : Option YulMsg := if bit w 30 then none else
      (tabFind s.yul.reasm k).bind (fun m =>
        if m.mseq = w % 2 ^ 16 && cyc = (m.cycle + 1) % 2 ^ 32 then some m else none)
    let s := s.when (old.isNone) (State.yulTunCut k)
    if !bit w 30 && old.isNone then s
    else
      let bytes := ((old.map (·.bytes)).getD []) ++ data
      let s := s.yulSet (fun y => { y with reasm := tabDel y.reasm k })
      if bit w 29 then (s.inc YUL_TUNCNT_TUNMSG).signal (.tunnel k bytes)
      else s.yulSet (fun y => { y with reasm := tabPut y.reasm k { node := k, mseq := w % 2 ^ 16, bytes := bytes, cycle := cyc } })

/-- R483: the visible area takes the newest images, unless the host has locked it. -/
def State.yulShow (s : State) : State :=
  if s.on YUL_RXLOCK_LOCK then s else s.yulSet (fun y => { y with rx := y.newest })

/-- What a node takes from a frame with a good CRC: its header, and while it is in SYNC or RUN and not fenced the images and, on a
slave, the time bases; the tunnel in any state that forwards. -/
def State.yulTake (f : YulIn) (s : State) : State :=
  let b := f.bytes
  let s := ((s.wr YUL_CYCLE_CYCLE (yw b 4)).wr YUL_STAT_HOPS (yw b 0x14 / 2 ^ 28)).yulFlag 0
  let s := if s.yulMaster then s.yulRingErr b else (s.wr YUL_DLY_DLY (yw b 0x10)).yulMtofs f
  if s.isFenced 0x13 then s.yulAgeAll
  else
    let up := s.yulSt = 2 || s.yulSt = 3
    let s := if up then (s.wr YUL_STAT_SEEN 0).each (List.range 8) (State.yulImgIn f) else s.yulAgeAll
    let s := s.when (up && !s.yulMaster) (State.each (List.range 8) (State.yulTbIn f))
    (s.each (List.range 8) (State.yulTunIn f)).yulShow

/-- R476, R483, R486: the last byte of a frame is in. -/
def State.yulEnd (f : YulIn) (s : State) : State :=
  let s := s.yulSet (fun y => { y with inc := none })
  if !yCrcOk f.bytes then
    let s := s.yulCrcErr.yulAgeAll.yulShow
    let s := s.each (List.range 8) State.yulTunCut
    if f.miss then s else if s.yulMaster then s.yulReturnMiss else s.yulMiss 1
  else if s.yulMaster then (s.yulMasterJudge f.bytes f.miss).yulTake f
  else ((s.yulSet (fun y => { y with arr := some f.at_, judged := 0 })).yulSlaveJudge f).yulTake f

/-- The frame in progress, as the last byte finds it: the master's entry judged. -/
def State.yulFrameEnd (s : State) : State :=
  match s.yul.inc with
  | none => s
  | some f =>
    if s.now < f.at_ + 20768 then s
    else
      let t := if s.yulMaster || f.judged then s else s.yulEntryIn f
      t.yulEnd (t.yul.inc.getD f)

/-- A node forwards frames (R474). -/
def State.yulPasses (s : State) : Bool :=
  s.blockOn 0x13 && s.on YUL_CTL_EN && (s.yulSt = 2 || s.yulSt = 3 || s.yulSt = 4 || s.yulSt = 5)

/-- A slave's next deadline (R486). -/
def State.yulDue (s : State) : Option Nat := s.yul.arr.map (fun a => a + 25000 * (s.yul.judged + 1) + 1256)

/-! ## Straps, configuration, reset, fence (R473, R492–R495) -/

/-- The node number in YUL_STAT. -/
def State.yulShowId (s : State) : State := (s.wr YUL_STAT_ID s.yul.id).wr YUL_STAT_MASTER (b2n s.yulMaster)

/-- R473: at RT power-up the straps are read. -/
def State.yulPowerUp (s : State) : State := (s.yulSet (fun y => { y with id := y.straps })).yulShowId

/-- R473: the straps change; while RT is on the node keeps its number. -/
def State.yulStraps (v : Nat) (s : State) : State :=
  let t := s.yulSet (fun y => { y with straps := v % 8 })
  if s.blockOn 0x13 && v % 8 != s.yul.straps then (t.wr YUL_STAT_STRAPCHG 1).emit 0x1306 [v % 8] else t

/-- R485, R489, R492: the group of YUL_CTL has been committed; `en` is EN before. -/
def State.yulCtlApplied (en : Bool) (s : State) : State :=
  if !s.on YUL_CTL_EN then (s.wr YUL_STAT_STATE 0).yulFresh
  else if !en || s.yulSt = 5 || s.yulSt = 0 then (s.wr YUL_STAT_STATE 1).yulFresh
  else s

/-- A jump of a base of this module (R479). -/
def State.yulJump (n : Nat) (s : State) : State :=
  s.yulSet (fun y => { y with jumps := tabSet 0 y.jumps n ((tabGet 0 y.jumps n + 1) % 256) })

/-- R494: an RT reset leaves the straps and the number read at power-up. -/
def State.yulReset (s : State) : State := (s.yulSet (fun y => { straps := y.straps, id := y.id })).yulShowId

/-- R495: the bases that follow entries of the link see their source as unavailable (cause 3). -/
def State.yulFence (s : State) : State :=
  let s := s.when (!s.isFenced 0x03) (State.each ((List.range 8).filter (fun n => s.rd (TBS_CFG_SRC n) = 6 && tbValidSt (s.tbSt n)))
    (fun n s => s.tbLose n 3))
  (s.yulFlag 7).emit 0x1309 []

end Sys2Proof.Machine
end

