-- ==== Sys2Proof/Machine/Apply.lean ====
section
/-!
DEFINITION. Apply points (spec/13_parameter_dictionary_and_store.md, R365–R367, and the group tables of the block chapters):
which fields of a group that was handed to its block may apply now, what follows their apply, and the end of a transaction.
-/
namespace Sys2Proof.Machine

/-! ## Which fields may apply -/

/-- A multiple of `per` lies after `from_` and not after `now`: an instant of that period has come. -/
def instantPast (per from_ now : Nat) : Bool := per != 0 && decide (from_ / per < now / per)

/-- R311: an output instant of a rate has come since a time. -/
def fusInstantPast (rate from_ now : Nat) : Bool :=
  instantPast ([4, 5, 10, 20, 40, 100].getD rate 4 * 1000000) from_ now

/-- The fields of a group that may apply at its hand-over: "at the commit" in the group tables. -/
def State.atCommit (s : State) (g : Grp) (f : Fld) : Bool :=
  match g with
  | .power => f != SYS_PWRCFG_RUNON
  | .tbLimits n => s.tbSt n = 0 || s.tbSt n = 1 || s.tbSt n = 3 || s.tbSt n = 5
  | .slot _ | .chan _ | .drive _ => false
  | .hsnRec | .hsnWin _ | .hsnMoi => false
  | .hsnCrop p => s.rd HSN_CROP_CROP != p
  | .hsnLoss | .hsnNoise => !s.hsnRotorTrack
  | .visFmt p => s.visSt p = 0 || s.visSt p = 1 || s.visSt p = 4
  | .visCtx _ => false
  | .gnsRx | .gnsTp | .gnsMotion => false
  | .fusCtl => f = FUS_CTL_EN || f = FUS_CTL_PRIMS || f = FUS_CTL_ALT1 || f = FUS_CTL_ALT2
  | .fusStream _ => false
  | .secCtl | .secMap | .secRow _ => s.secSt = 0
  | .secImage => !s.on SEC_IMGCFG_IMGEN
  | .solCtl => f != SOL_CTL_NFREQ
  | .solChan n => (f != SOL_CHCFG_MODE n && f != SOL_CHCFG_PAIR n) && (s.svState n = 0 || s.svState n = 6 || s.svSlave n)
  | .lsChan n => f != LSW_CHCFG_PROF n && f != LSW_CHCFG_MODE n && f != LSW_CHCFG_PWMF n
  | .canCtl _ => false
  | .canFilter n _ => (s.canFrozenBuf n).isNone
  | .ethVlan => s.ethQuiet
  | .thmThr | .thmFan _ | .thmComp => false
  | .dspPanel => s.pst = 0 || s.pst = 4
  | .dspLabel => false
  | .yul => f = YUL_CTL_EN || (!s.yulMaster && f != YUL_CTL_CABLEOUT)
  | _ => true

/-- The fields of a group that may apply at any instant from its hand-over at `from_` on, since their condition holds now. -/
def State.anyTime (s : State) (g : Grp) (from_ : Nat) (want : Fld → Option Nat) (f : Fld) : Bool :=
  match g with
  | .visFmt p => s.visSt p = 2 && want (VIS_PFMT_EN p) = some 0
  | .fusCtl =>
    if f = FUS_CTL_ORATE then fusInstantPast ((want f).getD 0) from_ s.now else fusInstantPast (s.rd FUS_CTL_ORATE) from_ s.now
  | .hsnRec | .hsnCrop _ =>
    if s.live 0x05 then decide (from_ < s.hsn.ts) && decide (s.hsn.ts ≤ s.now) else instantPast s.hsnPeriod from_ s.now
  | .fusStream _ => fusInstantPast (s.rd FUS_CTL_ORATE) from_ s.now
  | .solCtl => (List.range 24).all (fun n => !(s.svMode n = 3 && (s.sv n).period))
  | .solChan n =>
    if f = SOL_CHCFG_MODE n || f = SOL_CHCFG_PAIR n then
      s.svState n = 0 && (n % 2 = 1 || want (SOL_CHCFG_PAIR n) = none || want (SOL_CHCFG_PAIR n) = some (s.rd (SOL_CHCFG_PAIR n)) ||
        s.svState (n + 1) = 0 || s.svState (n + 1) = 7)
    else s.svMode n = 2 && instantPast 50000 from_ s.now
  | .lsChan n => (f = LSW_CHCFG_MODE n || f = LSW_CHCFG_PWMF n) && (s.lsState n = 0 || s.lsState n = 3)
  | .canCtl n => (s.canFrozenBuf n).isNone
  | .canFilter n _ => (s.canFrozenBuf n).isNone
  | .ethVlan => s.ethQuiet
  | _ => false

/-- The fields of a group that apply at point `k` of its block. -/
def Grp.atPoint (g : Grp) (k : Nat) (want : Fld → Option Nat) (f : Fld) : Bool :=
  match g with
  | .power => k = 0
  | .chan _ => k = 0xF0
  | .drive d => k = 0x90 + d
  | .hsnLoss | .hsnNoise => k = 1
  | .hsnMoi => k = 2
  | .hsnWin n => k = 16 + n
  | .visFmt p => k = p || (k = 8 + p && want (VIS_PFMT_EN p) = some 0)
  | .visCtx c => k = 16 + c
  | .gnsRx => if f = GNS_CTL_RATE then k = 2 else k = 0
  | .gnsMotion => k = 0
  | .gnsTp => k = 1
  | .secCtl | .secMap | .secRow _ => k = 0
  | .secImage => k = 1
  | .thmThr | .thmFan _ | .thmComp => k = 0
  | .dspPanel => k = 0
  | .dspLabel => k = 1
  | .yul => if f = YUL_CTL_CABLEOUT then k = 1 else f != YUL_CTL_EN && k = 0
  | _ => false

/-! ## What follows an apply -/

/-- R232: a new VBST is approached from the setpoint reached. -/
def State.solRamp (o s : State) : State :=
  s.when (s.rd SOL_CTL_VBST != o.rd SOL_CTL_VBST) (fun s => { s with sol := { s.sol with ramp := (o.boostRamp, s.now + 1) } })

/-- R218: a channel whose MODE has become PROP regulates to its setpoint. -/
def State.solModeApplied (n mode : Nat) (s : State) : State :=
  s.when (s.svMode n = 2 && mode != 2 && !s.svSlave n && !s.svHeld n && !s.svInFault n) (State.svSetpoint n (s.rd (SOL_CHSET_ISET n)))

/-- R213, R214: BEN takes effect. -/
def State.solCtlApplied (ben : Bool) (s : State) : State :=
  if s.on SOL_CTL_BEN = ben then s
  else if s.on SOL_CTL_BEN then s.when (s.rd SOL_STAT_BSTATE = 0) (fun s => (s.wr SOL_STAT_BSTATE 1).requestLease 4 0x0A)
  else s.when (s.rd SOL_STAT_BSTATE != 5) (State.boostStop 0 false)

/-- R219, R220: the slave of a pair shows SLAVE, and OFF once it is none. -/
def State.solPairShown (n : Nat) (s : State) : State :=
  if n % 2 = 1 then s
  else if s.svPaired n then s.wr (SOL_CHSTAT_STATE (n + 1)) 7
  else s.when (s.svState (n + 1) = 7) (State.wr (SOL_CHSTAT_STATE (n + 1)) 0)

/-- R263: a change of WIRE scales the heat by the trip levels, new to old. -/
def State.lsWireApplied (n wire : Nat) (s : State) : State :=
  let w := s.rd (LSW_CHCFG_WIRE n)
  if w = wire || lsTripK n wire = 0 then s
  else s.setLs n { s.ls n with heat := (s.ls n).heat * lsTripK n w / lsTripK n wire }

/-- R367: the bank copy of a table of registers, `n` bytes, runs. -/
def State.copyBank (pid n : Nat) (s : State) : State :=
  { s with pds := { s.pds with copying := tabPut s.pds.copying pid (s.now + (n * 1000000000 + 67108863) / 67108864) } }

/-- What follows when the fields `fs` of a group have applied; `o` is the state before. -/
def State.applied (o : State) (g : Grp) (fs : List Fld) (s : State) : State :=
  match g with
  | .tsvWd => s.wdApplied
  | .io => s.ioApplied (o.rd SYS_TBIMODE_MODE) (o.rd SYS_DIFILT0_FILT) (o.rd SYS_DIFILT1_FILT)
  | .tbStruct n => s.tbStructApplied n
  | .tbLimits n => s.tbLimitsApplied n
  | .slot n => s.cenSlotApplied n (o.rdS (CEN_LKP_KP n))
  | .chan k => s.cenChanApplied k
  | .drive d => s.cenDriveApplied d
  | .hsnCtl => s.hsnCtlApplied
  | .hsnRec => s.when (s.rd HSN_CROP_CROP != o.rd HSN_CROP_CROP) State.hsnCropApplied
  | .hsnNoise => s.hsnSwap (let l := tabGet [] s.blobs 0x00500300; (List.range (l.length / 4)).map (fun i => leNat ((l.drop (4 * i)).take 4)))
  | .visFmt p => s.visPortApplied p
  | .visCtx c => s.visCtxApplied c
  | .gnsRx => if s.on GNS_CTL_EN then s.when (!o.on GNS_CTL_EN) State.gnsEnable else (s.when (o.on GNS_CTL_EN) State.gnsOff).gnsIdle
  | .gnsTp => s.gnsTpApplied
  | .fusCtl => s.fusCtlApplied (o.rd FUS_CTL_EN) (o.rd FUS_CTL_PRIMS) (o.rd FUS_CTL_ALT1) (o.rd FUS_CTL_ALT2)
  | .fusStream k => s.fusStreamApplied k o
  | .secCtl => s.secCtlApplied (o.rd SEC_CTL_EN) (o.rd SEC_CTL_DBASE)
  | .secRow r => s.secRowApplied r
  | .secImage => { s with sec := { s.sec with replan := true } }
  | .solCtl => (State.solRamp o s).solCtlApplied (o.on SOL_CTL_BEN)
  | .solChan n => (s.solPairShown n).solModeApplied n (o.svMode n)
  | .lsChan n => s.lsWireApplied n (o.rd (LSW_CHCFG_WIRE n))
  | .canCtl n => s.canCtlApplied n (o.canKey n)
  | .canFilter n k => s.canFilterApplied n k
  | .canIso n => s.canIsoApplied n
  | .ethPort p => s.ethPortApplied p (o.rd (ETH_PCTL_ROLE p))
  | .ethPtp => s.ethPtpApplied
  | .ethVlan => s.copyBank 0x00D00100 64
  | .fltNet => s.fltNetApplied
  | .fltSess k => s.flApplied k
  | .thmFan f => if s.rd (THM_FCFG_PPR f) = o.rd (THM_FCFG_PPR f) then s else s.wr (THM_FMEAS_RPM f) 0
  | .yul => s.when (fs.contains YUL_CTL_EN) (State.yulCtlApplied (o.on YUL_CTL_EN))
  | _ => s

/-! ## Applying -/

/-- The value that a waiting group would give a field. -/
def TxnGrp.want (x : TxnGrp) (f : Fld) : Option Nat := (x.vals.find? (fun e => e.1 = f)).map (·.2)

/-- R367: a table's staged bank swapped in: the bank in effect is copied to the staged bank. -/
def State.swapBank (e : Nat × List Nat) (s : State) : State :=
  State.copyBank e.1 e.2.length { s with blobs := tabPut s.blobs e.1 e.2, banks := tabDel s.banks e.1 }

/-- A transaction's group replaced. -/
def State.setTxnGrp (num : Nat) (x : TxnGrp) (s : State) : State :=
  { s with pds := { s.pds with txns := s.pds.txns.map (fun t =>
    if t.num = num then { t with groups := t.groups.map (fun y => if y.grp = x.grp then x else y) } else t) } }

/-- The fields of a group for which `sel` holds take effect, and its tables where `tabs` holds; a value already in effect has
nothing to wait for; the group has applied once nothing is left. -/
def State.applyGrp (num : Nat) (x : TxnGrp) (sel : Fld → Bool) (tabs : Bool) (s : State) : State :=
  let now_ := x.vals.filter (fun e => sel e.1)
  let bs := if tabs then x.blobs else []
  let t := now_.foldl (fun t e => (t.wr e.1 e.2).when (t.stagedVal e.1 = e.2) (State.unstage e.1)) s
  let t := bs.foldl (fun t e => t.swapBank e) t
  let whole := now_.length = x.vals.length
  let vals := if whole then [] else x.vals.filter (fun e => !sel e.1 && t.rd e.1 != e.2)
  let blobs := if tabs then [] else x.blobs
  let x' := { x with vals := vals, blobs := blobs, done := if vals.isEmpty && blobs.isEmpty then 1 else 0, doneAt := s.now }
  let t := t.setTxnGrp num x'
  if now_.isEmpty && bs.isEmpty then t else s.applied x.grp (now_.map (·.1)) t

/-- The groups that have been handed over and have not finished, with their transactions. -/
def State.handed (s : State) : List (Txn × TxnGrp) :=
  s.pds.txns.flatMap (fun t => (t.groups.filter (fun x => x.handed != 0 && x.done = 0)).map (fun x => (t, x)))

/-- R173: the slots of a transaction switch together; at the commit only where every one of them is OFF. -/
def State.slotsOff (s : State) (t : Txn) : Bool :=
  t.groups.all (fun x => match x.grp with | .slot n => x.handed = 0 || s.cenSt n = 0 | _ => true)

/-- One look at a group that was handed over: what may apply at this instant does. -/
def State.sweepOne (e : Txn × TxnGrp) (s : State) : State :=
  let x := e.2
  let slot := match x.grp with | .slot _ => s.slotsOff e.1 | _ => false
  let sel (f : Fld) : Bool :=
    (x.fresh && (s.atCommit x.grp f || slot)) || s.anyTime x.grp (x.handed - 1) x.want f
  let tabs := x.fresh && (match x.grp with
    | .slot _ => slot | .visCtx _ => false | .hsnNoise => !s.hsnRotorTrack | .thmComp => false
    | .dspPanel => s.pst = 0 || s.pst = 4 | .dspLabel => false | _ => true)
  if x.vals.all (fun e => !sel e.1) && !(tabs && !x.blobs.isEmpty) && !(x.vals.isEmpty && x.blobs.isEmpty) then
    s.setTxnGrp e.1.num { x with fresh := false }
  else s.applyGrp e.1.num { x with fresh := false } sel tabs

/-- R365: a transaction whose groups have all applied or been withdrawn ends DONE or PARTIAL. -/
def State.endTxn (t : Txn) (s : State) : State :=
  let gone := t.groups.filter (fun x => x.done = 2)
  let s := { s with pds := { s.pds with txns := s.pds.txns.filter (fun u => u.num != t.num) } }
  let mine := t.party = 0 && s.rd PDS_TXSTAT_TXN = t.num
  let s := s.when mine (fun s => (s.wr PDS_TXSTAT_RES (if gone.isEmpty then 0 else 10)).wr PDS_TXSTAT_NWDR gone.length)
  match gone.head? with
  | none => s.setFlagBit PDS_INTSTAT_FLAGS 0
  | some x => (s.setFlagBit PDS_INTSTAT_FLAGS 1).emit 0x1202 [t.num, gone.length, x.grp.id]

/-- The transactions that have ended leave. -/
def State.endTxns (s : State) : State :=
  (s.pds.txns.filter (fun t => t.groups.all (fun x => x.done != 0))).foldl (fun s t => s.endTxn t) s

/-- R365: every group that was handed over is looked at, and transactions end. -/
def State.sweep (s : State) : State := (s.handed.foldl (fun t e => t.sweepOne e) s).endTxns

/-- The groups of block `b` that were handed over before module time `by_` reach their apply point `k` now. -/
def State.applyBy (b k by_ : Nat) (s : State) : State :=
  let due := s.handed.filter (fun e => e.2.grp.block = b && decide (e.2.handed ≤ by_))
  if due.isEmpty then s
  else
    let slotTxn (e : Txn × TxnGrp) : Bool :=
      b = 0x04 && decide (k < 96) && (match e.2.grp with | .slot _ => true | _ => false) &&
      e.1.groups.any (fun x => x.grp = .slot k && x.waits s.now)
    due.foldl (fun t e =>
      let x := e.2
      let sel (f : Fld) : Bool := slotTxn e || x.grp.atPoint k x.want f
      let any := match x.vals with
        | [] => slotTxn e || x.grp.atPoint k x.want SYS_IDENT_PART
        | l => l.any (fun v => sel v.1)
      if any then t.applyGrp e.1.num x sel true else t) s

/-- The groups of block `b` that reach their apply point `k` now, having been handed over at an earlier instant. -/
def State.applyDue (b k : Nat) (s : State) : State := s.applyBy b k s.now

/-- A group of HSN waits for its apply point. -/
def State.hsnWaits (s : State) : Bool := s.handed.any (fun e => e.2.grp.block = 0x05)

/-- R111: HSN at an instant: a measurement interval that has ended is cut, then what waits for its boundary applies, and what
waits for a change of RBASE's turn count. -/
def State.hsnSync (s : State) : State :=
  if !s.live 0x05 then s
  else if !s.hsnWaits then s.hsnRoll
  else
    let r := s.hsnRoll
    let w := r.handed.filter (fun e => e.2.grp.block = 0x05)
    let s := w.foldl (fun t e => t.sweepOne e) r
    let moved := s.hsnTurn != s.hsn.turn && w.any (fun e => !e.2.fresh)
    ({ s with hsn := { s.hsn with turn := s.hsnTurn } }).when moved (State.applyDue 0x05 1)

end Sys2Proof.Machine
end

