-- ==== Sys2Proof/Machine/Checks.lean ====
section
/-!
DEFINITION. The commit checks of the blocks (R52, R80, R112, R140, R175, R206, R233, R264, R293, R319, R353, R402, R432, R453,
R493, R523; spec/13_parameter_dictionary_and_store.md, R365, R366).

Every check is judged in `v`, the state as it would be with the values that the commit puts in effect, beside `o`, the present
state; it is a field that would offend, with whether it is good. The rules are taken as they are written, also where a factory
default breaks them (assumption log, entry 34).
-/
namespace Sys2Proof.Machine

/-- A field, and whether its new value passes; `none` where the offender is a table, which has no register offset. -/
abbrev Chk := Option Fld × Bool

def chk (f : Fld) (ok : Bool) : Chk := (some f, ok)

/-- A field's new value lies within bounds. -/
def State.within (v : State) (f : Fld) (lo hi : Nat) : Chk := chk f (decide (lo ≤ v.rd f) && decide (v.rd f ≤ hi))
def State.nonzero (v : State) (f : Fld) : Chk := chk f (v.rd f != 0)

/-- A base number, or 0xF for none. -/
def State.baseOrNone (v : State) (f : Fld) : Chk := chk f (decide (v.rd f < 8) || v.rd f = 15)

/-- The base that a field names, if it is one, has a KIND (0 angle, 1 distance). -/
def State.kindIs (v : State) (f : Fld) (kind : Nat) : Bool := decide (8 ≤ v.rd f) || v.rd (TBS_CFG_KIND (v.rd f)) = kind

/-- No 2-bit field of a word is 3. -/
def noThrees (x : Nat) : Bool := (List.range 16).all (fun i => bits x (2 * i) 2 != 3)

/-- A word of a table. -/
def tabWord (l : List Nat) (i : Nat) : Nat := leNat ((l.drop (4 * i)).take 4)

/-- The words of a table in effect. -/
def State.words (v : State) (pid : Nat) : List Nat :=
  let l := tabGet [] v.blobs pid
  (List.range (l.length / 4)).map (tabWord l)

/-! ## TSV, CAR, TBS -/

/-- R402, Table 14.5. -/
def chkTsvRow (v : State) (m : Nat) : List Chk :=
  [chk (TSV_MCFG_GRP m) (!v.on (TSV_MCFG_EN m) || v.rd (TSV_MCFG_GRP m) != 0 || v.on (TSV_MCFG_ALLGRP m) || v.on (TSV_MCFG_SHUT m))] ++
  (if m = 6 then
    [chk TSV_MPAR6_FCA (decide (v.rd TSV_MPAR6_FCA < 48) || v.rd TSV_MPAR6_FCA = 63),
     chk TSV_MPAR6_FCB (decide (v.rd TSV_MPAR6_FCB < 48) || v.rd TSV_MPAR6_FCB = 63),
     chk TSV_MPAR6_FCA (v.rd TSV_MPAR6_FCA != v.rd TSV_MPAR6_FCB || v.rd TSV_MPAR6_FCA = 63),
     v.nonzero TSV_MPAR6_TOL, v.within TSV_MPAR6_TIME 1 15]
  else if m = 8 then
    [v.baseOrNone TSV_MPAR8_GSBASE, v.baseOrNone TSV_MPAR8_GSREF, v.within TSV_MPAR8_GSTOL 1 100,
     chk TSV_MPAR8_GSBASE (v.kindIs TSV_MPAR8_GSBASE 1),
     chk TSV_MPAR8_GSREF (v.rd TSV_MPAR8_GSREF != v.rd TSV_MPAR8_GSBASE || v.rd TSV_MPAR8_GSREF = 15)]
  else [])

/-- R80. -/
def carQuotaSum (v : State) : Nat := (List.range 5).foldl (fun a i => a + v.rd (CAR_QUOTA_QUOTA i)) 0

/-- R52: the uses of a base by other blocks. -/
def State.tbUses (v : State) (n : Nat) : List Bool :=
  [decide (v.rd HSN_CTL_RBASE = n), decide (v.rd HSN_CTL_DBASE = n), decide (v.rd SEC_CTL_DBASE = n),
   decide (v.rd TSV_MPAR8_GSBASE = n), decide (v.rd TSV_MPAR8_GSREF = n)] ++
  (List.range 16).map (fun k => v.on (FUS_SCFG_EN k) && v.rd (FUS_SCFG_TYPE k) = 6 && v.rd (FUS_SCFG_SRC k) = n)

/-- R52: a base whose KIND changes has, in effect (`o`), a use that the transaction leaves (`v`). -/
def State.tbStillUsed (v o : State) (n : Nat) : Bool :=
  ((o.tbUses n).zip (v.tbUses n)).any (fun e => e.1 && e.2)

/-- Table 2.1, R52. -/
def chkTbStruct (v o : State) (n : Nat) : List Chk :=
  let src := v.rd (TBS_CFG_SRC n)
  let kind := v.rd (TBS_CFG_KIND n)
  let dir := v.rd (TBS_CFG_DIRSRC n)
  [chk (TBS_CFG_SRC n) (decide (src < 8)),
   chk (TBS_CFG_KIND n) (if src = 2 then kind = 0 else if src = 4 || src = 5 then kind = 1 else true),
   v.within (TBS_CFG_ESTW n) 0 4,
   chk (TBS_CFG_DIRSRC n)
     (match src with
      | 0 => decide (dir < 5) | 1 => decide (dir < 4) | 2 => dir = 0 || dir = 2 || dir = 3 | 3 => dir = 0 || dir = 2 || dir = 3
      | 4 => dir = 0 || dir = 2 || dir = 3 | _ => dir = 4),
   v.within (TBS_CFG_MULT n) 0 2, v.nonzero (TBS_TEETH_PULSES n),
   chk (TBS_TEETH_MISS n) (src != 2 || (decide (1 ≤ v.rd (TBS_TEETH_MISS n)) && decide (v.rd (TBS_TEETH_MISS n) ≤ 3))),
   chk (TBS_TEETH_GAPR n) (src != 2 || (decide (20 ≤ v.rd (TBS_TEETH_GAPR n)) && decide (v.rd (TBS_TEETH_GAPR n) ≤ 56))),
   chk (TBS_CFG_KIND n) (!(kind = 0 && (v.on (TBS_PLAUS_BLEND n) || v.on (TBS_PLAUS_FAILOVER n)))),
   chk (TBS_CFG_KIND n) (kind = o.rd (TBS_CFG_KIND n) || !v.tbStillUsed o n)]

/-- The references of FAILOVER from a base on come back to no base already passed, with fuel. -/
def State.tbChain (v : State) : Nat → Nat → List Nat → Bool
  | 0, _, _ => true
  | k + 1, n, seen =>
    if !v.on (TBS_PLAUS_FAILOVER n) then true
    else
      let r := v.rd (TBS_PLAUS_REF n)
      if (n :: seen).contains r then false else v.tbChain k r (n :: seen)

/-- R52, of the limits group. -/
def chkTbLimits (v : State) (n : Nat) : List Chk :=
  let angle := v.rd (TBS_CFG_KIND n) = 0
  [v.nonzero (TBS_LIM_AMAX n), chk (TBS_PLAUS_REF n) (v.rd (TBS_PLAUS_REF n) != n), v.within (TBS_PLAUS_TRIMLIM n) 0 127,
   chk (TBS_PLAUS_BLEND n) (!(angle && v.on (TBS_PLAUS_BLEND n))), chk (TBS_PLAUS_FAILOVER n) (!(angle && v.on (TBS_PLAUS_FAILOVER n))),
   chk (TBS_PLAUS_FAILOVER n) (!v.on (TBS_PLAUS_FAILOVER n) || v.on (TBS_PLAUS_PEN n)), chk (TBS_PLAUS_REF n) (v.tbChain 8 n [])]

/-! ## CEN -/

/-- Table 6.1: the feedback sources. -/
def cenFbOk (x : Nat) : Bool :=
  decide (x < 0x10) || (decide (0x20 ≤ x) && decide (x < 0x48)) || (decide (0x50 ≤ x) && decide (x < 0x90)) || x = 0xFF

/-- Table 6.6: the interlock sources. -/
def cenIlOk (x : Nat) : Bool :=
  decide (x ≤ 0x20) || (decide (0x30 ≤ x) && decide (x < 0x70)) || (decide (0x80 ≤ x) && decide (x < 0x90))

/-- The slot that drives the path of a channel: the inner slot of a cascade, else the LOOP slot. -/
def State.cenDriver (v : State) (k : Nat) : Option Nat :=
  let l := v.rd (CEN_FCFG_LOOP k)
  if 96 ≤ l then none else some ((v.cenInner l).getD l)

/-- SAFEU lies within the limits of the slot that drives the path, or of an open-loop channel (R175). -/
def State.cenSafeOk (v : State) (k : Nat) : Bool :=
  let u := v.rdS (CEN_FSAFE_SAFEU k)
  match v.cenDriver k with
  | some n => decide (v.rdS (CEN_LUMIN_UMIN n) ≤ u) && decide (u ≤ v.rdS (CEN_LUMAX_UMAX n))
  | none => decide (v.rdS (CEN_FSPMIN_SPMIN k) ≤ u) && decide (u ≤ v.rdS (CEN_FSPMAX_SPMAX k))

/-- R175: INNER of a slot with CASCEN. -/
def State.cenInnerOk (v : State) (n : Nat) : Bool :=
  let i := v.rd (CEN_LCTL_INNER n)
  decide (i < 96) && i != n && !v.on (CEN_LCTL_CASCEN i) &&
  (List.range 96).all (fun m => m = n || !v.on (CEN_LCTL_CASCEN m) || v.rd (CEN_LCTL_INNER m) != i) &&
  cenChans.all (fun k => v.rd (CEN_FCFG_LOOP k) != i)

/-- R175, of a slot. -/
def chkSlot (v : State) (n : Nat) : List Chk :=
  let idx := v.rd (CEN_LCTL_IDXSRC n)
  [v.within (CEN_LCTL_TRIG n) 0 2, chk (CEN_LCTL_INNER n) (!v.on (CEN_LCTL_CASCEN n) || v.cenInnerOk n),
   chk (CEN_LCTL_CASCEN n) (!v.on (CEN_LCTL_CASCEN n) ||
     (List.range 96).all (fun m => !v.on (CEN_LCTL_CASCEN m) || v.rd (CEN_LCTL_INNER m) != n)),
   chk (CEN_LCTL_IDXSRC n) (decide (idx ≤ 8) || idx = 15), v.within (CEN_LCTL_FBTC n) 0 15,
   chk (CEN_LFB_FBSRC n) (cenFbOk (v.rd (CEN_LFB_FBSRC n))), v.within (CEN_LTIM_PERIOD n) 10 65535, v.nonzero (CEN_LSUP_LATMAX n),
   v.nonzero (CEN_LSUP_DTMAX n), chk (CEN_LUMAX_UMAX n) (decide (v.rdS (CEN_LUMIN_UMIN n) ≤ v.rdS (CEN_LUMAX_UMAX n))),
   chk (CEN_LCTL_IDXSRC n) (!(v.on (CEN_LCTL_FRICEN n) || v.on (CEN_LCTL_COGEN n)) || idx != 15),
   chk (CEN_LCTL_FRICSGN n) (!v.on (CEN_LCTL_FRICSGN n) || decide (idx < 8)),
   chk (CEN_LCTL_RLEN n) (!v.on (CEN_LCTL_RLEN n) || v.rd (CEN_LSHP_RATE n) != 0),
   chk (CEN_LTIM_OFS n) (v.rd (CEN_LCTL_TRIG n) != 2 || decide (v.rd (CEN_LTIM_OFS n) < v.rd (CEN_LTIM_PERIOD n))),
   chk (CEN_LUMAX_UMAX n) (cenChans.all (fun k =>
     v.rd (CEN_FCFG_APATH k) = 0 || (v.cenDriver k != some n && v.rd (CEN_FCFG_LOOP k) != n) || v.cenSafeOk k))]

/-- Table 6.5: the outputs that a path may name. -/
def State.cenOutOk (v : State) (k : Nat) : Bool :=
  let a := v.rd (CEN_FCFG_OUTA k)
  match v.rd (CEN_FCFG_APATH k) with
  | 0 => true | 1 => decide (a < 24) | 2 => decide (a < 24) | 3 => decide (a < 48) | 4 => decide (a < 8) | _ => true

/-- R175: another channel claims an output or a drive message of channel `k`, or names its slot. -/
def State.cenTwice (v : State) (k : Nat) : Bool :=
  cenChans.any (fun j => j != k && ((v.cenOuts j).any ((v.cenOuts k).contains ·) ||
    (v.rd (CEN_FCFG_APATH j) = 4 && v.rd (CEN_FCFG_APATH k) = 4 && v.rd (CEN_FCFG_OUTA j) = v.rd (CEN_FCFG_OUTA k))))

/-- R175, of a channel. -/
def chkChan (v o : State) (k : Nat) : List Chk :=
  let l := v.rd (CEN_FCFG_LOOP k)
  let b := v.rd (CEN_FCFG_OUTB k)
  let still (f : Nat → Fld) : Chk := chk (f k) (v.rd (f k) = o.rd (f k) || o.cenCh k = 0)
  [v.within (CEN_FCFG_APATH k) 0 4, chk (CEN_FCFG_OUTA k) (v.cenOutOk k),
   chk (CEN_FCFG_OUTB k) (v.rd (CEN_FCFG_APATH k) != 2 || decide (b < 24) || b = 0x7F),
   chk (CEN_FCFG_OUTB k) (v.rd (CEN_FCFG_APATH k) != 2 || b != v.rd (CEN_FCFG_OUTA k)),
   chk (CEN_FCFG_LOOP k) (decide (l < 96) || l = 0x7F), v.within (CEN_FCFG_FAILACT k) 0 1,
   chk (CEN_FSPMAX_SPMAX k) (decide (v.rdS (CEN_FSPMIN_SPMIN k) ≤ v.rdS (CEN_FSPMAX_SPMAX k))),
   chk (CEN_FSAFE_SAFEU k) (v.cenSafeOk k),
   chk (CEN_FCFG_LOOP k) (decide (96 ≤ l) || cenChans.all (fun j => j = k || v.rd (CEN_FCFG_LOOP j) != l)),
   chk (CEN_FCFG_LOOP k) (decide (96 ≤ l) || (List.range 96).all (fun m => v.cenInner m != some l)),
   chk (CEN_FCFG_OUTA k) (!v.cenTwice k),
   still CEN_FCFG_APATH, still CEN_FCFG_OUTA, still CEN_FCFG_OUTB, still CEN_FCFG_LOOP, still CEN_FCFG_PWM] ++
  (List.range 4).map (fun j => chk (ilSrc k j) (cenIlOk (v.rd (ilSrc k j))))

/-- R175, of a drive message. -/
def chkDrive (v : State) (d : Nat) : List Chk :=
  [v.within (CEN_DMFMT_CF d) 0 5, chk (CEN_DMFMT_DLC d) (v.on (CEN_DMID_FDF d) || decide (v.rd (CEN_DMFMT_DLC d) ≤ 8)),
   v.within (CEN_DMFMT_WIDTH d) 0 2,
   chk (CEN_DMFMT_BOFS d) (decide (v.rd (CEN_DMFMT_BOFS d) + 2 ^ v.rd (CEN_DMFMT_WIDTH d) ≤ canLen (v.rd (CEN_DMFMT_DLC d))))]

/-! ## HSN, VIS -/

/-- R86, HSN_CTL. -/
def chkHsnCtl (v : State) : List Chk :=
  [v.baseOrNone HSN_CTL_RBASE, v.baseOrNone HSN_CTL_DBASE, chk HSN_CTL_RBASE (v.kindIs HSN_CTL_RBASE 0),
   chk HSN_CTL_DBASE (v.kindIs HSN_CTL_DBASE 1), chk HSN_CTL_LOSSEN (!v.on HSN_CTL_LOSSEN || v.rd HSN_CTL_RBASE != 15),
   chk HSN_CTL_RECEN (!v.on HSN_CTL_RECEN || (v.rd HSN_CTL_DBASE != 15 && v.on HSN_CTL_YLDEN))]

/-- R92, and the crop profile's registers. -/
def chkHsnCrop (v : State) (p : Nat) : List Chk :=
  let n := v.rd (HSN_PDLY_NPTS p)
  [v.within (HSN_PDLY_TDLY p) 0 6000, v.within (HSN_PDLY_NPTS p) 2 8, chk (HSN_PMSTD_MSTD p) (decide (v.rd (HSN_PMSTD_MSTD p) < 10000))] ++
  ((List.range 7).filter (fun k => decide (k + 1 < n))).flatMap (fun k =>
    [chk (HSN_PCI_VAL p (k + 1)) (decide (v.rd (HSN_PCI_VAL p k) < v.rd (HSN_PCI_VAL p (k + 1)))),
     chk (HSN_PCM_VAL p (k + 1)) (decide (v.rd (HSN_PCM_VAL p k) ≤ v.rd (HSN_PCM_VAL p (k + 1))))])

/-- A capture window: one window at most has FUNC = yield. -/
def chkHsnWin (v : State) (n : Nat) : List Chk :=
  [v.within (HSN_WCFG_BASE n) 0 8, v.nonzero (HSN_WCFG_MAXLEN n),
   chk (HSN_WCFG_FUNC n) (v.rd (HSN_WCFG_FUNC n) != 1 || (List.range 16).all (fun m => m = n || v.rd (HSN_WCFG_FUNC m) != 1))]

/-- R140, of a port's format: W × H × 2 fits the stride. -/
def State.visFits (v : State) (p : Nat) : Bool :=
  decide (v.rd (VIS_PSIZE_W p) * v.rd (VIS_PSIZE_H p) * 2 ≤ v.rd (VIS_PSTR_BSTRIDE p) * 4096)

def chkVisFmt (v : State) (p : Nat) : List Chk :=
  let w := v.rd (VIS_PSIZE_W p)
  let h := v.rd (VIS_PSIZE_H p)
  [v.within (VIS_PFMT_BPP p) 0 4, v.within (VIS_PFMT_CFA p) 0 4,
   chk (VIS_PSIZE_W p) (decide (64 ≤ w) && decide (w ≤ 4096) && w % 16 = 0), chk (VIS_PSIZE_H p) (decide (64 ≤ h) && decide (h ≤ 4096) && h % 16 = 0),
   chk (VIS_PTRIG_TRIGWIN p) (v.rd (VIS_PTRIG_TMODE p) != 1 || v.rd (VIS_PTRIG_TRIGWIN p) != 0), v.nonzero (VIS_PTRIG_FTO p),
   chk (VIS_PSIZE_W p) (v.visFits p)]

def chkVisMem (v o : State) (p : Nat) : List Chk :=
  [v.within (VIS_PBUF_NBUF p) 2 4, chk (VIS_PBUF_BASE p) (o.visSt p = 0 && (o.visBusy p).isEmpty), chk (VIS_PSTR_BSTRIDE p) (v.visFits p),
   chk (VIS_PBUF_BASE p) (decide (v.rd (VIS_PBUF_BASE p) * 4096 + v.rd (VIS_PBUF_NBUF p) * v.rd (VIS_PSTR_BSTRIDE p) * 4096 ≤ 2 ^ 32))]

/-- A list of words rises strictly. -/
def rises : List Nat → Bool
  | a :: b :: r => decide (a < b) && rises (b :: r)
  | _ => true

/-- R140, of a context with its tables: the defect list is sorted by Y and then X without a duplicate; an entry of the
classifier table other than a BIAS lies within 16 bits. -/
def chkVisCtx (v : State) (c : Nat) : List Chk :=
  let pid (n : Nat) : Nat := 0x00610000 + c * 0x1000 + n
  let cls := v.words (pid 0x220)
  [v.within (VIS_CSEG_SEGM c) 0 2, v.within (VIS_CSEG_THR c) 0 765, v.nonzero (VIS_CSEG_MINAREA c),
   chk (VIS_CCTL_ANA c) (v.on (VIS_CCTL_ANA c) || v.on (VIS_CCTL_IMGOUT c)),
   (none, rises ((v.words (pid 0x200)).map (fun w => bits w 0 16 * 0x10000 + bits w 16 16))),
   (none, (List.range 79).all (fun i =>
     (decide (16 ≤ i) && (i - 16) % 9 = 0) ||
       (decide (-32768 ≤ sx 32 (cls.getD i 0)) && decide (sx 32 (cls.getD i 0) ≤ 32767))))]

/-! ## GNS, FUS, SEC -/

/-- R293. -/
def chkGnsRx (v : State) : List Chk :=
  [v.within GNS_CTL_RATE 0 5, v.within GNS_CTL_ELMASK 0 30, chk GNS_CTL_ANT1EN (v.rd GNS_SOGCFG_DSRC != 0 || v.on GNS_CTL_ANT1EN),
   chk GNS_SIGMASK_SIG ((List.range 17).all (fun g => !bit (v.rd GNS_SIGMASK_SIG) g || bit (v.rd GNS_CTL_CONST) (sigCon g)))]

def chkGnsTp (v : State) : List Chk :=
  let per := v.rd GNS_TP1PER_PER
  [chk GNS_TPCTL_TP0W (v.rd GNS_TPCTL_TP0W != 0 && decide (v.rd GNS_TPCTL_TP0W < 999999)), v.within GNS_TP1PER_PER 10 60000000,
   chk GNS_TP1OFS_OFS (decide (v.rd GNS_TP1OFS_OFS < per)), chk GNS_TP1W_W (v.rd GNS_TP1W_W != 0 && decide (v.rd GNS_TP1W_W < per)),
   v.nonzero GNS_HOLD_HDRIFT, v.within GNS_SLEW_SLEWR 1 1000, v.nonzero GNS_SLEW_HLIM]

def chkGnsMotion (v : State) : List Chk :=
  [v.within GNS_HDGCFG_BLEN 200 10000, v.nonzero GNS_HDGCFG_BTOL, v.within GNS_SOGCFG_DSRC 0 2, v.within GNS_SOGCFG_MINSV 4 8,
   chk GNS_SOGCFG_DSRC (v.rd GNS_SOGCFG_DSRC != 0 || v.on GNS_CTL_ANT1EN)]

/-- R319: a number names an enabled IMU stream. -/
def State.fusImuOk (v : State) (k : Nat) : Bool :=
  v.on (FUS_SCFG_EN k) && (v.rd (FUS_SCFG_TYPE k) = 1 || v.rd (FUS_SCFG_TYPE k) = 2)

def chkFusCtl (v : State) : List Chk :=
  let p := v.rd FUS_CTL_PRIMS
  let a := v.rd FUS_CTL_ALT1
  let b := v.rd FUS_CTL_ALT2
  [v.within FUS_CTL_ORATE 0 5, v.nonzero FUS_CTL_REVDEC, v.nonzero FUS_CTL_CALDWELL, v.nonzero FUS_LIM_HSTDMAX, v.nonzero FUS_LIM_POSTO,
   chk FUS_CTL_PRIMS (v.fusImuOk p), chk FUS_CTL_ALT1 (a = 15 || (v.fusImuOk a && a != p && a != b)),
   chk FUS_CTL_ALT2 (b = 15 || (v.fusImuOk b && b != p && a != b))]

/-- Table 11.1: SRC of a type. -/
def fusSrcOk (typ src : Nat) : Bool :=
  if typ = 6 then decide (src < 8) else if typ = 7 then decide (src < 0x18) else true

def chkFusStream (v o : State) (k : Nat) : List Chk :=
  let typ := v.rd (FUS_SCFG_TYPE k)
  let ofType (t : Nat) : Nat := (fusStreams.filter (fun j => v.rd (FUS_SCFG_TYPE j) = t)).length
  let named := v.rd FUS_CTL_PRIMS = k || (k != 15 && (v.rd FUS_CTL_ALT1 = k || v.rd FUS_CTL_ALT2 = k))
  [chk (FUS_SCFG_TYPE k) (!v.on (FUS_SCFG_EN k) || (decide (1 ≤ typ) && decide (typ ≤ 8))),
   chk (FUS_SCFG_TYPE k) (!(typ = 1) || decide (ofType 1 ≤ 1)), chk (FUS_SCFG_TYPE k) (!(typ = 2) || decide (ofType 2 ≤ 2)),
   chk (FUS_SCFG_EN k) (!named || !o.on (FUS_SCFG_EN k) || v.on (FUS_SCFG_EN k)),
   chk (FUS_SCFG_TYPE k) (!named || typ = o.rd (FUS_SCFG_TYPE k)),
   v.within (FUS_SCFG_TSRC k) 0 2,
   chk (FUS_SCFG_TSRC k) (v.rd (FUS_SCFG_TSRC k) = 0 || typ = 0 || typ = 2 || typ = 3 || decide (8 ≤ typ)),
   chk (FUS_SCFG_SRC k) (fusSrcOk typ (v.rd (FUS_SCFG_SRC k))), v.nonzero (FUS_SPER_PERIOD k), v.nonzero (FUS_SPER_STALE k),
   chk (FUS_SPER_PERIOD k) (!(typ = 6 || typ = 7) || decide (1000 ≤ v.rd (FUS_SPER_PERIOD k))),
   v.within (FUS_SLAT_GATE k) 10 255, v.nonzero (FUS_SLAT_REJN k)]

/-- R206. -/
def chkSecCtl (v : State) : List Chk :=
  let h := v.rd SEC_CTL_HDRSRC
  [v.baseOrNone SEC_CTL_DBASE, chk SEC_CTL_HDRSRC (decide (h ≤ 0x20) || h = 0x80),
   chk SEC_CTL_DBASE (!v.on SEC_CTL_EN || (v.rd SEC_CTL_DBASE != 15 && v.kindIs SEC_CTL_DBASE 1)),
   v.within SEC_PLAN0_LOOKAHEAD 10 1000, v.nonzero SEC_PLAN0_STEP, v.within SEC_PLAN0_MAXAGE 10 255, v.within SEC_PLAN1_HORIZON 100 20000,
   v.nonzero SEC_PLAN1_RETOL, v.within SEC_THR_ONPCT 1 100, v.within SEC_THR_OFFPCT 0 100,
   chk SEC_THR_OFFPCT (decide (v.rd SEC_THR_OFFPCT ≤ v.rd SEC_THR_ONPCT))]

def chkSecMap (v : State) : List Chk :=
  [v.within SEC_MAPDIM_NY 1 16384, v.within SEC_MAPDIM_NXW 1 512, v.within SEC_MAPDIM_CELL 5 100,
   chk SEC_MAPDIM_CELL (decide (32 * v.rd SEC_MAPDIM_NXW * v.rd SEC_MAPDIM_CELL ≤ 800000) &&
     decide (v.rd SEC_MAPDIM_NY * v.rd SEC_MAPDIM_CELL ≤ 800000))]

def chkSecImage (v : State) : List Chk :=
  [v.within SEC_IMGCFG_IMGBUS 0 2, v.within SEC_IMGCFG_CF 0 5,
   chk SEC_IMGCFG_YULOFS (!(v.on SEC_IMGCFG_IMGEN && v.rd SEC_IMGCFG_IMGBUS = 2) || decide (v.rd SEC_IMGCFG_YULOFS ≤ 192))]

/-- R183: the range of a route. -/
def secDestOk (route dest : Nat) : Bool :=
  match route with
  | 1 => decide (dest < 48) | 2 => decide (dest < 24) | 3 => decide (dest < 16) | 4 => decide (dest < 512) | _ => true

def chkSecRow (v o : State) (r : Nat) : List Chk :=
  let rt := v.rd (SEC_RCCFG_ROUTE r)
  let d := v.rd (SEC_RCCFG_DEST r)
  let busy := o.rcSt r = 2 || o.rd (SEC_RCSTAT_PEND r) != 0
  [v.within (SEC_RCCFG_ROUTE r) 0 4, chk (SEC_RCCFG_DEST r) (secDestOk rt d),
   chk (SEC_RCCFG_WIDTH r) (!v.on (SEC_RCCFG_EN r) || v.rd (SEC_RCCFG_WIDTH r) != 0),
   chk (SEC_RCCFG_DEST r) (!v.on (SEC_RCCFG_EN r) || rt = 0 || secRows.all (fun q => q = r || !v.on (SEC_RCCFG_EN q) ||
     v.rd (SEC_RCCFG_ROUTE q) != rt || v.rd (SEC_RCCFG_DEST q) != d)),
   chk (SEC_RCCFG_DEST r) (!(rt = 1 || rt = 2) || cenChans.all (fun k => !(v.cenOuts k).contains (rt = 1, d))),
   chk (SEC_RCCFG_ROUTE r) (!busy || rt = o.rd (SEC_RCCFG_ROUTE r)), chk (SEC_RCCFG_DEST r) (!busy || d = o.rd (SEC_RCCFG_DEST r))]

/-! ## SOL, LSW -/

def chkSolCtl (v : State) : List Chk :=
  [v.within SOL_CTL_VBST 240 650, v.within SOL_CTL_NFREQ 1 100] ++
  (List.range 24).map (fun n => chk SOL_CTL_NFREQ
    (v.rd (SOL_CHCFG_MODE n) != 3 || v.svSlave n || decide (4 * (v.rd (SOL_CHTIM_TPEAK n) + 100) * v.rd SOL_CTL_NFREQ ≤ 1000000)))

/-- A committed function channel claims an output with a path. -/
def State.cenClaimer (v : State) (lsw : Bool) (n : Nat) : Option Nat := cenChans.find? (fun k => (v.cenOuts k).contains (lsw, n))

/-- R233. -/
def chkSolChan (v : State) (n : Nat) : List Chk :=
  let mode := v.rd (SOL_CHCFG_MODE n)
  let pair := v.on (SOL_CHCFG_PAIR n)
  let df := v.rd (SOL_CHCFG_DFREQ n)
  let mul := if pair then 2 else 1
  [chk (SOL_CHCFG_PAIR n) (!pair || n % 2 = 0),
   chk (SOL_CHCFG_PAIR n) (!(pair && n % 2 = 0) || (v.rd (SOL_CHCFG_MODE (n + 1)) = 0 && (v.cenClaimer false (n + 1)).isNone)),
   chk (SOL_CHCFG_MODE n) (!(n % 2 = 1 && v.on (SOL_CHCFG_PAIR (n - 1))) || mode = 0),
   chk (SOL_CHCFG_DFREQ n) (df = 0 || (decide (25 ≤ df) && decide (df ≤ 200))), v.within (SOL_CHTIM_TPEAK n) 20 5000,
   chk (SOL_CHTIM_TPKTO n) (decide (v.rd (SOL_CHTIM_TPKTO n) < v.rd (SOL_CHTIM_TPEAK n))),
   chk (SOL_CHCUR_IHOLD n) (!(mode = 1 || mode = 3) || decide (v.rd (SOL_CHCUR_IHOLD n) ≤ v.rd (SOL_CHCUR_IPEAK n))),
   v.within (SOL_CHCUR_IPEAK n) 0 (12000 * mul), v.within (SOL_CHCUR_IHOLD n) 0 (3000 * mul),
   chk (SOL_CHCFG_DAMP n) (decide (v.rd (SOL_CHCFG_DAMP n) * 5 ≤ 3000 * mul)),
   chk (SOL_CHTIM_TPEAK n) (mode != 3 || decide (4 * (v.rd (SOL_CHTIM_TPEAK n) + 100) * v.rd SOL_CTL_NFREQ ≤ 1000000)),
   chk (SOL_CHCFG_MODE n) (match v.cenClaimer false n with
     | some k => if v.rd (CEN_FCFG_APATH k) = 1 then mode = 1 else mode = 2
     | none => true)]

/-- R264. -/
def chkLsChan (v : State) (n : Nat) : List Chk :=
  let mode := v.rd (LSW_CHCFG_MODE n)
  [v.within (LSW_CHCFG_MODE n) 0 2, v.within (LSW_CHCFG_WIRE n) 0 6, chk (LSW_CHCFG_MODE n) (!(mode = 2 && v.rd (LSW_CHCFG_PROF n) = 4)),
   chk (LSW_CHCFG_MODE n) (match v.cenClaimer true n with
     | some k => if v.rd (CEN_FCFG_PWM k) = 0 then mode = 1 else mode = 2
     | none => true),
   v.within (LSW_CHSAFE_CLASS n) 0 2, v.within (LSW_CHSAFE_DEFDUTY n) 0 10000,
   chk (LSW_CHSAFE_CLASS n) (!(v.rd (LSW_CHSAFE_CLASS n) = 2 && mode = 0))]

def chkLsProf (v : State) (p : Nat) : List Chk :=
  let tw := v.rd (LSW_PTIM_TWIN p)
  [v.within (LSW_PTIM_TWIN p) 0 2000, v.within (LSW_PTIM_OLBLANK p) 0 10000, v.within (LSW_PLIM_ILIM p) 2 16, v.nonzero (LSW_PLIM_TSC p),
   v.within (LSW_PLIM_SLEW p) 2 2000, chk (LSW_PLIM_TSC p) (tw = 0 || decide (v.rd (LSW_PLIM_TSC p) ≤ tw))]

/-! ## CAN, ETH, FLT -/

/-- The CAN clocks of 80 MHz in one bit of the nominal and of the data phase. -/
def State.canNbit (v : State) (n : Nat) : Nat :=
  (v.rd (CAN_NBT_BRP n) + 1) * (v.rd (CAN_NBT_TSEG1 n) + v.rd (CAN_NBT_TSEG2 n) + 3)
def State.canDbit (v : State) (n : Nat) : Nat :=
  (v.rd (CAN_DBT_BRP n) + 1) * (v.rd (CAN_DBT_TSEG1 n) + v.rd (CAN_DBT_TSEG2 n) + 3)

/-- R353, of a controller. 80 clocks in a bit are 1 Mbit/s, 10 are 8 Mbit/s, 320 are 250 kbit/s, 160 are 500 kbit/s. ISOKIND
is judged with ISOEN = 1. -/
def chkCanCtl (v : State) (n : Nat) : List Chk :=
  let nb := v.canNbit n
  let db := v.canDbit n
  [v.within (CAN_CTL_MODE n) 0 1, v.nonzero (CAN_NBT_TSEG1 n), v.nonzero (CAN_NBT_TSEG2 n), chk (CAN_NBT_BRP n) (decide (80 ≤ nb)),
   chk (CAN_DBT_BRP n) (!v.on (CAN_CTL_FDEN n) || (decide (10 ≤ db) && decide (db ≤ nb))),
   chk (CAN_CTL_ISOEN n) (!(v.on (CAN_CTL_ISOEN n) && v.on (CAN_CTL_FDEN n))),
   chk (CAN_CTL_ISOKIND n) (!v.on (CAN_CTL_ISOEN n) || nb = 320 || (v.on (CAN_CTL_ISOKIND n) && nb = 160)),
   chk (CAN_NBT_SJW n) (decide (v.rd (CAN_NBT_SJW n) ≤ v.rd (CAN_NBT_TSEG2 n))),
   chk (CAN_DBT_SJW n) (decide (v.rd (CAN_DBT_SJW n) ≤ v.rd (CAN_DBT_TSEG2 n)))]

/-- R353, of a port: its PVID has a valid entry of which it is a member. -/
def chkEthPort (v : State) (p : Nat) : List Chk :=
  let id := v.rd (ETH_PCTL_PVID p)
  [v.within (ETH_PCTL_PVID p) 1 4094,
   chk (ETH_PCTL_PVID p) ((List.range 16).any (fun e => v.on (ETH_VLAN_VALID e) && v.rd (ETH_VLAN_VID e) = id && bit (v.rd (ETH_VLAN_MEMBER e)) p))]

/-- R353, of the VLAN table: the entries in use have different VIDs, and every port's PVID stays valid. -/
def chkEthVlan (v : State) : List Chk :=
  (List.range 16).flatMap (fun e =>
    [v.within (ETH_VLAN_VID e) 1 4094,
     chk (ETH_VLAN_VID e) (!v.on (ETH_VLAN_VALID e) || (List.range e).all (fun d => !v.on (ETH_VLAN_VALID d) ||
       v.rd (ETH_VLAN_VID d) != v.rd (ETH_VLAN_VID e)))]) ++
  (List.range 7).map (fun p => chk (ETH_VLAN_VALID 0) ((chkEthPort v p).all (·.2)))

def chkFltSess (v : State) (k : Nat) : List Chk :=
  [chk (FLT_SPEER_PEER k) (!v.on (FLT_SCFG_EN k) || (List.range 64).all (fun j => j = k || !v.on (FLT_SCFG_EN j) ||
     v.rd (FLT_SPEER_PEER j) != v.rd (FLT_SPEER_PEER k) || v.rd (FLT_SPORT_PPORT j) != v.rd (FLT_SPORT_PPORT k))),
   chk (FLT_SCFG_KEY k) (tabFind v.flt.keys (v.rd (FLT_SCFG_KEY k))).isSome,
   chk (FLT_SCFG_ANCHOR k) (!(tabGet [] v.blobs (0x00E00300 + 16 * v.rd (FLT_SCFG_ANCHOR k))).isEmpty)]

/-! ## THM, DSP -/

/-- R432: the skip bands of a fan: within the speed range, apart from each other; a band with LO = HI = 0 is not in use. -/
def chkThmFan (v : State) (f : Nat) : List Chk :=
  let lo := v.rd (THM_FLIM_RPMMIN f)
  let hi := v.rd (THM_FLIM_RPMMAX f)
  let a (k : Nat) : Nat := v.rd (THM_FSKIP_LO f k)
  let b (k : Nat) : Nat := v.rd (THM_FSKIP_HI f k)
  let used (k : Nat) : Bool := a k != 0 || b k != 0
  [v.within (THM_FCFG_SRC f) 0 9, v.within (THM_FCFG_PPR f) 1 8, v.within (THM_FCFG_KICKD f) 20 100, v.nonzero (THM_FLIM_RPMMAX f),
   v.nonzero (THM_FCUR_ISTALL f), v.nonzero (THM_FRAMP_RAMP f), chk (THM_FLIM_RPMMIN f) (decide (lo < hi)),
   chk (THM_FCUR_IOPEN f) (decide (v.rd (THM_FCUR_IOPEN f) < v.rd (THM_FCUR_ISTALL f)))] ++
  (List.range 4).map (fun k => chk (THM_FSKIP_LO f k) (!used k || (decide (a k < b k) && decide (lo ≤ a k) && decide (b k ≤ hi) &&
    (List.range k).all (fun j => !used j || decide (b j ≤ a k) || decide (b k ≤ a j)))))

/-- R432, of the throttle group. -/
def chkThmThr (v : State) : List Chk :=
  [chk THM_THR_THR1 (decide (v.rd THM_THR_THR1 < v.rd THM_THR_THR2)), chk THM_THR_THR2 (decide (v.rd THM_THR_THR2 < v.rd THM_THR_THR3)),
   chk THM_THR_THR3 (decide (v.rd THM_THR_THR3 < 130)), v.nonzero THM_THR_HYST, v.within THM_HTCTL_GRACE 10 10000]

/-- R436, R453: Tdrv of the panel, in 0.1 µs: 10^7 / (FRATE × ROWS) − PRET − 10 is at least 50. -/
def chkDspPanel (v : State) : List Chk :=
  let rows := v.rd DSP_PCFG_ROWS + 1
  [v.within DSP_PCFG_FRATE 50 200, v.within DSP_PTIM_PRET 0 100, v.within DSP_PTIM_VPRE 0 100, v.within DSP_PTIM_VPANEL 100 180,
   v.within DSP_PTIM_PCHT 1 50,
   chk DSP_PCFG_FRATE (decide ((v.rd DSP_PTIM_PRET + 60) * (v.rd DSP_PCFG_FRATE * rows) ≤ 10000000))]

/-- R453, of the label with its waveform table. -/
def chkDspLabel (v : State) : List Chk :=
  let x (n : Nat) := v.rd (DSP_UAGEO_X0 n); let w (n : Nat) := v.rd (DSP_UAGEO_W n)
  let y (n : Nat) := v.rd (DSP_UAGEO_Y0 n); let h (n : Nat) := v.rd (DSP_UAGEO_H n)
  let en (n : Nat) := v.on (DSP_UAGEO_EN n)
  let apart (n m : Nat) : Bool := decide (x n + w n ≤ x m) || decide (x m + w m ≤ x n) || decide (y n + h n ≤ y m) || decide (y m + h m ≤ y n)
  (List.range 8).flatMap (fun n =>
    [chk (DSP_UAGEO_W n) (!en n || (w n != 0 && decide (x n + w n ≤ 25))), chk (DSP_UAGEO_H n) (!en n || (h n != 0 && decide (y n + h n ≤ 96))),
     chk (DSP_UAGEO_X0 n) (!en n || (List.range n).all (fun m => !en m || apart n m))]) ++
  (if (tabGet [] v.blobs 0x01000200).isEmpty then []
   else
    [(none, (List.range 7).all (fun b => decide (v.dspTlow b < v.dspTlow (b + 1)))),
     (none, (List.range 8).all (fun b => decide (1 ≤ v.dspN b) && decide (v.dspN b ≤ 120))),
     (none, (List.range 8).all (fun b => (List.range (v.dspN b)).all (fun f => (List.range 5).all (fun k => v.dspCode b f k != 3))))])

/-! ## All together -/

/-- The checks of a group. -/
def grpChecks (v o : State) : Grp → List Chk
  | .power => [v.within SYS_PWRCFG_RUNON 0 600]
  | .io => [chk SYS_TBIMODE_MODE (noThrees (v.rd SYS_TBIMODE_MODE)), chk SYS_AINMODE_RANGE (noThrees (v.rd SYS_AINMODE_RANGE))]
  | .tsvWd => [v.within TSV_WDCFG_WMAX 2 200, chk TSV_WDCFG_WMIN (decide (v.rd TSV_WDCFG_WMIN < v.rd TSV_WDCFG_WMAX))]
  | .tsvRow m => chkTsvRow v m
  | .tsvGrp _ => []
  | .quota => [chk (CAR_QUOTA_QUOTA 0) (decide (carQuotaSum v ≤ 256))]
  | .tbStruct n => chkTbStruct v o n
  | .tbLimits n => chkTbLimits v n
  | .slot n => chkSlot v n
  | .chan k => chkChan v o k
  | .drive d => chkDrive v d
  | .hsnCtl => chkHsnCtl v
  | .hsnRec => []
  | .hsnCrop p => chkHsnCrop v p
  | .hsnLoss => [v.within HSN_NLCFG_LRATE 4 15, chk HSN_NBAND_B1 (decide (v.rd HSN_NBAND_B1 ≤ v.rd HSN_NBAND_B2)),
      chk HSN_NBAND_B2 (decide (v.rd HSN_NBAND_B2 ≤ v.rd HSN_NBAND_B3))]
  | .hsnWin n => chkHsnWin v n
  | .hsnMoi => [v.nonzero HSN_MOICFG_FILLMIN]
  | .hsnNoise => []
  | .visFmt p => chkVisFmt v p
  | .visMem p => chkVisMem v o p
  | .visCtx c => chkVisCtx v c
  | .gnsRx => chkGnsRx v
  | .gnsTp => chkGnsTp v
  | .gnsMotion => chkGnsMotion v
  | .fusCtl => chkFusCtl v
  | .fusStream k => chkFusStream v o k
  | .secCtl => chkSecCtl v
  | .secMap => chkSecMap v
  | .secImage => chkSecImage v
  | .secRow r => chkSecRow v o r
  | .solCtl => chkSolCtl v
  | .solChan n => chkSolChan v n
  | .lsBank b => [v.within (LSW_BCFG_BANKLIM b) 1 1000]
  | .lsProf p => chkLsProf v p
  | .lsChan n => chkLsChan v n
  | .canCtl n => chkCanCtl v n
  | .canFilter n f => [v.within (CAN_FCFG_ACT n f) 0 2]
  | .canIso n => [v.within (CAN_ISOADDR_PREF n) 0 253]
  | .canRing _ => []
  | .ethPort p => chkEthPort v p
  | .ethVlan => chkEthVlan v
  | .ethPtp => [chk ETH_PTPCTL_GMCAP (!v.on ETH_PTPCTL_GMCAP || v.rd GNS_TPCTL_TSYS = 0)]
  | .ethRing => [v.within ETH_HRXR_SIZE 0 6, v.within ETH_HTXR_SIZE 0 6]
  | .fltNet => [v.within FLT_NET_PREFIX 1 30, v.nonzero FLT_UDP_LPORT]
  | .fltSess k => chkFltSess v k
  | .fltRing => []
  | .thmThr => chkThmThr v
  | .thmFan f => chkThmFan v f
  | .thmComp => []
  | .dspPanel => chkDspPanel v
  | .dspLabel => chkDspLabel v
  | .yul => [chk YUL_CTL_NODES (bit (v.rd YUL_CTL_NODES) 0), v.within YUL_CTL_CABLEOUT 0 400]

/-- A group's check (R365): `none` where it passes; otherwise the first offending register offset, or `some none` where only
a table offends. -/
def State.rejects (v o : State) (g : Grp) : Option (Option Nat) :=
  let bad := (grpChecks v o g).filter (fun c => !c.2)
  if bad.isEmpty then none
  else
    let offs := bad.filterMap (fun c => c.1.map (fun f => addrOff f.addr))
    some (offs.foldl (fun m a => match m with | none => some a | some b => some (min a b)) none)

/-- The instance of a group, as the dictionary numbers it (assumption log, entry 34). -/
def Grp.instance_ (g : Grp) : Nat := g.insts.headD 0

/-- R374: the rejection event of a group's block with its parameters; CAR's event carries the sum of the quotas. Where the
block's chapter gives its events a first parameter that the group does not have, that one is free. -/
def State.rejectEv (v : State) (g : Grp) (off : Nat) (s : State) : State :=
  let i := g.instance_
  match g.block with
  | 0x00 => if g = .power then s.emit 0x0028 [off] else s.emit 0x0032 [off]
  | 0x01 => s.emit 0x0112 [i, off]
  | 0x02 => s.emit 0x020A [carQuotaSum v]
  | 0x03 => s.emit 0x030E [g.inst, off]
  | 0x04 => s.emit 0x040A [i, off]
  | 0x05 => s.emit 0x050F [off]
  | 0x06 => s.emit 0x060C [g.inst, off]
  | 0x07 => s.emit 0x070C [off]
  | 0x08 => s.emit 0x080A [i, off]
  | 0x09 => s.emit 0x0907 [i, off]
  | 0x0A => s.emit 0x0A0D [i, off]
  | 0x0B => s.emit 0x0B04 [i, off]
  | 0x0C => s.emit 0x0C0C [g.inst, i, off]
  | 0x0D =>
    if (match g with | .ethPort _ => true | _ => false) then s.emit 0x0D05 [g.inst, i, off]
    else (s.takeFree 8).2.emit 0x0D05 [(s.takeFree 8).1, i, off]
  | 0x0E =>
    if (match g with | .fltSess _ => true | _ => false) then s.emit 0x0E06 [g.inst, i, off]
    else (s.takeFree 8).2.emit 0x0E06 [(s.takeFree 8).1, i, off]
  | 0x0F => s.emit 0x0F0C [i, off]
  | 0x10 => s.emit 0x1008 [off]
  | 0x13 => s.emit 0x1308 [off]
  | _ => s

end Sys2Proof.Machine
end

