-- ==== Sys2Proof/Machine/EvrOps.lean ====
section
/-!
DEFINITION. The operations of the event recorder (spec/17_event_recorder.md): writing records, closing a full log,
clearing it.
-/
namespace Sys2Proof.Machine

/-- The number of events a staged record stands for: a summary's count, or 1 (R464). -/
def EvRec.stands (r : EvRec) : Nat := if r.code = 0x1101 then r.p0 else 1

/-- The first and the last code a staged record stands for. -/
def EvRec.firstCode (r : EvRec) : Nat := if r.code = 0x1101 then r.p1 / 0x10000 else r.code
def EvRec.lastCode (r : EvRec) : Nat := if r.code = 0x1101 then r.p1 % 0x10000 else r.code

/-- Table 17.2: the summary record of an accumulator. -/
def EvAcc.summary (a : EvAcc) (pcyc : Nat) : EvRec :=
  { code := 0x1101, sev := a.sev, src := 4, tick := a.lastTk, optime := a.lastOp, pcyc := pcyc,
    p0 := a.count, p1 := a.first * 0x10000 + a.last, p2 := a.firstOp, p3 := a.firstTk * 0x1000000 }

/-- R464: EV 0x1102 accounts for the records that remain: the staged ones and the open accumulator. -/
def State.fullRecord (s : State) : EvRec :=
  let recs := s.evr.queue.map (·.ent) ++ (match s.evr.acc with | some a => [a.summary s.evr.pcyc] | none => [])
  let first := (recs.head?.map EvRec.firstCode).getD 0
  let last := (recs.getLast?.map EvRec.lastCode).getD 0
  { s.mkRec 0x1102 (recs.foldl (fun m r => max m r.sev) 1) 4 [] with
    p0 := min ((recs.map EvRec.stands).sum) 0xFFFFFFFF, p1 := first * 0x10000 + last }

/-- R464: places 0–65,534 are used: what is staged is not written, EV 0x1102 waits for place 65,535 and FULL is set. The
events of a summary are in LOSTEV already; the staged records enter it here. -/
def State.closeLog (s : State) : State :=
  let n := (s.evr.queue.filter (fun e => e.ent.code != 0x1101)).length
  let t := ((s.wr EVR_STAT_FULL 1).incBy EVR_CNT_LOSTEV n).setFlagBit EVR_INTSTAT_FLAGS 2
  { t with evr := { t.evr with closing := some s.fullRecord, queue := [], acc := none } }

/-- EVR keeps its lease while something is to be written, and returns it when nothing is (R459). -/
def State.evrLease (s : State) : State :=
  if s.on EVR_STAT_CLEARING then s
  else if s.evr.closing.isSome || !s.evr.queue.isEmpty || s.evr.optDue then s.requestLease 0 0x11
  else s.returnLease 0 0x11

/-- R460: at the first moment at which a place is free, the summary is staged and the accumulator closes. -/
def State.stageSummary (s : State) : State :=
  match s.evr.acc with
  | some a =>
    if s.evr.queue.length < 64 then
      { s with evr := { s.evr with queue := s.evr.queue.map (fun e => { e with at_ := 0 }) ++ [⟨0, a.summary s.evr.pcyc⟩], acc := none } }
    else s
  | none => s

/-- The event of the lowest code among some. -/
def lowestEv (r : EvRec) (l : List EvRec) : EvRec := l.foldl (fun m x => if x.code < m.code then x else m) r

/-- R461: an event emitted in the cycle in which a place frees takes that place when no summary was waiting: the accumulator that it opened
goes on without it. -/
def State.takeFreed (a : EvAcc) (r : EvRec) (s : State) : State :=
  let acc := match a.held.erase r with
    | [] => none
    | x :: l => some (l.foldl (EvAcc.more s.now) (EvAcc.of s.now a.flag x))
  let s := { s with evr := { s.evr with queue := stageIn s.now r s.evr.queue, acc := acc } }
  let s := s.wr EVR_CNT_LOSTEV (s.rd EVR_CNT_LOSTEV - 1)
  s.when (acc.isNone && !a.flag) (State.wr EVR_INTSTAT_FLAGS (clrBit (s.rd EVR_INTSTAT_FLAGS) 1))

/-- R460, R461: a place of the queue has freed. -/
def State.placeFreed (s : State) : State :=
  match s.evr.acc with
  | some a => if a.at_ = s.now + 1 then (match a.held with | r :: l => s.takeFreed a (lowestEv r l) | [] => s.stageSummary) else s.stageSummary
  | none => s

/-- What EVR writes next: the record that closes a full log or reports a clear, or else the head of the queue. -/
def State.nextRecord (s : State) : Option EvRec :=
  match s.evr.closing with
  | some r => some r
  | none => s.evr.queue.head?.map (·.ent)

/-- The record that was next is done with: its place in the queue frees. -/
def State.dropRecord (s : State) : State :=
  match s.evr.closing with
  | some _ => { s with evr := { s.evr with closing := none } }
  | none => { s with evr := { s.evr with queue := s.evr.queue.tail } }

/-- A place of the log taken, good or invalid. -/
def State.takePlace (p : Place) (s : State) : State :=
  let k := s.rd EVR_STAT_NEXT
  ({ s with evr := { s.evr with log := tabPut s.evr.log k p } }).wr EVR_STAT_NEXT (k + 1)

/-- The log closes once places 0–65,534 are used and is not closed yet. -/
def State.closeIfFull (s : State) : State :=
  if s.rd EVR_STAT_NEXT = 65535 && !s.on EVR_STAT_FULL then s.closeLog else s

/-- EVR may write: it has found its place, it holds the NVM write port, and no clear runs. -/
def State.evrWrites (s : State) : Bool :=
  s.evr.searched && s.holds 0 0x11 && !s.on EVR_STAT_CLEARING && decide (s.rd EVR_STAT_NEXT < 65536)

/-- R457, R396: OPTIME goes to its NVM area, under the lease: at once, or as soon as EVR has it. -/
def State.saveOptime (s : State) : State :=
  let s := s.requestLease 0 0x11
  if s.holds 0 0x11 then State.evrLease { s with evr := { s.evr with nvOptime := s.optime, optDue := false } }
  else { s with evr := { s.evr with optDue := true } }

/-- R459: the next record's program operation completes; OPTIME, where it waits, goes first. -/
def State.recordWritten (s : State) : State :=
  if s.evr.optDue && s.holds 0 0x11 then s.saveOptime
  else match s.nextRecord with
  | none => s
  | some r =>
    if !s.evrWrites then s
    else (((((s.takePlace ⟨r.words, true⟩).dropRecord.setFlagBit EVR_INTSTAT_FLAGS 0).placeFreed).closeIfFull).evrLease)

/-- R462: the write in progress is cut by a revocation: its place is invalid, and what it holds is free. The record is written again at the next
place, unless none is left for it: then it is among what EV 0x1102 accounts for (R464). -/
def State.evrCut (s : State) : State :=
  match s.nextRecord with
  | none => s
  | some _ =>
    if s.on EVR_STAT_CLEARING || !s.evr.searched || decide (65536 ≤ s.rd EVR_STAT_NEXT) then s
    else
      let k := s.rd EVR_STAT_NEXT
      let w := s.takeFrees 32 8
      let t := ((w.2.takePlace ⟨w.1, false⟩).inc EVR_CNT_BAD).setFlagBit EVR_INTSTAT_FLAGS 3
      if k = 65535 then t.dropRecord
      else if k = 65534 then t.closeIfFull
      else t

/-- R462, R467: EVR, whose lease was revoked, asks for it again while it has something to write or to erase. -/
def State.evrAsk (s : State) : State :=
  s.when (s.on EVR_STAT_CLEARING || s.nextRecord.isSome || s.evr.optDue) (State.requestLease 0 0x11)

/-- R467: a clear of the log starts; EVR takes the lease for the first sector. -/
def State.logClear (role : Nat) (s : State) : State :=
  if s.on EVR_STAT_CLEARING then s
  else ({ s.wr EVR_STAT_CLEARING 1 with
    evr := { s.evr with sector := 0, clrUsed := s.rd EVR_STAT_NEXT, clrRole := role } }).requestLease 0 0x11

/-- R467: a sector of 2,048 places is erased; after the last one the clear ends: EV 0x1103 goes to place 0, then the
queue, and FULL and BAD clear. -/
def State.sectorErased (s : State) : State :=
  if !(s.on EVR_STAT_CLEARING && s.holds 0 0x11) then s
  else
    let k := s.evr.sector
    let t := ({ s with evr := { s.evr with log := tabDrop s.evr.log (k * 2048) ((k + 1) * 2048), sector := k + 1 } }).returnLease 0 0x11
    if k + 1 < 32 then t.requestLease 0 0x11
    else
      let r := t.mkRec 0x1103 0 (evSrc 0x1103) [t.evr.clrUsed, t.evr.clrRole]
      let u := ((((t.wr EVR_STAT_CLEARING 0).wr EVR_STAT_FULL 0).wr EVR_CNT_BAD 0).wr EVR_STAT_NEXT 0).setFlagBit EVR_INTSTAT_FLAGS 4
      ({ u with evr := { u.evr with closing := some r, searched := true } }).stageSummary.evrLease

/-- The lowest place that no entry of the log lists. -/
def firstFree (l : Tab Place) : Nat := l.foldl (fun n e => if e.1 = n then n + 1 else n) 0

/-- R465: the search for the next place to write at AON power-up. -/
def State.logSearch (s : State) : State :=
  if s.evr.searched then s
  else
    let n := firstFree s.evr.log
    let bad := (s.evr.log.filter (fun e => e.1 < n && !e.2.good)).length
    let t := ({ s with evr := { s.evr with searched := true } }).wr EVR_STAT_NEXT n
    let t := t.when (decide (0 < bad)) (fun t =>
      ((t.wr EVR_CNT_BAD (min bad 0xFFFF)).setFlagBit EVR_INTSTAT_FLAGS 3).emit 0x1104 [bad])
    let t := t.when (decide (65536 ≤ n)) (fun t => t.wr EVR_STAT_FULL 1)
    (t.closeIfFull).evrLease

/-- R466: the words that a place reads as: those written, or 0xFF in every byte. -/
def State.placeWords (s : State) (k : Nat) : List Nat :=
  match tabFind s.evr.log k with
  | some p => p.words
  | none => List.replicate 8 0xFFFFFFFF

/-- R466: a place latched into EVR_RDDATA and EVR_RDST. -/
def State.latchPlace (i : Nat) (s : State) : State :=
  let ws := s.placeWords i
  let (valid, erased) := match tabFind s.evr.log i with | some p => (p.good, false) | none => (false, true)
  ((List.range 8).foldl (fun t w => t.wr (EVR_RDDATA_DATA w) (nth ws w 0)) ((s.wr EVR_RDST_VALID (b2n valid)).wr EVR_RDST_ERASED (b2n erased)))

end Sys2Proof.Machine
end

