-- ==== Sys2Proof/Machine/Sha.lean ====
section
/-!
DEFINITION. HMAC-SHA-256, by which a remote client proves that it knows a role's key (spec/13_parameter_dictionary_and_store.md,
R362). The function is the one of FIPS 180-4 and FIPS 198-1, which the rule names (assumption log, entry 35). Its constants are
computed as FIPS 180-4 defines them, from the roots of the first primes, and a sum of rotations is a fold over their distances.
-/
namespace Sys2Proof.Machine

/-- The largest number below 2^`b` above `r` whose `k`-th power does not exceed `n`, found bit by bit. -/
def rootFrom (k n : Nat) : Nat → Nat → Nat
  | 0, r => r
  | b + 1, r => rootFrom k n b (if (r + 2 ^ b) ^ k ≤ n then r + 2 ^ b else r)

/-- The first 32 bits of the fraction of the `k`-th root of `p`. -/
def rootFraction (k p : Nat) : Nat := rootFrom k (p * 2 ^ (32 * k)) 37 0 % 2 ^ 32

/-- The first 64 primes, in ascending order: the last is 311, below the square of 19. -/
def firstPrimes : List Nat :=
  (List.range 312).filter (fun p => decide (2 ≤ p) && [2, 3, 5, 7, 11, 13, 17].all (fun d => p = d || p % d != 0))

/-- The hash's initial words: square roots of the first eight primes. -/
def shaInit : List Nat := (firstPrimes.take 8).map (rootFraction 2)

/-- A 32-bit sum of a list of words. -/
def sum32 (l : List Nat) : Nat := l.foldl (· + ·) 0 % 2 ^ 32

/-- A word rotated right by each of the distances, the results combined by exclusive or with `z`. -/
def spread (dist : List Nat) (z x : Nat) : Nat :=
  dist.foldl (fun acc n => acc ^^^ (x / 2 ^ n + x % 2 ^ n * 2 ^ (32 - n))) z

/-- The words of a block extended by `k`: each new word is formed from those 2, 7, 15 and 16 places before it. -/
def extendWords (w : List Nat) (k : Nat) : List Nat :=
  (List.range k).foldl (fun w _ =>
    let back := fun j => nth w (w.length - j) 0
    w ++ [sum32 [spread [17, 19] (back 2 / 2 ^ 10) (back 2), back 7, spread [7, 18] (back 15 / 2 ^ 3) (back 15), back 16]]) w

/-- The eight words that a round works on: the four that began as the first half of the hash, and the four of the second. -/
structure ShaWork where
  lo : List Nat
  hi : List Nat
deriving DecidableEq, Repr

/-- A round with a constant and a word of the block. Each half moves on by one place: the second half takes the word that leaves
the first half, with the round's sum added. -/
def ShaWork.round (x : ShaWork) (k w : Nat) : ShaWork :=
  let p := fun i => nth x.lo i 0
  let q := fun i => nth x.hi i 0
  let choice := q 0 &&& q 1 ||| q 2 - (q 0 &&& q 2)
  let majority := p 0 &&& p 1 ||| p 2 &&& (p 0 ||| p 1)
  let mixed := sum32 [k, w, q 3, choice, spread [6, 11, 25] 0 (q 0)]
  ⟨sum32 [mixed, majority, spread [2, 13, 22] 0 (p 0)] :: x.lo.take 3, sum32 [p 3, mixed] :: x.hi.take 3⟩

/-- The number that bytes spell, the highest first. -/
def fromBytes (l : List Nat) : Nat := l.foldl (fun v b => 256 * v + b) 0

/-- A block of 64 bytes taken into the hash. -/
def shaBlock (h b : List Nat) : List Nat :=
  let w := extendWords ((List.range 16).map (fun i => fromBytes ((b.drop (4 * i)).take 4))) 48
  let x := (firstPrimes.zip w).foldl (fun (x : ShaWork) e => x.round (rootFraction 3 e.1) e.2) ⟨h.take 4, h.drop 4⟩
  (h.zip (x.lo ++ x.hi)).map (fun e => sum32 [e.1, e.2])

/-- SHA-256 of a list of bytes. -/
def sha256 (m : List Nat) : List Nat :=
  let p := m ++ [0x80] ++ List.replicate ((119 - m.length % 64) % 64) 0 ++ beBytes 8 (8 * m.length)
  ((List.range (p.length / 64)).foldl (fun h i => shaBlock h ((p.drop (64 * i)).take 64)) shaInit).flatMap (beBytes 4)

/-- HMAC-SHA-256 with a key of at most 64 bytes. -/
def hmac256 (key m : List Nat) : List Nat :=
  let k := key ++ List.replicate (64 - key.length) 0
  sha256 (k.map (· ^^^ 0x5C) ++ sha256 (k.map (· ^^^ 0x36) ++ m))

end Sys2Proof.Machine
end

