-- ==== Sys2Proof/Machine/PdsOps.lean ====
section
/-!
DEFINITION. The operations of PDS (spec/13_parameter_dictionary_and_store.md): values of parameters as bytes, staging and
locks, commits as transactions (R358–R368, R528).
-/
namespace Sys2Proof.Machine

def State.setPds (f : Pds → Pds) (s : State) : State := { s with pds := f s.pds }
def State.pdsFlag (i : Nat) (s : State) : State := s.setFlagBit PDS_INTSTAT_FLAGS i

/-! ## Parameters as bytes -/

/-- The lowest and the highest address of the fields of a parameter. -/
def PDef.span (l : List Fld) : Nat × Nat :=
  let a := (l.headD SYS_IDENT_PART).addr
  ((l.map Fld.addr).foldl min a, (l.map Fld.addr).foldl max a)

/-- Table 13.2: the size of a fixed-size type, or the largest one; FIELDS take 8 bytes where their fields lie in two registers, and a table of
registers takes them all. -/
def PDef.size (p : PDef) : Nat :=
  match p.kind with
  | .blob max _ => max
  | .num n _ _ _ => n
  | .key _ => 32
  | .page _ => 65536
  | .cmd => 4
  | .flds l =>
    if p.typ = 12 then (PDef.span l).2 - (PDef.span l).1 + 4
    else if p.typ = 11 || 1 < l.length then (if (PDef.span l).1 = (PDef.span l).2 then 4 else 8)
    else if p.typ ≤ 2 || p.typ = 10 then 1 else if p.typ ≤ 4 then 2 else 4

/-- A double-banked TABLE (Table 13.2, R367). -/
def PDef.banked (p : PDef) : Bool := p.grp.isSome && (p.typ = 12 || match p.kind with | .blob _ _ => true | _ => false)

/-- The type is TABLE, BYTES or STRING: the value's length varies. -/
def PDef.varies (p : PDef) : Bool := match p.kind with | .blob _ _ => true | _ => false

/-- The place of a field in the packed value of a parameter of several fields, in bits. -/
def PDef.place (l : List Fld) (f : Fld) : Nat := (f.addr - (l.map Fld.addr).foldl min f.addr) * 8 + f.lo

/-- A parameter of register fields as a number, with the values that `get` gives. -/
def PDef.number (p : PDef) (get : Fld → Nat) (l : List Fld) : Nat :=
  match l with
  | [f] => if p.typ = 11 then get f * 2 ^ f.lo else if p.typ = 2 || p.typ = 4 || p.typ = 6 || p.typ = 9 then tc (8 * p.size) (sx f.wid (get f)) else get f
  | l => l.foldl (fun a f => a + get f * 2 ^ PDef.place l f) 0

/-- The bytes of a parameter: those in effect, or the staged ones. -/
def State.parBytes (s : State) (staged : Bool) (pid : Nat) (p : PDef) : List Nat :=
  match p.kind with
  | .flds l => leBytes p.size (p.number (fun f => if staged then s.stagedVal f else s.rd f) l)
  | .blob _ _ => if staged then tabGet (tabGet [] s.blobs pid) s.banks pid else tabGet [] s.blobs pid
  | .num n _ _ d => leBytes n (s.param pid d)
  | .page n => (List.range 2048).flatMap (fun k => (s.placeWords (2048 * n + k)).flatMap wordBytes)
  | .cmd | .key _ => []

/-- R368: the factory default of a parameter: the reset values of its fields. -/
def PDef.factory (p : PDef) : List Nat :=
  match p.kind with
  | .flds l => leBytes p.size (p.number Fld.rst l)
  | .num n _ _ d => leBytes n d
  | _ => []

/-- The fields of a parameter that can be written: a row of Table 14.1 that cannot be turned off has fixed ones (R403). -/
def PDef.open_ (l : List Fld) : List Fld := l.filter (fun f => f.acc != .ro)

/-- The value that bytes give a field of a parameter. -/
def PDef.fieldOf (p : PDef) (l : List Fld) (b : List Nat) (f : Fld) : Nat :=
  match l with
  | [_] => if p.typ = 11 then bits (leNat b) f.lo f.wid else leNat b % 2 ^ f.wid
  | l => bits (leNat b) (PDef.place l f) f.wid

/-- The parameter is SSBASE, which names TB0–TB7 or, as 0xF, none (Table 13.10). -/
def PDef.isSsBase (p : PDef) : Bool := match p.kind with | .num 1 0 15 15 => true | _ => false

/-- The bytes lie in the parameter's range: a numeric value fits its field, a number of PDS its limits. -/
def PDef.inRange (p : PDef) (b : List Nat) : Bool :=
  match p.kind with
  | .flds [f] =>
    if p.typ = 11 then true
    else if p.typ = 2 || p.typ = 4 || p.typ = 6 then
      let v := sx (8 * p.size) (leNat b)
      satS f.wid v = v
    else decide (leNat b < 2 ^ f.wid)
  | .num _ lo hi _ => decide (lo ≤ leNat b) && decide (leNat b ≤ hi) && !(p.isSsBase && decide (7 < leNat b) && leNat b != 15)
  | .blob _ words => !words || b.length % 4 = 0
  | _ => true

/-! ## Standstill, parties, rights -/

/-- P.12.00.001–006. -/
def State.ssBase (s : State) : Nat := s.param 0x01200001 0xF
def State.apto (s : State) : Nat := s.param 0x01200002 1000 * 1000000
def State.lockTo (s : State) : Nat := s.param 0x01200003 30 * 1000000000
def State.sessTo (s : State) : Nat := s.param 0x01200004 30 * 1000000000

/-- R360: standstill holds. -/
def State.standstill (s : State) : Bool :=
  if s.ssBase = 0xF then s.on PDS_HOSTSS_STANDSTILL
  else s.live 0x03 && s.tbSt s.ssBase = 3 && decide ((s.tb s.ssBase).since + 1000000000 ≤ s.now)

/-- A requesting party (R364): the host 0, a session by its number, Tocsin 0xFFFF; its path (R530) and its role. -/
structure Party where
  id   : Nat
  path : Nat
  role : Nat
deriving DecidableEq, Repr

def hostParty : Party := ⟨0, 0, 2⟩
def tsvParty : Party := ⟨0xFFFF, 6, 3⟩

/-- R359: a role may read a parameter; may write it. -/
def PDef.mayRead (p : PDef) (role : Nat) : Bool := decide (p.rd ≤ role)
def PDef.mayWrite (p : PDef) (role : Nat) : Bool := decide (p.wr ≤ role)

/-- The block of a PID, its domain being on; LSW's banks have domains of their own. -/
def State.pidOn (s : State) (pid : Nat) (p : PDef) : Bool :=
  match p.kind with
  | .flds (f :: _) => s.windowOn f.addr
  | _ => s.blockOn (pidSs pid)

/-! ## Staging and locks (R364) -/

def State.lockOf (s : State) (g : Grp) : Option Lock := s.pds.locks.find? (fun l => l.grp = g)

/-- Another party holds the group's lock. -/
def State.lockedFor (s : State) (g : Grp) (party : Nat) : Bool :=
  match s.lockOf g with
  | some l => l.party != party
  | none => false

/-- The staging of a group returns to the values in effect. -/
def State.unstageGrp (g : Grp) (s : State) : State :=
  let t := g.flds.foldl (fun t f => t.unstage f) s
  { t with banks := g.blobs.foldl (fun b pid => tabDel b pid) t.banks }

/-- A lock leaves, and the group's staging with it. -/
def State.unlock (g : Grp) (s : State) : State :=
  (s.setPds (fun p => { p with locks := p.locks.filter (fun l => l.grp != g) })).unstageGrp g

/-- A lock leaves with an accepted commit: what is staged stays until it applies. -/
def State.unlockKeep (g : Grp) (s : State) : State := s.setPds (fun p => { p with locks := p.locks.filter (fun l => l.grp != g) })

/-- R364: a party's write to a group: it has the lock from the first one on; Tocsin takes another party's lock. -/
def State.takeLock (g : Grp) (party : Nat) (s : State) : State :=
  let s := s.when (s.lockedFor g party) (State.unlock g)
  s.setPds (fun p => { p with locks := p.locks.filter (fun l => l.grp != g) ++ [⟨g, party, s.now⟩] })

/-- R364: the locks of a party that has gone are released. -/
def State.unlockParty (party : Nat) (s : State) : State :=
  (s.pds.locks.filter (fun l => l.party = party)).foldl (fun t l => t.unlock l.grp) s

/-- R360, R364: a host write to a locked group, or to a STANDSTILL field while moving, is ignored. -/
def State.lockIgnored (g : Grp) (s : State) : State :=
  ((s.inc PDS_LOCKIGN_COUNT).pdsFlag 5).emitSec 0x1208 0 (fun n => [g.id, n])

/-- R8, R364: a direct write of the host or of Tocsin to the staged fields of one register: what the word `w` holds for each.
An ignored write is counted once. -/
def State.stageDirect (agent : Agent) (fs : List Fld) (w : Nat) (s : State) : State :=
  let put (l : List Fld) (s : State) : State := s.each l (fun f s => s.stage f (bits w f.lo f.wid))
  match fs.head?.bind (fun f => grpAt f.addr) with
  | none => put fs s
  | some g =>
    let moving := agent = .host && !s.standstill
    let held := agent = .host && s.lockedFor g 0
    let bar := fs.filter (fun f => held || (moving && fldAtRest f))
    let ok := fs.filter (fun f => !(held || (moving && fldAtRest f)))
    let s := s.when (!bar.isEmpty) (State.lockIgnored g)
    if ok.isEmpty then s else put ok (s.takeLock g (if agent = .host then 0 else 0xFFFF))

/-! ## Reading and writing (R363, R528) -/

/-- What an operation answers: STATUS, DETAIL and its data. -/
structure Answer where
  status : Nat := 0
  detail : Nat := 0
  data   : List Nat := []
deriving DecidableEq, Repr

/-- READ and READEFF. -/
def State.parRead (s : State) (who : Party) (eff : Bool) (pid ofs len : Nat) : Answer :=
  match dictFind pid with
  | none => { status := 1 }
  | some p =>
    if !p.mayRead who.role then { status := 2 }
    else if !s.pidOn pid p then { status := 12 }
    else
      let b := s.parBytes (!eff) pid p
      if b.length < ofs || (len != 0 && b.length < ofs + len) then { status := 3 }
      else { data := if len = 0 then b.drop ofs else (b.drop ofs).take len }

/-- A value spliced into another from an offset. -/
def splice (b : List Nat) (ofs : Nat) (d : List Nat) : List Nat :=
  (b ++ List.replicate (ofs - b.length) 0).take ofs ++ d ++ b.drop (ofs + d.length)

/-- A command parameter is written: P.01.00.0F0 and 0F1 order a reset, P.11.00.0F0 clears the log (R403, R467). -/
def State.parCommand (pid v role : Nat) (s : State) : Answer × State :=
  if v != 0xA77A then ({ status := 3 }, s)
  else if pid = 0x001000F0 then ({}, { s with tsv := { s.tsv with orders := s.tsv.orders ++ [⟨2, 2, 2, 0xF, false⟩] } })
  else if pid = 0x001000F1 then ({}, { s with tsv := { s.tsv with orders := s.tsv.orders ++ [⟨1, 1, 2, 0xF, false⟩] } })
  else if s.on EVR_STAT_CLEARING then ({ status := 6 }, s)
  else ({}, s.logClear role)

/-- R367: the bank copy of a table runs. -/
def State.copyRuns (s : State) (pid : Nat) : Bool := decide (s.now < tabGet 0 s.pds.copying pid)

/-- WRITE, once the right, the domain and standstill have been looked at. -/
def State.parStore (who : Party) (pid ofs : Nat) (d : List Nat) (p : PDef) (s : State) : Answer × State :=
  let old := s.parBytes true pid p
  let new := if p.varies then splice old ofs d else (splice old ofs d).take (max p.size (ofs + d.length))
  if p.size < ofs + d.length || !p.inRange new then ({ status := 3 }, s)
  else if p.grp.isNone && s.fencing (pidSs pid) && who.id != 0xFFFF then ({ status := 13 }, s)
  else
    match p.kind with
    | .cmd => s.parCommand pid (leNat d) who.role
    | .key r => if ofs = 0 && d.length = 32 then ({}, s.setPds (fun q => { q with keys := tabPut q.keys r d })) else ({ status := 3 }, s)
    | .num _ _ _ dv => ({}, { s with params := tabSet dv s.params pid (leNat new) })
    | .page _ => ({ status := 11 }, s)
    | .blob _ _ =>
      match p.grp with
      | none => ({}, { s with blobs := tabPut s.blobs pid new })
      | some g =>
        if s.copyRuns pid then ({ status := 6 }, s)
        else ({}, let t := s.takeLock g who.id; { t with banks := tabPut t.banks pid new })
    | .flds l =>
      match p.grp with
      | none => ({}, l.foldl (fun t f => t.wr f (p.fieldOf l new f)) s)
      | some g =>
        if p.banked && s.copyRuns pid then ({ status := 6 }, s)
        else ({}, (PDef.open_ l).foldl (fun t f => t.stage f (p.fieldOf l new f)) (s.takeLock g who.id))

/-- WRITE (R364, R528). -/
def State.parWrite (who : Party) (pid ofs : Nat) (d : List Nat) (s : State) : Answer × State :=
  match dictFind pid with
  | none => ({ status := 1 }, s)
  | some p =>
    if p.wr = 4 then ({ status := 11 }, s)
    else if !p.mayWrite who.role then ({ status := 2 }, s)
    else if d.isEmpty then ({ status := 3 }, s)
    else if who.id != 0xFFFF && (match p.grp with | some g => s.lockedFor g who.id | none => false) then ({ status := 5 }, s)
    else if !s.pidOn pid p then ({ status := 12 }, s)
    else if p.still && !s.standstill then ({ status := 4 }, s)
    else s.parStore who pid ofs d p

/-- ABORT (R528). -/
def State.parAbort (who : Party) (pid : Nat) (s : State) : Answer × State :=
  match dictFind pid with
  | none => ({ status := 1 }, s)
  | some p =>
    if p.wr = 4 then ({ status := 11 }, s)
    else if !p.mayWrite who.role then ({ status := 2 }, s)
    else match p.grp with
      | none => ({}, s)
      | some g =>
        match s.lockOf g with
        | none => ({}, s)
        | some l => if l.party = who.id || who.id = 0xFFFF then ({}, s.unlock g) else ({ status := 5 }, s)

/-- The attributes of a parameter (Table 13.3). -/
def PDef.attrs (p : PDef) : Nat :=
  b2n p.grp.isSome + b2n (p.grp.isNone && p.wr != 4) * 2 + b2n p.still * 4 + b2n p.keep * 8 +
  b2n p.banked * 16 + b2n (p.wr = 4) * 32

/-- The rights of a parameter (Table 13.1): two bits per role. -/
def PDef.rights (p : PDef) : Nat :=
  (List.range 4).foldl (fun a r =>
    let x := if p.mayRead r then (if p.mayWrite r then 2 else 1) else if p.mayWrite r then 3 else 0
    a + x * 4 ^ r) 0

/-- The smallest and the largest value of a numeric parameter, in two's complement. -/
def PDef.range (p : PDef) : Nat × Nat :=
  match p.kind with
  | .num _ lo hi _ => (lo, hi)
  | .flds [f] =>
    if p.typ = 2 || p.typ = 4 || p.typ = 6 || p.typ = 9 then (tc 64 (-((2 ^ (f.wid - 1) : Nat) : Int)), 2 ^ (f.wid - 1) - 1)
    else (0, 2 ^ f.wid - 1)
  | _ => (0, 0)

/-- The OEM default of a parameter: the one of the OEM set, or the factory default. -/
def State.oemBytes (s : State) (pid : Nat) (p : PDef) : List Nat :=
  match s.pds.oem with
  | some t => tabGet p.factory t pid
  | none => p.factory

/-- INFO (Table 13.1). The layout of its data is the model's (assumption log, entry 36): PID, type, size, the range as two 64-bit
values, rights, attributes, group ID, then the two defaults, in 8 bytes each where the size is at most 8, else each after its length. -/
def State.parInfo (s : State) (who : Party) (pid : Nat) : Answer :=
  match dictFind pid with
  | none => { status := 1 }
  | some p =>
    if !p.mayRead who.role then { status := 2 }
    else
      let w (n v : Nat) : List Nat := leBytes n v
      let short (b : List Nat) : List Nat := if p.size ≤ 8 then b ++ List.replicate (8 - b.length) 0 else w 4 b.length ++ b
      { data := w 4 pid ++ w 4 p.typ ++ w 4 p.size ++ w 8 p.range.1 ++ w 8 p.range.2 ++ w 4 p.rights ++ w 4 p.attrs ++
          w 4 (match p.grp with | some g => g.id | none => 0) ++ short p.factory ++ short (s.oemBytes pid p) }

/-- LIST: up to 64 PIDs that follow a PID, each with its type; the layout is the model's (assumption log, entry 36). -/
def parList (pid : Nat) : Answer :=
  { data := ((dictAll.filter (fun e => decide (pid < e.1))).take 64).flatMap (fun e => leBytes 4 e.1 ++ leBytes 4 e.2.typ) }

/-! ## Transactions (R365, R366) -/

/-- The values of a group's snapshot. -/
def State.snapVals (s : State) (g : Grp) : List (Fld × Nat) := g.flds.map (fun f => (f, s.stagedVal f))
def State.snapBlobs (s : State) (g : Grp) : Tab (List Nat) :=
  g.blobs.foldl (fun t pid => match tabFind s.banks pid with | some b => tabPut t pid b | none => t) []

/-- A group as it is committed. -/
def State.snapGrp (s : State) (g : Grp) : TxnGrp := { grp := g, vals := s.snapVals g, blobs := s.snapBlobs g }

/-- The state with the new values of groups, as block checks see it. -/
def State.withNew (s : State) (gs : List TxnGrp) : State :=
  gs.foldl (fun t x =>
    let t := x.vals.foldl (fun t e => t.wr e.1 e.2) t
    { t with blobs := x.blobs.foldl (fun b e => tabPut b e.1 e.2) t.blobs }) s

/-- R360: the snapshot changes a STANDSTILL parameter from its value in effect. -/
def State.changesRest (s : State) (x : TxnGrp) : Bool :=
  x.grp.params.any (fun e => e.2.still &&
    (x.vals.any (fun v => e.2.flds.contains v.1 && s.rd v.1 != v.2) || x.blobs.any (fun b => b.1 = e.1 && tabGet [] s.blobs b.1 != b.2)))

/-- R366: the groups on which a group depends: its check fails where all but one of the others have their new values. -/
def State.depsOf (s : State) (gs : List TxnGrp) (x : TxnGrp) : List Grp :=
  (gs.filter (fun y => y.grp != x.grp && ((s.withNew (gs.filter (fun z => z.grp != y.grp))).rejects s x.grp).isSome)).map (·.grp)

/-- R366: the dependencies have no cycle: groups leave in turn once all that they depend on have left. -/
def depsOrdered : Nat → List TxnGrp → Bool
  | 0, gs => gs.isEmpty
  | n + 1, gs =>
    let stay := gs.filter (fun x => x.deps.any (fun d => gs.any (fun y => y.grp = d)))
    if stay.length = gs.length then gs.isEmpty else depsOrdered n stay

/-- Groups in the order of their IDs. -/
def byId (gs : List Grp) : List Grp := sortBy (fun g => (g.id : Int)) gs

/-- R365: the rejection of a group: its block's event, EV 0x1201, and the offset; an offset that only a table gives is free. -/
def State.rejected (v : State) (g : Grp) (off : Option Nat) (path : Nat) (s : State) : Nat × State :=
  let r := match off with | some o => (o, s) | none => s.takeFree 16
  (r.1, ((v.rejectEv g r.1 r.2).emit 0x1201 [g.id, r.1, path]).pdsFlag 2)

/-- The rejections of all groups that fail, in ID order; the offset of the first is DETAIL. -/
def State.rejectAll (v o : State) (path : Nat) (gs : List Grp) (s : State) : Option Nat × State :=
  gs.foldl (fun a g =>
    match v.rejects o g with
    | none => a
    | some off =>
      let r := v.rejected g off path a.2
      (some (a.1.getD r.1), r.2)) (none, s)

/-- R364: a failed commit releases the locks that its party holds on the groups it names. -/
def State.failTxn (who : Party) (gs : List Grp) (s : State) : State :=
  gs.foldl (fun t g => match t.lockOf g with | some l => if l.party = who.id then t.unlock g else t | none => t) s

/-- A transaction's number. -/
def State.nextTxn (s : State) : Nat := s.pds.nextTxn

/-- R365: an accepted transaction: snapshots, locks released, groups without dependencies handed over in ID order. -/
def State.accept (who : Party) (gs : List TxnGrp) (s : State) : State :=
  let num := s.nextTxn
  let gs := gs.map (fun x => { x with handed := if x.deps.isEmpty then s.now + 1 else 0 })
  let s := gs.foldl (fun t x => t.unlockKeep x.grp) s
  let s := s.setPds (fun p => { p with txns := p.txns ++ [⟨num, who.id, who.path, s.now, gs⟩], nextTxn := num % 0xFFFF + 1 })
  let s := s.when (who.id = 0) (fun s => (((s.wr PDS_TXSTAT_TXN num).wr PDS_TXSTAT_RES 9).wr PDS_TXSTAT_NGRP gs.length).wr PDS_TXSTAT_NWDR 0)
  s.sweep

/-- R365: the first kind of check that fails over the groups of a commit, but for the block checks. Nobody has the write right on a parameter
with RO. -/
def State.commitBars (s : State) (who : Party) (pars : List (Nat × PDef)) (gs : List Grp) : Nat :=
  if pars.any (fun e => !e.2.mayWrite who.role) then 2
  else if gs.any (fun g => s.lockedFor g who.id && who.id != 0xFFFF) then 5
  else if pars.any (fun e => e.2.grp.isSome && !s.pidOn e.1 e.2) then 12
  else if gs.any (fun g => if who.id = 0xFFFF then s.isFenced g.block else s.fencing g.block) then 13
  else if gs.any (fun g => s.changesRest (s.snapGrp g)) && !s.standstill then 4
  else 0

/-- R364: Tocsin, who commits groups that others have locked, takes their locks: what their holders staged is discarded. -/
def State.tocsinTakes (who : Party) (gs : List Grp) (s : State) : State :=
  s.when (who.id = 0xFFFF) (fun s => s.each (gs.filter (fun g => s.lockedFor g who.id)) (fun g s => s.unlock g))

/-- R365, R366: the groups of a commit become a transaction, or a check fails. -/
def State.commitGrps (who : Party) (pars : List (Nat × PDef)) (gs : List Grp) (s : State) : Answer × State :=
  let s := s.tocsinTakes who gs
  let bar := s.commitBars who pars gs
  if bar != 0 then ({ status := bar }, s.failTxn who gs)
  else
    let xs := gs.map s.snapGrp
    let v := s.withNew xs
    let r := v.rejectAll s who.path gs s
    match r.1 with
    | some off => ({ status := 7, detail := off }, r.2.failTxn who gs)
    | none =>
      let xs := xs.map (fun x => { x with deps := s.depsOf xs x })
      if !depsOrdered (xs.length + 1) xs then ({ status := 8 }, s.failTxn who gs)
      else
        let num := s.nextTxn
        let t := s.accept who xs
        if t.pds.txns.any (fun x => x.num = num) then ({ status := 9, detail := num }, t) else ({ detail := num }, t)

/-- The groups that PIDs name, each once, in ID order. -/
def grpsOf (pars : List (Nat × PDef)) : List Grp :=
  byId (pars.foldl (fun gs e => match e.2.grp with | some g => if gs.contains g then gs else gs ++ [g] | none => gs) [])

/-- COMMIT (R365, R528). -/
def State.commit (who : Party) (pids : List Nat) (s : State) : Answer × State :=
  let pars := pids.filterMap (fun p => (dictFind p).map (fun d => (p, d)))
  let gs := grpsOf pars
  if pids.isEmpty || 32 < pids.length || pids.eraseDups.length != pids.length then ({ status := 3 }, s.failTxn who gs)
  else if pars.length != pids.length then ({ status := 1 }, s.failTxn who gs)
  else if gs.isEmpty then ({}, s)
  else if 16 ≤ s.pds.txns.length then ({ status := 6 }, s.failTxn who gs)
  else s.commitGrps who (pars.filter (fun e => e.2.grp.isSome)) gs

/-- R368: RESTORE of one block: the defaults of what the role may write are staged and committed. -/
def State.restoreBlock (who : Party) (factory : Bool) (ss : Nat) (s : State) : Answer × State :=
  let pars := (dictBlock ss).filter (fun e => e.2.grp.isSome && e.2.wr != 4 && e.2.mayWrite who.role)
  let gs := grpsOf pars
  if gs.isEmpty then ({}, s)
  else if gs.any (fun g => s.lockedFor g who.id) && who.id != 0xFFFF then ({ status := 5 }, s.failTxn who gs)
  else if 16 ≤ s.pds.txns.length || pars.any (fun e => s.copyRuns e.1) then ({ status := 6 }, s.failTxn who gs)
  else
    let t := gs.foldl (fun t g => t.takeLock g who.id) s
    let t := pars.foldl (fun t e =>
      let b := if factory then e.2.factory else t.oemBytes e.1 e.2
      match e.2.kind with
      | .flds l => (PDef.open_ l).foldl (fun t f => t.stage f (e.2.fieldOf l b f)) t
      | .blob _ _ => { t with banks := tabPut t.banks e.1 b }
      | _ => t) t
    t.commitGrps who pars gs

/-- RESTORE (R368): one transaction per block; LIVE parameters take their defaults at once (a STANDSTILL one
while standstill holds). The answer is the first failure, else PENDING
with the last transaction that waits, else DONE (assumption log, entry 37). -/
def State.restore (who : Party) (ofs : Nat) (s : State) : Answer × State :=
  if 1 < ofs then ({ status := 3 }, s)
  else
    let s := (dictAll.filter (fun e => e.2.grp.isNone && e.2.wr != 4 && e.2.mayWrite who.role && s.pidOn e.1 e.2 && !s.isFenced (pidSs e.1) && (!e.2.still || s.standstill))).foldl
      (fun t e =>
        let b := if ofs = 1 then e.2.factory else t.oemBytes e.1 e.2
        match e.2.kind with
        | .flds l => l.foldl (fun t f => t.wr f (e.2.fieldOf l b f)) t
        | .num _ _ _ d => { t with params := tabSet d t.params e.1 (leNat b) }
        | .blob _ _ => { t with blobs := tabPut t.blobs e.1 b }
        | _ => t) s
    dictBlocks.foldl (fun a ss =>
      let r := State.restoreBlock who (ofs = 1) ss a.2
      let fails (x : Nat) : Bool := x != 0 && x != 9
      (if fails a.1.status then a.1 else if fails r.1.status then r.1 else if r.1.status = 9 then r.1 else a.1, r.2)) ({}, s)

/-- R395: the value in effect of a field: the one that PDS keeps, where the field's block has been reset and has not been given it back yet. -/
def State.effVal (s : State) (f : Fld) : Nat :=
  match s.pds.keep.findSome? (fun x => (x.vals.find? (fun v => v.1 = f)).map (·.2)) with
  | some v => v
  | none => ((s.pds.keepLive.find? (fun v => v.1 = f)).map (·.2)).getD (s.rd f)

/-- R395: the table in effect, as a field's value is. -/
def State.effBlob (s : State) (pid : Nat) : List Nat :=
  match s.pds.keep.findSome? (fun x => tabFind x.blobs pid) with
  | some b => b
  | none => tabGet [] s.blobs pid

/-- The bytes in effect of a parameter, its block being off or not. -/
def State.effBytes (s : State) (pid : Nat) (p : PDef) : List Nat :=
  match p.kind with
  | .flds l => leBytes p.size (p.number s.effVal l)
  | .blob _ _ => s.effBlob pid
  | _ => s.parBytes false pid p

/-- The PERSIST parameters with their bytes in effect, in PID order (R369). -/
def State.persistent (s : State) : Tab (List Nat) :=
  (dictAll.filter (fun e => e.2.keep && (match e.2.kind with | .flds _ | .blob _ _ | .num _ _ _ _ => true | _ => false))).map
    (fun e => (e.1, s.effBytes e.1 e.2))

/-- SAVEDEF (R363). -/
def State.saveDef (who : Party) (s : State) : Answer × State :=
  if who.role < 2 then ({ status := 2 }, s) else ({}, s.setPds (fun p => { p with oem := some s.persistent }))

/-! ## Hand-over and withdrawal (R365, R366) -/

/-- A withdrawn group's snapshot is discarded: what is still staged of it returns to the values in effect. -/
def State.discardSnap (x : TxnGrp) (s : State) : State :=
  let t := x.vals.foldl (fun t e => t.when (t.stagedVal e.1 = e.2 && (t.lockOf x.grp).isNone) (State.unstage e.1)) s
  { t with banks := x.blobs.foldl (fun b e => if tabFind b e.1 = some e.2 then tabDel b e.1 else b) t.banks }

/-- The waiting groups for which `sel` holds are withdrawn, and transactions end. -/
def State.withdraw (sel : Txn → TxnGrp → Bool) (s : State) : State :=
  let gone (t : Txn) (x : TxnGrp) : Bool := x.done = 0 && sel t x
  let s' := s.pds.txns.foldl (fun a t => (t.groups.filter (gone t)).foldl (fun a x => a.discardSnap x) a) s
  (s'.setPds (fun p => { p with txns := p.txns.map (fun t => { t with groups := t.groups.map (fun x =>
    if gone t x then { x with done := 2, doneAt := s.now } else x) }) })).endTxns

/-- R366: a group all of whose dependencies have applied is handed over; one that finds no standstill is withdrawn (R360). -/
def State.handOver (s : State) : State :=
  let ready (t : Txn) (x : TxnGrp) : Bool :=
    x.handed = 0 && x.done = 0 && x.deps.all (fun d => t.groups.any (fun y => y.grp = d && y.done = 1))
  let s := s.withdraw (fun t x => ready t x && s.changesRest x && !s.standstill)
  let one (t : Txn) (x : TxnGrp) : TxnGrp := if ready t x then { x with handed := s.now + 1 } else x
  (s.setPds (fun p => { p with txns := p.txns.map (fun t => { t with groups := t.groups.map (one t) }) })).sweep

/-! ## Resets of blocks (R395) -/

/-- R395: a block is reset: the values in effect are kept (what is kept from a reset before and was not committed yet stays), its locks
released, its waiting groups withdrawn. -/
def State.pdsReset (b : Nat) (s : State) : State :=
  let kept := (dictGroups b).map (fun g =>
    { grp := g, vals := g.flds.map (fun f => (f, s.rd f)),
      blobs := g.blobs.filterMap (fun pid => (tabFind s.blobs pid).map (fun x => (pid, x))) : TxnGrp })
  let kept := if (s.pds.keep ++ s.pds.late).any (fun x => x.grp.block = b) then [] else kept
  let live := (dictBlock b).flatMap (fun e => if e.2.grp.isNone && e.2.wr != 4 then (e.2.flds.map (fun f => (f, s.rd f))).filter (fun x => x.2 != x.1.rst) else [])
  let live := if s.pds.keepLive.any (fun x => addrBlock x.1.addr = b) then [] else live
  let s := s.setPds (fun p => { p with keep := p.keep ++ kept, keepLive := p.keepLive ++ live })
  let locks := s.pds.locks.filter (fun l => l.grp.block = b)
  let s := locks.foldl (fun t l => (t.unlock l.grp).emit 0x1209 [l.grp.id, l.party]) s
  s.withdraw (fun _ x => x.grp.block = b)

end Sys2Proof.Machine
end

