-- ==== Sys2Proof/Machine/PdsStore.lean ====
section
/-!
DEFINITION. The store in NVM, the load at start-up, remote sessions and the messages of PDS
(spec/13_parameter_dictionary_and_store.md, R361–R363, R369–R372, R529; R484 for the Yulis tunnel).
-/
namespace Sys2Proof.Machine

/-! ## Answers to requests -/

/-- The response to a message. -/
def Answer.msg (a : Answer) (m : DictMsg) : DictMsg :=
  { m with status := a.status, detail := a.detail, len := a.data.length, data := a.data }

/-- Table 13.6: a message as bytes. -/
def dictBytes (m : DictMsg) : List Nat :=
  [m.role % 256, m.status % 256, m.op % 256, 1] ++ leBytes 2 m.seq ++ leBytes 2 m.sess ++ leBytes 4 m.pid ++ leBytes 4 m.ofs ++
  leBytes 2 m.detail ++ leBytes 2 m.len ++ m.data

/-- Bytes as a message; none where VER is not 1 or the data is not whole. -/
def dictParse (b : List Nat) : Option DictMsg :=
  let w (o n : Nat) : Nat := leNat ((b.drop o).take n)
  if b.length < 20 || w 3 1 != 1 || b.length < 20 + w 18 2 then none
  else some { op := w 2 1, status := w 1 1, role := w 0 1, seq := w 4 2, sess := w 6 2, pid := w 8 4, ofs := w 12 4,
              detail := w 16 2, len := w 18 2, data := (b.drop 20).take (w 18 2) }

/-- A response goes to a remote client, and is kept for a repetition (R363), as the bytes of Table 13.6: over CAN to the client's address, a
client there being 256 times the controller plus the address; over Yulis back to the node; the frames of the other carriers are not the module's
(assumption log, entry 38). -/
def State.reply (path client : Nat) (m : DictMsg) (s : State) : State :=
  let r : PdsReply := ⟨path, client, m⟩
  let s := s.setPds (fun p =>
    { p with out := some r, outBytes := dictBytes m, replies := p.replies.filter (fun x => !(x.path = path && x.client = client)) ++ [r] })
  (s.when (path = 4) (State.yulSend client (dictBytes m))).when (path = 1) (State.canDictOut (client / 256) (client % 256) (dictBytes m))

/-- R363: the response given before to the same SEQ of a client. -/
def State.repeated (s : State) (path client : Nat) (m : DictMsg) : Option PdsReply :=
  s.pds.replies.find? (fun x => x.path = path && x.client = client && x.msg.seq = m.seq)

/-- A STORE of this client and SEQ is still awaited. -/
def State.awaited (s : State) (path client : Nat) (m : DictMsg) : Bool :=
  (s.pds.waits ++ s.pds.queued).any (fun w => w.path = path && w.client = client && w.msg.seq = m.seq && path != 0)

/-- A host mailbox takes a result: its data goes to the short value, or to LPDDR5 at ADDR. -/
def State.hostResult (k op len : Nat) (a : Answer) (s : State) : State :=
  let s := ((s.wr (PDS_HRES_BUSY k) 0).wr (PDS_HRES_STATUS k) a.status).wr (PDS_HRES_DETAIL k) a.detail
  if a.status != 0 || !(op = 1 || op = 2 || op = 7 || op = 12) then s
  else if (op = 1 || op = 2) && len != 0 && decide (len ≤ 4) then s.wr (PDS_HDATA_DATA k) (leNat a.data)
  else s.stBytes (s.rd (PDS_HADDR_ADDR k)) a.data

/-! ## The store (R369–R371, R529) -/

/-- The parties that wait for a store get its result. -/
def State.answerWaits (ws : List StoreWait) (a : Answer) (s : State) : State :=
  ws.foldl (fun t w => if w.path = 0 then t.hostResult w.client 6 0 a else t.reply w.path w.client (a.msg w.msg)) s

/-- A store begins: it asks for the lease. -/
def State.storeBegin (ws : List StoreWait) (s : State) : State :=
  let begun (p : Pds) : Pds :=
    { p with
      bank := !s.on PDS_STAT_LBANK, leaseAt := s.now, startAt := s.now, waits := ws, queued := [],
      revoked := 0, rewrote := false, started := false }
  ((s.setPds begun).wr PDS_STAT_STSTATE 1).requestLease 0 0x12

/-- A queued store begins once the store before it has ended. -/
def State.storeNext (s : State) : State :=
  if s.pds.queued.isEmpty then s else s.storeBegin s.pds.queued

/-- The bank that the store writes. -/
def State.setBank (b : NvBank) (s : State) : State := s.setPds (fun p => if p.bank then { p with bankB := b } else { p with bankA := b })

/-- PDS_SEQA, PDS_SEQB and PDS_BANKST show the banks. -/
def State.showBanks (s : State) : State :=
  (((s.wr PDS_SEQA_SEQ s.pds.bankA.seq).wr PDS_SEQB_SEQ s.pds.bankB.seq).wr PDS_BANKST_VALIDA (b2n s.pds.bankA.good)).wr
    PDS_BANKST_VALIDB (b2n s.pds.bankB.good)

/-- A store ends FAILED with a cause. -/
def State.storeFail (cause : Nat) (s : State) : State :=
  let ws := s.pds.waits
  let s := (((s.wr PDS_STAT_STSTATE 0).setPds (fun p => { p with waits := [], started := false, snap := [] })).returnLease 0 0x12).showBanks
  (((s.pdsFlag 4).emit 0x1204 [cause]).answerWaits ws { status := 15, detail := cause }).storeNext

/-- R369: a record's bytes: the PID, the length, the value padded to words. -/
def recBytes (e : Nat × List Nat) : List Nat :=
  leBytes 4 e.1 ++ leBytes 4 e.2.length ++ e.2 ++ List.replicate ((4 - e.2.length % 4) % 4) 0

/-- Table 13.8: a bank with its header, CRC apart. -/
def NvBank.header (b : NvBank) : List Nat :=
  leBytes 4 (b.fmt * 65536) ++ leBytes 4 b.seq ++ leBytes 4 b.len ++ leBytes 4 b.count ++ leBytes 4 0

/-- R369: the bank that a store writes: format 1, its records and their CRC. -/
def storeBank (seq : Nat) (recs : Tab (List Nat)) : NvBank :=
  let body := recs.flatMap recBytes
  let b : NvBank := { good := false, erased := false, seq := seq, records := recs, fmt := 1, len := body.length, count := recs.length }
  { b with crc := crc32 (b.header ++ body) }

/-- R369: the new sequence number. -/
def seqNewer (a b : Nat) : Bool := decide (0 < phaseDiff a b)
def State.storeSeq (s : State) : Nat :=
  let a := s.pds.bankA
  let b := s.pds.bankB
  if !a.good && !b.good then 1
  else if a.good && (!b.good || !seqNewer b.seq a.seq) then (a.seq + 1) % 2 ^ 32 else (b.seq + 1) % 2 ^ 32

/-- The lease is granted: with its first grant the store has started (R371), and its records are the values in effect as they stand then
(R369). The bank is being written and is not valid until it has been verified. -/
def State.storeGrant (s : State) : State :=
  if s.rd PDS_STAT_STSTATE = 1 && s.holds 0 0x12 then
    let seq := if !s.pds.started then s.storeSeq else if s.pds.bank then s.pds.bankB.seq else s.pds.bankA.seq
    let snap := if !s.pds.started then s.persistent else s.pds.snap
    ((s.setPds (fun p => { p with started := true, snap := snap })).setBank (storeBank seq snap)).showBanks.wr PDS_STAT_STSTATE 2
  else s

/-- R370: verification passes. -/
def State.storeDone (s : State) : State :=
  let ws := s.pds.waits
  let k := s.pds.bank
  let b := if k then s.pds.bankB else s.pds.bankA
  let hold := s.pds.holdup
  let ms := (s.now - s.pds.startAt) / 1000000
  let s := (((s.setBank { b with good := true }).wr PDS_STAT_STSTATE 0).wr PDS_STAT_LBANK (b2n k)).inc PDS_STCNT_COUNT
  let s := ((s.setPds (fun p => { p with waits := [], started := false, snap := [], holdup := false })).returnLease 0 0x12).showBanks
  let s := (s.pdsFlag 3).emit 0x1203 [b2n k, b.seq, ms]
  ((s.when hold (State.emit 0x120A [b2n k, b.seq])).answerWaits ws {}).storeNext

/-- The bank being written. -/
def State.storeNow (s : State) : NvBank := if s.pds.bank then s.pds.bankB else s.pds.bankA

/-- R370: the bank read back has a good CRC, or has not; records of more than 3 MiB do not fit it (R369), and an
uncorrectable error in it fails the check (R376). -/
def State.storeVerify (good : Bool) (s : State) : State :=
  if !(s.rd PDS_STAT_STSTATE = 3 && s.holds 0 0x12) then s
  else if good && !s.storeNow.spoilt && decide (s.storeNow.len ≤ 3145728) then s.storeDone
  else if !s.pds.rewrote then (s.setPds (fun p => { p with rewrote := true })).wr PDS_STAT_STSTATE 2
  else s.storeFail 2

/-- R529: the lease was revoked in WRITE or VERIFY. -/
def State.storeRevoked (s : State) : State :=
  let st := s.rd PDS_STAT_STSTATE
  if !((st = 2 || st = 3) && !s.holds 0 0x12) then s
  else if s.pds.revoked != 0 then s.storeFail 1
  else ((s.setPds (fun p => { p with revoked := 1, leaseAt := s.now })).wr PDS_STAT_STSTATE 1).requestLease 0 0x12

/-- R371: at a supply loss a store that has started completes on hold-up energy; one that has not is abandoned.
A store whose lease has just been granted has started. -/
def State.storeHoldup (s : State) : State :=
  let s := s.storeGrant
  if s.pds.started then s.setPds (fun p => { p with holdup := true, queued := [] })
  else ((s.setPds (fun p => { p with waits := [], queued := [] })).wr PDS_STAT_STSTATE 0).returnLease 0 0x12

/-- STORE (R369, R370): it starts, or is queued. -/
def State.storeAsk (w : StoreWait) (s : State) : State :=
  if s.rd PDS_STAT_STSTATE = 0 then s.storeBegin [w] else s.setPds (fun p => { p with queued := p.queued ++ [w] })

/-! ## Sessions (R362) -/

/-- The session of a message. -/
def State.sessOf (s : State) (path client : Nat) (m : DictMsg) : Option PdsSess :=
  s.pds.sess.find? (fun x => x.num = m.sess && x.path = path && x.client = client)

/-- The party that a message comes from. -/
def State.partyOf (s : State) (path client : Nat) (m : DictMsg) : Option Party :=
  if path = 0 then some hostParty
  else if path = 6 then some tsvParty
  else (s.sessOf path client m).bind (fun x => x.role.map (fun r => ⟨x.num, path, r⟩))

/-- A message keeps its session. -/
def State.touch (path client : Nat) (m : DictMsg) (s : State) : State :=
  s.setPds (fun p => { p with sess := p.sess.map (fun x => if x.num = m.sess && x.path = path && x.client = client then { x with at_ := s.now } else x) })

/-- R362: a failed login; the third within 60 s blocks the path. -/
def State.loginFailed (path role : Nat) (s : State) : State :=
  let l := (tabGet [] s.pds.fails path).filter (fun t => decide (s.now < t + 60000000000)) ++ [s.now]
  if l.length < 3 then s.setPds (fun p => { p with fails := tabSet [] p.fails path l })
  else ((s.setPds (fun p => { p with fails := tabSet [] p.fails path [], blocked := tabPut p.blocked path (s.now + 60000000000) })).pdsFlag 6).emit
    0x1207 [path, role]

/-- A session number that no open session has, from `num` on. -/
def Pds.freeSess (p : Pds) : Nat → Nat → Nat
  | 0, num => num
  | fuel + 1, num => if p.sess.any (fun x => x.num = num) then p.freeSess fuel (num % 0xFFFE + 1) else num

/-- R362: the first LOGIN opens a session with a nonce of free bytes; Operator needs no key. -/
def State.loginOpen (path client : Nat) (m : DictMsg) (s : State) : Answer × State :=
  if 8 ≤ s.pds.sess.length then ({ status := 6 }, s)
  else
    let r := s.takeFrees 8 16
    let num := r.2.pds.freeSess 9 r.2.pds.nextSess
    let x : PdsSess := ⟨num, path, client, if m.role = 0 then some 0 else none, m.role, r.1, s.now⟩
    ({ detail := num, data := r.1 }, r.2.setPds (fun p => { p with sess := p.sess ++ [x], nextSess := num % 0xFFFE + 1 }))

/-- R362: the second LOGIN proves the key of the role. -/
def State.loginProve (path : Nat) (x : PdsSess) (m : DictMsg) (s : State) : Answer × State :=
  let want := (hmac256 (tabGet [] s.pds.keys x.want) (x.nonce ++ [x.want] ++ leBytes 2 x.num)).take 16
  if (tabFind s.pds.keys x.want).isSome && m.data = want then
    ({}, s.setPds (fun p => { p with sess := p.sess.map (fun y => if y.num = x.num then { y with role := some x.want } else y) }))
  else
    ({ status := 14 }, (s.setPds (fun p => { p with sess := p.sess.filter (fun y => y.num != x.num) })).loginFailed path x.want)

/-- LOGIN: blocked paths and a Factory login elsewhere than on USB-C are refused. -/
def State.login (path client : Nat) (m : DictMsg) (s : State) : Answer × State :=
  if s.now < tabGet 0 s.pds.blocked path then ({ status := 14 }, s)
  else if m.data.isEmpty then
    if 3 < m.role then ({ status := 3 }, s)
    else if m.role = 3 && path != 3 then ({ status := 14 }, s.loginFailed path m.role)
    else s.loginOpen path client m
  else match s.sessOf path client m with
    | some x => if x.role.isNone then s.loginProve path x m else if x.want = 0 then ({}, s) else ({ status := 14 }, s.loginFailed path m.role)
    | none => ({ status := 14 }, s.loginFailed path m.role)

/-- A session ends; the locks it holds are released. -/
def State.endSess (num : Nat) (s : State) : State :=
  (s.setPds (fun p => { p with sess := p.sess.filter (fun x => x.num != num) })).unlockParty num

/-! ## Requests -/

/-- The PIDs that a COMMIT names. -/
def State.commitPids (s : State) (path k : Nat) (m : DictMsg) : List Nat :=
  if path = 0 then (List.range (min m.len 33)).map (fun i => s.ldw (s.rd (PDS_HADDR_ADDR k) + 4 * i))
  else (List.range (m.data.length / 4)).map (fun i => leNat ((m.data.drop (4 * i)).take 4))

/-- A read's answer as a message can carry it: at most 1,024 bytes. -/
def Answer.fit (path len : Nat) (a : Answer) : Answer :=
  if path = 0 then a else if len = 0 then { a with data := a.data.take 1024 } else if 1024 < len then { status := 3 } else a

/-- An operation other than STORE, LOGIN and LOGOUT, carried out for a party (R363). -/
def State.perform (who : Party) (op k : Nat) (m : DictMsg) (s : State) : Answer × State :=
  match op with
  | 1 => ((s.parRead who false m.pid m.ofs m.len).fit who.path m.len, s)
  | 2 => ((s.parRead who true m.pid m.ofs m.len).fit who.path m.len, s)
  | 3 => if m.data.length != m.len || (who.path != 0 && decide (1024 < m.len)) then ({ status := 3 }, s) else s.parWrite who m.pid m.ofs m.data
  | 4 => s.commit who (s.commitPids who.path k m)
  | 5 => s.parAbort who m.pid
  | 7 => ((s.parInfo who m.pid).fit who.path 0, s)
  | 8 => s.restore who m.ofs
  | 9 => s.saveDef who
  | 12 => (parList m.pid, s)
  | _ => ({ status := 3 }, s)

/-- The message that a host mailbox stands for. -/
def State.hostMsg (s : State) (k op : Nat) : DictMsg :=
  let len := s.rd (PDS_HLEN_LEN k)
  { op := op, pid := s.rd (PDS_HPID_PID k), ofs := s.rd (PDS_HOFS_OFS k), len := len,
    data := if op != 3 then [] else if len ≤ 4 then leBytes len (s.rd (PDS_HDATA_DATA k)) else s.ldBytes (s.rd (PDS_HADDR_ADDR k)) (min len 0x100001) }

/-- An operation written to a host mailbox; LOGIN, LOGOUT and unknown codes are ignored, as a write while BUSY is. -/
def State.hostOp (op k : Nat) (s : State) : State :=
  let m := s.hostMsg k op
  if s.on (PDS_HRES_BUSY k) || op = 10 || op = 11 || op = 0 || 12 < op then s
  else if op = 6 then (s.wr (PDS_HRES_BUSY k) 1).storeAsk ⟨0, k, m⟩
  else
    let r := s.perform hostParty op k m
    r.2.hostResult k op m.len r.1

/-- A message of a remote client, or of Tocsin. -/
def State.remoteOp (op path client : Nat) (m : DictMsg) (s : State) : State :=
  let s := s.touch path client m
  if s.awaited path client m then s
  else match if path = 6 then none else s.repeated path client m with
    | some r => s.reply path client r.msg
    | none =>
      if op = 10 && path != 6 then
        let r := s.login path client m
        r.2.reply path client { r.1.msg m with sess := if m.data.isEmpty then r.1.detail else m.sess }
      else if op = 0 || 12 < op then s.reply path client (Answer.msg { status := 3 } m)
      else if op = 11 && (s.sessOf path client m).isSome then (s.endSess m.sess).reply path client (Answer.msg {} m)
      else match s.partyOf path client m with
        | none => s.reply path client (Answer.msg { status := 14 } m)
        | some who =>
          if op = 11 then s.reply path client (Answer.msg {} m)
          else if op = 6 then s.storeAsk ⟨path, client, m⟩
          else
            let r := s.perform who op 0 m
            r.2.reply path client (r.1.msg m)

/-- R484: a gateway forwards a message to the node that its port names, and awaits the response. -/
def State.forward (node client : Nat) (m : DictMsg) (s : State) : State :=
  (s.setPds (fun p => { p with fwd := p.fwd ++ [(node, client, m.seq)] })).yulSend node (dictBytes m)

/-- Table 13.4: a path carries messages. CAN: controller `k` receives, ISOEN is set, the controller's bit of DICTCAN is set and its address is
claimed (R338), for a client there; UDP: the message is for port `k`, DPORT, and the host port is on and a member of a VLAN; the service
connector: the same port; Yulis: the link acts. -/
def State.pathOpen (s : State) (path k client : Nat) : Bool :=
  let port := k = s.param 0x01200006 19560
  match path with
  | 0 => true
  | 1 => decide (k < 6) && client / 256 = k && s.blockOn 0x0C && s.on (CAN_CTL_EN k) && s.on (CAN_CTL_ISOEN k) && s.canEst k != 2 &&
      s.rd (CAN_ISOADDR_CSTATE k) = 2 && bit (s.param 0x01200005 3) k
  | 2 => port && s.blockOn 0x0D && s.on (ETH_PCTL_EN 6) && (List.range 16).any (fun v => s.on (ETH_VLAN_VALID v) && bit (s.rd (ETH_VLAN_MEMBER v)) 6)
  | 3 => port
  | 4 => s.blockOn 0x13
  | 6 => true
  | _ => false

/-- A request on a path (Table 13.4). Requests need AON, which is on whenever the module runs. -/
def State.request (op path k client : Nat) (node : Option Nat) (m : DictMsg) (s : State) : State :=
  if !s.domOn 1 || !s.pathOpen path k client then s
  else match node with
    | some n =>
      if path = 0 || path = 6 then s
      else if n = s.yul.id then s.remoteOp op path client { m with op := op }
      else s.when (s.live 0x13) (State.forward n client m)
    | none =>
      if path = 0 then
        s.hostWrite (PDS_HGO_OP k).addr (State.hostOp op (k % 4))
      else s.remoteOp op path client { m with op := op }

/-- R361: a message from an address on a CAN bus is a request. -/
def State.fromCan (n sa : Nat) (b : List Nat) (s : State) : State :=
  match dictParse b with
  | none => s
  | some m => s.request m.op 1 n (256 * n + sa) none m

/-- R484: a message from a node is the response that a gateway awaits, or a request. -/
def State.fromNode (node : Nat) (b : List Nat) (s : State) : State :=
  match dictParse b with
  | none => s
  | some m =>
    match s.pds.fwd.find? (fun e => e.1 = node && e.2.2 = m.seq) with
    | some e => s.setPds (fun p => { p with fwd := p.fwd.erase e, out := some ⟨2, e.2.1, m⟩ })
    | none => s.request m.op 4 0 node none m

/-! ## The load at start-up (R372) -/

/-- What PDS loads: 0 a bank, 1 the OEM defaults, 2 the factory defaults; the bank. -/
def State.loadSrc (s : State) : Nat × Bool × Tab (List Nat) :=
  let a := s.pds.bankA
  let b := s.pds.bankB
  if a.good && (!b.good || !seqNewer b.seq a.seq) then (0, false, a.records)
  else if b.good then (0, true, b.records)
  else (if s.pds.oem.isSome then 1 else 2, s.on PDS_STAT_LBANK, [])

/-- A record fits its parameter. -/
def PDef.fits (p : PDef) (b : List Nat) : Bool :=
  match p.kind with
  | .blob max words => decide (b.length ≤ max) && (!words || b.length % 4 = 0)
  | _ => if p.typ = 12 then decide (b.length ≤ p.size) && b.length % 4 = 0 else b.length = p.size

/-- The value that a parameter is loaded with: `how` 0 the source's, 1 the OEM default, 2 the factory default. What a short record of a table
of registers leaves out keeps its factory default. -/
def State.loadVal (s : State) (recs : Tab (List Nat)) (how pid : Nat) (p : PDef) : List Nat :=
  match how, tabFind recs pid with
  | 0, some b => if p.fits b then b ++ p.factory.drop b.length else s.oemBytes pid p
  | 2, _ => p.factory
  | _, _ => s.oemBytes pid p

/-- A group as it is loaded. -/
def State.loadGrp (s : State) (recs : Tab (List Nat)) (how : Nat) (g : Grp) : TxnGrp :=
  let ps := g.params.filter (fun e => e.2.keep)
  { grp := g,
    vals := ps.flatMap (fun e => (PDef.open_ e.2.flds).map (fun f => (f, e.2.fieldOf e.2.flds (s.loadVal recs how e.1 e.2) f))),
    blobs := ps.filterMap (fun e => if e.2.isBlob then some (e.1, s.loadVal recs how e.1 e.2) else none) }

/-- The groups whose checks fail among those to be loaded. -/
def State.loadBad (s : State) (xs : List TxnGrp) (among : List Grp) : List (Grp × Option Nat) :=
  let v := s.withNew xs
  among.filterMap (fun g => (v.rejects s g).map (fun o => (g, o)))

/-- Rejected groups are reported and take other values: the OEM or the factory defaults. -/
def State.loadAgain (how : Nat) (a : List TxnGrp × List Grp × State) : List TxnGrp × List Grp × State :=
  let bad := a.2.2.loadBad a.1 a.2.1
  let v := a.2.2.withNew a.1
  let s := bad.foldl (fun t e => (v.rejected e.1 e.2 5 t).2) a.2.2
  let gs := bad.map (·.1)
  (a.1.map (fun x => if gs.contains x.grp then s.loadGrp [] how x.grp else x), gs, s)

/-- A loaded group applies at its commit, whether its values differ from those in effect or not: PARREV of a vision context advances
with it (R138). -/
def State.loadApply (x : TxnGrp) (s : State) : State :=
  if x.vals.isEmpty && x.blobs.isEmpty then s else s.applyGrp 0 x (fun _ => true) true

/-- A parameter without a group is loaded; one of a block that is off when the block is back. -/
def State.loadLive (recs : Tab (List Nat)) (e : Nat × PDef) (s : State) : State :=
  let b := s.loadVal recs 0 e.1 e.2
  match e.2.kind with
  | .flds l =>
    if s.pidOn e.1 e.2 then l.foldl (fun t f => t.wr f (e.2.fieldOf l b f)) s
    else s.setPds (fun p => { p with keepLive := p.keepLive ++ l.map (fun f => (f, e.2.fieldOf l b f)) })
  | .num _ _ _ d => { s with params := tabSet d s.params e.1 (leNat b) }
  | .blob _ _ => { s with blobs := tabPut s.blobs e.1 b }
  | _ => s

/-- Events of the load: invalid banks, records that are skipped. -/
def State.loadEvents (recs : Tab (List Nat)) (s : State) : State :=
  let s := s.when (!s.pds.bankA.good && !s.pds.bankA.erased) (State.emit 0x1205 [0])
  let s := s.when (!s.pds.bankB.good && !s.pds.bankB.erased) (State.emit 0x1205 [0])
  let bad := recs.filter (fun e => match dictFind e.1 with | some p => !(p.keep && p.fits e.2) | none => true)
  bad.foldl (fun t e => t.emit 0x1205 [e.1]) s

/-- The groups that a block still rejects are reported and left out; the others apply. -/
def State.loadSet (a : List TxnGrp × List Grp × State) : State :=
  let bad := a.2.2.loadBad a.1 a.2.1
  let v := a.2.2.withNew a.1
  let s := bad.foldl (fun t e => (v.rejected e.1 e.2 5 t).2) a.2.2
  (a.1.filter (fun x => !bad.any (fun e => e.1 = x.grp))).foldl (fun t x => t.loadApply x) s

/-- R372: groups are committed at the load: what a block rejects takes its OEM defaults, then its factory defaults. -/
def State.loadCommit (xs : List TxnGrp) (s : State) : State :=
  State.loadSet (State.loadAgain 2 (State.loadAgain 1 (xs, xs.map (·.grp), s)))

/-- R395: PDS commits anew what was in effect before a block was reset, and what the load could not commit to it yet (R372). The block being newly
reset, it applies at the commit, and as at the load no standstill is asked for (assumption log, entry 37). -/
def State.recommit (b : Nat) (s : State) : State :=
  let s := s.each (s.pds.keepLive.filter (fun x => addrBlock x.1.addr = b)) (fun x s => s.wr x.1 x.2)
  let kept := s.pds.keep.filter (fun x => x.grp.block = b)
  let late := s.pds.late.filter (fun x => x.grp.block = b)
  let s := s.setPds (fun p => { p with
    keepLive := p.keepLive.filter (fun x => addrBlock x.1.addr != b),
    keep := p.keep.filter (fun x => x.grp.block != b), late := p.late.filter (fun x => x.grp.block != b) })
  (State.loadSet (kept, kept.map (·.grp), s)).loadCommit late

/-- R372: PDS loads and commits every group; a group whose domain is off or whose block is fenced follows when the block is back. -/
def State.loadParams (s : State) : State :=
  let src := s.loadSrc
  let recs := src.2.2
  let s := (((s.loadEvents recs).wr PDS_STAT_LOADSRC src.1).wr PDS_STAT_LBANK (b2n src.2.1)).showBanks
  let s := (s.when (src.1 != 0) (State.emit 0x1206 [src.1])).setPds (fun p => { p with keepLive := [] })
  let s := (dictAll.filter (fun e => e.2.grp.isNone && e.2.keep && e.2.wr != 4)).foldl (fun t e => t.loadLive recs e) s
  let now_ (g : Grp) : Bool := g.params.all (fun e => s.pidOn e.1 e.2) && !s.isFenced g.block
  let gs := dictBlocks.flatMap dictGroups
  let late := (gs.filter (fun g => !now_ g)).map (s.loadGrp recs 0)
  (s.setPds (fun p => { p with loadDone := true, keep := [], late := late })).loadCommit
    ((gs.filter now_).map (s.loadGrp recs 0))

end Sys2Proof.Machine
end

