-- ==== Sys2Proof/Machine/Fence.lean ====
section
/-!
DEFINITION. Revoking leases (spec/14_safety_supervision_and_reset.md, R398, R399), fences (R19, R526 and the block chapters),
the reset of a block and the loss of a domain (R27, R393, R395).
-/
namespace Sys2Proof.Machine

/-! ## Revocation -/

/-- Table 14.4: what a holder loses at a revocation: EVR's record is cut. SOL's converter stops within 10 µs (R213), by the command
BOOST_LEASE_REVOKED. -/
def State.leaseLost (r h : Nat) (s : State) : State :=
  if r = 0 && h = 0x11 then s.evrCut
  else s

/-- R398: a held lease is revoked and its rollback begins; under cause 1 the holder is barred; under cause 5 the recovering party is
served first (R399). -/
def State.revokeLease (r cause : Nat) (party : Option Nat) (s : State) : State :=
  let l := s.lease r
  if l.state != 1 then s
  else
    let s := s.leaseLost r l.owner
    let s := s.setLease r { l with
      state := 2, since := s.now, expiry := 0, revokes := incSat 16 l.revokes,
      recover := if cause = 5 then party else l.recover }
    let s := ((s.setFlagBit TSV_INTSTAT_FLAGS 4).emit 0x0108 [r, l.owner, cause]).when (cause = 1) (State.barHolder l.owner)
    s.when (r = 0 && l.owner = 0x11) State.evrAsk

/-- R398: the rollback is complete: the lease is FREE and the next request is served. -/
def State.rollbackDone (r : Nat) (s : State) : State :=
  let l := s.lease r
  if l.state != 2 then s
  else ((s.setLease r { l with state := 0, owner := 0xFF }).emit 0x0109 [r, (s.now - l.since) / 1000]).serveLease r

/-- R398, cause 2: the leases that a block holds are revoked, but the NVM lease of a store that completes on hold-up energy, unless PDS itself has
failed and is fenced. -/
def State.revokeOf (b : Nat) (s : State) : State :=
  s.each (List.range 5) (fun r s => if s.holds r b && !(r = 0 && b = 0x12 && s.pds.holdup && !s.isFenced 0x12) then s.revokeLease r 2 none else s)

/-- The requests of a block that has been reset are gone, and it is barred no longer (R398). -/
def State.forgetHolder (b : Nat) (s : State) : State :=
  s.each (List.range 5) (fun r s =>
    let l := s.lease r
    if l.waiting.contains b || l.barred.contains b then
      s.setLease r { l with waiting := l.waiting.erase b, barred := l.barred.filter (· != b) }
    else s)

/-- R398: a block whose fault has cleared is barred no longer, and what it has requested is served. -/
def State.unbar (b : Nat) (s : State) : State :=
  s.each (List.range 5) (fun r s =>
    if (s.lease r).barred.contains b then (s.setLease r { s.lease r with barred := (s.lease r).barred.filter (· != b) }).serveLease r else s)

/-! ## Fences -/

/-- R53: a fence of TBS: every base is reported to its consumers as source unavailable. -/
def State.tbsFence (s : State) : State :=
  s.each ((List.range 8).filter (fun n => tbValidSt (s.tbSt n))) (fun n s => (s.carBase n 2 0).hsnBase n 2)

/-- R145, R137: a fence of VIS; a frame in progress ends by it, so what clears EN of its port applies. -/
def State.visFenceApplies (s : State) : State :=
  s.visFence.each (s.vis.cur.map (·.1)) (fun p s => s.applyDue 0x06 (8 + p))

/-- What a block does at its fence while it is still connected. -/
def State.fenceActs (b : Nat) (s : State) : State :=
  match b with
  | 0x02 => s.carFence | 0x03 => s.tbsFence | 0x04 => s.cenFence | 0x05 => s.hsnFence | 0x06 => s.visFenceApplies | 0x07 => s.gnsFence
  | 0x08 => s.fusFence | 0x09 => s.secFence | 0x0A => s.solFence | 0x0B => s.lswFence | 0x0D => s.ethFence | 0x0E => s.fltFence
  | 0x10 => s.dspFence | 0x13 => s.yulFence | _ => s

/-- R19, R398: a block is fenced: its leases are revoked under cause 2. -/
def State.fenceBlock (b : Nat) (s : State) : State :=
  if s.isFenced b || 19 < b then s
  else
    let s := s.when (s.blockOn b) (State.fenceActs b)
    let s := { s with fenced := setBit s.fenced b }
    (s.when (b = 0x0C && s.blockOn b) State.canFence).revokeOf b

/-- What a block does when its fence is lifted. -/
def State.liftActs (b : Nat) (s : State) : State :=
  match b with
  | 0x05 => s.hsnLifted
  | 0x08 => s.fusLifted
  | 0x09 => s.when (s.blockOn 0x0C) (fun s => s.each (List.range 6) State.canNextPart)
  | 0x0A => s.solLifted
  | 0x0C => s.canLifted
  | 0x0E => s.fltLifted
  | _ => s

/-- A fence is lifted. -/
def State.liftFence (b : Nat) (s : State) : State :=
  if !s.isFenced b then s
  else ({ s with fenced := clrBit s.fenced b, fenceEv := clrBit s.fenceEv b }).when (s.blockOn b) (State.liftActs b)

/-! ## Resets of blocks -/

/-- Everything of a sparse store that belongs to a block's window is dropped. -/
def dropWindow {α : Type} (b : Nat) (t : Tab α) : Tab α :=
  tabDrop t ((0x40000000 + b * 0x10000) * 32) ((0x40000000 + (b + 1) * 0x10000) * 32)

/-- LSW's bank and channel registers, which no reset but that of their bank domain touches (R265). -/
def lswKept (k : Nat) : Bool :=
  let off := k / 32 - 0x400B0000
  decide (0x400B0000 * 32 ≤ k) && decide (k < 0x400C0000 * 32) && ((decide (0x400 ≤ off) && decide (off < 0x1000)) || (decide (0x100 ≤ off) && decide (off < 0x120)))

/-- R354, R356: the items of FLT's key slots, which a reset keeps: CSRs, certificate chains and trust anchors. -/
def keyItem (pid : Nat) : Bool := decide (0x00E00200 ≤ pid) && decide (pid < 0x00E00400)

/-- The registers of a block return to their reset values; staging is gone, and the tables of its parameters with it. -/
def State.resetRegs (b : Nat) (s : State) : State :=
  let cut {α : Type} (t : Tab α) : Tab α := if b = 0x0B then t.filter (fun e => lswKept e.1 || (dropWindow b [e]).length = 1) else dropWindow b t
  { s with
    regs := cut s.regs, staged := cut s.staged, flagAt := cut s.flagAt,
    blobs := s.blobs.filter (fun e => keyItem e.1 || !(decide (b * 2 ^ 20 ≤ e.1) && decide (e.1 < (b + 1) * 2 ^ 20))), banks := tabDrop s.banks (b * 2 ^ 20) ((b + 1) * 2 ^ 20) }

/-- What Tocsin keeps at its reset: counts since the cold start, RSTCAUSE, the safe-state outputs, a level of SHUTDOWN; the orphan
timers run in AON (R386). -/
def State.tsvReset (s : State) : State :=
  let o := s
  let s := s.resetRegs 0x01
  let s := s.each (List.range 11) (fun m s => s.wr (TSV_MST_COUNT m) (o.rd (TSV_MST_COUNT m)))
  let s := s.each [TSV_ECCCNT_UE, TSV_RSTCAUSE_KIND, TSV_RSTCAUSE_SRC, TSV_RSTCAUSE_ROW, TSV_RSTCAUSE_NRST, TSV_STAT_SSO0, TSV_STAT_SSO1]
    (fun f s => s.wr f (o.rd f))
  let s := s.when (o.rd TSV_STAT_SLEVEL = 3) (State.wr TSV_STAT_SLEVEL 3)
  { s with tsv := { orphan := o.tsv.orphan, orphLs := o.tsv.orphLs, orders := o.tsv.orders, mismatch := o.tsv.mismatch } }

/-- A block returns to its reset state (Table 1.1); the counts of SYS, THM, PDS and EVR live in AON and end only with it. -/
def State.resetBlock (b : Nat) (s : State) : State :=
  let s := s.forgetHolder b
  match b with
  | 0x01 => s.tsvReset
  | 0x02 => (s.resetRegs b).carReset | 0x03 => (s.resetRegs b).tbsReset | 0x04 => (s.resetRegs b).cenReset
  | 0x05 => (s.resetRegs b).hsnReset | 0x06 => (s.resetRegs b).visReset | 0x07 => (s.resetRegs b).gnsReset
  | 0x08 => (s.resetRegs b).fusReset | 0x09 => (s.resetRegs b).secReset
  | 0x0A => State.cenClaims { s.resetRegs b with sol := {} }
  | 0x0B => s.resetRegs b
  | 0x0C => (s.resetRegs b).canReset | 0x0D => (s.resetRegs b).ethReset | 0x0E => (s.fltIdle.resetRegs b).fltReset
  | 0x0F => { s.resetRegs b with thm := {} }
  | 0x10 => (s.resetRegs b).dspReset | 0x13 => (s.resetRegs b).yulReset
  | _ => s

/-! ## Domains (R26, R27) -/

/-- A domain is on or off. -/
def State.setDom (d : Nat) (on : Bool) (s : State) : State := { s with mgr := { s.mgr with on := putBit s.mgr.on d on } }

/-- What ends with a domain beside its blocks: the label's updates (R450), the host's cores and LPDDR5. -/
def State.domEnds (d : Nat) (s : State) : State :=
  match d with
  | 10 => s.labelCut
  | 3 => { s with mem := [], tsv := { s.tsv with wd := [] }, mgr := { s.mgr with appUpAt := none }, car := { s.car with irq := 0, dma := 0, dmaLvl := 0 } }.wr TSV_STAT_WDRUN 0
  | 11 => { s with lsw := { s.lsw with ch := s.lsw.ch.filter (fun e => decide (20 ≤ e.1)) } }
  | 12 => { s with lsw := { s.lsw with ch := s.lsw.ch.filter (fun e => decide (e.1 < 20)) } }
  | _ => s

/-- The registers of a load-switch bank, by domain. -/
def State.bankRegs (d : Nat) (s : State) : State :=
  let lo := if d = 11 then 0x400B0400 else 0x400B0400 + 20 * 0x40
  let hi := if d = 11 then 0x400B0400 + 20 * 0x40 else 0x400B1000
  let cfg := if d = 11 then 0x400B0100 else 0x400B0110
  let cut {α : Type} (t : Tab α) : Tab α := tabDrop (tabDrop t (lo * 32) (hi * 32)) (cfg * 32) ((cfg + 16) * 32)
  if d = 11 || d = 12 then { s with regs := cut s.regs, staged := cut s.staged, flagAt := cut s.flagAt } else s

/-- A domain leaves the on state: its blocks lose their state; PDS keeps the values in effect (R395). -/
def State.domOff (d : Nat) (s : State) : State :=
  if !s.domOn d then s
  else
    let s := ((s.domEnds d).bankRegs d).cenClaims
    let s := s.each (domBlocks d) (fun b s => (s.pdsReset b).resetBlock b)
    s.setDom d false

/-- R27: the blocks of domains that are to leave the on state are fenced, and the domains leave it in the order given. -/
def State.domsDown (ds : List Nat) (s : State) : State :=
  let ds := ds.filter (fun d => s.domOn d)
  let s := s.each ds (fun d s => s.each (domBlocks d) (fun b s => s.fenceBlock b))
  s.each ds (fun d s => s.domOff d)

end Sys2Proof.Machine
end

