-- ==== Sys2Proof/Machine/TsvOps.lean ====
section
/-!
DEFINITION. The operations of Tocsin (spec/14_safety_supervision_and_reset.md): the rows' conditions, safe-state levels and
groups, class actions, orphan timers, firing rows, attaching, watchdogs, the orders of resets.
-/
namespace Sys2Proof.Machine

/-- TSV_INTSTAT: 0 FAULT, 1 LEVEL, 2 ATTACH, 3 WDFLT, 4 LEASE, 5 ECC, 6 ORPHAN, 7 RSTDONE. -/
def State.tsvFlag (i : Nat) (s : State) : State := s.setFlagBit TSV_INTSTAT_FLAGS i

/-- The safe-state level (Table 14.2). -/
def State.slevel (s : State) : Nat := s.rd TSV_STAT_SLEVEL

/-- R400: a host write or a request is ignored: EV 0x0111 at most once per second. -/
def State.tsvIgnore (off : Nat) (s : State) : State := s.emitSec 0x0111 0 (fun _ => [off])

/-! ## The rows' conditions (Table 14.1) -/

/-- The causes that a row keeps in the state. -/
def State.tsvCond (s : State) (m : Nat) : Nat := tabGet 0 s.tsv.cond m
def State.setTsvCond (m v : Nat) (s : State) : State := s.tsvSet (fun t => { t with cond := tabSet 0 t.cond m v })

/-- R378: the function channels that row 6 supervises. -/
def State.steerChans (s : State) : List Nat := [s.rd TSV_MPAR6_FCA, s.rd TSV_MPAR6_FCB].filter (fun k => decide (k < 48))

/-- R378: |SP − Y| of an ACTIVE channel exceeds TOL (0.1 PU); an open-loop channel has no comparison. -/
def State.steerOff (s : State) (k : Nat) : Bool :=
  let n := s.rd (CEN_FCFG_LOOP k)
  s.blockOn 0x04 && s.cenCh k = 1 && decide (n < 96) &&
  decide (s.rd TSV_MPAR6_TOL * 65536 < (s.rdS (CEN_FSP_SP k) - s.rdS (CEN_LY_Y n)).natAbs * 10)

/-- R378: the deviation has lasted TIME ms without a break. -/
def State.steerLong (s : State) (k : Nat) : Bool :=
  let a := tabGet 0 s.tsv.steerAt k
  a != 0 && decide (a - 1 + s.rd TSV_MPAR6_TIME * 1000000 ≤ s.now)

/-- R378: row 6's condition for a channel. -/
def State.steerBad (s : State) (k : Nat) : Bool :=
  s.blockOn 0x04 && (s.cenCh k = 4 || (s.cenCh k = 1 && (s.steerLong k ||
    (s.cenBound k).any (fun n => s.cenSt n = 3 || decide (3 ≤ (s.cslot n).lateRun)))))

/-- R380: row 7's condition for a base. -/
def State.baseBad (s : State) (n : Nat) : Bool :=
  bit (s.rd TSV_MPAR7_BASES) n && s.blockOn 0x03 && (s.tbSt n = 5 || (s.on TSV_MPAR7_SUSP && s.tbSt n = 4))

/-- R379: GSBASE is LOST. -/
def State.gsLost (s : State) : Bool :=
  decide (s.rd TSV_MPAR8_GSBASE < 8) && s.blockOn 0x03 && s.tbSt (s.rd TSV_MPAR8_GSBASE) = 5

/-- R379: both bases are in TRACK, and their speeds, the larger above 0.5 m/s, differ by more than GSTOL % of the larger. -/
def State.gsDiffer (s : State) : Bool :=
  let a := s.rd TSV_MPAR8_GSBASE
  let b := s.rd TSV_MPAR8_GSREF
  let va := s.tbSpeedMm a
  let vb := s.tbSpeedMm b
  decide (a < 8) && decide (b < 8) && s.blockOn 0x03 && s.tbSt a = 2 && s.tbSt b = 2 && decide (500 < max va vb) &&
  decide (s.rd TSV_MPAR8_GSTOL * max va vb < (max va vb - min va vb) * 100)

/-- R379: PROPFC is not ACTIVE or has SP = 0 while GSBASE moves faster than UMOT. -/
def State.gsMoves (s : State) : Bool :=
  let a := s.rd TSV_MPAR8_GSBASE
  let k := s.rd TSV_MPAR8_PROPFC
  decide (a < 8) && decide (k < 48) && s.blockOn 0x03 && tbMovingSt (s.tbSt a) && decide (s.rd TSV_MPAR8_UMOT < s.tbSpeedMm a) &&
  (!s.blockOn 0x04 || s.cenCh k != 1 || s.rd (CEN_FSP_SP k) = 0)

/-- R379: 40 ms without a break. -/
def State.for40 (s : State) (a : Nat) : Bool := a != 0 && decide (a - 1 + 40000000 ≤ s.now)

/-- R379: row 8's conditions: bit 0 LOST, bit 1 the difference, bit 2 the motion. -/
def State.gsBad (s : State) : Nat := b2n s.gsLost + 2 * b2n (s.for40 s.tsv.speedAt) + 4 * b2n (s.for40 s.tsv.motionAt)

/-- R381: a supervised filter of a controller in CF has timed out. -/
def State.canBad (s : State) : Bool :=
  s.blockOn 0x0C && (List.range 6).any (fun n => bit (s.rd TSV_MPAR9_CF) n &&
    (List.range 128).any (fun k => s.on (CAN_FCFG_TSUP n k) && s.on (CAN_FCFG_EN n k) && s.on (CAN_FCFG_TMOUT n k)))

/-- ACTIVE of TSV_MSTm: a row's condition is present. Those of rows 1, 2 and 4 are happenings and do not last. -/
def State.rowActive (s : State) (m : Nat) : Bool :=
  match m with
  | 0 => s.tsvCond 0 != 0
  | 3 => (s.tsvCond 3 &&& s.rd TSV_WDCFG_WDEN) != 0
  | 5 => s.tsv.stuckSv != 0 || s.tsv.stuckLs != 0
  | 6 => s.steerChans.any s.steerBad
  | 7 => (List.range 8).any s.baseBad
  | 8 => s.gsBad != 0
  | 9 => s.canBad
  | 10 => s.yulCond
  | _ => false

/-- R388: the groups that a row's reaction covers. -/
def State.rowCovers (s : State) (m : Nat) : Nat :=
  if s.on (TSV_MCFG_ALLGRP m) || s.on (TSV_MCFG_SHUT m) then 0xFF else s.rd (TSV_MCFG_GRP m)

/-! ## Taking outputs (R383–R386) -/

/-- R386: the orphan timer of a group that enters its safe state starts; the members are those of this instant. -/
def State.orphanStart (g : Nat) (s : State) : State :=
  let t := s.rd (TSV_SGORP_ORPHT g)
  if t = 0 then s
  else s.tsvSet (fun x => { x with
    orphan := tabPut x.orphan g (s.now + t * 1000000000 + 1),
    orphLs := tabPut x.orphLs g (s.rd (TSV_SGLSLO_LS g) + s.rd (TSV_SGLSHI_LS g) * 2 ^ 32) })

/-- R386: OFF on every HOLD output that was a member of the group as its timer started. -/
def State.orphanOff (g : Nat) (s : State) : State :=
  let m := tabGet 0 s.tsv.orphLs g
  let s := s.each ((List.range 48).filter (fun n => bit m n && s.rd (LSW_CHSAFE_CLASS n) = 1)) (fun n s => s.lsClassAction n 0)
  ((s.tsvSet (fun t => { t with orphan := tabDel t.orphan g })).tsvFlag 6).emit 0x010F [g]

/-- R386: the orphan timer of a group has run out. -/
def State.orphanDue (s : State) (g : Nat) : Bool :=
  match tabFind s.tsv.orphan g with | some e => decide (e ≤ s.now + 1) | none => false

/-- R384: the class actions of the outputs that `o` did not hold and `s` holds; in SHUTDOWN OFF on every output. -/
def State.classActions (o : State) (s : State) : State :=
  let shut := s.slevel = 3 && o.slevel != 3
  let s := s.each (List.range 48) (fun n s =>
    if shut then s.lsClassAction n 0
    else if !o.lsHeld n && s.lsHeld n then s.lsClassAction n (s.rd (LSW_CHSAFE_CLASS n)) else s)
  let s := s.each (List.range 24) (fun n s => s.when (shut || (!o.svHeld n && s.svHeld n)) (State.svSafe n))
  s.when (s.dqHeld && !o.dqHeld) State.dqInactive

/-- SLEVEL or GRPSS has changed: EV 0x0104. -/
def State.levelNote (o : State) (s : State) : State :=
  if s.slevel = o.slevel && s.rd TSV_STAT_GRPSS = o.rd TSV_STAT_GRPSS then s
  else (s.tsvFlag 1).emit 0x0104 [s.slevel, s.rd TSV_STAT_GRPSS]

/-- R383, R384: groups enter their safe state at a level (1 GROUP, 2 ALL, 3 SHUTDOWN), with the cause bit of TSV_GCAUSEg
(0–10 the row, 11 the host, 12 a start or reset) and, where asked, their orphan timers; no class action yet. -/
def State.takeGroups (groups lvl cause : Nat) (orphan : Bool) (s : State) : State :=
  let g := if 2 ≤ lvl then 0xFF else groups % 256
  if g = 0 then s
  else
    let had := s.rd TSV_STAT_GRPSS
    let s := (s.wr TSV_STAT_SLEVEL (max s.slevel lvl)).wr TSV_STAT_GRPSS (had ||| g)
    s.each ((List.range 8).filter (bit g)) (fun i s =>
      let s := s.wr (TSV_GCAUSE_ROWS i) (setBit (s.rd (TSV_GCAUSE_ROWS i)) cause)
      let s := s.when (decide (cause ≤ 10)) (State.tsvSet (fun t => { t with rowAt := tabPut t.rowAt i (s.now + 1) }))
      s.when (orphan && !bit had i) (State.orphanStart i))

/-- Table 14.2: what SHUTDOWN does beside its class actions; `row` is the cause row, 0xF none. -/
def State.shutActs (row : Nat) (s : State) : State :=
  ((((s.wr TSV_STAT_SSO0 1).wr TSV_STAT_SSO1 1).emit 0x0110 [row]).revokeLease 4 4 none).signal .safeShut

/-- R383, R384: groups are taken, and the class actions ordered. -/
def State.tsvHold (groups lvl cause : Nat) (orphan : Bool) (s : State) : State :=
  let t := s.takeGroups groups lvl cause orphan
  let t := State.levelNote s t
  let t := t.when (t.slevel = 3 && s.slevel != 3) (State.shutActs (if cause ≤ 10 then cause else 0xF))
  State.classActions s t

/-! ## Rows (R375) -/

/-- A row's firing is counted and reported. -/
def State.rowReport (m groups : Nat) (s : State) : State :=
  ((((s.inc (TSV_MST_COUNT m)).wr TSV_STAT_LASTROW m).tsvFlag 0)).emit 0x0103 [m, groups]

/-- The level that a row's reaction takes. -/
def State.rowLevel (s : State) (m : Nat) : Nat := if s.on (TSV_MCFG_SHUT m) then 3 else if s.on (TSV_MCFG_ALLGRP m) then 2 else 1

/-- A reset that Tocsin, the host or the dictionary orders; it is carried out by RESET (R392–R394, R403). -/
def State.orderReset (o : ResetOrder) (s : State) : State :=
  if s.tsv.orders.contains o then s else s.tsvSet (fun t => { t with orders := t.orders ++ [o] })

/-- A row fires: it is reported, its groups are taken; rows 4 and 5 take the groups of their output that GRP holds. Row 2
reports alone (R376); row 1 is followed by a supervisor reset (R382); row 4 fences CAR. -/
def State.tsvFire (m groups : Nat) (s : State) : State :=
  if !s.blockOn 0x01 || !s.on (TSV_MCFG_EN m) then s
  else
    let own := m = 4 || m = 5
    let g := if m = 2 then 0 else if s.rowLevel m = 1 then (if own then groups &&& s.rd (TSV_MCFG_GRP m) else s.rd (TSV_MCFG_GRP m)) else 0xFF
    let s := s.rowReport m g
    let s := s.when (m != 2) (State.tsvHold g (s.rowLevel m) m true)
    let s := s.when (m = 1) (State.orderReset ⟨2, 2, 0, 1, false⟩)
    s.when (m = 4) (State.fenceBlock 0x02)

/-- R377: an SV group with a stuck channel: its switch is opened, its channels are held with the groups of row 5's GRP. -/
def State.svStuck (g : Nat) (s : State) : State :=
  if !s.blockOn 0x01 || !s.on (TSV_MCFG_EN 5) then s
  else
    let s := s.svOpenGroup g
    let s := s.tsvSet (fun t => { t with openSv := setBit t.openSv g, stuckSv := setBit t.stuckSv g })
    s.tsvFire 5 (s.rd (TSV_MCFG_GRP 5))

/-- R377: an LS channel has reported STUCK; SSO0 or SSO1 opens for its bank. -/
def State.lsStuckRow (n : Nat) (s : State) : State :=
  if !s.blockOn 0x01 then s
  else
    let s := s.tsvSet (fun t => { t with stuckLs := setBit t.stuckLs n })
    let s := s.when (s.on (TSV_MCFG_EN 5) && s.on (if n < 20 then TSV_MPAR5_SSOA else TSV_MPAR5_SSOB))
      (State.wr (if n < 20 then TSV_STAT_SSO0 else TSV_STAT_SSO1) 1)
    s.tsvFire 5 (s.lsGroups n)

/-- A row reported by a signal: rows 4 and 5 with the groups of their output. -/
def State.rowSignal (m groups : Nat) (s : State) : State := s.tsvFire m groups

/-! ## Taking outputs back (R387–R389) -/

/-- R388: every core with WDEN has its watchdog running. -/
def State.wdAll (s : State) : Bool := (s.rd TSV_WDCFG_WDEN &&& s.rd TSV_STAT_WDRUN) = s.rd TSV_WDCFG_WDEN

/-- R387, R388: an attach of a held group is refused. -/
def State.attachRefused (s : State) (g : Nat) : Bool :=
  s.slevel = 3 || !s.wdAll || tabGet 0 s.tsv.rowAt g = s.now + 1 ||
  (List.range 11).any (fun m => s.on (TSV_MCFG_EN m) && bit (s.rowCovers m) g && s.rowActive m)

/-- R377: the groups that Tocsin opened follow their channels again, once no group of row 5's reaction is held. -/
def State.svClose (rel : Nat) (s : State) : State :=
  let c := s.rowCovers 5
  if (rel &&& c) != 0 && (s.rd TSV_STAT_GRPSS &&& c) = 0 then
    let s := s.each ((List.range 6).filter (bit s.tsv.openSv)) (fun g s => (s.wr (SOL_GSTAT_TOPEN g) 0).railOf g)
    s.tsvSet (fun t => { t with openSv := 0 })
  else s

/-- R388, R389: groups are released; each output keeps the state in which it was held. An orphan timer that runs out in the same cycle has
acted before (R387). -/
def State.releaseGroups (rel : Nat) (s : State) : State :=
  let s := s.each ((List.range 8).filter (fun g => bit rel g && s.orphanDue g)) (fun g s => s.orphanOff g)
  let o := s
  let s := s.wr TSV_STAT_GRPSS (s.rd TSV_STAT_GRPSS &&& (0xFF - rel))
  let s := s.when (s.rd TSV_STAT_GRPSS = 0) (State.wr TSV_STAT_SLEVEL 0)
  let s := s.each ((List.range 8).filter (bit rel)) (fun g s =>
    (s.wr (TSV_GCAUSE_ROWS g) 0).tsvSet (fun t => { t with
      orphan := tabDel t.orphan g, orphLs := tabDel t.orphLs g, rowAt := tabDel t.rowAt g }))
  State.levelNote o (s.svClose rel)

/-- R388: the attach of the groups `req`. -/
def State.attach (req : Nat) (s : State) : State :=
  let held := (List.range 8).filter (fun g => bit req g && bit (s.rd TSV_STAT_GRPSS) g)
  let mask (l : List Nat) : Nat := l.foldl setBit 0
  let ref := mask (held.filter s.attachRefused)
  let rel := mask (held.filter (fun g => !s.attachRefused g))
  let res := if ref = 0 then 0 else if rel = 0 then 2 else 1
  let s := s.when (rel != 0) (State.releaseGroups rel)
  let s := ((((s.wr TSV_ATTRES_RES res).wr TSV_ATTRES_REL rel).wr TSV_ATTRES_REF ref).wr TSV_ATTRES_BUSY 0).tsvFlag 2
  (s.when (rel != 0) (State.emit 0x0105 [rel])).when (ref != 0) (State.emit 0x0106 [ref, res])

/-- R387: an attach is asked for; it is taken at the end of its cycle, after whatever else happens to the groups in it. -/
def State.attachAsk (req : Nat) (s : State) : State :=
  (s.wr TSV_ATTRES_BUSY 1).tsvSet (fun t => { t with attaches := t.attaches ++ [req] })

/-- R387: the attaches of the cycle that ends. -/
def State.attachAll (s : State) : State :=
  (s.tsvSet (fun t => { t with attaches := [] })).each s.tsv.attaches State.attach

/-! ## The watchdog (R390–R392) -/

/-- R392, R376: a failure of a host core: row 3 fires; then WDACT. -/
def State.coreFails (k : Nat) (s : State) : State :=
  let s := s.setTsvCond 3 (setBit (s.tsvCond 3) k)
  let s := s.setWd k { running := false, second := false, last := s.now }
  let s := s.tsvFire 3 0
  s.when (s.on TSV_WDCFG_WDACT) (State.orderReset ⟨3, 3, 0, 3, false⟩)

/-- R390: a fault of a core's watchdog with its cause. -/
def State.wdFault (k cause : Nat) (s : State) : State := ((s.tsvFlag 3).emit 0x0107 [k, cause]).coreFails k

/-- R390–R392: a kick with a key. -/
def State.wdKick (k key : Nat) (s : State) : State :=
  let w := s.wd k
  if !bit (s.rd TSV_WDCFG_WDEN) k then s
  else if !w.running then
    if key = 0x5A3C then (s.setWd k ⟨true, true, s.now⟩).setTsvCond 3 (clrBit (s.tsvCond 3) k) else s
  else if s.now < w.last + s.rd TSV_WDCFG_WMIN * 1000000 then s.wdFault k 2
  else if key != (if w.second then 0xC3A5 else 0x5A3C) then s.wdFault k 3
  else s.setWd k { w with second := !w.second, last := s.now }

/-- R390, R391: a core's time is up: WMAX since its last kick, or for core 0 2,000 ms since APP power-up without its first. -/
def State.wdDue (s : State) (k : Nat) : Bool :=
  let w := s.wd k
  bit (s.rd TSV_WDCFG_WDEN) k && decide (k < 4) &&
  (if w.running then decide (w.last + s.rd TSV_WDCFG_WMAX * 1000000 ≤ s.now)
   else k = 0 && w.last = 0 && (match s.mgr.appUpAt with | some t => decide (t + 2000000000 ≤ s.now) | none => false))

/-! ## Requests (R394) -/

/-- R394: what a reset request asks for, if it may. -/
def resetRequest (v : Nat) : Option ResetOrder :=
  let kind := bits v 28 4
  let tgt := bits v 16 8
  if bits v 0 16 != 0xA77A then none
  else if kind = 1 then
    (if [0x02, 0x03, 0x04, 0x05, 0x06, 0x07, 0x08, 0x09, 0x0A, 0x0B, 0x0C, 0x0D, 0x0E, 0x10, 0x13].contains tgt then some ⟨4, tgt, 1, 0xF, false⟩ else none)
  else if kind = 2 then (if [4, 5, 6, 7, 8, 9, 10, 13].contains tgt then some ⟨3, tgt, 1, 0xF, false⟩ else none)
  else if kind = 3 then some ⟨3, 3, 1, 0xF, false⟩
  else none

/-! ## While Tocsin is out (R385) -/

/-- R385: the domain managers of OUTA and OUTB hold every output at level ALL. -/
def State.managersHold (s : State) : State :=
  let t := s.takeGroups 0xFF 2 12 false
  State.classActions s t

end Sys2Proof.Machine
end

