-- ==== Sys2Proof/Machine/PwrOps.lean ====
section
/-!
DEFINITION. The operations of power and start-up (spec/15_power_thermal_and_cooling.md, R405–R418; R26, R27, R526): domains that
switch on and off, the start sequence, run-on and shut-down, standby and cold start, and the resets of Table 14.3.
-/
namespace Sys2Proof.Machine

def State.setMgr (f : Mgr → Mgr) (s : State) : State := { s with mgr := f s.mgr }
def State.pwrStep (s : State) : Nat := s.rd SYS_PWRSTAT_STEP
def State.pintFlag (i : Nat) (s : State) : State := s.setFlagBit SYS_PINTSTAT_FLAGS i
def State.running (s : State) : Bool := s.mgr.ka = .running

/-- The managers switch domains: the module runs, no power fail is being ridden out, no shut-down runs. -/
def State.mayStart (s : State) : Bool := s.running && s.mgr.failAt.isNone && s.sd.ix.isNone

/-! ## Domains on (R26, R410, R526) -/

/-- R26: a domain is switched on, only while every domain that it requires is on. -/
def State.switchOn (d : Nat) (s : State) : State :=
  if bit s.mgr.swOn d || !(domRequires d).all s.domOn then s
  else s.setMgr (fun m => { m with swOn := setBit m.swOn d, swAt := tabSet 0 m.swAt d s.now, flt := clrBit m.flt d, want := clrBit m.want d })

/-- R26: the domains that wait to be switched on again are, as far as those that they require are on, in the order of Table 1.2. -/
def State.switchWanted (s : State) : State := s.each ((List.range 14).filter (bit s.mgr.want)) (fun d s => s.switchOn d)

/-- Every domain that has been switched on has come up, or has been switched off again, and none waits to be switched on. -/
def State.settled (s : State) : Bool := (List.range 14).all (fun d => (!bit s.mgr.swOn d || s.domOn d) && !bit s.mgr.want d)

/-- Table 15.2: the domains that a timed step switches on. -/
def startDoms : Nat → List Nat
  | 0 => [11, 12]
  | 1 => [2]
  | 2 => [4, 8, 9, 10]
  | 3 => [5, 13]
  | 4 => [3]
  | 5 => [6, 7]
  | _ => []

/-- Table 15.2: STEP shows the step reached. -/
def State.showStep (s : State) : State :=
  let st := s.pwrStep
  if st = 1 && decide (2 ≤ s.mgr.startIx) && s.domOn 2 then s.wr SYS_PWRSTAT_STEP 2
  else if st = 3 && decide (4 ≤ s.mgr.startIx) && s.settled then s.wr SYS_PWRSTAT_STEP 4
  else if st = 4 && decide (6 ≤ s.mgr.startIx) && s.settled then s.wr SYS_PWRSTAT_STEP 5
  else s

/-- R411, R412: the next timed step may be taken: what was switched on has settled, and the self-test has passed before the steps
that follow it. -/
def State.startReady (s : State) : Bool :=
  s.mayStart && decide (s.mgr.startIx < 6) && s.settled &&
  (match s.mgr.startIx with | 0 => true | 1 => true | 2 => s.pwrStep = 3 | 3 => s.pwrStep = 3 | _ => s.pwrStep = 4)

/-- R411: a timed step of the start. -/
def State.startNext (s : State) : State :=
  let k := s.mgr.startIx
  ((s.each (startDoms k) (fun d s => s.switchOn d)).setMgr (fun m => { m with startIx := k + 1 })).showStep

/-- R526, R395: a block's fence of R27 is lifted at power-good, and PDS commits anew what was in effect. -/
def State.blockUp (b : Nat) (s : State) : State :=
  let s := s.liftFence b
  s.when s.pds.loadDone (State.recommit b)

/-- R410, R526: a domain that was switched on reaches power-good. -/
def State.domUp (d : Nat) (s : State) : State :=
  let s := s.setDom d true
  let s := if d = 3 then s.setMgr (fun m => { m with appUpAt := some s.now }) else s
  let s := s.when (d = 4) State.yulPowerUp
  let s := s.when (d = 3) (fun s => s.each (List.range 64) State.fltGo)
  (s.each (domBlocks d) (fun b s => s.blockUp b)).switchWanted.showStep

/-- R410: a domain that may come up now. -/
def State.comesUp (s : State) (d : Nat) : Bool :=
  s.running && s.mgr.failAt.isNone && bit s.mgr.swOn d && !s.domOn d && (domRequires d).all s.domOn

/-! ## Domains off (R27) -/

/-- Domains leave the on state by a decision of their managers, and are switched off; before SAF does, the managers of OUTA and OUTB
hold every output (R385). -/
def State.domsOff (ds : List Nat) (s : State) : State :=
  let s := s.when (ds.contains 2 && s.domOn 2) State.managersHold
  (s.domsDown ds).setMgr (fun m => { m with swOn := ds.foldl clrBit m.swOn, want := ds.foldl clrBit m.want })

/-- R27: a domain has lost power-good: its blocks have lost their state and their leases (R398), the blocks of the domains that require it are
fenced, and these are switched off. Where it is SAF, the managers hold every output (R385). -/
def State.domLost (d : Nat) (s : State) : State :=
  let s := s.when (d = 2) State.managersHold
  let s := (s.each (domBlocks d) (fun b s => s.revokeOf b)).domOff d
  (s.domsOff ((domScope d).filter (· != d))).setMgr (fun m => { m with swOn := clrBit m.swOn d })

/-- R407, Table 1.2: every domain but KA, AON, OUTA and OUTB, in the reverse order of the table. -/
def loadDoms : List Nat := [13, 10, 9, 8, 7, 6, 5, 4, 3, 2]

/-- R407: every domain but KA. -/
def State.allOff (s : State) : State := s.domsOff (loadDoms ++ [12, 11, 1])

/-! ## Standby and start (R407, R409, R411, R417, R418) -/

/-- R399: EVR, which must write before the supply goes, takes the NVM write port from another holder: revoked with cause 5 and rolled back, it is
served first. -/
def State.evrTakes (s : State) : State :=
  let s := s.when ((s.lease 0).state = 1 && (s.lease 0).owner != 0x11) (State.revokeLease 0 5 (some 0x11))
  (s.when ((s.lease 0).state = 2) (State.rollbackDone 0)).requestLease 0 0x11

/-- EVR empties its queue under the NVM write port. -/
def State.evrDrain : Nat → State → State
  | 0, s => s
  | k + 1, s => if (s.nextRecord.isNone && !s.evr.optDue) || !s.holds 0 0x11 then s else State.evrDrain k s.recordWritten

/-- R415, R457: before AON goes off EVR empties its queue and keeps OPTIME. -/
def State.evrLast (s : State) : State := (State.evrDrain 70 s.evrTakes).evrTakes.saveOptime

/-- R409, R417: every domain but KA is off and KA keeps the standby mode STBY; Deep does not keep the clock and the GNSS memory. Module time
is 0 until AON comes up. -/
def State.toStandby (s : State) : State :=
  let stby := s.rd SYS_PWRCFG_STBY
  let alarm := s.rd SYS_RTCALM_ALARM
  let rtc := s.rtc
  let t := s.allOff
  let t := t.setMgr (fun m => { m with ka := .standby, stby := stby, alarm := alarm, failAt := none, startIx := 0, flt := 0, ignUp := false })
  let t := { t with now := 0, sd := {}, tsv := {}, mem := [], rtc0 := rtc }
  if stby = 0 then { t with ret := {}, rtc0 := 0 } else t

/-- What outlives AON: NVM, managed flash, the KA memory, the straps. -/
def State.survivors (o : State) : State :=
  { State.reset with
    pending := o.pending, free := o.free, ret := o.ret,
    evr := { log := o.evr.log, nvOptime := o.evr.nvOptime, nvPcyc := o.evr.nvPcyc + 1, optime0 := o.evr.nvOptime, pcyc := o.evr.nvPcyc + 1 },
    flt := o.fltReset.flt, blobs := o.blobs.filter (fun e => keyItem e.1),
    yul := { straps := o.yul.straps },
    pds := { bankA := o.pds.bankA, bankB := o.pds.bankB, oem := o.pds.oem, keys := o.pds.keys } }

/-- R411, R418, R393: AON comes up in a cold start or a power-on reset (`kind`), by a source of TSV_RSTCAUSE, with WAKESRC and LASTSTBY;
`ign` is the level of IGN, `dur` the time spent in standby. The reset's target is the first of the domains that it resets. -/
def State.coldStart (kind src wake last : Nat) (ign : Bool) (dur : Nat) (o : State) : State :=
  let s := { o.survivors with rtc0 := o.rtc + dur }
  let s := s.setMgr (fun m => { m with otLatch := o.mgr.otLatch, wakeSrc := wake, rtcWake := wake = 2 && !ign })
  let s := ((s.wr SYS_PWRSTAT_WAKESRC wake).wr SYS_PWRSTAT_LASTSTBY last).wr SYS_PWRSTAT_IGN (b2n ign)
  let s := s.wr SYS_IDENT_GRADE (o.rd SYS_IDENT_GRADE)
  let s := ((s.wr TSV_RSTCAUSE_KIND kind).wr TSV_RSTCAUSE_SRC src).wr PDS_STCNT_COUNT (o.rd PDS_STCNT_COUNT)
  (s.fltShow.emit 0x0027 [wake, last]).emit 0x010A [kind, kind, src]

/-- R412, R418: a wake: KA proceeds with 9.0 V or more, or waits for it. -/
def State.wake (src dur v : Nat) (s : State) : State :=
  let s := { s with rtc0 := s.rtc0 + dur }
  let ign := src = 1 || s.mgr.ignUp
  if v < 900 then s.setMgr (fun m => { m with ka := .waitSupply, wakeSrc := src })
  else if s.mgr.powerOn then s.coldStart 0 4 0 0 ign 0
  else s.coldStart 1 4 src s.mgr.stby ign 0

/-- R409: AON has switched off; KA starts anew, without a standby, if IGN is high and LOGPWR is 9.0 V or more now, or enters standby. -/
def State.offOrAgain (v : Nat) (s : State) : State :=
  if s.on SYS_PWRSTAT_IGN && decide (900 ≤ v) && !s.mgr.otLatch then s.allOff.coldStart 1 4 1 (s.rd SYS_PWRSTAT_LASTSTBY) true 0
  else s.toStandby

/-! ## Run-on and shut-down (R413–R416) -/

/-- R415, R413: the shut-down sequence begins; s0 is its next step. -/
def State.sdBegin (from_ : Nat) (atOnce : Bool) (s : State) : State :=
  { s.wr SYS_PWRSTAT_STEP 9 with sd := { ix := some 0, left := from_, atOnce := atOnce } }

/-- R414: run-on begins with the RUNON that applies now; RUNON = 0 ends it at once. -/
def State.runOnBegin (s : State) : State :=
  let s := s.applyDue 0x00 0
  let r := s.rd SYS_PWRCFG_RUNON
  let s := ((s.wr SYS_PWRSTAT_STEP 8).pintFlag 0).emit 0x0025 [r]
  let s := s.setMgr (fun m => { m with runEnd := s.now + r * 1000000000 })
  s.when (r = 0) (State.sdBegin 7 false)

/-- R413: the shut-down without run-on; a run-on that it ends counts as step 7 at a cancel (R416). -/
def State.offAtOnce (s : State) : State :=
  (((s.sdBegin (if s.pwrStep = 8 then 7 else s.pwrStep) true).pintFlag 0).emit 0x0025 [0])

/-- R413, R414: IGN has been low for 100 ms. A start by the RTC goes on with IGN low until step 7 (R418). -/
def State.ignLow (s : State) : State :=
  let s := s.wr SYS_PWRSTAT_IGN 0
  let st := s.pwrStep
  if !s.mayStart || st = 9 || (st = 8 && s.slevel != 3) then s
  else if st = 7 && s.slevel != 3 then s.runOnBegin
  else if s.mgr.rtcWake && st != 7 && s.slevel != 3 then s
  else s.offAtOnce

/-- R416: IGN is accepted high before s0. -/
def State.sdCancel (s : State) : State :=
  if s.pwrStep = 8 || s.sd.ix = some 0 then
    let st := if s.pwrStep = 9 then s.sd.left else 7
    let t := ((s.wr SYS_PWRSTAT_IGN 1).wr SYS_PWRSTAT_STEP st).setMgr (fun m => { m with rtcWake := false })
    let t := { t with sd := {} }
    ((t.pintFlag 1).emit 0x0026 []).showStep
  else s

/-- R415, s0: level ALL, with OFF on every output in place of the class actions; R413: the managers do so when Tocsin is out. -/
def State.sdOutputs (s : State) : State :=
  let t := s.takeGroups 0xFF 2 12 false
  let t := t.when (s.domOn 2) (State.levelNote s)
  let t := t.each (List.range 48) (fun n t => t.lsClassAction n 0)
  let t := t.each (List.range 24) (fun n t => t.svSafe n)
  t.dqInactive

/-- R415, s2: DSP is done: off, its sequences complete, or 5 s gone. -/
def State.sdDspDone (s : State) : Bool := !s.domOn 10 || s.dspClosed || decide (s.sd.dspAt + 5000000000 ≤ s.now)

/-- R415, s3: NET, GNS with its retention data, VIS, FUS, CEN, RT and APP go off. -/
def State.sdLoads (s : State) : State :=
  let s := s.domsOff [10]
  let s := s.domsOff [9]
  let s := (s.when (s.domOn 8 && s.tst = 1) State.gnsRetain).domsOff [8]
  s.domsOff [7, 6, 5, 13, 4, 3]

/-- R415, s4: a store, with STOREOFF = 1 and after step 7. -/
def State.sdStore (s : State) : State :=
  if s.on SYS_PWRCFG_STOREOFF && !s.sd.atOnce then
    if s.rd PDS_STAT_STSTATE = 0 then s.storeBegin []
    else s.setPds (fun p => { p with queued := p.queued ++ [⟨6, 0, { op := 6 }⟩] })
  else s

/-- R415, s5: EVR empties its queue, OPTIME is kept, AON goes off; with IGN high KA wakes at once (R416), LOGPWR being `v`. -/
def State.sdLast (v : Nat) (s : State) : State :=
  let again := s.on SYS_PWRSTAT_IGN && !s.mgr.otLatch
  let t := s.evrLast.toStandby
  if again then t.wake 1 0 v else t

/-- R415: the step in progress is complete and the next one begins. -/
def State.sdNext (v : Nat) (s : State) : State :=
  let go (k : Nat) (t : State) : State := { t with sd := { t.sd with ix := some k } }
  match s.sd.ix with
  | some 0 => go 1 s.sdOutputs
  | some 1 => go 2 (s.domsOff [13])
  | some 2 => go 3 { s.when (s.domOn 10) State.dspClose with sd := { s.sd with dspAt := s.now } }
  | some 3 => if s.sdDspDone then go 4 s.sdLoads else s
  | some 4 => go 5 s.sdStore
  | some 5 => if s.rd PDS_STAT_STSTATE = 0 then go 6 (s.domsOff [2]) else s
  | some 6 => s.sdLast v
  | _ => s

/-! ## Power fail and over-temperature (R407, R425) -/

/-- R407, R371: a power fail: the load domains go off, AON goes on from the hold-up store. -/
def State.powerFail (v : Nat) (s : State) : State :=
  let s := ((s.wr SYS_PWRSTAT_SUPPLY 3).pintFlag 2).emit 0x0022 [v, s.pwrStep]
  let s := s.storeHoldup.domsOff loadDoms
  { s.setMgr (fun m => { m with failAt := some s.now }) with sd := {} }.saveOptime

/-- R425: over-temperature: the latch in KA, SHUTDOWN, the record, every domain but KA off. -/
def State.overTemp (sensor : Nat) (reading : Int) (s : State) : State :=
  let s := s.setMgr (fun m => { m with otLatch := true })
  let s := s.when (s.domOn 2) (State.tsvHold 0xFF 3 12 true)
  let s := s.emit 0x0F05 [sensor, tc 32 reading]
  s.evrLast.toStandby

/-! ## Resets (R393–R395) -/

/-- Every reset that touches APP is recorded (R393). -/
def State.rstCause (o : ResetOrder) (s : State) : State :=
  (((s.wr TSV_RSTCAUSE_KIND o.kind).wr TSV_RSTCAUSE_SRC o.source).wr TSV_RSTCAUSE_ROW o.row).inc TSV_RSTCAUSE_NRST

/-- Domains that were reset are switched on again: those that had been, and those whose step of the start has passed, each as soon as
the domains that it requires are on (R26). -/
def State.switchAgain (ds : List Nat) (sw : Nat) (s : State) : State :=
  let due (d : Nat) : Bool := bit sw d || (List.range s.mgr.startIx).any (fun k => (startDoms k).contains d)
  (s.setMgr (fun m =>
    { m with want := ds.foldl (fun a d => if due d then setBit a d else a) m.want, flt := ds.foldl clrBit m.flt })).switchWanted

/-- The blocks in a reset's scope (Table 14.3). -/
def ResetOrder.scope (o : ResetOrder) : List Nat :=
  match o.kind with
  | 1 => List.range 20
  | 2 => (domScope 2).flatMap domBlocks
  | 3 => (domScope o.target).flatMap domBlocks
  | _ => [o.target]

/-- R393: what comes before a reset: the level that Table 14.3 gives, with the class actions and the orphan timers of a supervisor reset, and the
leases of the blocks in its scope revoked. -/
def State.resetBegin (o : ResetOrder) (s : State) : State :=
  let s := match o.kind with
    | 1 => s.takeGroups 0xFF 2 12 false
    | 2 => s.tsvHold 0xFF 2 12 true
    | 3 => s.when ([3, 4, 5].any (domScope o.target).contains) (State.tsvHold 0xFF 2 12 false)
    | _ => s.when (o.target = 0x02 || o.target = 0x04 || o.target = 0x09) (State.tsvHold 0xFF 2 12 false)
  s.each o.scope (fun b s => s.revokeOf b)

/-- A supervisor reset: SAF and every domain that requires it are reset, and the start goes on from SAF (R382, R385, R393, R395). -/
def State.resetSaf (o : ResetOrder) (s : State) : State :=
  let s := ((s.emit 0x010A [o.kind, o.target, o.source]).rstCause o).domsOff (domScope 2)
  let s := s.setPds (fun p => { p with loadDone := false, keep := [], late := [], keepLive := [] })
  let s := ((s.wr SYS_PWRSTAT_STEP 1).wr SYS_PWRSTAT_PARLD 0).wr SYS_PWRSTAT_BOOTOK 0
  (s.setMgr (fun m => { m with startIx := 1 })).startNext.tsvFlag 7

/-- A domain reset (R393): the blocks fenced and reset. -/
def State.resetDom (o : ResetOrder) (s : State) : State :=
  let ds := domScope o.target
  let sw := s.mgr.swOn
  let s := (s.emit 0x010A [o.kind, o.target, o.source]).when (ds.contains 3) (State.rstCause o)
  ((s.domsOff ds).switchAgain ds (setBit sw o.target)).tsvFlag 7

/-- A block reset (R393); the block stays fenced until it is healthy (Table 1.1). -/
def State.resetOne (o : ResetOrder) (s : State) : State :=
  let b := o.target
  let s := (s.fenceBlock b).emit 0x010A [o.kind, b, o.source]
  ((s.pdsReset b).resetBlock b).tsvFlag 7

/-- R393: a reset whose leases have been rolled back is carried out. -/
def State.resetActs (o : ResetOrder) (s : State) : State :=
  match o.kind with
  | 1 => s.allOff.coldStart 1 o.source 3 (s.rd SYS_PWRSTAT_LASTSTBY) (s.on SYS_PWRSTAT_IGN) 0
  | 2 => s.resetSaf o
  | 3 => s.resetDom o
  | _ => s.resetOne o

/-- R393: a lease of a block in a reset's scope is being rolled back. -/
def State.resetWaits (s : State) (o : ResetOrder) : Bool :=
  (List.range 5).any (fun r => (s.lease r).state = 2 && o.scope.contains (s.lease r).owner)

/-- R393: an order of a reset is begun; it is carried out once the leases that it revokes are rolled back, and till then it stands at the front of
the orders. -/
def State.doReset (o : ResetOrder) (s : State) : State :=
  if o.kind = 4 && !s.blockOn o.target then s
  else
    let s := if o.begun then s else s.resetBegin o
    if s.resetWaits o then s.tsvSet (fun t => { t with orders := { o with begun := true } :: t.orders })
    else s.resetActs o

/-- R393: a reset that was begun goes on once the rollbacks are complete. -/
def State.resetGoesOn (s : State) : State :=
  match s.tsv.orders with
  | o :: r => if o.begun && s.mayStart then State.doReset o (s.tsvSet (fun t => { t with orders := r })) else s
  | [] => s

end Sys2Proof.Machine
end

