-- ==== Sys2Proof/Machine/CarFire.lean ====
section
/-!
DEFINITION. Commit and firing of Carillon's events (spec/03_carillon_event_engine.md, R66–R75, R82, R83).
-/
namespace Sys2Proof.Machine

/-- R72: the target of an action is off, fenced or held: the action is not carried out. A host core is out of reset while APP is on
(DEDUCED: the spec names no reset of one core; assumption log, entry 85). -/
def State.carOff (s : State) (d : CarDesc) : Bool :=
  match d.typ with
  | 0 => false
  | 1 => s.lsBlocks d.target
  | 2 => s.svBlocks d.target
  | 3 => !s.live 0x00 || s.dqHeld
  | 4 => !s.live 0x04
  | 5 => !s.live 0x05
  | 6 => !s.live 0x06
  | _ => !s.domOn 3

/-- R67: the target block refuses an action at its commit by the rules of its own chapter. -/
def State.carTargetRefuses (s : State) (d : CarDesc) (fireAt : Nat) : Bool :=
  match d.typ with
  | 1 => s.lsRefuses d.target
  | 2 => s.svRefuses d.target
  | 3 => s.dqFault d.target
  | 4 => s.cenRefuses d.target
  | 5 => s.hsnRefuses d.target d.arg fireAt
  | 6 => s.visRefuses d.target
  | _ => false

/-- An action ends BLOCKED: EV 0x0208. -/
def State.carBlock (k : Nat) (collide : Bool) (s : State) : State :=
  let d := (s.slot k).desc
  let s := s.when (d.typ = 2) (State.releaseWin d.target (k + 1))
  (((s.carRetire k 8 collide).setFlag CAR_INTSTAT_BLOCK)).emit 0x0208 [d.typ, d.target, (s.slot k).port]

/-- R67, R226: the target is told of an action; a solenoid ON books its peak. False: it refuses. -/
def State.carNotify (k fireAt : Nat) (s : State) : Bool × State :=
  let d := (s.slot k).desc
  if s.carOff d || s.carTargetRefuses d fireAt then (false, s)
  else if d.typ = 2 && bit d.arg 0 then
    match s.bookPeak d.target fireAt 1 (k + 1) with
    | (some _, t) => (true, t)
    | (none, t) => (false, t)
  else (true, s)

/-- R67, R69: an event commits with its firing time, or ends BLOCKED. -/
def State.carCommit (k fireAt : Nat) (late : Bool) (lateAt : Nat) (s : State) : State :=
  let r := s.carNotify k fireAt
  if !r.1 then r.2.carBlock k false
  else r.2.setSlot k { r.2.slot k with st := 2, pred := none, fireAt := fireAt, commit := s.now, moved := false, late := late, lateAt := lateAt }

/-- An event's base stood short of its target at an instant, by the model then in force. -/
def State.carShort (s : State) (d : CarDesc) (t : Nat) : Bool :=
  (s.tbPast16 8 d.base t).any (fun p =>
    let x := phaseDiff d.tgt (tc 32 (p / lsb16))
    decide (0 < if d.rev then -x else x))

/-- The first instant after `lo` and up to `hi` from which on the base stood at or past an event's target; short of it at `lo`. -/
def State.carCrossIn (s : State) (d : CarDesc) : Nat → Nat → Nat → Nat
  | 0, _, hi => hi
  | fuel + 1, lo, hi =>
    if hi ≤ lo + 1 then hi
    else
      let m := (lo + hi) / 2
      if s.carShort d m then s.carCrossIn d fuel m hi else s.carCrossIn d fuel lo m

/-- Going back over the instants at which the base's models began, newest first, to the one under which it reached an event's target. -/
def State.carCrossBack (s : State) (d : CarDesc) : List Nat → Nat → Nat
  | [], hi => hi
  | t :: q, hi => if s.carShort d t then s.carCrossIn d 64 t hi else s.carCrossBack d q (min t hi)

/-- R69: when the base reached the target of an event found crossed, by the models that were in force. -/
def State.carCrossed (s : State) (d : CarDesc) : Nat :=
  if d.base = 8 then (s.carFull64 d.tgt).toNat else s.carCrossBack d (s.tbStarts 8 d.base) s.now

/-- Table 3.5: a jump. -/
def State.carJump (n : Nat) (x : CarTrans) (s : State) : State :=
  let all := s.carProv n
  let shift := all.filter (fun k => (s.slot k).desc.onjump = 0)
  let keep := all.filter (fun k => (s.slot k).desc.onjump != 0)
  let passed := keep.filter (fun k => carPassed (s.slot k).desc x)
  let skip := passed.filter (fun k => (s.slot k).desc.onjump = 1)
  let fire := passed.filter (fun k => (s.slot k).desc.onjump != 1)
  let s := s.each shift (fun k s =>
    let y := s.slot k
    s.setSlot k { y with desc := { y.desc with tgt := tc 32 ((y.desc.tgt : Int) + x.size) }, jshift := true })
  let s := s.each skip (fun k s => s.carRetire k 6 false)
  let s := s.each fire (fun k s => s.carCommit k (s.now + 5) true x.at_)
  s.when (!all.isEmpty) (fun s =>
    (s.setFlag CAR_INTSTAT_JUMP).emit 0x0204 [n, shift.length, keep.length, skip.length, fire.length])

/-- Table 3.5: a transition of a base is applied. -/
def State.carTransition (n : Nat) (x : CarTrans) (s : State) : State :=
  match x.what with
  | 0 => s.carReversal n
  | 1 => s.carStill n
  | 2 => s.carLost n
  | 6 => s.carLost n
  | 3 => s.carJump n x
  | _ => s

/-- R65, step 1, and R78: the transitions reported before this tick; one of this very tick waits for the next round. -/
def State.carTransitions (s : State) : State :=
  s.each (List.range 8) (fun n s =>
    let l := s.carWaiting n
    let t := { s with car := { s.car with trans := tabSet [] s.car.trans n (l.filter (fun x => decide (s.now ≤ x.at_))) } }
    t.each (l.filter (fun x => decide (x.at_ < s.now))) (State.carTransition n))

/-- R65, step 3: one event in PROV: its prediction is renewed, its range judged (R70: in every round), and it commits, but not while a
transition of its base waits for its round (R78). -/
def State.carProvision (k : Nat) (s : State) : State :=
  let x := s.slot k
  let d := s.carDist x.desc
  let barred := (s.carWaiting x.desc.base).any (fun t => t.what != 5)
  if x.st != 1 then s
  else if s.carRange x.desc.base < d.natAbs then s.carRetire k 7 false
  else if d ≤ 0 && !barred then s.carCommit k (s.now + 5) true (s.carCrossed x.desc)
  else
    let tp := if d ≤ 0 then none else s.carPredict x.desc
    let s := s.setSlot k { x with pred := tp }
    match tp with
    | some t =>
      if !barred && decide (t - s.now ≤ x.desc.horizon * 1000) then s.carCommit k ((t + 2) / 5 * 5) false 0 else s
    | none => s

/-- The events in PROV in the order of a round: by slot, but those that would book a solenoid's peak by channel (R226). -/
def State.carOrder (s : State) : List Nat :=
  let on (k : Nat) : Bool := (s.slot k).desc.typ = 2 && bit (s.slot k).desc.arg 0
  let all := s.carInState 1
  all.filter (fun k => !on k) ++ sortBy (fun k => ((s.slot k).desc.target : Int)) (all.filter on)

/-- R65: a prediction round. -/
def State.carRound (s : State) : State :=
  let s := { s with car := { s.car with round := s.now + 1 } }
  let s := s.carTransitions.carPorts
  s.each s.carOrder State.carProvision

/-- R89, Table 4.2: a capture window's action. A MAXLEN that is due on the tick closes the window first; an open action ends what is
open under the setup in effect, and the setup that waits applies before the new occurrence begins (R111). -/
def State.hsnAct (n arg : Nat) (s : State) : State :=
  let s := s.when (s.hsnTimedOut n) (State.hsnForceClose n 4)
  if !bit arg 0 then s.hsnClose n
  else
    let was := (s.hsnWin n).isOpen && s.on (HSN_WCFG_FUNC n)
    ((s.hsnOpenEnd n).applyDue 0x05 (16 + n)).hsnOpenBegin n was

/-- The action of an event reaches its target (R68, R71). -/
def State.carAct (k : Nat) (s : State) : State :=
  let d := (s.slot k).desc
  match d.typ with
  | 1 => s.lsEdge d.target (bit d.arg 0)
  | 2 => if bit d.arg 0 then s.svEdgeOn d.target (k + 1) else s.svEdgeOff d.target
  | 3 => s.dqEdge d.target (if bit d.arg 1 then 2 else d.arg % 2)
  | 4 => s.cenTrigger d.target s.now
  | 5 => s.hsnSync.hsnAct d.target d.arg
  | 6 => s.visTrigger d.target d.arg
  | 7 => { s with car := { s.car with dma := setBit s.car.dma d.target } }
  | 8 => { s with car := { s.car with irq := setBit s.car.irq d.target } }
  | _ => s

/-- R69: a LATE firing is counted and reported. -/
def State.carLate (k : Nat) (s : State) : State :=
  let l := s.now - (s.slot k).lateAt
  let m := max s.car.lateMax l
  let s := { s with car := { s.car with lateMax := m } }
  let s := ((s.inc CAR_LATECNT_COUNT).wr CAR_MAXLATE_NS (max (s.rd CAR_MAXLATE_NS) l)).setFlag CAR_INTSTAT_LATE
  let t := s.emitRate 0x0205 0 100000000 (fun c => [c, m])
  if (tabGet (0, 0) t.rate (0x0205 * 0x10000)).2 = 0 then { t with car := { t.car with lateMax := 0 } } else t

/-- R73–R75: an occurrence has fired: the event ends FIRED, or the slot returns to PROV with the next target; under a fence of
CAR an event in PROV retires FENCED (R82). On a base that is already LOST, or whose TBS is fenced, it waits in PROV for the base's
next transition (DEDUCED, assumption log, entry 85). -/
def State.carFired (k : Nat) (collide : Bool) (s : State) : State :=
  let x := s.slot k
  let y := { x with occ := x.occ + 1 }
  let s := s.setSlot k y
  if x.last || (x.desc.count != 0 && decide (x.desc.count ≤ y.occ)) then s.carRetire k 1 collide
  else
    let s := s.when (!x.desc.retend) (State.carDecide k false (s.carEntry k y 1 true collide))
    let s := s.setSlot k { y with
      st := 1, pred := none, moved := false, late := false,
      desc := { x.desc with tgt := tc 32 ((x.desc.tgt : Int) + sx 32 x.desc.per) } }
    s.when (s.isFenced 0x02) (State.carRetire k 9 false)

/-- R68, R72: an event fires. -/
def State.carFire (k : Nat) (collide : Bool) (s : State) : State :=
  if s.carOff (s.slot k).desc then s.carBlock k collide
  else ((s.when (s.slot k).late (State.carLate k)).carAct k).carFired k collide

/-- The slots that fire now, in the order of R71: by firing time, round of the commit, slot; the order of Table 4.2 stands between the
conditions of a tick and its actions, not among the actions (DEDUCED from R71 and R89, assumption log, entry 85). -/
def State.carDue (s : State) (bad : List Nat) : List Nat :=
  sortBy (fun k => ((s.slot k).fireAt : Int))
    (sortBy (fun k => ((s.slot k).commit : Int)) ((s.carInState 2).filter (fun k => decide ((s.slot k).fireAt ≤ s.now) && !bad.contains k)))

/-- R71: another event of the same type and target fires on the same tick. -/
def State.carCollides (s : State) (due : List Nat) (k : Nat) : Bool :=
  let x := s.slot k
  due.any (fun j => j != k && (s.slot j).desc.typ = x.desc.typ && (s.slot j).desc.target = x.desc.target && (s.slot j).fireAt = x.fireAt)

/-- The firings that are due, with their collisions. -/
def State.carFireAll (bad : List Nat) (s : State) : State :=
  let due := s.carDue bad
  let hit := due.filter (s.carCollides due)
  let sets := (hit.map (fun k => ((s.slot k).desc.typ, (s.slot k).desc.target, (s.slot k).fireAt))).eraseDups
  let s := s.each sets (fun e s => (s.setFlag CAR_INTSTAT_COLL).emit 0x0207 [e.1, e.2.1])
  s.each due (fun k s => s.carFire k (hit.contains k))

/-- The safety groups of an event's target output (row 4 of Table 14.1). -/
def State.carGroups (s : State) (d : CarDesc) : Nat :=
  match d.typ with
  | 1 => s.lsGroups d.target
  | 2 => s.svGroups d.target
  | _ => 0

/-- R83: the second comparator has found a missed or a spurious firing. -/
def State.carMismatch (k : Nat) (s : State) : State :=
  let x := s.slot k
  (s.emit 0x020C [k, x.fireAt % 2 ^ 32]).signal (.rowFires 4 (s.carGroups x.desc))

end Sys2Proof.Machine
end

