-- ==== Sys2Proof/Machine/ThmOps.lean ====
section
/-!
DEFINITION. The operations of the thermal block THM (spec/15_power_thermal_and_cooling.md, R419–R433): the housekeeping round, its
substitutions and compensations, throttling, over-temperature and the fans.
-/
namespace Sys2Proof.Machine

def State.setThm (f : Thm → Thm) (s : State) : State := { s with thm := f s.thm }

/-! ## Sensors (R419, R420) -/

/-- The greatest of some numbers. -/
def maxI : List Int → Option Int
  | [] => none
  | x :: l => match maxI l with | none => some x | some m => some (max x m)

/-- R420: a sensor is broken: it reads open or shorted, or outside −55 … +175 °C. -/
def thmBroken (r : ThmRound) (x : Int) (n : Nat) : Bool := bit r.open_ n || decide (x < -550) || decide (1750 < x)

/-- R425: the plate's shutdown threshold in 0.1 °C: 110 °C for GRADE HRT-960-X. -/
def State.plateLimit (s : State) : Int := if s.rd SYS_IDENT_GRADE = 1 then 1100 else 1000

/-- R420: the hottest healthy sensor of `lo … hi`, by corrected readings. -/
def thmHottest (r : ThmRound) (t : List Int) (lo hi : Nat) : Option Int :=
  maxI (((List.range (hi + 1)).filter (fun n => decide (lo ≤ n) && !thmBroken r (t.getD n 0) n)).map (fun n => t.getD n 0))

/-- R420: what a broken sensor reads as; where no board sensor is healthy the spec gives no threshold, and the reading is free. -/
def State.thmSubst (r : ThmRound) (t : List Int) (n : Nat) (s : State) : Int × State :=
  if n < 16 then ((thmHottest r t 0 15).getD 1300, s)
  else if n = 22 then ((thmHottest r t 16 21).getD s.plateLimit, s)
  else
    match thmHottest r t 16 21 with
    | some v => (v, s)
    | none => let f := s.takeFree 16; (sx 16 f.1, f.2)

/-- R420: the first time that a sensor is broken. -/
def State.thmTell (n : Nat) (raw : Int) (s : State) : State :=
  s.when (!bit s.thm.told n) (fun s =>
    ((s.setThm (fun m => { m with told := setBit m.told n })).setFlagBit THM_INTSTAT_FLAGS 4).emit 0x0F04 [n, tc 32 raw])

/-- THM_SENSs of a round. -/
def State.thmSensor (r : ThmRound) (t : List Int) (n : Nat) (s : State) : State :=
  let b := thmBroken r (t.getD n 0) n
  let s := (s.wr (THM_SENS_BROKEN n) (b2n b)).wr (THM_SENS_SUBST n) (b2n b)
  if b then
    let v := s.thmSubst r t n
    (v.2.wrS (THM_SENS_T n) v.1).thmTell n (r.temps.getD n 0)
  else s.wrS (THM_SENS_T n) (t.getD n 0)

/-- R419, R420: the hottest channel sensor of outputs `lo … hi`; where none is healthy the spec gives no threshold. -/
def State.thmChannels (lo hi : Nat) (f : Fld) (s : State) : State :=
  let l := ((List.range (hi + 1)).filter (fun n => decide (lo ≤ n) && s.rd (LSW_CHTH_TJ n) != 0x7FFF)).map (fun n => s.rdS (LSW_CHTH_TJ n))
  match maxI l with
  | some v => s.wrS f v
  | none => let x := s.takeFree 16; x.2.wr f x.1

/-- THM_TSUM0, THM_TSUM1 and NBROKEN. -/
def State.thmSummary (s : State) : State :=
  let s := s.wr THM_STAT_NBROKEN ((List.range 23).filter (fun n => s.on (THM_SENS_BROKEN n))).length
  let s := s.wrS THM_TSUM0_DIEMAX ((maxI ((List.range 16).map (fun n => s.rdS (THM_SENS_T n)))).getD 0)
  let s := s.wr THM_TSUM0_PLATE (s.rd (THM_SENS_T 22))
  (s.thmChannels 0 19 THM_TSUM1_CHMAXA).thmChannels 20 47 THM_TSUM1_CHMAXB

def State.fan (s : State) (f : Nat) : ThmFan := tabGet {} s.thm.fans f
def State.setFan (f : Nat) (g : ThmFan → ThmFan) (s : State) : State :=
  s.setThm (fun m => { m with fans := tabSet {} m.fans f (g (s.fan f)) })
def State.fanSt (s : State) (f : Nat) : Nat := s.rd (THM_FSTAT_STATE f)

/-- R426: OUTPWR-B is below 8.0 V: a channel is driven at duty 0 and keeps its state. -/
def State.fanUnfed (s : State) : Bool := decide (s.rd THM_VSUP1_OUTPWRB < 800)

/-- R426: OUTPWR-B is back: the times of R430 start anew (DEDUCED, assumption log, entry 94). -/
def State.fansFed (s : State) : State := s.each (List.range 4) (fun f s => s.setFan f (fun x => { x with at_ := s.now }))

/-- R419: the supplies and the hold-up store; LSW and SOL take the supplies of the outputs from them (DEDUCED, assumption log, entry
89). -/
def State.thmSupplies (r : ThmRound) (s : State) : State :=
  let o := s
  let v (x : Nat) : Nat := satU 16 (s.refCorr x)
  let s := (s.wr THM_VSUP0_LOGPWR (v r.logpwr)).wr THM_VSUP0_IGN (v r.ign)
  let s := (s.wr THM_VSUP1_OUTPWRA (v r.outA)).wr THM_VSUP1_OUTPWRB (v r.outB)
  (((s.wr THM_VHOLD_VHOLD (v r.vhold)).supplyIs 0 (v r.outA)).supplyIs 1 (v r.outB)).when (o.fanUnfed && !s.fanUnfed) State.fansFed

/-- The fans' measured speed and current. -/
def State.thmFanMeas (r : ThmRound) (s : State) : State :=
  s.each (List.range 4) (fun f s =>
    let m := r.fans.getD f (0, 0)
    (s.wr (THM_FMEAS_RPM f) (min m.1 0xFFFF)).wr (THM_FMEAS_IDRV f) (satU 16 (s.refCorr m.2)))

/-! ## Compensation (R421) -/

/-- Entry `k` of a compensation table; a table that has not been written corrects nothing. -/
def State.thmEntry (s : State) (tab k : Nat) : Int := sx 32 (leNat (((tabGet [] s.blobs (0x00F00200 + tab)).drop (4 * k)).take 4))

/-- R421: the correction at a temperature in 0.1 °C: linear between the entries for −40 … +115 °C, the end entry outside. -/
def State.thmComp (s : State) (tab : Nat) (t : Int) : Int :=
  if t ≤ -400 then s.thmEntry tab 0
  else if 1150 ≤ t then s.thmEntry tab 31
  else
    let k := ((t + 400) / 50).toNat
    s.thmEntry tab k + (s.thmEntry tab (k + 1) - s.thmEntry tab k) * ((t + 400) % 50) / 50

/-- R421: the corrections of a round: the oscillator by die sensor 0 (the rate of module time), the TCXO by board sensor 18 (the frequency model
of GNS), the references by board sensor 19. -/
def State.thmCompensate (s : State) : State :=
  let s := s.wrS THM_COMP_OSC (s.thmComp 0 (s.rdS (THM_SENS_T 0)))
  let s := s.wrS THM_COMP_TCXO (s.thmComp 1 (s.rdS (THM_SENS_T 18)))
  let s := { s with gns := { s.gns with tcxo := s.thmComp 1 (s.rdS (THM_SENS_T 18)) } }
  s.setThm (fun m => { m with ref := s.thmComp 2 (s.rdS (THM_SENS_T 19)) })

/-! ## Throttling (R422–R424) -/

/-- The threshold of a level, in 0.1 °C. -/
def State.thmThr (s : State) (l : Nat) : Int :=
  10 * ((if l = 1 then s.rd THM_THR_THR1 else if l = 2 then s.rd THM_THR_THR2 else s.rd THM_THR_THR3 : Nat) : Int)

/-- The highest level whose threshold DIEMAX reaches. -/
def State.thmReached (s : State) : Nat :=
  let d := s.rdS THM_TSUM0_DIEMAX
  if s.thmThr 3 ≤ d then 3 else if s.thmThr 2 ≤ d then 2 else if s.thmThr 1 ≤ d then 1 else 0

/-- DIEMAX is below the threshold of a level minus HYST. -/
def State.thmCool (s : State) (l : Nat) : Bool :=
  decide (l ≠ 0) && decide (s.rdS THM_TSUM0_DIEMAX < s.thmThr l - 10 * (s.rd THM_THR_HYST : Int))

/-- R422: the level by the thresholds: it rises at once, and falls by one step after 1 s below its threshold minus HYST. -/
def State.thmRule (s : State) : State :=
  let l := s.thm.under
  let up := s.thmReached
  let since (k : Nat) : Nat := if s.thmCool k then s.now + 1 else 0
  if l < up then s.setThm (fun m => { m with under := up, below := 0 })
  else if !s.thmCool l then s.setThm (fun m => { m with below := 0 })
  else if s.thm.below = 0 then s.setThm (fun m => { m with below := s.now + 1 })
  else if s.thm.below + 1000000000 ≤ s.now + 1 then s.setThm (fun m => { m with under := l - 1, below := since (l - 1) })
  else s

/-- R423: the level goes to VIS, CEN and FUS. -/
def State.thmGive (l : Nat) (s : State) : State :=
  let s := s.when (s.domOn 7) (State.visThrottle l)
  let s := s.when (s.domOn 5) (fun s => { s with cen := { s.cen with level := l } })
  let s := s.when (s.domOn 3) (fun s => { s with car := { s.car with dmaLvl := l } })
  s.when (s.domOn 6) (State.fusThrottle l)

/-- R423: how long the DMA engine of the host complex pauses after a descriptor whose transfer takes `ns`. -/
def State.dmaPause (s : State) (ns : Nat) : Nat := ns * [0, 1, 4, 12].getD s.car.dmaLvl 0 / 4

/-- R424: the cap on the host cores is lifted. -/
def State.thmUncap (s : State) : State :=
  (s.setThm (fun m => { m with cap := 0, due := false, lift := false })).wr THM_STAT_HENF 0

/-- R424, 1: a request above T0 starts the grace time unless one runs. -/
def State.thmGrace (l : Nat) (s : State) : State :=
  s.when (decide (0 < l) && s.thm.grace = 0) (State.setThm (fun m => { m with grace := s.now + s.rd THM_HTCTL_GRACE * 1000000 + 1 }))

/-- R424: the request follows a change of level from `old`; a fall ends the cap and the grace time. -/
def State.thmRequest (old l : Nat) (s : State) : State :=
  let s := (s.wr THM_STAT_HREQ l).setFlagBit THM_INTSTAT_FLAGS 2
  let s := s.emit 0x0F02 [l]
  let s := s.when (decide (l < old)) (fun s => (s.setThm (fun m => { m with grace := 0 })).thmUncap)
  s.thmGrace l

/-- R422: the level shown and given changes. -/
def State.thmLevel (l : Nat) (s : State) : State :=
  let old := s.rd THM_STAT_TLVL
  let s := s.when (decide (l ≠ old)) (fun s =>
    let s := ((s.wr THM_STAT_TLVL l).setFlagBit THM_INTSTAT_FLAGS 1).emit 0x0F01 [l, s.rd THM_TSUM0_DIEMAX]
    s.when (s.on THM_HTCTL_HTEN) (State.thmRequest old l))
  s.thmGive l

/-- R424: what a round does first: an acknowledgement lifts the cap; with HTEN = 0 there is no request. -/
def State.thmHost (s : State) : State :=
  let s := s.when s.thm.lift State.thmUncap
  s.when (!s.on THM_HTCTL_HTEN) (fun s => ((s.wr THM_STAT_HREQ 0).setThm (fun m => { m with grace := 0 })).thmUncap)

/-- R424, 3: the grace time ends without an acknowledgement. -/
def State.thmEnforce (s : State) : State :=
  let r := s.rd THM_STAT_HREQ
  let s := s.setThm (fun m => { m with grace := 0, cap := r, due := false, lift := false })
  ((s.wr THM_STAT_HENF 1).setFlagBit THM_INTSTAT_FLAGS 3).emit 0x0F03 [r]

/-- R424: the grace time has run out; at the end of the tick, if no acknowledgement has come in it either, the cap is enforced. -/
def State.thmExpire (s : State) : State := s.setThm (fun m => { m with due := true })

/-- R424, 2 and 4: an acknowledgement. -/
def State.thmAck (v : Nat) (s : State) : State :=
  let r := s.rd THM_STAT_HREQ
  if v % 4 < r ∨ r = 0 then s
  else
    let s := s.setThm (fun m => { m with grace := 0, due := false })
    if !s.on THM_STAT_HENF then s
    else s.setThm (fun m => { m with lift := true })

/-! ## Fans and pumps (R426–R430) -/

/-- R428, R430: the duty in 0.01 %, by the state; below 8.0 V on OUTPWR-B it is 0 (R426). -/
def State.fanDuty (s : State) (f : Nat) : Nat :=
  let st := s.fanSt f
  if s.fanUnfed then 0
  else if st = 1 then s.rd (THM_FCFG_KICKD f) * 100
  else if st = 3 ∨ st = 4 then
    if s.rd (THM_FCFG_MODE f) = 1 then min (s.rd (THM_FSET_SET f)) 10000
    else (clampI 0 10000 (((s.fan f).dem * s.rd (THM_FCFG_DPR f) / 10000 : Nat) + (s.fan f).c)).toNat
  else 0

/-- DUTY of THM_FSTATf. -/
def State.fanDrive (f : Nat) (s : State) : State := s.wr (THM_FSTAT_DUTY f) (s.fanDuty f)

/-- A fan enters a state of Table 15.5. -/
def State.fanEnter (f st : Nat) (s : State) : State :=
  ((s.wr (THM_FSTAT_STATE f) st).setFan f (fun x => { x with at_ := s.now })).fanDrive f

/-- OFF: no drive, no demand; the integrator stays. -/
def State.fanOff (f : Nat) (s : State) : State :=
  (((s.wr (THM_FSTAT_STATE f) 0).setFan f (fun x => { i := x.i })).wr (THM_FDEM_DEMAND f) 0).fanDrive f

/-- FAULT with its cause (1 BLOCKED, 2 OPEN, 3 SHORT), flag, event and report (R426). -/
def State.fanFault (f cause cur : Nat) (s : State) : State :=
  let s := (s.wr (THM_FSTAT_CAUSE f) cause).fanEnter f 5
  let s := ((s.setFlagBit (THM_FFLAG_FLAGS f) (cause + 1)).setFlagBit THM_INTSTAT_FLAGS 6).toTocsin
  s.emit (if cause = 1 then 0x0F07 else if cause = 2 then 0x0F09 else 0x0F0A) [f, cur]

/-- RETRYWAIT with one more try, or FAULT BLOCKED when TRIES is already 3. -/
def State.fanRetry (f cur : Nat) (s : State) : State :=
  let n := s.rd (THM_FSTAT_TRIES f)
  if 3 ≤ n then s.fanFault f 1 cur
  else
    let s := (s.wr (THM_FSTAT_TRIES f) (n + 1)).fanEnter f 2
    (s.setFlagBit (THM_FFLAG_FLAGS f) 5).emit 0x0F0B [f, n + 1]

/-- TACHLOSS: the fan turns without a tach. -/
def State.fanTachLoss (f cur : Nat) (s : State) : State :=
  let s := s.fanEnter f 4
  ((s.setFlagBit (THM_FFLAG_FLAGS f) 1).setFlagBit THM_INTSTAT_FLAGS 7).emit 0x0F08 [f, cur]

/-- R430: what CURRENT says of a silent tach. -/
def State.fanSilent (f cur : Nat) (s : State) : State :=
  if cur < s.rd (THM_FCUR_IOPEN f) then s.fanFault f 2 cur
  else if cur < s.rd (THM_FCUR_ISTALL f) then s.fanTachLoss f cur
  else s.fanRetry f cur

/-- SRC: the reading that the temperature loop follows, in 0.1 °C. -/
def State.fanReading (s : State) (f : Nat) : Int :=
  match s.rd (THM_FCFG_SRC f) with
  | 0 => s.rdS THM_TSUM0_DIEMAX
  | 1 => s.rdS THM_TSUM0_PLATE
  | 8 => s.rdS THM_TSUM1_CHMAXA
  | 9 => s.rdS THM_TSUM1_CHMAXB
  | n => s.rdS (THM_SENS_T (n + 14))

/-- RPMMIN and RPMMAX in 0.001 rpm. -/
def State.fanMin (s : State) (f : Nat) : Int := 1000 * (s.rd (THM_FLIM_RPMMIN f) : Int)
def State.fanMax (s : State) (f : Nat) : Int := 1000 * (s.rd (THM_FLIM_RPMMAX f) : Int)

/-- R428: one run of the temperature loop: the integrator and the demand in 0.001 rpm, from `e` in 0.1 K. -/
def State.fanLoop (s : State) (f : Nat) (i : Int) : Int × Int :=
  let e := s.fanReading f - 10 * (s.rd (THM_FLOOP_TSET f) : Int)
  let p := s.fanMin f + (s.rd (THM_FLOOP_KP f) : Int) * e * 100
  let d := (s.rd (THM_FLOOP_KI f) : Int) * e
  let i := if (s.fanMax f ≤ p + i ∧ 0 < d) ∨ (p + i ≤ s.fanMin f ∧ d < 0) then i else i + d
  (i, p + i)

/-- The skip bands in use, in 0.001 rpm. -/
def State.fanBands (s : State) (f : Nat) : List (Nat × Nat) :=
  ((List.range 4).map (fun k => (1000 * s.rd (THM_FSKIP_LO f k), 1000 * s.rd (THM_FSKIP_HI f k)))).filter (fun b => b.2 != 0)

/-- A speed lies inside a band. -/
def inBand (x : Nat) (b : Nat × Nat) : Bool := decide (b.1 < x) && decide (x < b.2)

/-- R429: the edge on the side where the measured speed lies; within the band, the nearer one. -/
def bandEdge (rpm : Nat) (b : Nat × Nat) : Nat := if rpm * 2 ≤ b.1 + b.2 then b.1 else b.2

/-- R429: a band lies between the measured speed and the demand. -/
def bandAhead (rpm t : Nat) (b : Nat × Nat) : Bool :=
  (decide (rpm < b.2) && decide (b.2 ≤ t)) || (decide (b.1 < rpm) && decide (t ≤ b.1))

/-- A value moves toward another by at most a step. -/
def moveTo (x t step : Nat) : Nat := if x < t then min (x + step) t else max (x - step) t

/-- R427: the demand before skip bands and ramp, in 0.001 rpm, and the integrator. -/
def State.fanWanted (s : State) (f : Nat) : Int × Nat :=
  let m := s.rd (THM_FCFG_MODE f)
  let lim (x : Int) : Nat := (clampI (s.fanMin f) (s.fanMax f) x).toNat
  if m = 3 then let r := s.fanLoop f (s.fan f).i; (r.1, lim r.2)
  else if m = 2 then (0, if s.rd (THM_FSET_SET f) = 0 then 0 else lim (1000 * (s.rd (THM_FSET_SET f) : Int)))
  else (0, 0)

/-- R428, R429: the demand of a round after skip bands and ramp; the ramp is lifted while the speed crosses a band. -/
def State.fanDemand (f : Nat) (s : State) : State :=
  let w := s.fanWanted f
  let bands := s.fanBands f
  let rpm := 1000 * s.rd (THM_FMEAS_RPM f)
  let hit := bands.find? (inBand w.2)
  let t := match hit with | some b => bandEdge rpm b | none => w.2
  let x := s.fan f
  let ramped := if s.rd (THM_FCFG_MODE f) = 3 then max (moveTo x.dem t (10 * s.rd (THM_FRAMP_RAMP f))) (min t (s.fanMin f).toNat) else t
  let dwell := bands.any (inBand ramped)
  let cross := (x.cross || dwell) && bands.any (bandAhead rpm t)
  let dem := if cross || dwell then t else ramped
  let s := s.when hit.isSome (State.setFlagBit (THM_FFLAG_FLAGS f) 0)
  (s.setFan f (fun x => { x with i := w.1, dem := dem, cross := cross })).wr (THM_FDEM_DEMAND f) (dem / 1000)

/-- R428: the speed loop of a round in RUN moves C by 0.5 % toward zero speed error, within ±20 %; MODE 1 has none. -/
def State.fanCorrect (f : Nat) (s : State) : State :=
  let err : Int := ((s.fan f).dem : Int) - 1000 * (s.rd (THM_FMEAS_RPM f) : Int)
  let d : Int := if 0 < err then 50 else if err < 0 then -50 else 0
  if s.rd (THM_FCFG_MODE f) = 1 then s.setFan f (fun x => { x with c := 0 })
  else s.setFan f (fun x => { x with c := clampI (-2000) 2000 (x.c + d) })

/-- A demand above 0. -/
def State.fanAsked (s : State) (f : Nat) : Bool :=
  if s.rd (THM_FCFG_MODE f) = 1 then s.rd (THM_FSET_SET f) != 0 else (s.fan f).dem != 0

/-- Table 15.5: what a round moves by itself. -/
def State.fanStates (f : Nat) (s : State) : State :=
  let st := s.fanSt f
  if st = 5 then s
  else if !s.fanAsked f then s.fanOff f
  else if s.fanUnfed then s
  else if st = 0 then s.fanEnter f 1
  else if st = 3 then
    let s := s.fanCorrect f
    s.when (decide ((s.fan f).at_ + 10000000000 ≤ s.now)) (State.wr (THM_FSTAT_TRIES f) 0)
  else s

/-- One fan in a round; every fan is OFF until the parameters are loaded (R433). -/
def State.fanRound (f : Nat) (s : State) : State :=
  if !s.thm.loaded then s.fanOff f
  else if s.rd (THM_FCFG_MODE f) = 0 then
    let s := (s.setFan f (fun _ => {})).wr (THM_FDEM_DEMAND f) 0
    if s.fanSt f = 5 then s else s.fanOff f
  else ((s.fanDemand f).fanStates f).fanDrive f

/-! ## The round (R419) -/

/-- R419: a round whose conversions were taken. -/
def State.thmTaken (r : ThmRound) (s : State) : State :=
  let t := (List.range 23).map (fun n => s.refCorr (r.temps.getD n 0))
  let s := s.each (List.range 23) (State.thmSensor r t)
  let s := (s.thmSummary.thmSupplies r).thmFanMeas r
  let s := (s.wr THM_VHOLD_HVOK (b2n r.hvok)).wr THM_STAT_STALE 0
  (s.setThm (fun m => { m with miss := 0 })).thmCompensate

/-- R419, R422: a missed round keeps the values of the previous one; the second in a row emits EV 0x0F06. -/
def State.thmMissed (s : State) : State :=
  let n := s.thm.miss + 1
  let s := ((s.wr THM_STAT_STALE 1).inc THM_MISS_COUNT).setFlagBit THM_INTSTAT_FLAGS 5
  let s := s.setThm (fun m => { m with miss := n })
  s.when (n = 2) (fun s => s.emit 0x0F06 [s.rd THM_MISS_COUNT])

/-- R408: the check of the hold-up energy, at every round after the parameters-loaded step. -/
def State.thmHoldup (s : State) : State :=
  s.when (s.thm.loaded && !s.on THM_VHOLD_HVOK) (fun s => s.emit 0x0F0E [s.rd THM_VHOLD_VHOLD])

/-- R425: the first sensor at or above its shutdown threshold. -/
def State.thmTooHot (s : State) : Option Nat :=
  (List.range 23).find? (fun n =>
    if n < 16 then decide (1300 ≤ s.rdS (THM_SENS_T n)) else n = 22 && decide (s.plateLimit ≤ s.rdS (THM_SENS_T n)))

/-- A round's work after its values: throttling, hold-up, fans, shutdown. -/
def State.thmWork (s : State) : State :=
  let s := s.thmHost.thmRule
  let s := s.thmLevel (if 10 ≤ s.thm.miss then 3 else s.thm.under)
  let s := s.thmHoldup.each (List.range 4) State.fanRound
  let s := (s.setThm (fun m => { m with round := s.now + 1 })).setFlagBit THM_INTSTAT_FLAGS 0
  match s.thmTooHot with
  | some n => s.overTemp n (s.rdS (THM_SENS_T n))
  | none => s

/-- A housekeeping round, on a lease of the ADC (Table 14.4, resource 1). -/
def State.thmRound (r : ThmRound) (s : State) : State :=
  let s := (s.applyDue 0x0F 0).requestLease 1 0x0F
  let s := if s.holds 1 0x0F then s.thmTaken r else s.thmMissed
  (s.returnLease 1 0x0F).thmWork

end Sys2Proof.Machine
end

