-- ==== Sys2Proof/Machine/Settle.lean ====
section
/-!
DEFINITION. What blocks tell each other within a step (R23 and the block chapters), and the form of a command's answer: the
command's effect, the signals it sent, groups whose apply point has come (R365), and what Tocsin and SEC watch.
-/
namespace Sys2Proof.Machine

/-- A report of TBS reaches Carillon (R78), HSN (Table 4.2), the bases that follow it (R48), row 7 (R380) and the Yulis entry
(R479). -/
def State.carryBase (n what : Nat) (size : Int) (s : State) : State :=
  let s := (s.carBase n what size).hsnBase n what
  let s := s.when (what = 2 || what = 6) (State.tbDropSubs n)
  let s := s.when (bit (s.rd TSV_MPAR7_BASES) n && (what = 2 || (what = 4 && s.on TSV_MPAR7_SUSP))) (State.tsvFire 7 0)
  s.when (what = 3) (State.yulJump n)

/-- R167: a frame of a drive message goes to its controller; a waiting group of the message applies before it. -/
def State.carryDrive (d : Nat) (u : Int) (s : State) : State :=
  (s.applyDue 0x04 (0x90 + d)).when (s.blockOn 0x0C) (State.canDrive d u)

/-- R196: the section image is transmitted; a waiting image group applies before it. Over Yulis the next frame takes it. -/
def State.carryImage (parts : Nat) (s : State) : State :=
  let s := s.applyDue 0x09 1
  s.when (s.on SEC_IMGCFG_IMGEN && decide (s.rd SEC_IMGCFG_IMGBUS < 2) && s.blockOn 0x0C) (State.canImage parts)

/-- A signal is carried out. -/
def State.carry (g : Sig) (s : State) : State :=
  match g with
  | .rowFires m groups => s.tsvFire m groups
  | .actFault lsw ch code => s.cenActFault lsw ch code
  | .lsStuck n => s.lsStuckRow n
  | .base n what size => s.carryBase n what size
  | .secAnswer kind status h tag => s.secAnswer kind status h tag
  | .secOutcome h _ status _ => s.secOutcome h status
  | .firing _ _ _ => s
  | .driveFrame d u => s.carryDrive d u
  | .secImage parts => s.carryImage parts
  | .canDict n sa bytes => s.fromCan n sa bytes
  | .tunnel node bytes => s.fromNode node bytes
  | .safeShut => s.when (s.mayStart && s.domOn 1 && !s.on SYS_PWRSTAT_IGN) State.offAtOnce

/-- The signals are carried out in the order in which they were sent; `fuel` bounds their number. -/
def State.drain : Nat → State → State
  | 0, s => s
  | fuel + 1, s =>
    match s.sigs with
    | [] => s
    | g :: r => State.drain fuel (State.carry g { s with sigs := r })

/-- R378: a supervised channel has entered FAULT, or one of the slots of a channel that was ACTIVE in `o` HOLD, or a slot's third
consecutive LATE output has come. -/
def State.steerFalls (s o : State) (k : Nat) : Bool :=
  (o.cenCh k != 4 && s.cenCh k = 4) || (o.cenCh k = 1 && (o.cenBound k).any (fun n =>
    (s.cenSt n = 3 && o.cenSt n != 3) || ((s.cslot n).lateRun = 3 && (o.cslot n).lateRun = 2)))

/-- R378: row 6 fires in the cycle in which such a condition is entered. -/
def State.watchSteering (o : State) (s : State) : State :=
  s.each (s.steerChans.filter (fun k => s.blockOn 0x04 && s.steerFalls o k)) (fun _ s => s.tsvFire 6 0)

/-- R202: SEC in HOLD remembers when a cause was last present, before or after the step. -/
def State.watchSec (o : State) (s : State) : State :=
  if s.secSt = 3 && (o.secCause != 0 || s.secCause != 0) then { s with sec := { s.sec with causeAt := s.now } } else s

/-- What follows a command's own effect in the same step: from the state `o` before the command to `t` after its effect. -/
def State.settle (o t : State) : State :=
  let t := State.drain 1024 t
  let t := State.drain 1024 (t.when t.hsnWaits State.hsnSync).sweep
  let t := State.drain 1024 (State.watchSteering o t)
  State.watchSec o t

/-- The state after a command whose own effect on `s` gives `t`: what other blocks do in the same step has followed. -/
def State.after (s t : State) : State := s.fin (State.settle s t)

/-- The state after a power command whose own effect on `s` gives `t`. -/
def State.afterMgr (s t : State) : State := s.finMgr (State.settle s t)

/-- What is taken at the end of a cycle, after everything else in it: attaches (R387), and the end of a grace time that no acknowledgement
has met (R424). -/
def State.lastly (s : State) : State := (s.when (!s.tsv.attaches.isEmpty) State.attachAll).when (s.thm.due && s.blockOn 0x0F) State.thmEnforce

/-- One tick of module time: 5 ns (R9); bases that a structure commit has put in LOST enter SEEK (Table 2.2). Module time stands
while AON is off. -/
def State.tick (s : State) : State :=
  if s.domOn 1 then
    let s := if s.tsv.attaches.isEmpty && !s.thm.due then s else s.after s.lastly
    let t := { s with now := s.now + 5 }
    if s.tbs.seek.isEmpty then t else t.after t.tbSeekAll
  else s

/-- The answer of a command: its effect, and what other blocks do in the same step. -/
def State.ok (s t : State) : Host.Outcome State Fault Refusal := s.done (State.settle s t)

/-- The answer of a power command. -/
def State.okMgr (s t : State) : Host.Outcome State Fault Refusal := s.doneMgr (State.settle s t)

end Sys2Proof.Machine
end

