-- ==== Sys2Proof/Machine/Tsv.lean ====
section
/-!
DEFINITION. The commands of Tocsin (spec/14_safety_supervision_and_reset.md), one meaning per row.
-/
namespace Sys2Proof.Machine

/-- Something that Tocsin does: while SAF is on. -/
def State.tocsin (c : Bool) (f : State → State) (s : State) : Host.Outcome State Fault Refusal := s.ok (s.when (s.blockOn 0x01 && c) f)

/-! ## Detection (R375, R376, R382) -/

/-- CLOCK_FAULT (Table 14.1, row 0). -/
def execClockFault (c : Nat) (s : State) : Host.Outcome State Fault Refusal :=
  s.tocsin true (fun s => ((s.setTsvCond 0 (setBit (s.tsvCond 0) (c % 64))).emit 0x010E [c]).tsvFire 0 0)

/-- LOCKSTEP_MISMATCH (R382): row 1 and a supervisor reset; SHUTDOWN at the third in 10 s. -/
def execLockstepMismatch (s : State) : Host.Outcome State Fault Refusal :=
  s.tocsin true (fun s =>
    let l := s.now :: s.tsv.mismatch.filter (fun t => decide (s.now < t + 10000000000))
    let s := (s.tsvSet (fun t => { t with mismatch := l })).emit 0x010D [l.length]
    if 3 ≤ l.length then (s.rowReport 1 0xFF).tsvHold 0xFF 3 1 true else s.tsvFire 1 0)

/-- HEARTBEAT_LOST (Table 14.1, row 1). -/
def execHeartbeatLost (s : State) : Host.Outcome State Fault Refusal := s.tocsin true (State.tsvFire 1 0)

/-- R376: the hours in which corrected errors are counted: CE shows the last completed one. -/
def State.eccHour (s : State) : State :=
  let k := (s.now - s.tsv.hourAt) / 3600000000000
  if k = 0 then s
  else
    (s.wr TSV_ECCCNT_CE (if k = 1 then min s.tsv.ceHour 0xFFFF else 0)).tsvSet (fun t =>
      { t with hourAt := t.hourAt + k * 3600000000000, ceHour := 0, ceTold := false })

/-- R376: a corrected error. -/
def State.eccCorrected (s : State) : State :=
  let s := s.eccHour
  let n := s.tsv.ceHour + 1
  let told := s.tsv.ceTold || decide (s.rd TSV_MPAR2_CEMAX < n)
  let t := s.tsvSet (fun t => { t with ceHour := n, ceTold := told })
  t.when (told && !s.tsv.ceTold) (fun t => (t.tsvFlag 5).emit 0x010B [n])

/-- R376: an error in an NVM read fails the check of the structure that lies there, by Config.nvmAt's codes: a bank of the store, the OEM
default set, a place of the event log. -/
def State.nvmSpoils (what : Nat) (s : State) : State :=
  match what with
  | 0 => s
  | 1 => (s.setPds (fun p => { p with bankA := { p.bankA with good := false, erased := false, spoilt := true } })).showBanks
  | 2 => (s.setPds (fun p => { p with bankB := { p.bankB with good := false, erased := false, spoilt := true } })).showBanks
  | 3 => s.setPds (fun p => { p with oem := none })
  | k => { s with evr := { s.evr with log := s.evr.log.map (fun e => if e.1 + 4 = k then (e.1, { e.2 with good := false }) else e) } }

/-- R376: an uncorrectable error: row 2 reports it; a host core's is a row 3 failure of that core, Tocsin's own a row 1 failure. A fusion
history's restarts the estimator (R322); another block acts on its own at its own row (R146). -/
def State.eccLost (who mem addr : Nat) (s : State) : State :=
  let s := ((((s.eccHour).inc TSV_ECCCNT_UE).tsvFlag 5).emit 0x010C [mem, addr]).tsvFire 2 0
  let s := s.nvmSpoils (Config.nvmAt mem addr)
  if 0x20 ≤ who && who < 0x24 then s.coreFails (who - 0x20) else if who = 0x01 then s.tsvFire 1 0 else if who = 0x08 then s.fusMemory else s

/-- ECC_ERROR (R376). -/
def execEccError (who mem addr : Nat) (unc : Bool) (s : State) : Host.Outcome State Fault Refusal :=
  s.tocsin true (fun s => if unc then s.eccLost who mem addr else s.eccCorrected)

/-- MEMORY_SCRUB (R376): SRAM every hour, LPDDR5 every 24 hours. -/
def execMemoryScrub (dram : Bool) (s : State) : Host.Outcome State Fault Refusal :=
  let last := if dram then s.tsv.scrubDram else s.tsv.scrubSram
  let per := if dram then 86400000000000 else 3600000000000
  s.tocsin (decide (last + per ≤ s.now) && (!dram || s.domOn 3)) (fun s =>
    s.eccHour.tsvSet (fun t => if dram then { t with scrubDram := s.now } else { t with scrubSram := s.now }))

/-! ## Watchdogs (R390–R392) -/

/-- WDKICK (R390, R391): a host write of TSV_WDKICKk. -/
def execWdkick (k v : Nat) (s : State) : Host.Outcome State Fault Refusal :=
  s.ok (s.when (decide (k < 4)) (State.hostWrite (TSV_WDKICK_KEY k).addr (State.wdKick k (v % 65536))))

/-- WATCHDOG_EXPIRY (R390): no kick within WMAX. -/
def execWatchdogExpiry (k : Nat) (s : State) : Host.Outcome State Fault Refusal :=
  s.tocsin (decide (k < 4) && (s.wd k).running && s.wdDue k) (State.wdFault k 1)

/-- BOOT_WATCHDOG_EXPIRY (R391): core 0 gives no first kick within 2,000 ms of APP power-up. -/
def execBootWatchdogExpiry (s : State) : Host.Outcome State Fault Refusal :=
  s.tocsin (!(s.wd 0).running && s.wdDue 0) (State.wdFault 0 1)

/-! ## The checks at fixed times (R377–R379) -/

/-- R377: a channel in OFF, outside DECAY, with IMEAS above 100 mA. -/
def State.svLeaks (s : State) (n : Nat) : Bool := s.svState n = 0 && decide (100 < s.rd (SOL_CHSTAT_IMEAS n))

/-- R377: one reading of every channel; the groups in which a channel's third consecutive reading above 100 mA has come. -/
def State.stuckRead (s : State) : Nat × State :=
  let cnt (n : Nat) : Nat := if s.svLeaks n then tabGet 0 s.tsv.stuckCnt n + 1 else 0
  let hit := (List.range 24).filter (fun n => decide (3 ≤ cnt n))
  let gs := hit.foldl (fun m n => setBit m (n / 4)) 0
  let t := (List.range 24).foldl (fun t n => tabSet 0 t n (if 3 ≤ cnt n then 0 else cnt n)) s.tsv.stuckCnt
  (gs, s.tsvSet (fun x => { x with stuckCnt := t }))

/-- STUCK_CHECK (R377): every 10 ms. -/
def execStuckCheck (s : State) : Host.Outcome State Fault Refusal :=
  s.tocsin (s.blockOn 0x0A && s.now % 10000000 = 0) (fun s =>
    let r := s.stuckRead
    r.2.each ((List.range 6).filter (bit r.1)) (fun g s => s.svStuck g))

/-- STEERING_CHECK (R378): every 1 ms; row 6 fires as a deviation becomes long enough. -/
def execSteeringCheck (s : State) : Host.Outcome State Fault Refusal :=
  s.tocsin (s.now % 1000000 = 0) (fun s =>
    let s := s.tsvSet (fun t => { t with steerAt := s.steerChans.foldl (fun a k =>
      if s.steerOff k then (if tabGet 0 a k = 0 then tabSet 0 a k (s.now + 1) else a) else tabSet 0 a k 0) t.steerAt })
    let bad := (s.steerChans.filter s.steerLong).foldl setBit 0
    let new := s.steerChans.any (fun k => bit bad k && !bit (s.tsvCond 6) k)
    (s.setTsvCond 6 bad).when new (State.tsvFire 6 0))

/-- GROUND_SPEED_CHECK (R379): every 1 ms; row 8 fires as one of its conditions becomes present. -/
def execGroundSpeedCheck (s : State) : Host.Outcome State Fault Refusal :=
  s.tocsin (s.now % 1000000 = 0) (fun s =>
    let since (c : Bool) (a : Nat) : Nat := if c then (if a = 0 then s.now + 1 else a) else 0
    let s := s.tsvSet (fun t => { t with speedAt := since s.gsDiffer t.speedAt, motionAt := since s.gsMoves t.motionAt })
    let bad := s.gsBad
    let new := (List.range 3).any (fun i => bit bad i && !bit (s.tsvCond 8) i)
    (s.setTsvCond 8 bad).when new (State.tsvFire 8 0))

/-- SELF_TEST_DONE (R382, Table 15.2): the test that runs at every start of SAF passes, or fails into SHUTDOWN. -/
def execSelfTestDone (fail : Option Nat) (s : State) : Host.Outcome State Fault Refusal :=
  s.tocsin (!s.on TSV_STAT_STDONE && s.pwrStep = 2) (fun s =>
    match fail with
    | none => ((s.wr TSV_STAT_STDONE 1).wr SYS_PWRSTAT_STEP 3).emit 0x0101 []
    | some t => (s.emit 0x0102 [t]).when (s.slevel != 3) (State.tsvHold 0xFF 3 12 false))

/-! ## The host's requests (R388, R394, R401) -/

/-- ATTACH (R387, R388): a write with the key; the attach is taken at the end of the cycle. -/
def execAttach (v : Nat) (s : State) : Host.Outcome State Fault Refusal :=
  s.ok (s.hostWrite TSV_ATTACH_KEY.addr (State.when (bits v 0 16 = 0xA77A) (State.attachAsk (bits v 16 8))))

/-- SSREQ (R401): a write with the key holds groups, or every output. -/
def execSsreq (v : Nat) (s : State) : Host.Outcome State Fault Refusal :=
  s.ok (s.hostWrite TSV_SSREQ_KEY.addr (State.when (bits v 0 16 = 0xA77A)
    (fun s => s.tsvHold (bits v 16 8) (if bit v 31 then 2 else 1) 11 true)))

/-- RSTREQ (R394): a write asks for a reset, or is ignored with EV 0x0111. -/
def execRstreq (v : Nat) (s : State) : Host.Outcome State Fault Refusal :=
  s.ok (s.hostWrite TSV_RSTREQ_KEY.addr (fun s =>
    match resetRequest v with
    | some o => s.orderReset o
    | none => s.tsvIgnore (addrOff TSV_RSTREQ_KEY.addr)))

/-- RESET (R393): the next order is carried out, or one that Tocsin or a domain manager gives, unless a power fail or a shut-down is under
way. -/
def execReset (own : Option (Nat × Nat × Nat)) (s : State) : Host.Outcome State Fault Refusal :=
  s.okMgr (s.when (s.mayStart && s.domOn 1) (fun s =>
    match own with
    | some (k, t, src) => if ownReset k t src then s.doReset ⟨k, t, src, 0xF, false⟩ else s
    | none =>
      match s.tsv.orders with
      | o :: r => State.doReset o (s.tsvSet (fun t => { t with orders := r }))
      | [] => s))

/-- SUPERVISOR_RESET_COMMAND (R403): a write to P.01.00.0F0 as R364 takes it. -/
def execSupervisorResetCommand (v role : Nat) (s : State) : Host.Outcome State Fault Refusal :=
  s.ok (s.ifOn 0x12 (fun s => (s.parWrite ⟨0, 0, role⟩ 0x001000F0 0 (leBytes 4 v)).2))

/-- COLD_START_COMMAND (R403): a write to P.01.00.0F1. -/
def execColdStartCommand (v role : Nat) (s : State) : Host.Outcome State Fault Refusal :=
  s.ok (s.ifOn 0x12 (fun s => (s.parWrite ⟨0, 0, role⟩ 0x001000F1 0 (leBytes 4 v)).2))

/-! ## Orphan timers, Tocsin out (R385, R386) -/

/-- ORPHAN_EXPIRY (R386): the managers in AON run the timers. -/
def execOrphanExpiry (g : Nat) (s : State) : Host.Outcome State Fault Refusal :=
  s.ok (s.when (s.domOn 1 && decide (g < 8) && s.orphanDue g) (State.orphanOff g))

/-- TSV_UNAVAILABLE (R385): SAF is out and the managers hold every output at level ALL. -/
def execTsvUnavailable (s : State) : Host.Outcome State Fault Refusal :=
  s.ok (s.when (s.domOn 1 && !s.domOn 2) State.managersHold)

/-! ## Leases (R396–R399) -/

/-- LEASE_REQUEST (R396, R397): a holder that acts requests a resource. -/
def execLeaseRequest (r h : Nat) (s : State) : Host.Outcome State Fault Refusal :=
  s.ok (s.when (decide (r < 5) && s.live h) (State.requestLease r h))

/-- LEASE_RETURN (R397): a holder returns its lease, or renews it. -/
def execLeaseReturn (r h : Nat) (renew : Bool) (s : State) : Host.Outcome State Fault Refusal :=
  s.ok (s.when (decide (r < 5) && s.live h && s.holds r h) (fun s => if renew then s.requestLease r h else s.returnLease r h))

/-- LEASE_EXPIRY (R398, cause 3): the lease time ends. -/
def execLeaseExpiry (r : Nat) (s : State) : Host.Outcome State Fault Refusal :=
  let l := s.lease r
  s.ok (s.when (decide (r < 5) && s.domOn 1 && l.state = 1 && l.expiry != 0 && decide (l.expiry ≤ s.now)) (State.revokeLease r 3 none))

/-- R398: the case of a revocation is present. -/
def State.mayRevoke (s : State) (r cause : Nat) (party : Option Nat) : Bool :=
  let l := s.lease r
  match cause with
  | 1 => true
  | 2 => !s.live l.owner && !(r = 0 && l.owner = 0x12 && s.pds.holdup && !s.isFenced 0x12)
  | 3 => l.expiry != 0 && decide (l.expiry ≤ s.now)
  | 4 => r = 4 && s.slevel = 3
  | 5 => match party with | some h => (leaseHolders r).contains h | none => false
  | _ => false

/-- LEASE_REVOKE (R398, R399). -/
def execLeaseRevoke (r cause : Nat) (party : Option Nat) (s : State) : Host.Outcome State Fault Refusal :=
  s.ok (s.when (decide (r < 5) && s.domOn 1 && s.mayRevoke r cause party) (State.revokeLease r cause party))

/-- ROLLBACK_COMPLETE (R398); a reset that has waited for it goes on (R393). -/
def execRollbackComplete (r : Nat) (s : State) : Host.Outcome State Fault Refusal :=
  s.okMgr (s.when (decide (r < 5) && s.domOn 1) (fun s => (s.rollbackDone r).resetGoesOn))

end Sys2Proof.Machine
end

