-- ==== Sys2Proof/Machine/BusOps.lean ====
section
/-!
DEFINITION. What a register access reads and writes (spec/00_scope.md, R4–R8; R20, R28, R33): registers by their access codes, the
registers and windows whose contents the blocks form when they are read, and direct writes.
-/
namespace Sys2Proof.Machine

/-! ## Registers whose fields are formed at the read -/

/-- A time left, in units, rounded up. -/
def leftOf (end_ now unit : Nat) : Nat := (end_ - now + unit - 1) / unit

def State.viewSys (s : State) (off : Nat) : List (Fld × Nat) :=
  if off = 0x100 then [(SYS_PWRSTAT_RUNLEFT, if s.rd SYS_PWRSTAT_STEP = 8 then min (leftOf s.mgr.runEnd s.now 1000000000) 1023 else 0)]
  else if off = 0x104 then [(SYS_DOMSTAT_ON, s.mgr.on), (SYS_DOMSTAT_FLT, s.mgr.flt)]
  else []

/-- TSV: ACTIVE and COUNT of the rows, the leases, the corrected errors of the last completed hour. -/
def State.viewTsv (s : State) (off : Nat) : List (Fld × Nat) :=
  if off = 0x40 then [(TSV_ECCCNT_CE, s.eccHour.rd TSV_ECCCNT_CE)]
  else if 0x100 ≤ off ∧ off < 0x1B0 ∧ off % 16 = 8 then
    let m := (off - 0x100) / 16
    [(TSV_MST_ACTIVE m, b2n (s.rowActive m))]
  else if 0x300 ≤ off ∧ off < 0x314 then
    let r := (off - 0x300) / 4
    let l := s.lease r
    [(TSV_LSTAT_STATE r, l.state), (TSV_LSTAT_OWNER r, if l.state = 0 then 0xFF else l.owner),
     (TSV_LSTAT_LEFT r, if l.expiry = 0 then 0xFFFF else min (leftOf l.expiry s.now 1000000) 0xFFFF)]
  else if 0x320 ≤ off ∧ off < 0x334 then
    let r := (off - 0x320) / 4
    [(TSV_LCNT_GRANTS r, (s.lease r).grants), (TSV_LCNT_REVOKES r, (s.lease r).revokes)]
  else []

def State.viewCar (s : State) (off : Nat) : List (Fld × Nat) :=
  if off = 0 then [(CAR_STAT_INUSE, s.carUsed), (CAR_STAT_HELD, s.carHeld)]
  else if 0x60 ≤ off ∧ off < 0x74 then [(CAR_INUSE_INUSE ((off - 0x60) / 4), s.carOfPort ((off - 0x60) / 4))]
  else if 0x1000 ≤ off ∧ off < 0x1800 then
    let k := (off - 0x1000) / 8
    if off % 8 = 0 then wordViews (CAR_SLOTST_fam.fields [k]) (s.carSlotSt k) else [(CAR_SLOTPRED_TIME k, s.carSlotPred k)]
  else []

def State.viewTbs (s : State) (off : Nat) : List (Fld × Nat) :=
  if off = 0 then [(TBS_GSTAT_STATE, s.tbGstat)] else if off = 4 then [(TBS_GFLAG_ANY, s.tbGflag)] else []

/-- CEN: LSETP of a bound slot or an inner one reads the setpoint in use, LSTAT whether the index base is VALID (R152). -/
def State.viewCen (s : State) (off : Nat) : List (Fld × Nat) :=
  if off = 0 then wordViews (CEN_STAT_fam.fields []) s.cenStat
  else if off = 0x0C then wordViews (CEN_LOAD_fam.fields []) s.cenLoad
  else if off = 0x28 then [(CEN_TDATA_VAL, s.cenTdata)]
  else if 0x1000 ≤ off ∧ off < 0x4000 ∧ off % 0x80 = 0x38 then
    let n := (off - 0x1000) / 0x80
    match s.cenLoopOf n with
    | some k => [(CEN_LSETP_SETP n, s.rd (CEN_FSP_SP k))]
    | none => if (s.cenOuter n).isSome then [(CEN_LSETP_SETP n, tc 32 (s.cslot n).setp)] else []
  else if 0x1000 ≤ off ∧ off < 0x4000 ∧ off % 0x80 = 0x44 then
    [(CEN_LSTAT_IDXINV ((off - 0x1000) / 0x80), b2n (s.cenIdxInv ((off - 0x1000) / 0x80)))]
  else []

/-- HSN: YFLOW reads 0 while the yield window's base is in STILL (R93). -/
def State.viewHsn (s : State) (off : Nat) : List (Fld × Nat) :=
  if off = 4 then [(HSN_STAT_YMODE, s.hsnYmode), (HSN_STAT_CROPIN, s.rd HSN_CROP_CROP), (HSN_STAT_NLMODE, s.rd HSN_NLCFG_MODE)]
  else if off = 0x18 then (if s.hsnYieldWin.any (fun n => s.hsnBaseSt n = 3) then [(HSN_YFLOW_FLOW, 0)] else [])
  else if off = 0x58 then [(HSN_NLCOV0_COVH, s.hsnCov 1), (HSN_NLCOV0_COVL, s.hsnCov 0)]
  else if off = 0x5C then [(HSN_NLCOV1_COVH, s.hsnCov 3), (HSN_NLCOV1_COVL, s.hsnCov 2)]
  else if 0x100 ≤ off ∧ off < 0x180 ∧ off % 16 = 8 then
    let c := (off - 0x100) / 16
    [(HSN_LSTAT_ENV c, min ((s.hsnCh c).env / 65536) 0xFFFF),
     (HSN_LSTAT_FLOOR c, min (s.hsnFloor c (bits (s.tbPhase (s.rd HSN_CTL_RBASE)) 16 8)).1 0xFFFF)]
  else []

def State.viewVis (s : State) (off : Nat) : List (Fld × Nat) :=
  if off = 0 then wordViews (VIS_STAT_fam.fields []) s.visStat
  else if off = 0x0C then [(VIS_LOAD_BUSY, s.visLoadOf false), (VIS_LOAD_QUIET, s.visLoadOf true)]
  else if 0x100 ≤ off ∧ off < 0x1C0 ∧ off % 0x40 = 0x14 then
    let p := (off - 0x100) / 0x40
    [(VIS_PSTAT_QD p, min (s.vis.queue.filter (fun f => f.port = p)).length 7)]
  else []

def State.viewSol (s : State) (off : Nat) : List (Fld × Nat) :=
  if off = 4 then [(SOL_STAT_LEASE, b2n (s.holds 4 0x0A))]
  else if 0x100 ≤ off ∧ off < 0x160 ∧ off % 16 = 0 then [(SOL_GSTAT_PKMAX ((off - 0x100) / 16), s.pkmax ((off - 0x100) / 16))]
  else []

def State.viewLsw (s : State) (off : Nat) : List (Fld × Nat) :=
  let chans := List.range 48
  if off = 0 then
    [(LSW_STAT_BONA, b2n (s.domOn 11)), (LSW_STAT_BONB, b2n (s.domOn 12)),
     (LSW_STAT_NFAULT, (chans.filter (fun n => s.lsOn n && s.lsState n = 3)).length),
     (LSW_STAT_NON, (chans.filter (fun n => s.lsOn n && s.lsIsOn n)).length)]
  else if 0x400 ≤ off ∧ off < 0x1000 ∧ off % 0x40 = 0x14 then
    [(LSW_CHSTAT_LATCH ((off - 0x400) / 0x40), b2n (s.lsLatched ((off - 0x400) / 0x40)))]
  else []

/-- CAN: the head frame of a FIFO (R335). -/
def State.viewCan (s : State) (off : Nat) : List (Fld × Nat) :=
  let n := off / 0x1000
  let o := off % 0x1000
  if n < 6 ∧ 0xC00 ≤ o ∧ o < 0xE00 then
    let q := (o - 0xC00) / 0x100
    match o % 0x100 with
    | 0x00 => wordViews (CAN_RXH_fam.fields [n, q]) (s.canHead n q 0)
    | 0x04 => wordViews (CAN_RXI_fam.fields [n, q]) (s.canHead n q 1)
    | 0x08 => [(CAN_RXTL_TS n q, s.canHead n q 2)]
    | 0x0C => [(CAN_RXTH_TS n q, s.canHead n q 3)]
    | 0x14 => [(CAN_RXFSTAT_FILL n q, (s.canFifo n q).length)]
    | _ => []
  else []

def State.viewFlt (s : State) (off : Nat) : List (Fld × Nat) :=
  if off = 0 then wordViews (FLT_STAT_fam.fields []) s.fltStat
  else if 0x1000 ≤ off ∧ off < 0x1400 ∧ off % 16 = 12 then wordViews (FLT_SSTAT_fam.fields [(off - 0x1000) / 16]) (s.fltSstat ((off - 0x1000) / 16))
  else []

def State.viewEvr (s : State) (off : Nat) : List (Fld × Nat) :=
  if off = 0 then [(EVR_STAT_ACC, b2n s.evr.acc.isSome), (EVR_STAT_QFILL, s.evr.queue.length)]
  else if off = 0x0C then [(EVR_OPTIME_OPTIME, s.optime)]
  else if off = 0x10 then [(EVR_PCYC_PCYC, s.evr.pcyc)]
  else []

def State.viewPds (s : State) (off : Nat) : List (Fld × Nat) :=
  if off = 0 then
    [(PDS_STAT_QUEUED, b2n (!s.pds.queued.isEmpty)), (PDS_STAT_SSOK, b2n s.standstill), (PDS_STAT_NSESS, s.pds.sess.length),
     (PDS_STAT_NTXN, s.pds.txns.length)]
  else []

/-- The fields of the register at an address that the block forms at the read. -/
def State.busViews (s : State) (a : Nat) : List (Fld × Nat) :=
  let off := addrOff a
  match addrBlock a with
  | 0x00 => s.viewSys off
  | 0x01 => s.viewTsv off
  | 0x02 => s.viewCar off
  | 0x03 => s.viewTbs off
  | 0x04 => s.viewCen off
  | 0x05 => s.viewHsn off
  | 0x06 => s.viewVis off
  | 0x07 => if off = 0x190 then wordViews (GNS_RET_fam.fields []) s.gnsRetWord else []
  | 0x08 =>
    if 0x100 ≤ off ∧ off < 0x300 ∧ off % 0x80 = 0x44 then [(FUS_PRES_BUSY ((off - 0x100) / 0x80), b2n (s.fusBusy ((off - 0x100) / 0x80)))]
    else []
  | 0x09 => if off = 4 then wordViews (SEC_STAT_fam.fields []) s.secStat else []
  | 0x0A => s.viewSol off
  | 0x0B => s.viewLsw off
  | 0x0C => s.viewCan off
  | 0x0E => s.viewFlt off
  | 0x0F => if off = 0 then [(THM_STAT_GRLEFT, if s.thm.grace = 0 then 0 else min (leftOf (s.thm.grace - 1) s.now 1000000) 0xFFFF)] else []
  | 0x10 =>
    if 0x100 ≤ off ∧ off < 0x180 ∧ off % 16 = 4 then [(DSP_UASTAT_UNKNOWN ((off - 0x100) / 16), b2n (s.areaUnknown ((off - 0x100) / 16)))]
    else []
  | 0x11 => s.viewEvr off
  | 0x12 => s.viewPds off
  | _ => []

/-! ## Windows of data -/

/-- A word of a ring of entries of `n` words. -/
def ringWord (t : Tab (List Nat)) (n off : Nat) : Nat := (tabGet [] t (off / (4 * n))).getD (off % (4 * n) / 4) 0

/-- A word of a byte buffer. -/
def bufWord (t : Tab Nat) (off : Nat) : Nat := leNat ((List.range 4).map (fun i => tabGet 0 t (off + i)))

/-- The word at an address of a ring, a buffer or a table that a window shows; none where the address is no such word. -/
def State.busData (s : State) (a : Nat) : Option Nat :=
  let off := addrOff a
  let at_ (lo size : Nat) : Bool := decide (lo ≤ off) && decide (off < lo + size)
  match addrBlock a with
  | 0x02 => if at_ 0x8000 0x4000 then some (ringWord s.car.ring 8 (off - 0x8000)) else none
  | 0x04 => if at_ 0x8000 0x2000 then some (ringWord s.cen.ring 8 (off - 0x8000)) else none
  | 0x05 =>
    if at_ 0x2000 0x2000 then some (ringWord s.hsn.wring 32 (off - 0x2000))
    else if at_ 0x4000 0x2000 then some (ringWord s.hsn.yring 16 (off - 0x4000))
    else if at_ 0x8000 0x8000 then some (s.hsnNoiseWord ((off - 0x8000) / 4))
    else none
  | 0x06 => if at_ 0x2000 0x1000 then some (ringWord s.vis.ring 16 (off - 0x2000)) else none
  | 0x07 => if at_ 0x4000 0xC000 then some (s.gnsSlotWord off) else none
  | 0x08 => if at_ 0x8000 0x8000 then some (s.fusRingWord (off - 0x8000)) else none
  | 0x0C =>
    let o := off % 0x1000
    if off < 0x6000 ∧ 0xC00 ≤ o ∧ o < 0xE00 ∧ 0x40 ≤ o % 0x100 ∧ o % 0x100 < 0x80 then
      some (s.canHead (off / 0x1000) ((o - 0xC00) / 0x100) (4 + (o % 0x100 - 0x40) / 4))
    else none
  | 0x10 =>
    if at_ 0x8000 0x4000 then some (bufWord s.dsp.back (off - 0x8000))
    else if at_ 0xC000 0x960 then some (bufWord s.dsp.label (off - 0xC000))
    else none
  | 0x13 =>
    if at_ 0x1000 0x100 then some (s.yulBackWord (off - 0x1000))
    else if at_ 0x2000 0x800 then some (s.yulRxWord (off - 0x2000))
    else none
  | _ => none

/-- Bytes of a word put into a byte buffer. -/
def bufPut (t : Tab Nat) (off w : Nat) : Tab Nat := (List.range 4).foldl (fun t i => tabSet 0 t (off + i) (byteOf w i)) t

/-- A write to a data window: the panel's back buffer, the label's target image, the outgoing Yulis image; the others are RO. -/
def State.busPut (a w : Nat) (s : State) : State :=
  let off := addrOff a
  let at_ (lo size : Nat) : Bool := decide (lo ≤ off) && decide (off < lo + size)
  match addrBlock a with
  | 0x10 =>
    if at_ 0x8000 0x4000 then { s with dsp := { s.dsp with back := bufPut s.dsp.back (off - 0x8000) w } }
    else if at_ 0xC000 0x960 then { s with dsp := { s.dsp with label := bufPut s.dsp.label (off - 0xC000) w } }
    else s
  | 0x13 => if at_ 0x1000 0x100 then s.yulBackWrite (off - 0x1000) w else s
  | _ => s

/-! ## Reading -/

/-- R6, R8: what a field reads as: the staged value of an RWS field, 0 for WO and WS, else the current value. -/
def State.readFld (s : State) (views : List (Fld × Nat)) (f : Fld) : Nat :=
  match views.find? (fun e => e.1 = f) with
  | some e => e.2
  | none =>
    match f.acc with
    | .wo | .ws => 0
    | .rws => s.stagedVal f
    | _ => s.rd f

/-- R5, R6: a register's word: its fields, reserved bits 0; 0 where no register is assigned. -/
def State.regWord (s : State) (a : Nat) : Nat :=
  match s.busData a with
  | some w => w % 2 ^ 32
  | none => packFlds ((regFields a).map (fun f => (f, s.readFld (s.busViews a) f)))

/-- A read and its effect: registers whose read latches others, and FUS_LOAD, whose value the spec leaves open (R317). -/
def State.readWord (s : State) (a : Nat) : Nat × State :=
  match addrBlock a with
  | 0x03 => if 0x100 ≤ addrOff a ∧ addrOff a < 0x500 ∧ addrOff a % 0x80 = 0x28 then s.tbReadPhase ((addrOff a - 0x100) / 0x80)
            else (s.regWord a, s)
  | 0x07 => if a = GNS_TQWK_WEEK.addr then s.gnsReadTqwk else (s.regWord a, s)
  | 0x08 => if a = (FUS_LAST_WORD 0).addr then s.fusReadLast else if a = FUS_LOAD_BUSY.addr then s.fusLoad else (s.regWord a, s)
  | 0x0D => if a = ETH_PTPOFSLO_OFS.addr then s.ethReadOfs else (s.regWord a, s)
  | 0x13 => if a = YUL_MTOFSLO_OFS.addr then s.yulReadOfs else (s.regWord a, s)
  | _ => (s.regWord a, s)

/-! ## Writing -/

/-- R8: a write of the word `w` to one field that is not staged. -/
def State.writeFld (w : Nat) (f : Fld) (s : State) : State :=
  match f.acc with
  | .rw => s.wr f (fldOf f w)
  | .w1c => s.clearFlags f w
  | _ => s

/-- R8: a write to a register by the access codes of its fields. -/
def State.writeFlds (agent : Agent) (fs : List Fld) (w : Nat) (s : State) : State :=
  let rws := fs.filter (fun f => f.acc = .rws)
  let s := s.each fs (State.writeFld w)
  if rws.isEmpty then s else s.stageDirect agent rws w

/-- R327: the buffer whose staging or strobe registers an offset in a controller's window belongs to. -/
def canBufOf (o : Nat) : Option Nat :=
  if 0x100 ≤ o ∧ o < 0x280 ∧ (o % 0x80 < 0x10 ∨ 0x40 ≤ o % 0x80) then some ((o - 0x100) / 0x80) else none

/-- A direct write to a register without a row of its own, with what the register's own chapter adds: reserved CAN buffers (R327), RETFULL
while a slot is HELD (R77), a setpoint in use (CEN_LSETP), a peak that takes a write of 0 alone (CEN_LLAT), a virtual base's rate (R38). -/
def State.writeReg (agent : Agent) (a w : Nat) (s : State) : State :=
  let off := addrOff a
  let plain (s : State) : State := (s.writeFlds agent (regFields a) w).busPut a w
  match addrBlock a with
  | 0x02 => if off = 4 then (plain s).carFullAgain else plain s
  | 0x03 =>
    if 0x100 ≤ off ∧ off < 0x500 ∧ off % 0x80 = 0x20 then (plain s).tbVirtual ((off - 0x100) / 0x80) else plain s
  | 0x04 =>
    if 0x1000 ≤ off ∧ off < 0x4000 ∧ off % 0x80 = 0x38 then
      if (s.cenLoopOf ((off - 0x1000) / 0x80)).isSome || (s.cenOuter ((off - 0x1000) / 0x80)).isSome then s else plain s
    else if 0x1000 ≤ off ∧ off < 0x4000 ∧ off % 0x80 = 0x54 then
      if w % 65536 = 0 then plain s else s
    else plain s
  | 0x0C =>
    match canBufOf (off % 0x1000) with
    | some b => if off < 0x6000 && s.canReserved (off / 0x1000) b then s.canIgnore (off / 0x1000) b else plain s
    | none => plain s
  | _ => plain s

/-- R400: the TSV registers that the host may write. -/
def tsvHostRegs : List Nat := [0x04, 0x08, 0x10, 0x14, 0x18, 0x1C, 0x30, 0x38, 0x3C]

end Sys2Proof.Machine
end

