-- ==== Sys2Proof/Machine/Car.lean ====
section
/-!
DEFINITION. The commands of Carillon (spec/03_carillon_event_engine.md), one meaning per row.
-/
namespace Sys2Proof.Machine

/-- A strobe of a host port (R60): kind 0 POST, 1 RETIME, 2 REVOKE, 3 FLUSH. -/
def State.carHost (p kind : Nat) (strobe : Nat → Fld) (s : State) : State :=
  s.when (decide (p < 4)) (State.hostWrite (strobe p).addr (State.carStrobe p kind (strobe p)))

/-- POST (R60, R61): the port is BUSY with the descriptor's post until the next round decides it (Table 3.2). -/
def execPost (p : Nat) (s : State) : Host.Outcome State Fault Refusal := s.ok (s.carHost p 0 CAR_HPPOST_GO)

/-- RETIME (R60, R63, Table 3.3): decided in the next round. -/
def execRetime (p : Nat) (s : State) : Host.Outcome State Fault Refusal := s.ok (s.carHost p 1 CAR_HPRETIME_GO)

/-- REVOKE (R60, R63, Table 3.3): decided in the next round. -/
def execRevoke (p : Nat) (s : State) : Host.Outcome State Fault Refusal := s.ok (s.carHost p 2 CAR_HPREVOKE_GO)

/-- FLUSH (R60, R64): carried out in the next round. -/
def execFlush (p : Nat) (s : State) : Host.Outcome State Fault Refusal := s.ok (s.carHost p 3 CAR_HPFLUSH_GO)

/-- PREDICTION_ROUND (R65): once at every module time that is a multiple of 1,000 ns, while RT is on. -/
def execPredictionRound (s : State) : Host.Outcome State Fault Refusal :=
  s.ok (s.when (s.blockOn 0x02 && s.now % 1000 = 0 && s.car.round != s.now + 1) (fun s => s.carRound.svFlush))

/-- EVENT_FIRE (R68–R75, R83): the committed events whose time has come fire; `bad` are slots on which the second comparator
differs: one that is due has missed its firing and stays committed, any other would have fired spuriously and does not. -/
def execEventFire (bad : List Nat) (s : State) : Host.Outcome State Fault Refusal :=
  s.ok (s.ifOn 0x02 (fun s => ((s.carFireAll bad).each (bad.filter (· < 256)) State.carMismatch).svFlush))

/-- RETIREMENT_WRITE (R76, R77): the next entry is written if the ring has space. -/
def execRetirementWrite (s : State) : Host.Outcome State Fault Refusal := s.ok (s.ifOn 0x02 State.carWriteEntry)

/-- CAR_RETRD_WRITE (R77): RD moves within the span from RD to WR; another value is ignored with EV 0x020B, whose first
parameter the spec does not fix for it. -/
def execCarRetrdWrite (v : Nat) (s : State) : Host.Outcome State Fault Refusal :=
  s.ok (s.hostWrite CAR_RETRD_RD.addr (fun s =>
    if (v % 1024 + 1024 - s.rd CAR_RETRD_RD) % 1024 ≤ s.carUnread then
      s.wr CAR_RETRD_RD v
    else
      let r := s.takeFree 32
      r.2.emit 0x020B [r.1, addrOff CAR_RETRD_RD.addr]))

end Sys2Proof.Machine
end

