-- ==== Sys2Proof/Machine/Cen.lean ====
section
/-!
DEFINITION. The commands of the control engine (spec/06_control_engine_and_function_channels.md), one meaning per row.
-/
namespace Sys2Proof.Machine

/-- A host command of a slot or a channel. -/
def State.cenCmd (f : Nat → Fld) (n count : Nat) (g : State → State) (s : State) : State :=
  if n < count then s.hostWrite (f n).addr g else s

/-- TIMER_TRIGGER (R153): the timer of a slot with TRIG = 2. -/
def execTimerTrigger (n : Nat) (s : State) : Host.Outcome State Fault Refusal :=
  s.ok (s.when (s.live 0x04 && decide (n < 96) && s.rd (CEN_LCTL_TRIG n) = 2 &&
      s.now % (s.rd (CEN_LTIM_PERIOD n) * 1000) = s.rd (CEN_LTIM_OFS n) * 1000)
    (State.cenTrigger n s.now))

/-- SWTRIG (R153): a write of CEN_SWTRIG triggers the slot; values above 95 are ignored. -/
def execSwtrig (n : Nat) (s : State) : Host.Outcome State Fault Refusal :=
  s.ok (s.hostWrite CEN_SWTRIG_SLOT.addr (fun s => s.when (decide (n < 96)) (State.cenTrigger n s.now)))

/-- EVALUATION_ISSUE (R156, R160, R173): the next eligible trigger is issued; the slot's waiting set applies first. -/
def execEvaluationIssue (s : State) : Host.Outcome State Fault Refusal :=
  s.ok (s.ifLive 0x04 (fun s =>
    match s.cenPick with
    | some (p, t) => ((s.cenIssued p.slot t).applyDue 0x04 p.slot).cenCompute p t
    | none => s))

/-- EVALUATION_OUTPUT (R149, R157–R159, R166, R170, R176): the evaluation whose compute time has passed writes its output. -/
def execEvaluationOutput (s : State) : Host.Outcome State Fault Refusal :=
  s.ok (s.ifLive 0x04 (fun s =>
    match (s.cen.flight.filter (fun f => decide (f.out24 ≤ 24 * s.now))) with
    | [] => s.svFlush
    | f :: q => (s.cenOutput (q.foldl (fun b x => if x.out24 < b.out24 then x else b) f)).svFlush))

/-- SAMPLE_TIMEOUT (R163): STO ms without a trigger in MAN or AUTO: HOLD with NOSAMP, reported to Tocsin (R179). -/
def execSampleTimeout (n : Nat) (s : State) : Host.Outcome State Fault Refusal :=
  s.ok (s.when (s.live 0x04 && decide (n < 96) && (s.cenSt n = 1 || s.cenSt n = 2) && s.rd (CEN_LSUP_STO n) != 0 &&
      decide ((s.cslot n).seen + s.rd (CEN_LSUP_STO n) * 1000000 ≤ s.now))
    (fun s => (((s.setFlag (CEN_LFLAG_NOSAMP n)).setFlag CEN_INTSTAT_NOSAMP).cenHold n 1).toTocsin))

/-- INTERLOCK_SCAN (R165, R168, R169): every 10 µs. -/
def execInterlockScan (s : State) : Host.Outcome State Fault Refusal :=
  s.ok (s.when (s.live 0x04 && s.now % 10000 = 0) (fun s => (s.applyDue 0x04 0xF0).cenScan.svFlush))

/-- ARM (R169). -/
def execArm (k : Nat) (s : State) : Host.Outcome State Fault Refusal := s.ok (s.cenCmd CEN_FCMD_CMD k 48 (State.cenArm k))

/-- DISARM (R169). -/
def execDisarm (k : Nat) (s : State) : Host.Outcome State Fault Refusal := s.ok (s.cenCmd CEN_FCMD_CMD k 48 (State.cenDisarm k))

/-- SLOT_OFF (R162). -/
def execSlotOff (n : Nat) (s : State) : Host.Outcome State Fault Refusal :=
  s.ok (s.cenCmd CEN_LCMD_CMD n 96 (State.cenEnter n 0 none))

/-- SLOT_MAN (R150, Table 6.3): ignored for a slot of a channel not IDLE, and in HOLD. -/
def execSlotMan (n : Nat) (s : State) : Host.Outcome State Fault Refusal :=
  s.ok (s.cenCmd CEN_LCMD_CMD n 96 (fun s =>
    if s.cenTaken n || s.cenSt n = 3 || s.cenSt n = 1 then s else s.cenEnter n 1 none))

/-- SLOT_AUTO (R149, Table 6.3): ignored for a slot of a channel not IDLE, and in HOLD. -/
def execSlotAuto (n : Nat) (s : State) : Host.Outcome State Fault Refusal :=
  s.ok (s.cenCmd CEN_LCMD_CMD n 96 (fun s =>
    if s.cenTaken n || s.cenSt n = 3 || s.cenSt n = 2 then s else s.cenEnter n 2 none))

/-- RESET_INTEGRATOR (CEN_LCMDn): i becomes 0. -/
def execResetIntegrator (n : Nat) (s : State) : Host.Outcome State Fault Refusal :=
  s.ok (s.cenCmd CEN_LCMD_CMD n 96 (fun s => s.setCslot n { s.cslot n with i := 0 }))

/-- RELEASE (Table 6.4): an unbound slot leaves HOLD with FBINV or FENCE. -/
def execRelease (n : Nat) (s : State) : Host.Outcome State Fault Refusal :=
  s.ok (s.cenCmd CEN_LCMD_CMD n 96 (fun s =>
    if s.cenSt n = 3 && (s.cenChanOf n).isNone && (s.rd (CEN_LSTAT_CAUSE n) = 2 || s.rd (CEN_LSTAT_CAUSE n) = 5) then
      s.cenUnhold n
    else s))

/-- XFB_WRITE (R151): the feedback value and the module time of its write. -/
def execXfbWrite (n v : Nat) (s : State) : Host.Outcome State Fault Refusal :=
  s.ok (s.cenCmd CEN_XFB_RAW n 16 (fun s =>
    { s with cen := { s.cen with xfb := tabPut s.cen.xfb n (s.now + 1) } }.wr (CEN_XFB_RAW n) v))

/-- ACTUATOR_FAULT (R171): a report on a claimed output; its channel enters FAULT with cause ACT. -/
def execActuatorFault (lsw : Bool) (ch code : Nat) (s : State) : Host.Outcome State Fault Refusal :=
  s.ok (s.when (code != 0) (State.signal (.actFault lsw ch code)))

/-- CEN_RING_READ_WRITE (R176): a write of CEN_TRRD. For EV 0x040D the spec names no slot: a free value. -/
def execCenRingReadWrite (v : Nat) (s : State) : Host.Outcome State Fault Refusal :=
  s.ok (s.hostWrite CEN_TRRD_IDX.addr (fun s =>
    if (v % 512 + 512 - s.rd CEN_TRRD_IDX) % 512 ≤ s.cenUnread then s.wr CEN_TRRD_IDX v
    else (s.takeFree 8).2.emit 0x040D [(s.takeFree 8).1, addrOff CEN_TRRD_IDX.addr]))

end Sys2Proof.Machine
end

