-- ==== Sys2Proof/Machine/Dsp.lean ====
section
/-!
DEFINITION. The commands of the displays (spec/16_displays.md), one meaning per row.
-/
namespace Sys2Proof.Machine

/-! ## The panel (R436–R440) -/

/-- A command written to DSP_PCMD. -/
def State.panelCmd (f : State → State) (s : State) : Host.Outcome State Fault Refusal := s.ok (s.hostWrite DSP_PCMD_CMD.addr f)

/-- PANEL_ON (R439): OFF to PRECHG with EN = 1 in effect. -/
def execPanelOn (s : State) : Host.Outcome State Fault Refusal :=
  s.panelCmd (fun s => s.when (s.pst = 0 && s.on DSP_PCFG_EN) (State.panelTo 1))

/-- PANEL_OFF (R439): PRECHG or ON to DISCHG. -/
def execPanelOff (s : State) : Host.Outcome State Fault Refusal := s.panelCmd State.panelDischarge

/-- FLIP (R438): the exchange at the next frame start, or at once while the panel is OFF. -/
def execFlip (s : State) : Host.Outcome State Fault Refusal :=
  s.panelCmd (fun s => if s.pst = 0 then s.dspFlip else s.wr DSP_STAT_FLIPPEND 1)

/-- PANEL_CLR (R439): FAULT to OFF; a pending exchange takes place there. -/
def execPanelClr (s : State) : Host.Outcome State Fault Refusal :=
  s.panelCmd (fun s => s.when (s.pst = 4) (fun s => (s.panelTo 0).when (s.on DSP_STAT_FLIPPEND) State.dspFlip))

/-- R439: the panel's frames: in ON, and in PRECHG, black, once PCHT has passed. -/
def State.panelScans (s : State) : Bool :=
  s.pst = 2 || (s.pst = 1 && decide (s.dsp.since + s.rd DSP_PTIM_PCHT * 1000000 ≤ s.now))

/-- PANEL_FRAME_START (R438): a frame starts: a waiting panel group applies, a pending flip takes place, the supply of the last
frame is shown. -/
def execPanelFrameStart (vpan ipan : Nat) (s : State) : Host.Outcome State Fault Refusal :=
  s.ok (s.when (s.blockOn 0x10 && s.panelScans && decide (s.dsp.frame + s.dspFrame ≤ s.now)) (fun s =>
    let o := s
    let s := { s with dsp := { s.dsp with frame := s.now } }.applyDue 0x10 0
    let s := s.when (s.rd DSP_PTIM_VPANEL != o.rd DSP_PTIM_VPANEL) (State.dspSupplyFrom o.dspSupply)
    let s := s.when (s.on DSP_STAT_FLIPPEND) State.dspFlip
    ((s.wr DSP_PMEAS_VPAN (min vpan 0xFFFF)).wr DSP_PMEAS_IPAN (min ipan 0xFFFF)).dspFlag 0))

/-- PRECHARGE_DONE (R439): after PCHT and two black frames the panel is ON. -/
def execPrechargeDone (vpan : Nat) (s : State) : Host.Outcome State Fault Refusal :=
  s.ok (s.when (s.blockOn 0x10 && s.pst = 1 &&
      decide (s.dsp.since + s.rd DSP_PTIM_PCHT * 1000000 + 2 * s.dspFrame ≤ s.now)) (fun s =>
    (((s.panelTo 2).dspSupplyFrom s.dspSupply).wr DSP_PMEAS_VPAN (min vpan 0xFFFF)).emit 0x1001 [vpan]))

/-- DISCHARGE_DONE (R439): at least 5 ms after DISCHG began the panel is OFF, or in FAULT when a fault began the discharge. -/
def execDischargeDone (s : State) : Host.Outcome State Fault Refusal :=
  s.ok (s.when (s.blockOn 0x10 && s.pst = 3 && decide (s.dsp.since + 5000000 ≤ s.now)) (fun s =>
    if s.dsp.fault then { s.panelTo 4 with dsp := { (s.panelTo 4).dsp with fault := false } }
    else ((s.panelTo 0).when (s.on DSP_STAT_FLIPPEND) State.dspFlip).emit 0x1002 []))

/-- R439: the condition of a panel fault: cause 1, more than 130 mA; cause 2, VPANEL low 10 ms after the ramp began. -/
def State.panelFails (s : State) (cause ipan : Nat) : Bool :=
  (cause = 1 && (s.pst = 1 || s.pst = 2) && decide (1300 < ipan)) ||
  (cause = 2 && s.pst = 1 && decide (s.dsp.since + 10000000 ≤ s.now))

/-- PANEL_FAULT (R439): FAULT by way of the discharge. -/
def execPanelFault (cause ipan : Nat) (s : State) : Host.Outcome State Fault Refusal :=
  s.ok (s.when (s.blockOn 0x10 && s.panelFails cause ipan) (fun s => (s.panelFault cause ipan).toTocsin))

/-! ## The label (R441–R447) -/

/-- A command written to DSP_LCMD. -/
def State.labelCmd (f : State → State) (s : State) : Host.Outcome State Fault Refusal := s.ok (s.hostWrite DSP_LCMD_CMD.addr f)

/-- R445, Table 16.2: a 20 ms boundary, once; a label group applies where no area is running or pending. -/
def State.labelTick (s : State) : State :=
  s.when (s.now % 20000000 = 0 && s.dsp.bound != s.now + 1) (fun s =>
    let t := { s with dsp := { s.dsp with bound := s.now + 1 } }.labelBoundary
    t.when t.labelIdle (State.applyDue 0x10 1))

/-- UPDATE (R445–R447). A request on the tick of a boundary comes after it. -/
def execUpdate (mask : Nat) (s : State) : Host.Outcome State Fault Refusal := s.labelCmd (fun s => s.labelTick.labelRequest mask false)

/-- CLEAN (R442, R447). -/
def execClean (mask : Nat) (s : State) : Host.Outcome State Fault Refusal := s.labelCmd (fun s => s.labelTick.labelRequest mask true)

/-- CANCEL (R446). -/
def execCancel (mask : Nat) (s : State) : Host.Outcome State Fault Refusal := s.labelCmd (State.labelCancel mask)

/-- LABEL_FRAME_BOUNDARY (R445, Table 16.2). -/
def execLabelFrameBoundary (s : State) : Host.Outcome State Fault Refusal := s.ok (s.ifOn 0x10 State.labelTick)

/-- LABEL_TEMP_READ (R444): once per second the thermistor is read under a lease of the peripheral bus; the temperature in use follows. -/
def execLabelTempRead (t : Int) (s : State) : Host.Outcome State Fault Refusal := s.ok (s.ifLive 0x10 (fun s => (s.dspAsk.dspRead t).dspTemp))

end Sys2Proof.Machine
end

