-- ==== Sys2Proof/Machine/Evr.lean ====
section
/-!
DEFINITION. The commands of the event recorder (spec/17_event_recorder.md), one meaning per row.
-/
namespace Sys2Proof.Machine

/-- R469: a code that a block chapter may list; EV 0x1101 and EV 0x1102 are EVR's own records (R460, R464). -/
def evListed (code : Nat) : Bool :=
  decide (code / 256 ≤ 0x13) && decide (1 ≤ code % 256) && decide (code % 256 ≤ 0x3F) && code != 0x1101 && code != 0x1102

/-- EVENT_EMIT (R25, R458–R461): a block emits an event. -/
def execEventEmit (code : Nat) (ps : List Nat) (s : State) : Host.Outcome State Fault Refusal :=
  s.ok (s.when (s.blockOn 0x11 && evListed code) (State.emit code ps))

/-- RECORD_WRITTEN (R459, R464): the program operation of the next record completes. -/
def execRecordWritten (s : State) : Host.Outcome State Fault Refusal := s.ok (s.ifOn 0x11 State.recordWritten)

/-- RECORD_WRITE_REVOKED (R462): Tocsin revokes EVR's lease during a write; its place is invalid. -/
def execRecordWriteRevoked (cause : Nat) (s : State) : Host.Outcome State Fault Refusal :=
  s.ok (s.when (s.blockOn 0x11 && s.holds 0 0x11 && s.evrWrites && s.nextRecord.isSome) (State.revokeLease 0 cause none))

/-- LOG_SEARCH (R465): the next place is found after AON power-up. -/
def execLogSearch (s : State) : Host.Outcome State Fault Refusal := s.ok (s.ifOn 0x11 State.logSearch)

/-- RDIDX (R466): a write of EVR_RDIDX latches a place. -/
def execRdidx (i : Nat) (s : State) : Host.Outcome State Fault Refusal :=
  s.ok (s.hostWrite EVR_RDIDX_IDX.addr (fun s => (s.wr EVR_RDIDX_IDX i).latchPlace (i % 65536)))

/-- LOG_CLEAR (R467): 0xA77A in P.11.00.0F0 by the OEM role or higher, at standstill; ignored while a clear runs. -/
def execLogClear (key role : Nat) (s : State) : Host.Outcome State Fault Refusal :=
  s.ok (s.when (s.blockOn 0x11 && key = 0xA77A && (role = 2 || role = 3) && s.standstill) (State.logClear role))

/-- SECTOR_ERASED (R467): a sector's erase completes. -/
def execSectorErased (s : State) : Host.Outcome State Fault Refusal := s.ok (s.ifOn 0x11 State.sectorErased)

/-- HEVGO (R468): the host's event, with SRC = 3; ignored with XX below 0x80 or SEV = 3. -/
def execHevgo (_v : Nat) (s : State) : Host.Outcome State Fault Refusal :=
  s.ok (s.hostWrite EVR_HEVGO_GO.addr (fun s =>
    let xx := s.rd EVR_HEVCODE_XX
    let sev := s.rd EVR_HEVCODE_SEV
    if xx < 0x80 || sev = 3 then s
    else s.stageEvent (s.mkRec (0x1100 + xx) sev 3 ((List.range 4).map (fun j => s.rd (EVR_HEVP_P j))))))

/-- OPTIME_SAVE (R457): every 10 minutes OPTIME goes to its NVM area. -/
def execOptimeSave (s : State) : Host.Outcome State Fault Refusal :=
  s.ok (s.when (s.blockOn 0x11 && decide (s.evr.savedAt + 600000000000 ≤ s.now)) (fun s =>
    State.saveOptime { s with evr := { s.evr with savedAt := s.now } }))

end Sys2Proof.Machine
end

