-- ==== Sys2Proof/Machine/Fus.lean ====
section
/-!
DEFINITION. The commands of the fusion engine (spec/11_fusion_engine.md), one meaning per row.
-/
namespace Sys2Proof.Machine

/-- Something the estimator does: FUS is live and enabled. -/
def State.fusEvent (c : Bool) (f : State → State) (s : State) : State := s.when (s.live 0x08 && s.on FUS_CTL_EN && c) f

/-- R313: a result goes to SEC and HSN. -/
def State.fusHand (x : FusRes) (s : State) : State :=
  (s.hsnFus ⟨x.tv, tc 32 (x.est.lat / 1000), tc 32 (x.est.lon / 1000), x.rev, min (x.age / 1000) 0xFFFF, x.ok⟩).secResult x

/-- R313: the newest result goes to SEC and HSN. -/
def State.fusDeliver (s : State) : State :=
  match s.fus.res with
  | some x => s.fusHand x
  | none => s

/-- R315: the revision of an instant goes on to the consumers: the newest instant's as the newest result, an older one as a
revision of its instant. -/
def State.fusHandRev (i : FusInst) (s : State) : State :=
  s.fusHand (s.fusSeen { i with rev := i.rev + 1 } (match s.fus.rp with | some q => q.core.est | none => s.fus.core.est))

/-- A sample of the on-module IMU (type 1): it is read over the peripheral bus, under its lease (R396). -/
def State.fusOwnImu (x : FusSamp) (s : State) : State :=
  let s := s.requestLease 2 0x08
  if !s.holds 2 0x08 then s.returnLease 2 0x08
  else
    let s := s.fusUsable x.strm
    let s := if s.fusPrim = x.strm then s.fusImu x else (s.fusTake x).2
    s.returnLease 2 0x08

/-- IMU_SAMPLE (R304–R306): a sample of the on-module IMU, at 1,000 Hz; or the pushed sample of an external IMU at the head of the queue:
the primary's propagates, another's is a measurement. A saturated sample propagates as it stands, with more noise. -/
def execImuSample (k : Nat) (sat : Bool) (w : List Nat) (s : State) : Host.Outcome State Fault Refusal :=
  s.ok (s.fusEvent (decide (k < 16) && s.on (FUS_SCFG_EN k)) (fun s =>
    if s.fusType k = 1 then
      s.when (s.now % 1000000 = 0) (State.fusOwnImu { strm := k, tm := s.now, words := (List.range 6).map (fun i => w.getD i 0) ++ [b2n sat] })
    else
      match s.fus.queue with
      | x :: _ => s.when (x.strm = k && s.fusType k = 2 && decide (x.tm ≤ s.now)) (fun s =>
          if s.fusPrim = k then s.fusPushedImu x else s.fusMeasure x)
      | [] => s))

/-- INTERNAL_SAMPLE (R302): streams of types 4 and 5 at a GNSS epoch, of types 6 and 7 at multiples of PERIOD. -/
def execInternalSample (k : Nat) (s : State) : Host.Outcome State Fault Refusal :=
  s.ok (s.fusEvent (decide (k < 16) && s.on (FUS_SCFG_EN k) && s.fusInstant k) (State.fusSample k))

/-- PUSH (R301): the record of a push port. -/
def execPush (p : Nat) (s : State) : Host.Outcome State Fault Refusal :=
  s.ok (s.when (decide (p < 4)) (State.hostWrite (FUS_PPUSH_GO p).addr (State.fusPush p)))

/-- MEASUREMENT_UPDATE (R303, R307): the head of the queue, once its time of measurement has come and unless it is the primary
IMU's, is tested and fused. -/
def execMeasurementUpdate (s : State) : Host.Outcome State Fault Refusal :=
  s.ok (s.fusEvent true (fun s =>
    match s.fus.queue with
    | x :: _ => if decide (x.tm ≤ s.now) && s.fusPrim != x.strm then s.fusMeasure x else s
    | [] => s))

/-- RESULT_ISSUE (R311–R313). -/
def execResultIssue (s : State) : Host.Outcome State Fault Refusal :=
  s.ok (s.fusEvent s.fusReady (fun s => s.fusIssue.fusDeliver))

/-- REVISION_ISSUE (R315): the replay reaches its next instant. -/
def execRevisionIssue (s : State) : Host.Outcome State Fault Refusal :=
  s.ok (s.fusEvent true (fun s =>
    match s.fus.rp with
    | some r =>
      (match s.fusRpNext r with
       | some i => if s.fusRpDue r i.tv ≤ s.now * 120 then (s.fusRevise r i).fusHandRev i else s
       | none => s)
    | none => s))

/-- REPLAY_END (R315): every instant has been revised. -/
def execReplayEnd (s : State) : Host.Outcome State Fault Refusal :=
  s.ok (s.fusEvent true (fun s =>
    match s.fus.rp with
    | some r => if (s.fusRpNext r).isNone then s.fusRpEnd r else s
    | none => s))

/-- STREAM_STALE (R302, Table 11.7): a USED stream has had no usable sample for STALE ms. -/
def execStreamStale (k : Nat) (s : State) : Host.Outcome State Fault Refusal :=
  s.ok (s.fusEvent (decide (k < 16) && s.fusSt k = 2 && decide ((s.fstr k).seen + s.rd (FUS_SPER_STALE k) * 1000000 ≤ s.now)) (State.fusStale k))

/-- POSITION_TIMEOUT (R305): in NAV no type-3 sample has been used for POSTO ms. -/
def execPositionTimeout (s : State) : Host.Outcome State Fault Refusal :=
  s.ok (s.fusEvent (s.fusEst = 3 && decide (s.fus.posAt + s.rd FUS_LIM_POSTO * 1000000 ≤ s.now)) (State.fusEstate 4))

/-- CALIBRATION_FOCUS (R308). -/
def execCalibrationFocus (s : State) : Host.Outcome State Fault Refusal := s.ok (s.fusEvent s.fusFocusDue State.fusFocus)

/-- RESTART (R316): FUS_CMD. -/
def execRestart (s : State) : Host.Outcome State Fault Refusal :=
  s.ok (s.hostWrite FUS_CMD_CMD.addr (State.when (s.on FUS_CTL_EN) State.fusRestart))

/-- CALSNAP (R310): of the streams in SMASK. -/
def execCalsnap (mask : Nat) (s : State) : Host.Outcome State Fault Refusal :=
  s.ok (s.hostWrite FUS_CMD_CMD.addr (fun s => s.each (fusStreams.filter (bit mask)) State.fusCalSnap))

/-- CALRESET (R310): of the streams in SMASK. -/
def execCalreset (mask : Nat) (s : State) : Host.Outcome State Fault Refusal :=
  s.ok (s.hostWrite FUS_CMD_CMD.addr (fun s => s.each (fusStreams.filter (bit mask)) State.fusCalReset))

/-- ESTIMATOR_FAULT (R322): 1 a variance, 2 memory, which is handled on row 2 of Table 14.1; the estimator restarts, and the fault is
reported. -/
def execEstimatorFault (cause : Nat) (s : State) : Host.Outcome State Fault Refusal :=
  s.ok (s.fusEvent (cause = 1 || cause = 2) (fun s =>
    ((s.emit 0x080D [cause]).fusFault.toTocsin).when (cause = 2) (State.signal (.rowFires 2 0))))

/-- FUS_LAST_READ (R313): a read of the first word latches the other fifteen. -/
def execFusLastRead (s : State) : Host.Outcome State Fault Refusal :=
  s.ok (s.hostRead (FUS_LAST_WORD 0).addr State.fusReadLast)

/-- FUS_RING_READ_WRITE (R313): the index moves within the span from RD to WR; else EV 0x080F. -/
def execFusRingReadWrite (v : Nat) (s : State) : Host.Outcome State Fault Refusal :=
  s.ok (s.hostWrite FUS_RESRD_IDX.addr (fun s =>
    if (v % 1024 + 1024 - s.rd FUS_RESRD_IDX) % 1024 ≤ s.fusUnread then s.wr FUS_RESRD_IDX v
    else s.emit 0x080F [addrOff FUS_RESRD_IDX.addr]))

end Sys2Proof.Machine
end

