-- ==== Sys2Proof/Machine/Gnss.lean ====
section
/-!
DEFINITION. The commands of the GNSS baseband (spec/10_gnss_baseband_and_time_pulse.md), one meaning per row.
-/
namespace Sys2Proof.Machine

/-- Something the receiver does by itself while its domain is on. -/
def State.gnsEvent (c : Bool) (f : State → State) (s : State) : State := s.when (s.blockOn 0x07 && c) f

/-- A happening on a channel that is in one of some states. -/
def State.gnsChan (c : Nat) (sts : List Nat) (cond : Bool) (f : State → State) (s : State) : State :=
  s.gnsEvent (decide (c < 184) && sts.contains (s.gchSt c) && cond) f

/-- MEASUREMENT_EPOCH (R270, R272–R276): the receiver time is a whole multiple of the epoch period: the Receiver and Motion groups apply,
and an epoch is taken while the receiver is on. -/
def execMeasurementEpoch (sats : List GnsSat) (meas : List GnsMeas) (e : GnsEpoch) (s : State) :
    Host.Outcome State Fault Refusal :=
  s.ok (s.gnsEvent (e.tow % s.gnsPeriod = 0) (fun s =>
    let s := (s.applyDue 0x07 0).when (e.tow % 1000000000 = 0) (State.applyDue 0x07 2)
    s.when (s.on GNS_CTL_EN) (State.gnsEpoch sats meas e)))

/-- SIGNAL_DETECTED (Table 10.2): ACQ or REACQ to PULLIN. -/
def execSignalDetected (c : Nat) (s : State) : Host.Outcome State Fault Refusal :=
  s.ok (s.gnsChan c [1, 4] true (State.gnsEnter c 2))

/-- PHASE_LOCK (Table 10.2): PULLIN to TRACK. -/
def execPhaseLock (c : Nat) (s : State) : Host.Outcome State Fault Refusal :=
  s.ok (s.gnsChan c [2] true (State.gnsEnter c 3))

/-- PULLIN_TIMEOUT (Table 10.2): PULLIN to ACQ after 2 s. -/
def execPullinTimeout (c : Nat) (s : State) : Host.Outcome State Fault Refusal :=
  s.ok (s.gnsChan c [2] (decide ((s.gch c).since + 2000000000 ≤ s.now)) (State.gnsEnter c 1))

/-- TRACK_LOSS (Table 10.2): C/N0 below 20 dB-Hz, or phase lock lost for 200 ms: TRACK to REACQ; the lock time ends. -/
def execTrackLoss (c cn0 ms : Nat) (s : State) : Host.Outcome State Fault Refusal :=
  s.ok (s.gnsChan c [3] (decide (cn0 < 80) || decide (200 ≤ ms)) (State.gnsEnter c 4))

/-- REACQ_TIMEOUT (Table 10.2): REACQ to ACQ after 10 s. -/
def execReacqTimeout (c : Nat) (s : State) : Host.Outcome State Fault Refusal :=
  s.ok (s.gnsChan c [4] (decide ((s.gch c).since + 10000000000 ≤ s.now)) (State.gnsEnter c 1))

/-- TP0_PULSE (R277, R280, R285, R292): the pulse whose message has been written, at its instant; the Time pulse group that was committed
before the message applies with it. -/
def execTp0Pulse (s : State) : Host.Outcome State Fault Refusal :=
  s.ok (match s.gns.next with
    | none => s
    | some m => s.gnsEvent (m.due s.now && !s.on GNS_STAT_TCXOFLT) (fun s => (s.applyBy 0x07 1 m.wrote).gnsPulse m))

/-- TP1_PULSE (R277, R281, R285): a pulse at an instant with (t − TP1OFS) mod TP1PER = 0, t in elapsed µs of the week. -/
def execTp1Pulse (t : Nat) (s : State) : Host.Outcome State Fault Refusal :=
  s.ok (s.gnsEvent (s.gnsTp1 && s.gnsTp1Now t && decide (((t : Int) - (s.rd GNS_TP1OFS_OFS : Int)) % (s.rd GNS_TP1PER_PER : Int) = 0))
    (fun s => { s with gns := { s.gns with tp := tabPut s.gns.tp 1 (s.now + s.rd GNS_TP1W_W * 1000) } }))

/-- TIMEQ_WRITE (R279, R292): the message of the next TP0 pulse, by the Time pulse group as it will stand at that pulse; where no pulse is
to come, the group applies here. -/
def execTimeqWrite (qerr : Int) (s : State) : Host.Outcome State Fault Refusal :=
  s.ok (s.gnsEvent s.gns.next.isNone (fun s =>
    let c := s.applyDue 0x07 1
    if c.gnsPulses then s.when s.gnsOnTime (State.gnsTimeq c qerr) else c))

/-- TQWK_READ (R279): the read answers with the label and flags and latches the other five registers. -/
def execTqwkRead (s : State) : Host.Outcome State Fault Refusal :=
  s.ok (s.hostRead GNS_TQWK_WEEK.addr State.gnsReadTqwk)

/-- TIME_SOLUTION (R282, R283): valid with four satellites on ANT0 and PDOP up to 10. -/
def execTimeSolution (nsat pdop errsol : Nat) (off : Int) (week tow ns : Nat) (rate leap : Int) (leapWeek leapTow : Nat) (s : State) :
    Host.Outcome State Fault Refusal :=
  s.ok (s.gnsEvent (s.on GNS_CTL_EN && decide (4 ≤ nsat) && decide (pdop ≤ 100))
    (State.gnsSolution errsol off week tow ns rate leap leapWeek leapTow))

/-- DOLDRUMS_ENTRY (R283): no valid time solution for 1 s. -/
def execDoldrumsEntry (s : State) : Host.Outcome State Fault Refusal :=
  s.ok (s.gnsEvent (decide (s.gns.solAt + 1000000000 ≤ s.now)) State.gnsDoldrums)

/-- RETENTION_SAVE (R287): every 10 minutes while LOCKED. -/
def execRetentionSave (s : State) : Host.Outcome State Fault Refusal :=
  s.ok (s.gnsEvent (s.tst = 1 && decide (s.gns.savedAt + 600000000000 ≤ s.now)) State.gnsRetain)

/-- SAVE (GNS_CMD): retention is written; ignored unless LOCKED. -/
def execSave (s : State) : Host.Outcome State Fault Refusal :=
  s.ok (s.hostWrite GNS_CMD_CMD.addr (fun s => s.when (s.tst = 1) State.gnsRetain))

/-- CLEAR_RETENTION (GNS_CMD): retention memory is cleared. -/
def execClearRetention (s : State) : Host.Outcome State Fault Refusal :=
  s.ok (s.hostWrite GNS_CMD_CMD.addr (fun s => { s with ret := {} }))

/-- COLD_RESTART (GNS_CMD, R288): the receiver starts without retained data: every channel is IDLE, EV 0x070D. -/
def execColdRestart (s : State) : Host.Outcome State Fault Refusal :=
  s.ok (s.hostWrite GNS_CMD_CMD.addr (fun s => s.gnsDisable.gnsStart 0))

/-- The fault field of an antenna. -/
def antFld (a : Nat) : Fld := if a = 0 then GNS_STAT_ANT0F else GNS_STAT_ANT1F

/-- ANTENNA_OPEN (Table 10.7): the bias current of a second: below 2 mA the antenna is open; an open one recovers with its
current. -/
def execAntennaOpen (a i : Nat) (s : State) : Host.Outcome State Fault Refusal :=
  s.ok (s.gnsEvent (decide (a < 2)) (fun s =>
    if i < 2000 then
      if s.rd (antFld a) = 0 then (((s.wr (antFld a) 1).setFlag GNS_INTSTAT_ANT).emit 0x0706 [a, 1]).toTocsin else s
    else if s.rd (antFld a) = 1 then s.wr (antFld a) 0 else s))

/-- ANTENNA_SHORT (Table 10.7): above 100 mA the bias is switched off. -/
def execAntennaShort (a i : Nat) (s : State) : Host.Outcome State Fault Refusal :=
  s.ok (s.gnsEvent (decide (a < 2) && decide (100000 < i) && s.rd (antFld a) != 2) (fun s =>
    let t := (((s.wr (antFld a) 2).setFlag GNS_INTSTAT_ANT).emit 0x0706 [a, 2]).toTocsin
    { t with gns := { t.gns with shortAt := tabPut t.gns.shortAt a t.now } }))

/-- ANTENNA_RETRY (Table 10.7): every 10 s the bias of a shorted antenna is tried again; above 100 mA it is off again. -/
def execAntennaRetry (a i : Nat) (s : State) : Host.Outcome State Fault Refusal :=
  s.ok (s.gnsEvent (decide (a < 2) && s.rd (antFld a) = 2 && decide (tabGet 0 s.gns.shortAt a + 10000000000 ≤ s.now)) (fun s =>
    if 100000 < i then
      let t := { s with gns := { s.gns with shortAt := tabPut s.gns.shortAt a s.now } }
      ((t.setFlag GNS_INTSTAT_ANT).emit 0x0706 [a, 2]).toTocsin
    else { s.wr (antFld a) 0 with gns := { s.gns with shortAt := tabDel s.gns.shortAt a } }))

/-- INTERFERENCE (Table 10.7): a band's AGC has left its window for 1 s, or is back inside it. -/
def execInterference (band : Nat) (out : Bool) (s : State) : Host.Outcome State Fault Refusal :=
  s.ok (s.gnsEvent (decide (band < 4)) (fun s =>
    let was := bit s.gns.bands band
    let t := { s with gns := { s.gns with bands := putBit s.gns.bands band out } }
    let t := t.wr GNS_STAT_INTF (b2n (t.gns.bands != 0))
    t.when (out && !was) (fun t => ((t.setFlag GNS_INTSTAT_INTF).emit 0x0707 [band]).toTocsin)))

/-- TCXO_FAULT (Table 10.7): a deviation of more than 10 ppm: pulses inactive, NOTIME, EV 0x0708. -/
def execTcxoFault (dev : Int) (s : State) : Host.Outcome State Fault Refusal :=
  s.ok (s.gnsEvent true (fun s =>
    if 10000 < dev.natAbs then
      let t := ((s.wr GNS_STAT_TCXOFLT 1).setFlag GNS_INTSTAT_TCXO).gnsTstate 0
      let t := { t with gns := { t.gns with next := none, labelled := false, tp := [], offs := [], resid := 0 } }
      t.when (!s.on GNS_STAT_TCXOFLT) (fun t => (t.emit 0x0708 [tc 32 dev]).toTocsin)
    else s.wr GNS_STAT_TCXOFLT 0))

/-- GNS_RING_READ_WRITE (R273): a write of GNS_EPRD frees slots; outside the span from RD to WR it is ignored with
EV 0x070E. -/
def execGnsRingReadWrite (v : Nat) (s : State) : Host.Outcome State Fault Refusal :=
  s.ok (s.hostWrite GNS_EPRD_IDX.addr (fun s =>
    let i := v % 16
    if (i + 16 - s.rd GNS_EPRD_IDX) % 16 ≤ s.gnsUnread then s.wr GNS_EPRD_IDX i
    else s.emit 0x070E [addrOff GNS_EPRD_IDX.addr]))

/-- TIME_PULSE_END (R277): TP0 or TP1 returns inactive once its width has passed. -/
def execTimePulseEnd (p : Nat) (s : State) : Host.Outcome State Fault Refusal :=
  s.ok (s.gnsEvent (match tabFind s.gns.tp p with | some t => decide (t ≤ s.now) | none => false)
    (fun s => { s with gns := { s.gns with tp := tabDel s.gns.tp p } }))

end Sys2Proof.Machine
end

