-- ==== Sys2Proof/Machine/Hsn.lean ====
section
/-!
DEFINITION. The commands of harvest sensing (spec/04_harvest_sensing.md), one meaning per row.
-/
namespace Sys2Proof.Machine

/-- Something HSN does by itself, under a condition. While it is fenced it does nothing: no history step and no moisture average is taken
then (DESIGN CHOICE, assumption log, entry 97). -/
def State.hsnEvent (c : Bool) (f : State → State) (s : State) : State := s.when (s.live 0x05 && c) f

/-- WINDOW_MAXLEN (Table 4.2): MAXLEN, in 50 µs, has elapsed since the window opened. -/
def execWindowMaxlen (n : Nat) (s : State) : Host.Outcome State Fault Refusal :=
  s.ok (s.hsnEvent (decide (n < 16) && (s.hsnWin n).isOpen && decide (s.rd (HSN_WCFG_MAXLEN n) * 50000 ≤ s.hsnOpenFor n))
    (State.hsnForceClose n 4))

/-- TIME_DOMAIN_SLOT (R95): a 50 ms slot, aligned to module time, ends. -/
def execTimeDomainSlot (s : State) : Host.Outcome State Fault Refusal :=
  s.ok (s.hsnEvent (s.hsn.tdom && s.now % 50000000 = 0) (fun s => s.hsnSync.hsnSlotEnd))

/-- TARE (R96): the mean over the next 16 paddle periods begins; with the yield base out of TRACK it is aborted. -/
def execTare (s : State) : Host.Outcome State Fault Refusal :=
  s.ok (s.hostWrite HSN_CMD_CMD.addr (fun s =>
    let t := { s with hsn := { s.hsn with tareSum := 0, tareN := 0, tareLeft := 16, tareOn := false } }.wr HSN_STAT_TAREBSY 1
    t.when (match t.hsnYieldWin with | some n => t.hsnBaseSt n != 2 | none => false) (State.hsnTareAbort 1)))

/-- CALSTART (R97): the calibration sums are cleared and the run starts. -/
def execCalstart (s : State) : Host.Outcome State Fault Refusal :=
  s.ok (s.hostWrite HSN_CMD_CMD.addr (fun s =>
    ((((({ s with hsn := { s.hsn with cal := 0 } }.wr HSN_CALSUMLO_SUM 0).wr HSN_CALSUMHI_SUM 0).wr HSN_CALPAD_PAD 0).wr
      HSN_CALMASS_MASS 0).wr HSN_STAT_CALRUN 1)))

/-- CALSTOP (R97): the sums freeze, EV 0x0503. -/
def execCalstop (s : State) : Host.Outcome State Fault Refusal :=
  s.ok (s.hostWrite HSN_CMD_CMD.addr (fun s =>
    (s.wr HSN_STAT_CALRUN 0).emit 0x0503 [s.rd HSN_CALPAD_PAD, s.rd HSN_CALMASS_MASS]))

/-- NLRESET (R102): the learned noise of the bands in BANDMASK is cleared. -/
def execNlreset (mask : Nat) (s : State) : Host.Outcome State Fault Refusal :=
  s.ok (s.hostWrite HSN_CMD_CMD.addr (fun s =>
    { s with hsn := { s.hsn with noise := s.hsn.noise.filter (fun e => !bit mask (e.1 / 2048)),
                                 told := (List.range 4).foldl (fun t b => if bit mask b then clrBit t b else t) s.hsn.told } }))

/-- NLSNAP (HSN_CMD): the live table is copied to the staged bank of P.05.00.300. -/
def execNlsnap (s : State) : Host.Outcome State Fault Refusal :=
  s.ok (s.hostWrite HSN_CMD_CMD.addr (fun s =>
    { s with banks := tabPut s.banks 0x00500300 ((List.range 8192).flatMap (fun k => wordBytes (s.hsnNoiseWord k))) }))

/-- MOISTURE_AVERAGE (R105): a 100 ms average, with the reference correction (R421); the Moisture group applies at its boundary. -/
def execMoistureAverage (cap : Nat) (tg : Int) (s : State) : Host.Outcome State Fault Refusal :=
  s.ok (s.hsnEvent (s.now % 100000000 = 0) (fun s =>
    let s := s.hsnSync.when (s.on HSN_CTL_MOIEN) (fun s => s.hsnAverage (satU 16 (s.refCorr cap)) (clampI (-32768) 32767 (s.refCorr tg)))
    s.applyDue 0x05 2))

/-- MOISTURE_STALE (R106): no reading for 60 s. -/
def execMoistureStale (s : State) : Host.Outcome State Fault Refusal :=
  s.ok (s.hsnEvent (!s.on HSN_MOIST_STALE && decide (s.hsn.readAt + 60000000000 ≤ s.now)) (fun s =>
    let s := s.hsnSync
    ((s.wr HSN_MOIST_STALE 1).setFlag HSN_INTSTAT_MSTALE).emit 0x050A [(s.now - s.hsn.readAt) / 1000000000]))

/-- HISTORY_STEP (R107): every 100 ms. -/
def execHistoryStep (s : State) : Host.Outcome State Fault Refusal :=
  s.ok (s.hsnEvent (s.now % 100000000 = 0) State.hsnStep)

/-- YIELD_RECORD (R108): the record of the interval that ended 1 ms ago. -/
def execYieldRecord (s : State) : Host.Outcome State Fault Refusal :=
  s.ok (s.hsnEvent true (fun s =>
    let s := s.hsnSync
    match s.hsn.due with
    | none => s
    | some iv =>
      if s.now < iv.te + 1000000 then s
      else if s.on HSN_CTL_RECEN then s.hsnRecord iv false
      else { s with hsn := { s.hsn with due := none, pieces := s.hsn.pieces.filter (fun p => decide (iv.te ≤ p.at_)) } }))

/-- LOSS_SENSOR_FAULT (R104): a channel's bias voltage: outside 2–18 V it is in fault, within it recovers. -/
def execLossSensorFault (c mv : Nat) (s : State) : Host.Outcome State Fault Refusal :=
  s.ok (s.when (s.blockOn 0x05 && decide (c < 8)) (fun s =>
    let bad := decide (mv < 2000) || decide (18000 < mv)
    if bad = bit (s.rd HSN_STAT_LFLT) c then s
    else if !bad then s.wr HSN_STAT_LFLT (clrBit (s.rd HSN_STAT_LFLT) c)
    else ((s.hsnChFault c).emit 0x050B [c, if mv < 2000 then 2 else 1]).toTocsin))

/-- PLATE_BRIDGE_FAULT (R505): the impact plate's bridge reads open or shorted, or whole again. -/
def execPlateBridgeFault (kind : Nat) (s : State) : Host.Outcome State Fault Refusal :=
  s.ok (s.when (s.blockOn 0x05) (fun s =>
    if kind = 0 then s.wr HSN_STAT_PLATEFLT 0
    else if s.on HSN_STAT_PLATEFLT || decide (2 < kind) then s
    else (s.hsnPlateFault.emit 0x050C [kind]).toTocsin))

/-- HSN_RING_READ_WRITE (R110): a write of HSN_WRRD or HSN_YRRD. -/
def execHsnRingReadWrite (ring v : Nat) (s : State) : Host.Outcome State Fault Refusal :=
  s.ok (if ring = 0 then
      s.hostWrite HSN_WRRD_IDX.addr (fun s =>
        if (v % 128 + 128 - s.rd HSN_WRRD_IDX) % 128 ≤ s.hsnUnreadW then s.wr HSN_WRRD_IDX v
        else s.emit 0x0510 [addrOff HSN_WRRD_IDX.addr])
    else
      s.hostWrite HSN_YRRD_IDX.addr (fun s =>
        if (v % 256 + 256 - s.rd HSN_YRRD_IDX) % 256 ≤ s.hsnUnreadY then s.wr HSN_YRRD_IDX v
        else s.emit 0x0510 [addrOff HSN_YRRD_IDX.addr]))

/-- SAMPLE_CONVERSION (R88, R91, R98–R103): a sample of the impact plate or of a loss channel, corrected by the analog
references (R421). The output of the high-pass filter, of which the spec gives the corner alone, is a free value (assumption log,
entry 28). -/
def execSampleConversion (c : Nat) (x : Int) (s : State) : Host.Outcome State Fault Refusal :=
  s.ok (s.hsnEvent (!s.hsnActionDue) (fun s =>
    let s := s.hsnSync
    let x := s.refCorr x
    if c = 8 then s.when (s.on HSN_CTL_YLDEN) (State.hsnPlate (satS 16 x))
    else if c < 8 ∧ s.on HSN_CTL_LOSSEN ∧ s.on (HSN_LCFG_EN c) then
      let g := satS 16 (x * hsnGain (s.rd (HSN_LCFG_PGA c)))
      let r := s.takeFree 16
      r.2.hsnLoss c (sx 16 r.1) (decide (g ≤ -32768) || decide (32767 ≤ g))
    else s))

end Sys2Proof.Machine
end

