-- ==== Sys2Proof/Machine/Lsw.lean ====
section
/-!
DEFINITION. The commands of the load-switch banks (spec/09_load_switch_banks.md), one meaning per row.
-/
namespace Sys2Proof.Machine

/-- Something that happens on a channel by itself, while its bank is on. -/
def State.lsEvent (n : Nat) (c : Bool) (f : State → State) (s : State) : State := s.when (s.lsOn n && c) f

/-! ## Host commands (R241, R259) -/

/-- LSW_ON (R250, R241): a host ON; ignored and counted on a claimed or held channel. -/
def execLswOn (n : Nat) (s : State) : Host.Outcome State Fault Refusal :=
  s.ok (s.when (decide (n < 48)) (State.hostWrite (LSW_CHCMD_CMD n).addr (fun s =>
    if s.lsHostBarred n then s.lsIgnore n 2 else s.lsCmdOn n 5)))

/-- LSW_OFF (R244, R241): a host OFF; ignored and counted on a claimed or held channel. -/
def execLswOff (n : Nat) (s : State) : Host.Outcome State Fault Refusal :=
  s.ok (s.when (decide (n < 48)) (State.hostWrite (LSW_CHCMD_CMD n).addr (fun s =>
    if s.lsHostBarred n then s.lsIgnore n 2 else s.lsCmdOff n 5)))

/-- Table 9.5: a CLR is accepted: TJ below 130 °C for causes 1, 2 and 4, E ≤ K / 2 for I2T, the sensor plausible, the bank
recovered, the output below V_RB for 2 ms; at once for OPEN and NOTON. -/
def State.lsClrOk (s : State) (n : Nat) (below plausible : Bool) : Bool :=
  let c := s.rd (LSW_CHSTAT_CAUSE n)
  let w := s.rd (LSW_CHCFG_WIRE n)
  if c = 1 || c = 2 || c = 4 then decide (s.rdS (LSW_CHTH_TJ n) < 1300)
  else if c = 3 then decide (2 * (s.ls n).heat ≤ lsTripK n w)
  else if c = 5 then plausible
  else if c = 7 then !s.on (LSW_BSTAT_UV (lsBank n))
  else if c = 8 then below
  else true

/-- LSW_CLR (R259): FAULT returns to OFF when the cause allows; otherwise the CLR is ignored with EV 0x0B06. It is accepted
on a claimed channel and on a held one. Row 5's condition of a stuck channel ends once its output is below V_RB (R377). -/
def execLswClr (n : Nat) (below plausible : Bool) (s : State) : Host.Outcome State Fault Refusal :=
  s.ok (s.when (decide (n < 48)) (State.hostWrite (LSW_CHCMD_CMD n).addr (fun s =>
    let s := (s.when (s.lsState n = 3) (State.lsHeat n 0)).when below (fun s => { s with tsv := { s.tsv with stuckLs := clrBit s.tsv.stuckLs n } })
    if s.lsState n = 3 then
      if !s.lsMay n 5 then s
      else if s.lsClrOk n below plausible then
        (((s.lsNote n).wr (LSW_CHSTAT_STATE n) 0).wr (LSW_CHSTAT_CAUSE n) 0).lsTook n 5
      else s.lsIgnore n 2
    else s)))

/-- LSW_DUTY_WRITE (R244): a host DUTY write, cut at 10,000; ignored and counted on a claimed or held channel. -/
def execLswDutyWrite (n duty : Nat) (s : State) : Host.Outcome State Fault Refusal :=
  s.ok (s.when (decide (n < 48)) (State.hostWrite (LSW_CHDUTY_DUTY n).addr (fun s =>
    if s.lsHostBarred n then s.lsIgnore n 2
    else if !s.lsMay n 5 then s
    else s.lsSetDuty n (min (duty % 2 ^ 14) 10000))))

/-! ## PWM and inrush (R244, R250) -/

/-- PWM_PERIOD_START (R244): a period starts with its on-time and takes a duty that waits. -/
def execPwmPeriodStart (n : Nat) (s : State) : Host.Outcome State Fault Refusal :=
  s.ok (s.lsEvent n (s.lsPeriodDue n) (State.lsPeriodStart n))

/-- PWM_ON_TIME_END (R244): the on-time ends and the output is off until the next period. -/
def execPwmOnTimeEnd (n : Nat) (s : State) : Host.Outcome State Fault Refusal :=
  s.ok (s.lsEvent n (s.lsOffDue n) (State.lsOnTimeEnd n))

/-- INRUSH_END (R250): TWIN ends and the channel enters ON; the open-load check resumes OLBLANK later. -/
def execInrushEnd (n : Nat) (s : State) : Host.Outcome State Fault Refusal :=
  s.ok (s.lsEvent n (s.lsWindowDue n) (State.lsWindowEnd n))

/-- LIMIT_TRIP (R250): in INRUSH the channel has been limited with its output below 2.0 V for TSC, which has passed in the window. -/
def execLimitTrip (n : Nat) (s : State) : Host.Outcome State Fault Refusal :=
  s.ok (s.lsEvent n (s.lsSeen n = 1 && decide ((s.ls n).winFrom + (s.ls n).tsc * 1000000 ≤ s.now)) (fun s =>
    (((s.lsFault n 2).setFlag (LSW_CHFLAG_LIMIT n)).setFlag LSW_INTSTAT_TRIP).emit 0x0B22 [n, (s.ls n).prof]))

/-! ## Protection (R246, R248, R255) -/

/-- I2T_TRIP (R246): a sampling of the current forms the heat; once it reaches K, a channel that is on trips. In INRUSH the current is
held at the limit (R250). -/
def execI2tTrip (n i : Nat) (s : State) : Host.Outcome State Fault Refusal :=
  s.ok (s.lsEvent n true (fun s =>
    let i := if s.lsState n = 1 then min i (s.lsLimit n) else i
    let t := (s.lsHeat n i).wr (LSW_CHSTAT_IMEAS n) (min (i / 10) 0xFFFF)
    t.when (t.lsSeenOn n && decide (lsTripK n (t.rd (LSW_CHCFG_WIRE n)) ≤ (t.ls n).heat)) (fun t =>
      (((t.lsFault n 3).setFlag (LSW_CHFLAG_I2T n)).setFlag LSW_INTSTAT_TRIP).emit 0x0B21 [n, t.rd (LSW_CHCFG_WIRE n), i / 10])))

/-- SHORT_TRIP (R248): the current reaches ISC of the class: the channel trips whatever its profile or heat. -/
def execShortTrip (n i : Nat) (s : State) : Host.Outcome State Fault Refusal :=
  s.ok (s.lsEvent n (s.lsSeenOn n && decide (lsIsc n ≤ i)) (fun s =>
    ((((s.lsFault n 1).setFlag (LSW_CHFLAG_SHORT n)).setFlag LSW_INTSTAT_TRIP).wr (LSW_CHSTAT_IMEAS n) (min i 0xFFFF)).emit
      0x0B20 [n, i]))

/-- JUNCTION_OVERTEMP (R255): the junction is at 150 °C or more; a channel that is not in FAULT is switched off and enters it. A
lower reading is only taken into TJ. -/
def execJunctionOvertemp (n : Nat) (tj : Int) (s : State) : Host.Outcome State Fault Refusal :=
  s.ok (s.lsEvent n true (fun s =>
    let t := s.wrS (LSW_CHTH_TJ n) tj
    t.when (decide (1500 ≤ tj) && t.lsSeen n != 3 && t.lsState n != 3) (fun t =>
      (((t.lsFault n 4).setFlag (LSW_CHFLAG_OVT n)).setFlag LSW_INTSTAT_OVT).emit 0x0B23 [n, tc 32 tj])))

/-- JUNCTION_SENSOR_FAIL (R255): the sensor reads open or shorted; TJ reads 0x7FFF, and a channel that is not in FAULT enters it. -/
def execJunctionSensorFail (n : Nat) (s : State) : Host.Outcome State Fault Refusal :=
  s.ok (s.lsEvent n true (fun s =>
    (s.wr (LSW_CHTH_TJ n) 0x7FFF).when (s.lsSeen n != 3 && s.lsState n != 3) (fun s =>
      (((s.lsFault n 5).setFlag (LSW_CHFLAG_SENSOR n)).setFlag LSW_INTSTAT_SENSOR).emit 0x0B24 [n])))

/-! ## Bank supply (R253, R254) -/

/-- BANK_UNDERVOLTAGE (R253): below 5.0 V for 1 ms: UV is set, and every channel of the bank that is not OFF enters FAULT
with cause UV. -/
def execBankUndervoltage (b v : Nat) (s : State) : Host.Outcome State Fault Refusal :=
  s.ok (s.when (decide (b < 2) && s.domOn (lsBankDom b) && decide (v < 500)) (fun s =>
    let t := (((s.wr (LSW_BSTAT_UV b) 1).supplyIs b v).setFlag LSW_INTSTAT_UV).emit 0x0B01 [b, v]
    (List.range 48).foldl (fun t n =>
      t.when (lsBank n = b && t.lsSeenOn n) (fun t => (t.lsFault n 7).setFlag (LSW_CHFLAG_UV n))) t))

/-- BANK_RECOVERED (R253): above 7.0 V for 10 ms: UV clears, EV 0x0B02. -/
def execBankRecovered (b v : Nat) (s : State) : Host.Outcome State Fault Refusal :=
  s.ok (s.when (decide (b < 2) && s.domOn (lsBankDom b) && s.on (LSW_BSTAT_UV b) && decide (700 < v)) (fun s =>
    ((s.wr (LSW_BSTAT_UV b) 0).supplyIs b v).emit 0x0B02 [b, v]))

/-- BANK_CURRENT_HIGH (R254): the 1 s mean is taken; above BANKLIM it sets HI and emits EV 0x0B03 at most once per 10 s. -/
def execBankCurrentHigh (b i : Nat) (s : State) : Host.Outcome State Fault Refusal :=
  s.ok (s.when (decide (b < 2) && s.domOn (lsBankDom b)) (fun s =>
    let t := s.wr (LSW_BSTAT_IBANK b) (min i 0xFFFF)
    if s.rd (LSW_BCFG_BANKLIM b) * 10 < i then
      ((t.wr (LSW_BSTAT_HI b) 1).setFlag LSW_INTSTAT_BANKHI).emitRate 0x0B03 b 10000000000 (fun _ => [b, i])
    else t.wr (LSW_BSTAT_HI b) 0))

/-! ## Diagnostics and readback (R256–R258) -/

/-- LSW_OPEN_LOAD (R256): below OLTHR for 200 ms in ON, which run once OLBLANK has passed: OPEN is set, and with OLACT = 1 the channel
enters FAULT. In MODE 2 the check is suspended while DUTY < 1,000, and the current is sampled in on-times. -/
def execLswOpenLoad (n i : Nat) (s : State) : Host.Outcome State Fault Refusal :=
  let thr := s.rd (LSW_CHOL_OLTHR n)
  s.ok (s.lsEvent n (s.lsSeen n = 2 && thr != 0 && decide ((s.ls n).olFrom + 200000000 ≤ s.now) && decide (i < thr) &&
      (s.rd (LSW_CHCFG_MODE n) != 2 || (decide (1000 ≤ s.rd (LSW_CHDUTY_DUTY n)) && (s.ls n).out))) (fun s =>
    let t := (((s.wr (LSW_CHSTAT_IMEAS n) (i / 10)).setFlag (LSW_CHFLAG_OPEN n)).setFlag LSW_INTSTAT_OPEN).emit 0x0B25 [n, i / 10]
    t.toTocsin.when (t.on (LSW_CHCFG_OLACT n)) (State.lsFault n 6)))

/-- LSW_OPEN_LOAD_OFF (R257): with DIAGEN = 1, an OFF output above 3.5 V for 20 ms sets OPENOFF. -/
def execLswOpenLoadOff (n v : Nat) (s : State) : Host.Outcome State Fault Refusal :=
  s.ok (s.lsEvent n (s.lsSeen n = 0 && s.on (LSW_CHCFG_DIAGEN n) && decide (350 < v)) (fun s =>
    (((s.setFlag (LSW_CHFLAG_OPENOFF n)).setFlag LSW_INTSTAT_OPEN).emit 0x0B26 [n]).toTocsin))

/-- R258: twice the readback threshold V_RB of a channel's bank, 10 mV, by the supply as last measured. -/
def State.lsVrb2 (s : State) (n : Nat) : Nat := max (tabGet 0 s.lsw.volt (lsBank n)) 1200

/-- STUCK (R258): an OFF or FAULT channel whose output stays above V_RB for 2 ms; the report goes to Tocsin (R377). -/
def execStuck (n v : Nat) (s : State) : Host.Outcome State Fault Refusal :=
  s.ok (s.lsEvent n ((s.lsSeen n = 0 || s.lsSeen n = 3 || s.lsState n = 3) && decide (s.lsVrb2 n < 2 * v)) (fun s =>
    (((((s.lsFault n 8).toTocsin).setFlag (LSW_CHFLAG_STUCK n)).setFlag LSW_INTSTAT_READBK).emit 0x0B27 [n, v]).signal (.lsStuck n)))

/-- NOTON (R258): a channel in ON whose output stays below V_RB for 2 ms switches off. For a channel in any state, row 5's condition ends with such
an output (R377). -/
def execNoton (n v : Nat) (s : State) : Host.Outcome State Fault Refusal :=
  s.ok (s.lsEvent n (decide (2 * v < s.lsVrb2 n)) (fun s =>
    let on := s.lsSeen n = 2
    let s := { s with tsv := { s.tsv with stuckLs := clrBit s.tsv.stuckLs n } }
    s.when on (fun s => (((s.lsFault n 9).setFlag (LSW_CHFLAG_NOTON n)).setFlag LSW_INTSTAT_READBK).emit 0x0B28 [n, v])))

end Sys2Proof.Machine
end

