-- ==== Sys2Proof/Machine/Net.lean ====
section
/-!
DEFINITION. The commands of the CAN controllers, the Ethernet switch and the fleet engine
(spec/12_field_buses_and_fleet_link.md), one meaning per row.
-/
namespace Sys2Proof.Machine

/-! ## CAN (R325–R339) -/

/-- Something that happens at controller `n` while the NET domain is on. -/
def State.atCan (n : Nat) (c : Bool) (f : State → State) (s : State) : Host.Outcome State Fault Refusal :=
  s.ok (s.when (decide (n < 6) && s.blockOn 0x0C && c) f)

/-- CAN_TX_REQ (R327, R329): a host REQ; ignored for a reserved buffer. -/
def execCanTxReq (n b : Nat) (s : State) : Host.Outcome State Fault Refusal :=
  s.ok (s.when (decide (n < 6) && decide (b < 3)) (State.hostWrite (CAN_TXREQ_GO n b).addr (fun s =>
    if s.canReserved n b then s.canIgnore n b else s.canRequest n b (s.canStaged n b))))

/-- CAN_TX_CANCEL (R327, R329): a host CANCEL; ignored for a reserved buffer. -/
def execCanTxCancel (n b : Nat) (s : State) : Host.Outcome State Fault Refusal :=
  s.ok (s.when (decide (n < 6) && decide (b < 3)) (State.hostWrite (CAN_TXCAN_GO n b).addr (fun s =>
    if s.canReserved n b then s.canIgnore n b else s.canCancel n b)))

/-- CAN_TX_ARBITRATION (R328): at a start of frame the chosen buffer is frozen. -/
def execCanTxArbitration (n : Nat) (s : State) : Host.Outcome State Fault Refusal :=
  s.atCan n (s.canMayTx n && (s.canFrozenBuf n).isNone) (State.canFreeze n)

/-- CAN_TX_DONE (R329, R331, R333): the frozen frame ends in success; so does a long message whose last frame it is, and the next frame of the
bus protocol engine follows (R339). -/
def execCanTxDone (n : Nat) (s : State) : Host.Outcome State Fault Refusal :=
  s.atCan n true (fun s =>
    match s.canFrozenBuf n with
    | some b => (s.canDone n b).when (b = 0 && s.on (CAN_CTL_ISOEN n)) (State.bpeSent n)
    | none => s)

/-- CAN_TX_ERROR (R329–R333): the frozen frame ends in lost arbitration or an error. -/
def execCanTxError (n lec : Nat) (dom arb : Bool) (more : Nat) (s : State) : Host.Outcome State Fault Refusal :=
  s.atCan n (decide (lec < 7)) (fun s =>
    match s.canFrozenBuf n with
    | some b => s.canFail n b lec dom arb more
    | none => s)

/-- BUS_OFF_RECOVERED (R331): both counters clear, the node is error active. -/
def execBusOffRecovered (n : Nat) (s : State) : Host.Outcome State Fault Refusal :=
  s.atCan n (s.canEst n = 3) (fun s =>
    let t := ((s.wr (CAN_STAT_ESTATE n) 0).wr (CAN_STAT_TEC n) 0).wr (CAN_STAT_REC n) 0
    (t.canFlag n 4).emit 0x0C04 [n])

/-- RECOVER (R331): the command starts the recovery of a node in bus-off. -/
def execRecover (n : Nat) (s : State) : Host.Outcome State Fault Refusal :=
  s.ok (s.when (decide (n < 6)) (State.hostWrite (CAN_CMD_CMD n).addr (fun s =>
    if s.canEst n = 2 then (s.wr (CAN_STAT_ESTATE n) 3).canFlag n 4 else s)))

/-- R331, R335, R352: a controller receives while it is on and has joined the bus, and in bus-off only during recovery. -/
def State.canReceives (s : State) (n : Nat) : Bool := s.on (CAN_CTL_EN n) && s.canEst n != 2 && s.canJoined n

/-- R332: REC does not change in restricted operation; in recovery the counters wait for its end. -/
def State.canCounts (s : State) (n : Nat) : Bool := !s.canRestr n && decide (s.canEst n < 2)

/-- CAN_RX_FRAME (R331, R334–R339): a good frame from another node: the filters, and the bus protocol engine. An FD frame
is no good frame with FDEN = 0. -/
def execCanRxFrame (n : Nat) (f : CanFrame) (esi : Bool) (age : Nat) (s : State) : Host.Outcome State Fault Refusal :=
  s.atCan n (s.canReceives n && (!f.fdf || (s.on (CAN_CTL_FDEN n) && !f.rtr))) (fun s =>
    ((s.when (s.canCounts n) (State.canRecDown n)).canFilters n f esi age).bpeFrame n f)

/-- RXPOP (R335): a host write advances the FIFO. -/
def execRxpop (n q : Nat) (s : State) : Host.Outcome State Fault Refusal :=
  s.ok (s.when (decide (n < 6) && decide (q < 2)) (State.hostWrite (CAN_RXPOP_GO n q).addr (State.canPop n q)))

/-- MESSAGE_TIMEOUT (R336, R381): a supervised message is overdue. -/
def execMessageTimeout (n f : Nat) (s : State) : Host.Outcome State Fault Refusal :=
  s.atCan n (decide (f < 128) && s.canTmoDue n f) (State.canTimeout n f)

/-- ADDRESS_CLAIM (R338): 250 ms without contention. Contention itself comes with the frame of the other node. -/
def execAddressClaim (n : Nat) (s : State) : Host.Outcome State Fault Refusal :=
  s.atCan n (s.rd (CAN_ISOADDR_CSTATE n) = 1 && decide ((s.bpe n).at_ + 250000000 ≤ s.now)) (State.bpeClaimed n)

/-- LMTXGO (R339): a host write submits a long message. -/
def execLmtxgo (n : Nat) (s : State) : Host.Outcome State Fault Refusal :=
  s.ok (s.when (decide (n < 6)) (State.hostWrite (CAN_LMTXGO_GO n).addr (State.lmSubmit n)))

/-- LONG_MESSAGE_END (R339): the outbound session ends. -/
def execLongMessageEnd (n : Nat) (done : Bool) (reason : Nat) (s : State) : Host.Outcome State Fault Refusal :=
  s.atCan n (s.on (CAN_LMTXS_BUSY n)) (State.lmStop n done reason)

/-- LONG_MESSAGE_RX (R339): what happens on an inbound session. -/
def execLongMessageRx (n : Nat) (m : CanLong) (s : State) : Host.Outcome State Fault Refusal :=
  s.atCan n (s.on (CAN_CTL_ISOEN n) && s.canReceives n) (State.lmRx n m)

/-- CAN_RING_READ_WRITE (R339): a host write of the read index; outside the span from RD to WR it is ignored. -/
def execCanRingReadWrite (n v : Nat) (s : State) : Host.Outcome State Fault Refusal :=
  s.ok (s.when (decide (n < 6)) (State.hostWrite (CAN_LMRXRD_IDX n).addr (fun s =>
    let i := v % 32
    if (i + 32 - s.rd (CAN_LMRXRD_IDX n)) % 32 ≤ s.lmUnread n then s.wr (CAN_LMRXRD_IDX n) i
    else s.emit 0x0C0E [n, addrOff (CAN_LMRXRD_IDX n).addr])))

/-- CAN_RX_ERROR (R331): an error while receiving. -/
def execCanRxError (n lec : Nat) (eight : Bool) (s : State) : Host.Outcome State Fault Refusal :=
  s.atCan n (s.on (CAN_CTL_EN n) && s.canCounts n && decide (0 < lec) && decide (lec < 7)) (State.canRxError n lec eight)

/-! ## The Ethernet switch (R340–R343) -/

/-- ETH_FRAME_RX (R340, R341, R343, R344): a frame at one of the ports P0–P5; FLT answers what it answers. -/
def execEthFrameRx (p : Nat) (bytes : List Nat) (err : Bool) (s : State) : Host.Outcome State Fault Refusal :=
  s.ok (s.when (decide (p < 6) && s.blockOn 0x0D) (fun s => (State.ethRx p bytes err (s.ethNone)).fltAnswers p bytes))

/-- HOST_TX_FRAME (R343): the next frame of the host's transmit ring; the rings stop while ETH is fenced (R355). -/
def execHostTxFrame (s : State) : Host.Outcome State Fault Refusal := s.ok (s.ifLive 0x0D State.ethHostTx)

/-- LINK_CHANGE (R340): the link of a port that is on comes up, or a link goes down. -/
def execLinkChange (p : Nat) (up : Bool) (sqi : Nat) (s : State) : Host.Outcome State Fault Refusal :=
  s.ok (s.when (decide (p < 6) && s.blockOn 0x0D && (!up || s.on (ETH_PCTL_EN p))) (State.ethLinkTo p up sqi))

/-- PTP_SYNC (R342): a sync interval of 125 ms while 802.1AS is on. -/
def execPtpSync (gm : Option EthGm) (delays : List (Nat × Nat)) (s : State) : Host.Outcome State Fault Refusal :=
  s.ok (s.when (s.blockOn 0x0D && s.on ETH_PTPCTL_EN && s.ethElapsed s.eth.syncAt 125000000) (State.ethSync gm delays))

/-- R343: an index that the host may write: one of the unread descriptors' ends for the receive ring; for the transmit
ring one from its present value on, at most the ring's size beyond the read index. -/
def State.ethIdxOk (s : State) (tx : Bool) (i : Nat) : Bool :=
  if tx then
    let r := s.rd ETH_HTXRD_IDX
    decide ((s.rd ETH_HTXWR_IDX + 2048 - r) % 2048 ≤ (i + 2048 - r) % 2048) && decide ((i + 2048 - r) % 2048 ≤ ethSize (s.rd ETH_HTXR_SIZE))
  else
    let r := s.rd ETH_HRXRD_IDX
    decide ((i + 2048 - r) % 2048 ≤ (s.rd ETH_HRXWR_IDX + 2048 - r) % 2048)

/-- ETH_RING_INDEX_WRITE (R343): a host write of a ring index; an invalid one is ignored with EV 0x0D07, for which the spec
names no port: a free value. -/
def execEthRingIndexWrite (tx : Bool) (v : Nat) (s : State) : Host.Outcome State Fault Refusal :=
  let f := if tx then ETH_HTXWR_IDX else ETH_HRXRD_IDX
  s.ok (s.hostWrite f.addr (fun s =>
    let i := v % 2048
    if s.ethIdxOk tx i then s.wr f i
    else (s.takeFree 3).2.emit 0x0D07 [(s.takeFree 3).1, addrOff f.addr]))

/-- ADDRESS_AGEING (R341): a learned address ages out after 300 s. -/
def execAddressAgeing (mac vid : Nat) (s : State) : Host.Outcome State Fault Refusal := s.ok (s.ifOn 0x0D (State.ethAge mac vid))

/-! ## The fleet engine (R344–R351) -/

/-- Something that happens at a session while FLT acts; a fenced session pauses (R355). -/
def State.atFlt (k : Nat) (c : Bool) (f : State → State) (s : State) : Host.Outcome State Fault Refusal :=
  s.ok (s.when (decide (k < 64) && s.live 0x0E && c) f)

/-- SUBGO (R349, R350): a host write submits a record. -/
def execSubgo (s : State) : Host.Outcome State Fault Refusal := s.ok (s.hostWrite FLT_SUBGO_GO.addr State.fltSubmit)

/-- HANDSHAKE_COMPLETE (R345, R347): CONNECT to UP, or to FAULT where the peer has offered anything but the profile. -/
def execHandshakeComplete (k : Nat) (o : DtlsOffer) (s : State) : Host.Outcome State Fault Refusal :=
  s.atFlt k (s.flSt k = 1) (State.flShake k o)

/-- AUTHENTICATION_FAILED (R345, R347): CONNECT to FAULT. -/
def execAuthenticationFailed (k alert : Nat) (s : State) : Host.Outcome State Fault Refusal :=
  s.atFlt k (s.flSt k = 1) (State.flAuth k alert)

/-- CONNECT_TIMEOUT (R347): 10 s in CONNECT. -/
def execConnectTimeout (k : Nat) (s : State) : Host.Outcome State Fault Refusal :=
  s.atFlt k (s.flSt k = 1 && decide ((s.fls k).at_ + 10000000000 ≤ s.now)) (State.flBackoff k)

/-- SESSION_TIMEOUT (R347): 45 s in UP without a datagram. -/
def execSessionTimeout (k : Nat) (s : State) : Host.Outcome State Fault Refusal :=
  s.atFlt k (s.flSt k = 2 && decide ((s.fls k).rx + 45000000000 ≤ s.now)) (State.flBackoff k)

/-- BACKOFF_END (R347): the back-off has passed. -/
def execBackoffEnd (k : Nat) (s : State) : Host.Outcome State Fault Refusal :=
  s.atFlt k (s.flSt k = 3 && decide ((s.fls k).at_ + (s.fls k).wait * 1000000000 ≤ s.now)) (State.flEnterFree k 1)

/-- PING (R348): 15 s in UP without sending; sending pauses while APP is off (R349). -/
def execPing (k : Nat) (s : State) : Host.Outcome State Fault Refusal :=
  s.atFlt k (s.fltTalks k && decide ((s.fls k).tx + 15000000000 ≤ s.now)) (State.fltSend k ⟨3, 0, 0, []⟩)

/-- FLEET_MESSAGE_RX (R348–R351): a message of a session in UP. -/
def execFleetMessageRx (k typ prio seq : Nat) (payload : List Nat) (s : State) : Host.Outcome State Fault Refusal :=
  s.atFlt k (s.flSt k = 2) (State.fltMessage k typ prio seq payload)

/-- FLT_RING_READ_WRITE (R351): a host write of the read index; outside the span from RD to WR it is ignored with EV 0x0E08,
for which the spec names no session: a free value. -/
def execFltRingReadWrite (v : Nat) (s : State) : Host.Outcome State Fault Refusal :=
  s.ok (s.hostWrite FLT_RXRD_IDX.addr (fun s =>
    let i := v % 512
    if (i + 512 - s.rd FLT_RXRD_IDX) % 512 ≤ s.fltUnread then (s.wr FLT_RXRD_IDX i).each (List.range 64) State.fltAckOut
    else (s.takeFree 6).2.emit 0x0E08 [(s.takeFree 6).1, addrOff FLT_RXRD_IDX.addr]))

/-- FLT_KCMD: a key command, accepted with the Service role or higher. -/
def State.fltKey (slot role : Nat) (f : State → State) (s : State) : Host.Outcome State Fault Refusal :=
  s.ok (s.when (decide (slot < 8) && decide (1 ≤ role) && s.live 0x0E) f)

/-- GENKEY (R346). -/
def execGenkey (slot role : Nat) (s : State) : Host.Outcome State Fault Refusal := s.fltKey slot role (State.fltGenkey slot)

/-- CSR (R346). -/
def execCsr (slot role : Nat) (s : State) : Host.Outcome State Fault Refusal := s.fltKey slot role (State.fltCsr slot)

/-- ERASE (R346). -/
def execErase (slot role : Nat) (s : State) : Host.Outcome State Fault Refusal := s.fltKey slot role (State.fltErase slot)

end Sys2Proof.Machine
end

