-- ==== Sys2Proof/Machine/Pwr.lean ====
section
/-!
DEFINITION. The commands of the power domains and of power (spec/01_module_in_the_machine.md, R26, R27, R526;
spec/15_power_thermal_and_cooling.md, R405–R418), one meaning per row.
-/
namespace Sys2Proof.Machine

/-! ## Domains -/

/-- POWER_GOOD_LOST (R27): a domain loses power-good: the blocks of the domains that require it are fenced and these domains switched off.
With AON the module is off but for KA; with KA its state is lost too (R409). -/
def execPowerGoodLost (d : Nat) (s : State) : Host.Outcome State Fault Refusal :=
  s.okMgr (s.when (decide (d < 14) && s.domOn d && s.running) (fun s =>
    if d = 0 then { s.toStandby with ret := {}, rtc0 := 0 }.setMgr (fun m => { m with otLatch := false, powerOn := true })
    else if d = 1 then s.toStandby
    else s.domLost d))

/-- DOMAIN_POWER_GOOD (R526, R410). -/
def execDomainPowerGood (d : Nat) (s : State) : Host.Outcome State Fault Refusal :=
  s.okMgr (s.when (decide (d < 14) && s.comesUp d) (State.domUp d))

/-- DOMAIN_POWER_FAIL (R410): 5 ms after its switch-on a domain is not good. -/
def execDomainPowerFail (d : Nat) (s : State) : Host.Outcome State Fault Refusal :=
  s.okMgr (s.when (decide (d < 14) && s.running && bit s.mgr.swOn d && !s.domOn d && decide (tabGet 0 s.mgr.swAt d + 5000000 ≤ s.now)) (fun s =>
    let t := s.setMgr (fun m =>
      { m with swOn := clrBit m.swOn d, flt := setBit m.flt d, want := (domDependents d).foldl clrBit m.want })
    ((t.pintFlag 4).emit 0x0024 [d]).showStep))

/-! ## The supply (R405–R409) -/

/-- R405: SUPPLY changes while the module is supplied. -/
def State.supplyTo (x : Nat) (f : State → State) (s : State) : State :=
  s.when (s.running && s.domOn 1 && s.mgr.failAt.isNone && s.rd SYS_PWRSTAT_SUPPLY != x) (fun s => f ((s.wr SYS_PWRSTAT_SUPPLY x).pintFlag 2))

/-- SUPPLY_LOW (R405): LOGPWR is in 6.0–9.0 V. -/
def execSupplyLow (v : Nat) (s : State) : Host.Outcome State Fault Refusal :=
  s.okMgr (s.when (decide (600 ≤ v) && decide (v < 900)) (State.supplyTo 1 (State.emit 0x0020 [v])))

/-- SUPPLY_HIGH (R405): LOGPWR is above 32.0 V. -/
def execSupplyHigh (v : Nat) (s : State) : Host.Outcome State Fault Refusal :=
  s.okMgr (s.when (decide (3200 < v)) (State.supplyTo 2 (State.emit 0x0021 [v])))

/-- SUPPLY_NORMAL (R405): LOGPWR is back in 9.0–32.0 V. -/
def execSupplyNormal (s : State) : Host.Outcome State Fault Refusal := s.okMgr (s.supplyTo 0 id)

/-- POWER_FAIL (R405, R407): LOGPWR has been below 6.0 V for 100 µs. -/
def execPowerFail (v : Nat) (s : State) : Host.Outcome State Fault Refusal :=
  s.okMgr (s.when (s.running && s.domOn 1 && s.mgr.failAt.isNone && decide (v < 600)) (State.powerFail v))

/-- R407: no NVM write is left, or 250 ms have passed since the power fail. -/
def State.holdupOver (s : State) : Bool :=
  match s.mgr.failAt with
  | some t => decide (t + 250000000 ≤ s.now) || (s.nextRecord.isNone && s.evr.acc.isNone && s.rd PDS_STAT_STSTATE = 0)
  | none => false

/-- HOLDUP_END (R407, R409): AON, OUTA and OUTB go off, LOGPWR then being `v`. -/
def execHoldupEnd (v : Nat) (s : State) : Host.Outcome State Fault Refusal :=
  s.okMgr (s.when (s.running && s.holdupOver) (State.offOrAgain v))

/-- KA_SUPPLY_LOSS (R409): below 3.0 V KA loses its state: the next start is a power-on reset, and the latch of R425 is clear. While the
module runs, a power fail comes first (R407). -/
def execKaSupplyLoss (s : State) : Host.Outcome State Fault Refusal :=
  s.okMgr (s.when (!s.running) (fun s =>
    { s with ret := {}, rtc0 := 0 }.setMgr (fun m => { m with ka := .standby, otLatch := false, powerOn := true, stby := 1, alarm := 0, ignUp := false })))

/-! ## Start (R411, R412, R418, R531) -/

/-- IGN_WAKE (R411, R425): IGN has been high for 1 ms: a wake from standby, unless the over-temperature latch is set; while the module runs, IGN is
high again, and a start by the RTC goes on as one by IGN (R418). A KA that waits for its supply after a wake by the RTC starts with IGN high. -/
def execIgnWake (dur v : Nat) (s : State) : Host.Outcome State Fault Refusal :=
  s.okMgr (match s.mgr.ka with
    | .standby => s.when (!s.mgr.otLatch) (State.wake 1 dur v)
    | .running => s.when (s.domOn 1) (fun s => (s.wr SYS_PWRSTAT_IGN 1).setMgr (fun m => { m with rtcWake := false }))
    | .waitSupply => s.setMgr (fun m => { m with ignUp := true }))

/-- RTC_ALARM (R417, R418): ALARM minutes after the entry to retention standby. -/
def execRtcAlarm (dur v : Nat) (s : State) : Host.Outcome State Fault Refusal :=
  s.okMgr (s.when (s.mgr.ka = .standby && !s.mgr.otLatch && !s.mgr.powerOn && s.mgr.stby = 1 && s.mgr.alarm != 0 &&
      decide (s.mgr.alarm * 60000000000 ≤ dur)) (State.wake 2 dur v))

/-- LOGPWR_RECHECK (R412): after 1 s KA checks LOGPWR again. -/
def execLogpwrRecheck (v : Nat) (s : State) : Host.Outcome State Fault Refusal :=
  s.okMgr (s.when (s.mgr.ka = .waitSupply) (State.wake s.mgr.wakeSrc 1000000000 v))

/-- START_STEP (R411): the next timed step of Table 15.2. -/
def execStartStep (s : State) : Host.Outcome State Fault Refusal := s.okMgr (s.when s.startReady State.startNext)

/-- BOOTOK (R411, R531): the boot firmware's write with the key completes step 6. -/
def execBootok (key : Nat) (s : State) : Host.Outcome State Fault Refusal :=
  s.okMgr (s.hostWrite SYS_PWRCMD_CMD.addr (fun s =>
    s.when (key % 65536 = 0xA77A && s.pwrStep = 5 && s.domOn 3) (fun s => (s.wr SYS_PWRSTAT_STEP 6).wr SYS_PWRSTAT_BOOTOK 1)))

/-! ## Key-off (R413–R416) -/

/-- IGN_OFF (R413, R414): IGN has been low for 100 ms; a KA that waits for its supply goes back to standby (R412). -/
def execIgnOff (s : State) : Host.Outcome State Fault Refusal :=
  s.okMgr (match s.mgr.ka with
    | .running => s.ignLow
    | .waitSupply => s.setMgr (fun m => { m with ka := if m.wakeSrc = 1 then .standby else .waitSupply, ignUp := false })
    | .standby => s)

/-- SLEEP (R414): the write with the key ends run-on; ignored while IGN is high. -/
def execSleep (key : Nat) (s : State) : Host.Outcome State Fault Refusal :=
  s.okMgr (s.hostWrite SYS_PWRCMD_CMD.addr (fun s =>
    s.when (key % 65536 = 0xA77A && s.pwrStep = 8 && !s.on SYS_PWRSTAT_IGN) (State.sdBegin 7 false)))

/-- RUN_ON_END (R414, R415): RUNON seconds have passed. -/
def execRunOnEnd (s : State) : Host.Outcome State Fault Refusal :=
  s.okMgr (s.when (s.running && s.mgr.failAt.isNone && s.pwrStep = 8 && decide (s.mgr.runEnd ≤ s.now)) (State.sdBegin 7 false))

/-- SHUTDOWN_STEP (R415): the next step of Table 15.3, LOGPWR being `v`. -/
def execShutdownStep (v : Nat) (s : State) : Host.Outcome State Fault Refusal :=
  s.okMgr (s.when (s.running && s.mgr.failAt.isNone) (State.sdNext v))

/-- SHUTDOWN_CANCEL (R413, R416): IGN is accepted high in run-on or before s0. -/
def execShutdownCancel (s : State) : Host.Outcome State Fault Refusal :=
  s.okMgr (s.when (s.running && s.mgr.failAt.isNone) State.sdCancel)

end Sys2Proof.Machine
end

