-- ==== Sys2Proof/Machine/Sec.lean ====
section
/-!
DEFINITION. The commands of section and row control (spec/07_section_and_row_control.md), one meaning per row.
-/
namespace Sys2Proof.Machine

/-- PLAN (R189, R190): the groups that wait for a plan apply, and a plan starts if one is asked for. The commands that such an apply
itself gives Carillon are answered while the plan runs. -/
def execPlan (s : State) : Host.Outcome State Fault Refusal :=
  s.ok (s.ifLive 0x09 (fun s =>
    let handed := s.handed.any (fun e => e.2.grp.block = 0x09)
    if s.secMayPlan && (s.secAsked || handed) then (s.applyDue 0x09 0).when ((s.applyDue 0x09 0).secMayStart) State.secStart else s))

/-- CUT_WIDTH_UPDATE (R204): every 10 ms. -/
def execCutWidthUpdate (s : State) : Host.Outcome State Fault Refusal :=
  s.ok (s.ifOn 0x09 (State.when (s.now % 10000000 = 0) State.secCut))

/-- HOLD_ENTER (R202, R203): a cause is present in RUN. -/
def execHoldEnter (s : State) : Host.Outcome State Fault Refusal :=
  s.ok (s.ifOn 0x09 (State.when (s.secSt = 2 && s.secCause != 0) (State.secHold s.secCause true)))

/-- HOLD_RELEASE (R202): every cause has been absent for 500 ms: WAIT. -/
def execHoldRelease (s : State) : Host.Outcome State Fault Refusal :=
  s.ok (s.ifOn 0x09 (State.when (s.secSt = 3 && s.secCause = 0 && decide (s.sec.causeAt + 500000000 ≤ s.now)) (fun s =>
    s.wr SEC_STAT_STATE 1)))

/-- REPLAN (R189): a plan is asked for. -/
def execReplan (s : State) : Host.Outcome State Fault Refusal :=
  s.ok (s.hostWrite SEC_CMD_CMD.addr (fun s => { s with sec := { s.sec with replan := true } }))

/-- ALLOFF (R203): step 2 of R203. -/
def execAlloff (s : State) : Host.Outcome State Fault Refusal := s.ok (s.hostWrite SEC_CMD_CMD.addr State.secAllOff)

/-- CLRCOV (R186): the coverage map is cleared in OFF and WAIT; else EV 0x0908. -/
def execClrcov (s : State) : Host.Outcome State Fault Refusal :=
  s.ok (s.hostWrite SEC_CMD_CMD.addr (fun s =>
    if s.secSt = 0 || s.secSt = 1 then s.secClear else s.emit 0x0908 [3, s.secSt]))

/-- ROWCLR (R194): a row leaves FAULT. -/
def execRowclr (row : Nat) (s : State) : Host.Outcome State Fault Refusal :=
  s.ok (s.when (decide (row < 512)) (State.hostWrite SEC_CMD_CMD.addr (fun s =>
    s.when (s.rcSt row = 3) (State.wr (SEC_RCSTAT_STATE row) 1))))

/-- DBASE_SAMPLE (R190): every 100 µs. -/
def execDbaseSample (s : State) : Host.Outcome State Fault Refusal :=
  s.ok (s.ifOn 0x09 (State.when (s.now % 100000 = 0) State.secSample))

end Sys2Proof.Machine
end

