-- ==== Sys2Proof/Machine/Sol.lean ====
section
/-!
DEFINITION. The commands of the solenoid drive (spec/08_solenoid_and_valve_drive.md), one meaning per row.
-/
namespace Sys2Proof.Machine

/-- Something that happens on a channel by itself, while the SOL domain is on. -/
def State.svEvent (n : Nat) (c : Bool) (f : State → State) (s : State) : State :=
  s.when (s.blockOn 0x0A && decide (n < 24) && c) f

/-! ## Host commands (R222–R224, R230) -/

/-- A host command of a channel, after what stands in the queue and comes before it on the same tick (R225, R226). -/
def State.svHost (x : SvAsk) (s : State) : State :=
  s.when (decide (x.chan < 24)) (State.hostWrite (SOL_CHCMD_CMD x.chan).addr (fun s => (s.svDefer x (State.svRun x)).svFlush))

/-- SOL_ON (R224): a host ON books a peak; one that cannot be booked leaves the channel OFF. It does not apply in PROP. -/
def execSolOn (n : Nat) (s : State) : Host.Outcome State Fault Refusal := s.ok (s.svHost { chan := n, kind := 0 })

/-- SOL_OFF (R221, R227): a host OFF: a booked peak is released, a channel that conducts goes through DECAY. -/
def execSolOff (n : Nat) (s : State) : Host.Outcome State Fault Refusal :=
  s.ok (s.svHost { chan := n, kind := 1 })

/-- SOL_CLR (R230): FAULT returns to OFF: causes 1 and 5 once the driver is below 130 °C; none while the group short stands, nor after
an undervoltage until OUTB has been above 9.0 V for 10 ms (`supply`); an ignored CLR emits EV 0x0A0C. -/
def execSolClr (n : Nat) (cool supply : Bool) (s : State) : Host.Outcome State Fault Refusal :=
  s.ok (s.svHost { chan := n, kind := 2, cool := cool, supply := supply })

/-- GROUP_CLR (R230): clears a group short; its channels stay in FAULT until each is cleared. It ends Tocsin's
stuck-output record for the group (R377), but does not close a switch that Tocsin holds open. After an undervoltage it is ignored
as a channel's CLR is, with EV 0x0A0C for the group. -/
def execGroupClr (g : Nat) (s : State) : Host.Outcome State Fault Refusal :=
  s.ok (s.when (decide (g < 6)) (State.hostWrite (SOL_GCMD_CMD g).addr (fun s =>
    if s.sol.low then s.emitSec 0x0A0C (24 + g) (fun c => [g, 2, c]) else
    let t := s.wr (SOL_GSTAT_GFLT g) 0
    { t with tsv := { t.tsv with stuckSv := clrBit t.tsv.stuckSv g } })))

/-- BOOST_CLR (Table 8.1): FAULT goes to WAITLEASE with BEN = 1, where the lease is requested, otherwise to OFF. -/
def execBoostClr (s : State) : Host.Outcome State Fault Refusal :=
  s.ok (s.hostWrite SOL_BCMD_CMD.addr (fun s =>
    if s.rd SOL_STAT_BSTATE = 5 then
      (if s.on SOL_CTL_BEN then ((s.unbar 0x0A).wr SOL_STAT_BSTATE 1).requestLease 4 0x0A else (s.unbar 0x0A).wr SOL_STAT_BSTATE 0)
    else s))

/-- ISET_WRITE (R218): a host ISET sets the PROP current; ignored and counted on a claimed or held channel or a slave. -/
def execIsetWrite (n v : Nat) (s : State) : Host.Outcome State Fault Refusal :=
  s.ok (s.when (decide (n < 24)) (State.hostWrite (SOL_CHSET_ISET n).addr (fun s =>
    if s.svHostBarred n || s.svInFault n then s.svIgnore n 2
    else if !s.svMay n 4 then s
    else (s.svSetpoint n (v % 2 ^ 16)).svTook n 4)))

/-- SOL_DUTY_WRITE (R219): a host DUTY, cut at 1,000, taken at the channel's next cycle start; ignored and counted on a
claimed or held channel or a slave. -/
def execSolDutyWrite (n duty : Nat) (s : State) : Host.Outcome State Fault Refusal :=
  s.ok (s.when (decide (n < 24)) (State.hostWrite (SOL_CHDUTY_DUTY n).addr (fun s =>
    if s.svHostBarred n || s.svInFault n then s.svIgnore n 2
    else s.svSetDuty n (duty % 2 ^ 10))))

/-! ## Peaks (R217) -/

/-- PEAK_START (R217): a booked peak starts: that of a channel in WAIT, or that of a PWMN on-period. -/
def execPeakStart (n : Nat) (s : State) : Host.Outcome State Fault Refusal :=
  let c := s.sv n
  let wait := s.svState n = 1 && decide (c.book ≤ s.now)
  let nozzle := s.svState n = 4 && s.svMode n = 3 && c.nozzle != 0 && decide (c.nozzle - 1 ≤ s.now)
  s.ok (s.svEvent n (wait || nozzle) (fun s => (s.setSv n { s.sv n with book := 0 }).peakStart n))

/-- PEAK_END (R217): TPEAK has elapsed: HOLD at IHOLD from OUTB; the window ends. -/
def execPeakEnd (n : Nat) (s : State) : Host.Outcome State Fault Refusal :=
  s.ok (s.svEvent n (s.svState n = 2 && decide ((s.sv n).peakEnd ≤ s.now)) (fun s =>
    ((s.releaseWin n 0).wr (SOL_CHSTAT_STATE n) 3).railOf (n / 4)))

/-- PEAK_NOT_REACHED (R217): the current is below IPEAK at TPKTO: PKNR, EV 0x0A09; FAULT with PKACT = 1. -/
def execPeakNotReached (n i : Nat) (s : State) : Host.Outcome State Fault Refusal :=
  s.ok (s.svEvent n (s.svState n = 2 && decide ((s.sv n).peakTo ≤ s.now) && decide (i < s.rd (SOL_CHCUR_IPEAK n))) (fun s =>
    let t := ((((s.wr (SOL_CHSTAT_IMEAS n) (min i 0xFFFF)).setFlag (SOL_CHFLAG_PKNR n)).setFlag SOL_INTSTAT_PKNR).emit 0x0A09 [n, i]).toTocsin
    t.when (t.on (SOL_CHCFG_PKACT n)) (State.svFault n 4)))

/-! ## Nozzles (R219) -/

/-- NOZZLE_CYCLE_START (R219): 100 µs before a cycle start the peak of the next regular on-period is booked, or the
period is skipped; at the cycle start DUTY is taken, an on-period that still runs is extended, and one that is booked
begins with its peak. A command of the same tick comes before it, whichever is given first (R225). -/
def execNozzleCycleStart (n : Nat) (s : State) : Host.Outcome State Fault Refusal :=
  let c := s.sv n
  let run := s.on (SOL_CHSTAT_ON n) && s.svMode n = 3 && !s.svInFault n && !s.svSlave n
  let duty := s.rd (SOL_CHDUTY_DUTY n)
  s.ok (s.svEvent n run (fun s =>
    if s.isCycleStart n (s.now + 100000) then
      if duty = 0 || c.nozzle != 0 || (c.period && (c.endless || decide (s.now + 100000 ≤ c.onEnd))) then s.svFlush
      else (s.svDefer { chan := n, kind := 4 } (State.svNozzleBook n)).svFlush
    else if s.isCycleStart n s.now && s.svMay n 5 then
      let c := s.sv n
      let o := s.nozzleOnTime n duty
      if c.period && (c.endless || decide (s.now ≤ c.onEnd)) then
        if duty = 0 then s.setSv n { c with endless := false, onEnd := s.now }
        else (s.setSv n { c with onEnd := s.now + o.1, endless := duty = 1000 }).when o.2
          (State.setFlag (SOL_CHFLAG_DUTYLIM n))
      else if duty = 0 then (s.releaseWin n 0).setSv n { c with nozzle := 0 }
      else if c.nozzle != 0 && decide (c.nozzle - 1 ≤ s.now) then s.peakStart n
      else s
    else s))

/-- NOZZLE_ON_END (R219): the on-period ends and the channel returns to REG. -/
def execNozzleOnEnd (n : Nat) (s : State) : Host.Outcome State Fault Refusal :=
  let c := s.sv n
  s.ok (s.svEvent n (s.svMode n = 3 && c.period && !c.endless && decide (c.onEnd ≤ s.now) && s.svState n = 3) (fun s =>
    ((s.setSv n { c with period := false }).wr (SOL_CHSTAT_STATE n) 4).railOf (n / 4)))

/-- DECAY_END (R221): the coil current is below 50 mA: the channel leaves DECAY. -/
def execDecayEnd (n : Nat) (s : State) : Host.Outcome State Fault Refusal :=
  s.ok (s.svEvent n (s.svState n = 5) (fun s => (s.wr (SOL_CHSTAT_STATE n) 0).wr (SOL_CHSTAT_IMEAS n) 0))

/-! ## The boost converter (R213, R214) -/

/-- BOOST_LEASE_GRANT (R213): SOL holds the lease in WAITLEASE: START. -/
def execBoostLeaseGrant (s : State) : Host.Outcome State Fault Refusal :=
  s.ok (s.ifLive 0x0A (fun s =>
    if s.rd SOL_STAT_BSTATE = 1 && s.holds 4 0x0A && s.on SOL_CTL_BEN then
      { s.wr SOL_STAT_BSTATE 2 with sol := { s.sol with since := s.now } }
    else s))

/-- BOOST_READY (R214): the rail reaches 95 % of its effective setpoint in START or LOW: READY, EV 0x0A01. -/
def execBoostReady (v : Nat) (s : State) : Host.Outcome State Fault Refusal :=
  let st := s.rd SOL_STAT_BSTATE
  s.ok (s.ifLive 0x0A (fun s =>
    if (st = 2 || st = 4) && decide (s.boostSet * 95 ≤ v * 100) then
      ((s.wr SOL_STAT_BSTATE 3).wr SOL_STAT_VBOOST (min v 0xFFF)).emit 0x0A01 [v]
    else s))

/-- BOOST_LOW (R214): the rail falls below 90 % in READY: LOW. -/
def execBoostLow (v : Nat) (s : State) : Host.Outcome State Fault Refusal :=
  s.ok (s.ifLive 0x0A (fun s =>
    if s.rd SOL_STAT_BSTATE = 3 && decide (v * 100 < s.boostSet * 90) then
      let t := (s.wr SOL_STAT_BSTATE 4).wr SOL_STAT_VBOOST (min v 0xFFF)
      { t with sol := { t.sol with since := s.now } }
    else s))

/-- BOOST_TIMEOUT (R214): START beyond 20 ms is cause 2, LOW for 5 ms without a break cause 3. -/
def execBoostTimeout (s : State) : Host.Outcome State Fault Refusal :=
  s.ok (s.ifLive 0x0A (fun s =>
    if s.rd SOL_STAT_BSTATE = 2 && decide (s.sol.since + 20000000 ≤ s.now) then s.boostFault 2
    else if s.rd SOL_STAT_BSTATE = 4 && decide (s.sol.since + 5000000 ≤ s.now) then s.boostFault 3
    else s))

/-- BOOST_FAULT (R214): the rail above 68 V (cause 1) or a converter over-current (cause 4) leads to FAULT from any state. -/
def execBoostFault (ov : Bool) (s : State) : Host.Outcome State Fault Refusal :=
  let st := s.rd SOL_STAT_BSTATE
  s.ok (s.ifLive 0x0A (fun s =>
    if st != 5 then s.boostFault (if ov then 1 else 4) else s))

/-- BOOST_LEASE_REVOKED (R213, R214): the lease is gone: the converter stops and waits for its lease, which it requests anew. Peaks in
progress go on from OUTB. In WAITLEASE a lease that was granted and is gone again is requested anew too. -/
def execBoostLeaseRevoked (s : State) : Host.Outcome State Fault Refusal :=
  let st := s.rd SOL_STAT_BSTATE
  s.ok (s.ifLive 0x0A (fun s =>
    if s.holds 4 0x0A then s
    else if st = 1 then s.requestLease 4 0x0A
    else s.when (st = 2 || st = 3 || st = 4) (State.boostStop 1 true)))

/-! ## Faults (R229) -/

/-- SOL_SHORT (R229): a measured channel current, of a pair the sum of both (R220), above 15 A, or 27 A for a pair; a channel in FAULT
detects none. A current within the limit is only taken into IMEAS. -/
def execSolShort (n i : Nat) (s : State) : Host.Outcome State Fault Refusal :=
  s.ok (s.svEvent n (s.svState n != 7) (fun s =>
    let t := s.wr (SOL_CHSTAT_IMEAS n) (min i 0xFFFF)
    t.when (decide ((if s.svPaired n then 27000 else 15000) < i) && decide (s.svState n < 6)) (fun t =>
      (((t.svFault n 1).setFlag (SOL_CHFLAG_SHORT n)).setFlag SOL_INTSTAT_SHORT).emit 0x0A06 [n, i])))

/-- GROUP_SHORT (R229): a group current above 33 A, or the common line at GND with the group switch on: the switch opens and all four
channels enter FAULT. -/
def execGroupShort (g i : Nat) (s : State) : Host.Outcome State Fault Refusal :=
  s.ok (s.when (s.blockOn 0x0A && decide (g < 6) && (decide (33000 < i) || s.on (SOL_GSTAT_GON g))) (fun s =>
    let t := (svOfGroup g).foldl (fun t n => (t.svFault n 2).setFlag (SOL_CHFLAG_SHORT n)) (s.wr (SOL_GSTAT_GFLT g) 1)
    ((((t.setFlag SOL_INTSTAT_SHORT).wr (SOL_GSTAT_IGRP g) (min (i / 200) 0xFF)).railOf g).emit 0x0A07 [g, i / 200]).toTocsin))

/-- SOL_OPEN_LOAD (R229): in HOLD or REG the current is below 25 % of its target. -/
def execSolOpenLoad (n i : Nat) (s : State) : Host.Outcome State Fault Refusal :=
  let st := s.svSeen n
  let target := if s.svMode n = 2 then s.rd (SOL_CHSET_ISET n) else s.rd (SOL_CHCUR_IHOLD n)
  s.ok (s.svEvent n ((st = 3 || (st = 4 && s.svMode n = 2)) && decide (i * 4 < target)) (fun s =>
    ((((s.wr (SOL_CHSTAT_IMEAS n) i).svFault n 3).setFlag (SOL_CHFLAG_OPEN n)).setFlag SOL_INTSTAT_OPEN).emit 0x0A08 [n, 1]))

/-- SOL_OPEN_LOAD_OFF (R229): with DIAGEN = 1, the off-state test finds an open load: OPENOFF, no state change. -/
def execSolOpenLoadOff (n : Nat) (s : State) : Host.Outcome State Fault Refusal :=
  s.ok (s.svEvent n (s.svSeen n = 0 && s.on (SOL_CHCFG_DIAGEN n)) (fun s =>
    (((s.setFlag (SOL_CHFLAG_OPENOFF n)).setFlag SOL_INTSTAT_OPEN).emit 0x0A08 [n, 2]).toTocsin))

/-- SOL_DRIVER_OVERTEMP (R229): a channel driver above 150 °C; a channel in FAULT, or the slave of a pair, detects none. -/
def execSolDriverOvertemp (n : Nat) (t : Int) (s : State) : Host.Outcome State Fault Refusal :=
  s.ok (s.svEvent n (decide (1500 < t) && decide (s.svState n < 6)) (fun s =>
    (((s.svFault n 5).setFlag (SOL_CHFLAG_OVT n)).setFlag SOL_INTSTAT_OVT).emit 0x0A0A [n, tc 32 t]))

/-- OUTB_UNDERVOLTAGE (R229): OUTB below 8.0 V for 100 µs: every channel that is not OFF enters FAULT and the boost
stops. -/
def execOutbUndervoltage (v : Nat) (s : State) : Host.Outcome State Fault Refusal :=
  s.ok (s.when (s.blockOn 0x0A && decide (v < 80)) (fun s =>
    let t := (List.range 24).foldl (fun t n =>
      t.when (t.svSeen n != 0 && t.svState n != 6 && t.svState n != 7) (fun t => (t.svFault n 6).setFlag (SOL_CHFLAG_UV n)))
      { (s.supplyIs 1 (v * 10)).wr SOL_STAT_UV 1 with sol := { s.sol with low := true, above := false } }
    let st := t.rd SOL_STAT_BSTATE
    let t := t.when (st = 2 || st = 3 || st = 4) (State.boostStop 1 true)
    ((t.setFlag SOL_INTSTAT_UV).emit 0x0A0B [v]).toTocsin))

end Sys2Proof.Machine
end

