-- ==== Sys2Proof/Machine/Sysio.lean ====
section
/-!
DEFINITION. The commands of SYS's inputs and outputs (spec/19_connectors_electrical_and_mechanical.md), one meaning per
row.
-/
namespace Sys2Proof.Machine

/-- TBI_WIRE_BREAK (R507, Table 19.8): a break is detected in modes 0 and 2, a short in mode 2 only, after 1 ms. WBRK is
set, and every base that reads the input enters LOST with cause 2. -/
def execTbiWireBreak (pin : Nat) (short : Bool) (ms : Nat) (s : State) : Host.Outcome State Fault Refusal :=
  s.ok (s.when (s.wireBreaks pin short ms) (State.tbWireBreak pin))

/-- DQSET (R509): a host write of SYS_DQSET turns outputs on; outputs in fault stay off, and while Tocsin holds the outputs
the write is ignored. -/
def execDqset (v : Nat) (s : State) : Host.Outcome State Fault Refusal :=
  s.ok (s.hostWrite SYS_DQSET_BITS.addr (fun s =>
    if s.dqHeld then s
    else s.each (List.range 16) (fun n s => if bit v n && !s.dqFault n then s.dqPut n 3 true else s)))

/-- DQCLR (R509): a host write of SYS_DQCLR turns outputs off and clears their faults. -/
def execDqclr (v : Nat) (s : State) : Host.Outcome State Fault Refusal :=
  s.ok (s.hostWrite SYS_DQCLR_BITS.addr (fun s =>
    s.each (List.range 16) (fun n s =>
      if bit v n then (s.wr SYS_DQSTAT_FLT (clrBit (s.rd SYS_DQSTAT_FLT) n)).dqPut n 3 false else s)))

/-- DQ_TRIP (R509, Table 19.9): above 0.8 A an output that is on, or was before the happenings of this tick, switches off, FLT is
set, EV 0x0031. -/
def execDqTrip (n i : Nat) (s : State) : Host.Outcome State Fault Refusal :=
  s.ok (s.when (decide (n < 16) && decide (800 < i) && (bit (s.rd SYS_DQSTAT_LEVEL) n || bit s.dqBefore n) &&
      !s.dqFault n && s.domOn 1)
    (fun s => ((s.dqTrip n).emit 0x0031 [n, i]).toTocsin))

/-- SUPPLY_LIMIT (R511): at 125 % of its rating a supply is held at that limit (LIM); after 10 ms it switches off (OFF,
EV 0x0030). -/
def execSupplyLimit (b i ms : Nat) (s : State) : Host.Outcome State Fault Refusal :=
  s.ok (s.when (decide (b < 10) && s.domOn 1 && decide (125 * vsRated b ≤ 100 * i) && !bit (s.rd SYS_VSSTAT_OFF) b) (fun s =>
    let t := s.wr SYS_VSSTAT_LIM (setBit (s.rd SYS_VSSTAT_LIM) b)
    if ms < 10 then t
    else
      let u := t.wr SYS_VSSTAT_OFF (setBit (t.rd SYS_VSSTAT_OFF) b)
      ({ u with io := { u.io with vsAt := tabSet 0 u.io.vsAt b u.now } }).emit 0x0030 [b, i]))

/-- SUPPLY_RETRY (R511): a supply that switched off retries every 1 s; its flags clear once it stays below its rating for
100 ms after a retry. -/
def execSupplyRetry (b i ms : Nat) (s : State) : Host.Outcome State Fault Refusal :=
  s.ok (s.when (decide (b < 10) && s.domOn 1 && bit (s.rd SYS_VSSTAT_OFF) b &&
      decide (tabGet 0 s.io.vsAt b + 1000000000 ≤ s.now)) (fun s =>
    if i < vsRated b ∧ 100 ≤ ms then
      let t := (s.wr SYS_VSSTAT_LIM (clrBit (s.rd SYS_VSSTAT_LIM) b)).wr SYS_VSSTAT_OFF (clrBit (s.rd SYS_VSSTAT_OFF) b)
      { t with io := { t.io with vsAt := tabSet 0 t.io.vsAt b 0 } }
    else { s with io := { s.io with vsAt := tabSet 0 s.io.vsAt b s.now } }))

/-- ANALOG_FLAG (R506): a conversion of an analog input is taken, corrected by the analog references (R421); each new flag emits EV 0x0033. -/
def execAnalogFlag (n : Nat) (val : Int) (s : State) : Host.Outcome State Fault Refusal :=
  s.ok (s.when (decide (n < 16) && s.domOn 1) (fun s =>
    let val := s.refCorr val
    let f := s.ainFlags n val
    let open0 := s.on (SYS_AIN_OPEN n)
    let range0 := s.on (SYS_AIN_RANGE n)
    let t := ((s.wr (SYS_AIN_VAL n) (s.ainStored n val)).wr (SYS_AIN_OPEN n) (b2n f.1)).wr (SYS_AIN_RANGE n) (b2n f.2)
    (t.when (f.1 && !open0) (State.emit 0x0033 [n, 1])).when (f.2 && !range0) (State.emit 0x0033 [n, 2])))

/-- DI_LEVEL_CHANGE (Table 19.8, R522): an input that has stayed at a new level for its filter time, since the filter time
was applied, takes that level. -/
def execDiLevelChange (n : Nat) (high : Bool) (held : Nat) (s : State) : Host.Outcome State Fault Refusal :=
  let since := tabGet 0 s.io.filtAt n
  let ran := if since = 0 then held else min held (s.now + 1 - since)
  s.ok (s.when (decide (n < 32) && s.domOn 1 && decide (s.diFilter n ≤ ran)) (fun s =>
    s.wr SYS_DILVL_LEVEL (putBit (s.rd SYS_DILVL_LEVEL) n high)))

end Sys2Proof.Machine
end

