-- ==== Sys2Proof/Machine/Tbs.lean ====
section
/-!
DEFINITION. The commands of the time bases (spec/02_time_bases.md), one meaning per row.
-/
namespace Sys2Proof.Machine

/-- EDGE_ACCEPTED (R35, R36): an edge that has passed base `n`'s filter, dated FILT × 20 ns back. -/
def execEdgeAccepted (n pin : Nat) (high : Bool) (s : State) : Host.Outcome State Fault Refusal :=
  s.ok (s.when (decide (n < 8) && decide (pin < 16) && s.blockOn 0x03)
    (State.tbEdge n pin (s.now - s.rd (TBS_TEETH_FILT n) * 20) high))

/-- EDGE_DEADLINE (R43, R49): the deadline has passed without an edge: LOST with cause 1, or STILL; a wire break of the tick comes
first. -/
def execEdgeDeadline (n : Nat) (s : State) : Host.Outcome State Fault Refusal :=
  s.ok (s.when (decide (n < 8) && s.blockOn 0x03) (State.tbFirst n))

/-- FAILOVER_RETURN (R48): the own source has been in TRACK for 1 s: the base returns to it without a jump: its edges and its
phase are shifted by the difference to the phase reported. -/
def execFailoverReturn (n : Nat) (s : State) : Host.Outcome State Fault Refusal :=
  s.ok (s.when (decide (n < 8) && s.blockOn 0x03) (fun s =>
    let b := s.tb n
    match b.sub with
    | some ⟨_, _, some u, _, _, _⟩ =>
      if s.now < u + 1000000000 then s
      else
        let d := s.tbPhase16 8 n s.now - b.phaseAt s.now
        ((s.setTb n { b with sub := none, pe := b.pe + d, origin := b.origin + d,
                             hist := b.hist.map (fun e => (e.1, e.2 + d)) }).emit 0x030C [n]).tbRenewed n false
    | _ => s))

/-- GNSS_RECORD_MISSING (R276, R43): no speed record within 1.5 epoch periods: the GNSS-distance base enters LOST with
cause 3. -/
def execGnssRecordMissing (n : Nat) (s : State) : Host.Outcome State Fault Refusal :=
  s.ok (s.when (decide (n < 8) && s.blockOn 0x03 && s.rd (TBS_CFG_SRC n) = 5 &&
      decide (2 * (s.tb n).updAt + 3 * s.gnsPeriod ≤ 2 * s.now)) (State.tbLose n 3))

/-- YULIS_UPDATE_MISSING (R480, R43): no valid update within 62,500 ns: the base enters LOST with cause 3. -/
def execYulisUpdateMissing (n : Nat) (s : State) : Host.Outcome State Fault Refusal :=
  s.ok (s.when (decide (n < 8) && s.blockOn 0x03 && s.rd (TBS_CFG_SRC n) = 6 &&
      decide ((s.tb n).updAt + 62500 ≤ s.now)) (State.tbLose n 3))

/-- PRESET (R44, TBS_PRESETn): the phase of a distance base or of a virtual angle base is set, as a jump; for other bases
the write is ignored with EV 0x030D. The preset value is the phase P_e from which R37 and, on a distance base, the next count goes on:
a preset between two edges is followed by a full SCALE at the next (DEDUCED, assumption log, entry 82). -/
def execPreset (n v : Nat) (s : State) : Host.Outcome State Fault Refusal :=
  s.ok (s.when (decide (n < 8)) (State.hostWrite (TBS_PRESET_PRESET n).addr (fun s =>
    if s.tbKind n = 1 || s.rd (TBS_CFG_SRC n) = 7 then
      let b := s.tb n
      let old := s.tbPhase16 8 n s.now
      let size := phaseDiff v (tc 32 (old / lsb16)) * lsb16
      let p := old / lsb16 * lsb16 + size
      let b := { b with pe := p, te := s.now, origin := b.origin + (p - old), hist := [],
                        sub := b.sub.map (fun u => { u with own := u.own + (p - old), floor := u.floor.map (· + (p - old)) }) }
      let t := (s.setTb n b).tbJump n size
      t.setTb n { t.tb n with limit := if tbMovingSt (t.tbSt n) then t.tbNextEdge n else none }
    else s.emit 0x030D [n])))

/-- SNAP (TBS_SNAP): the values of all eight bases are latched on one tick. -/
def execSnap (_v : Nat) (s : State) : Host.Outcome State Fault Refusal :=
  s.ok (s.hostWrite TBS_SNAP_SNAP.addr (fun s =>
    { s with tbs := { s.tbs with snap := (List.range 8).map (fun n => (n, s.tbSnapOf n)) } }))

/-- PHASE_READ (TBS_PHASEn): the read answers with the phase and latches the base's other values; after SNAP the first
read returns the snapshot. -/
def execPhaseRead (n : Nat) (s : State) : Host.Outcome State Fault Refusal :=
  s.ok (s.when (decide (n < 8)) (State.hostRead (TBS_PHASE_PHASE n).addr (State.tbReadPhase n)))

/-- PLAUSIBILITY_WINDOW (R46, R49): a 100 ms window ends, or the first begins, after the wire breaks and deadlines of the tick. Where an
edge of one of the two bases waits on the same tick, its command takes the window, after its tooth check. -/
def execPlausibilityWindow (n : Nat) (s : State) : Host.Outcome State Fault Refusal :=
  s.ok (s.when (decide (n < 8) && s.blockOn 0x03 && s.on (TBS_PLAUS_PEN n)) (fun s =>
    let r := s.rd (TBS_PLAUS_REF n)
    if (s.tb n).win.isSome && (s.edgeWaits n || s.edgeWaits r) then s else ((s.tbFirst n).tbFirst r).tbPlaus n))

end Sys2Proof.Machine
end

