-- ==== Sys2Proof/Machine/Thm.lean ====
section
/-!
DEFINITION. The meanings of the thermal block's commands (spec/15_power_thermal_and_cooling.md, R419–R430).
-/
namespace Sys2Proof.Machine

/-- A happening of a fan of THM, which acts with AON on, fenced or not (R433). -/
def State.fanEvent (f : Nat) (c : Bool) (g : State → State) (s : State) : State :=
  s.when (decide (f < 4) && s.domOn 1 && c) g

/-- A fan has been in state `st` for `ns`, its supply being there (R426). -/
def State.fanBeen (s : State) (f st ns : Nat) : Bool := s.fanSt f = st && !s.fanUnfed && decide ((s.fan f).at_ + ns ≤ s.now)

/-- HOUSEKEEPING_ROUND (R419): at every module time that is a multiple of 10 ms, once. -/
def execHousekeepingRound (r : ThmRound) (s : State) : Host.Outcome State Fault Refusal :=
  s.okMgr (s.when (s.domOn 1 && s.now % 10000000 = 0 && s.thm.round != s.now + 1) (State.thmRound r))

/-- GRACE_EXPIRY (R424). -/
def execGraceExpiry (s : State) : Host.Outcome State Fault Refusal :=
  s.ok (s.when (s.domOn 1 && s.thm.grace != 0 && decide (s.thm.grace ≤ s.now + 1)) State.thmExpire)

/-- HACK (R424): a host write of THM_HACK. -/
def execHack (v : Nat) (s : State) : Host.Outcome State Fault Refusal :=
  s.ok (s.hostWrite THM_HACK_ACK.addr (State.thmAck v))

/-- KICK_TIMEOUT (R430): 2 s in KICK without ten pulses. -/
def execKickTimeout (f cur : Nat) (s : State) : Host.Outcome State Fault Refusal :=
  s.ok (s.fanEvent f (s.fanBeen f 1 2000000000) (fun s => (s.wr (THM_FMEAS_IDRV f) (min cur 0xFFFF)).fanSilent f cur))

/-- FAN_RUNNING (R430): ten tach pulses; from KICK they show at least RPMMIN / 2. Below 8.0 V on OUTPWR-B the fan's state stays (R426). -/
def execFanRunning (f rpm : Nat) (s : State) : Host.Outcome State Fault Refusal :=
  s.ok (s.fanEvent f (!s.fanUnfed) (fun s =>
    let t := s.wr (THM_FMEAS_RPM f) (min rpm 0xFFFF)
    if s.fanSt f = 1 ∧ s.rd (THM_FLIM_RPMMIN f) ≤ 2 * rpm then t.fanEnter f 3
    else if s.fanSt f = 4 then (t.fanEnter f 3).emit 0x0F0D [f, rpm]
    else s))

/-- TACH_SILENCE (R430): 500 ms of tach silence in RUN. -/
def execTachSilence (f cur : Nat) (s : State) : Host.Outcome State Fault Refusal :=
  s.ok (s.fanEvent f (s.fanBeen f 3 500000000) (fun s => (s.wr (THM_FMEAS_IDRV f) (min cur 0xFFFF)).fanSilent f cur))

/-- TACHLOSS_CURRENT (R430): in TACHLOSS the current is at or above ISTALL, or below IOPEN, for 500 ms. -/
def execTachlossCurrent (f cur ms : Nat) (s : State) : Host.Outcome State Fault Refusal :=
  s.ok (s.fanEvent f (s.fanBeen f 4 500000000 && decide (500 ≤ ms)) (fun s =>
    if s.rd (THM_FCUR_ISTALL f) ≤ cur then (s.wr (THM_FMEAS_IDRV f) (min cur 0xFFFF)).fanRetry f cur
    else if cur < s.rd (THM_FCUR_IOPEN f) then (s.wr (THM_FMEAS_IDRV f) (min cur 0xFFFF)).fanFault f 2 cur
    else s))

/-- RETRY_WAIT_END (R430): after 3 s the fan kicks again. -/
def execRetryWaitEnd (f : Nat) (s : State) : Host.Outcome State Fault Refusal :=
  s.ok (s.fanEvent f (s.fanBeen f 2 3000000000) (fun s => s.fanEnter f 1))

/-- FAN_SHORT (R426): a current above 15 A switches the channel off. -/
def execFanShort (f cur : Nat) (s : State) : Host.Outcome State Fault Refusal :=
  s.ok (s.fanEvent f (decide (15000 < cur) && s.fanSt f != 5) (fun s => (s.wr (THM_FMEAS_IDRV f) (min cur 0xFFFF)).fanFault f 3 cur))

/-- FAN_CLR (R430): CLR takes the fan from FAULT to OFF. -/
def execFanClr (f : Nat) (s : State) : Host.Outcome State Fault Refusal :=
  s.ok (s.when (decide (f < 4)) (State.hostWrite (THM_FCMD_CMD f).addr (fun s =>
    s.when (s.fanSt f = 5) (fun s => (s.wr (THM_FSTAT_CAUSE f) 0).fanOff f))))

end Sys2Proof.Machine
end

