-- ==== Sys2Proof/Machine/Vis.lean ====
section
/-!
DEFINITION. The commands of grain vision (spec/05_grain_vision.md), one meaning per row.
-/
namespace Sys2Proof.Machine

/-- Something a port in one of some states does. -/
def State.visPort (p : Nat) (sts : List Nat) (c : Bool) (f : State → State) (s : State) : State :=
  s.when (s.live 0x06 && decide (p < 3) && sts.contains (s.visSt p) && c) f

/-- PORT_SYNCHRONISED (Table 5.2): ARMED to IDLE, EV 0x0601. -/
def execPortSynchronised (p : Nat) (s : State) : Host.Outcome State Fault Refusal :=
  s.ok (s.visPort p [1] true (fun s => (s.setVisSt p 2).emit 0x0601 [p]))

/-- FRAME_START (R119, R126, R127, R137): the port-format group applies, then the frame starts. -/
def execFrameStart (p : Nat) (s : State) : Host.Outcome State Fault Refusal :=
  s.ok (s.visPort p [2] true (fun s => (s.applyDue 0x06 p).visStart p))

/-- FRAME_END (R119, R122, R128): VSYNC returns inactive; a group that clears EN applies here. -/
def execFrameEnd (p : Nat) (lines : List (List Nat)) (s : State) : Host.Outcome State Fault Refusal :=
  s.ok (s.visPort p [3] true (fun s =>
    match tabFind s.vis.cur p with
    | some f => (s.visFrameEnd p f lines).applyDue 0x06 (8 + p)
    | none => s))

/-- FRAME_TIMEOUT (R122): FTO after its start the frame is closed; FRAME to ARMED. -/
def execFrameTimeout (p : Nat) (lines : List (List Nat)) (s : State) : Host.Outcome State Fault Refusal :=
  s.ok (s.visPort p [3] (match tabFind s.vis.cur p with
      | some f => decide (f.ts + s.rd (VIS_PTRIG_FTO p) * 100000 ≤ s.now) | none => false)
    (fun s => ((s.visTimeout p lines).setVisSt p 1).applyDue 0x06 (8 + p)))

/-- PIXEL_CLOCK_LOST (R121, R122): no PCLK edge for 10 µs: NOCLK, EV 0x0606; a frame in progress is closed. -/
def execPixelClockLost (p : Nat) (lines : List (List Nat)) (s : State) : Host.Outcome State Fault Refusal :=
  s.ok (s.visPort p [1, 2, 3] true (fun s =>
    ((((s.visTimeout p lines).setVisSt p 4).visFlag VIS_PFLAG_NOCLK VIS_INTSTAT_PORTERR p).emit 0x0606 [p]).when
      (s.visSt p = 3) (State.applyDue 0x06 (8 + p))))

/-- PIXEL_CLOCK_RETURN (Table 5.2): NOCLK to ARMED. -/
def execPixelClockReturn (p : Nat) (s : State) : Host.Outcome State Fault Refusal :=
  s.ok (s.visPort p [4] true (State.setVisSt p 1))

/-- TRIGGER_MISSED (R126): a pending trigger was not paired within TRIGWIN. -/
def execTriggerMissed (p : Nat) (s : State) : Host.Outcome State Fault Refusal :=
  s.ok (s.when (s.live 0x06 && (match tabFind s.vis.trig p with
      | some t => decide (t + s.rd (VIS_PTRIG_TRIGWIN p) * 1000 < s.now) | none => false)) (State.visMiss p))

/-- FRAME_QUEUED (R128): 50 ns after its frame end the next frame enters the live queue. -/
def execFrameQueued (s : State) : Host.Outcome State Fault Refusal :=
  s.ok (s.ifLive 0x06 (fun s =>
    match visNextEnded s.vis.ended with
    | some f =>
      if f.fe + 50 ≤ s.now then
        { s with vis := { s.vis with ended := s.vis.ended.erase f, queue := s.vis.queue ++ [f] } }
      else s
    | none => s))

/-- PROCESSING_START (R128, R138): the pipeline is free: the next frame starts; its context's new set applies first. -/
def execProcessingStart (s : State) : Host.Outcome State Fault Refusal :=
  s.ok (s.ifLive 0x06 (fun s =>
    if s.vis.proc.isSome || s.vis.quiet.isSome then s
    else match s.visNext with
      | some f => (s.applyDue 0x06 (16 + f.port)).visBegin f
      | none => s))

/-- PROCESSING_END (R129, R130, R141): the processing time has passed. -/
def execProcessingEnd (s : State) : Host.Outcome State Fault Refusal :=
  s.ok (s.ifLive 0x06 (fun s =>
    match s.vis.proc with
    | some p => if p.ends ≤ s.now then s.visFinish p else s
    | none => s))

/-- QUIET_SLOT_END (R130). -/
def execQuietSlotEnd (s : State) : Host.Outcome State Fault Refusal :=
  s.ok (s.ifLive 0x06 (fun s =>
    match s.vis.quiet with
    | some t => if t ≤ s.now then { s with vis := { s.vis with quiet := none } }.visLevel else s
    | none => s))

/-- RESULT_WRITE (R129, R143): 200 ns after it was decided the next result is written or dropped. -/
def execResultWrite (s : State) : Host.Outcome State Fault Refusal :=
  s.ok (s.ifOn 0x06 (fun s =>
    match s.vis.results with
    | r :: q => if r.due ≤ s.now then { s with vis := { s.vis with results := q } }.visWrite r else s
    | [] => s))

/-- R142: a dimension of a replay frame is out of range. -/
def visBadDim (n : Nat) : Bool := decide (n < 64) || decide (4096 < n) || n % 16 != 0

/-- RPLY (R142): a write of VIS_RPLY queues a replay frame, or is ignored with EV 0x060D. -/
def execRply (s : State) : Host.Outcome State Fault Refusal :=
  s.ok (s.hostWrite VIS_RPLY_GO.addr (fun s =>
    if s.vis.replay.isSome || (match s.vis.proc with | some x => x.frame.port = 3 | none => false) then s.emit 0x060D [3, 1]
    else if decide (4 < s.rd VIS_RFMT_CFA) || visBadDim (s.rd VIS_RFMT_W) || visBadDim (s.rd VIS_RFMT_H) then
      s.emit 0x060D [3, 2]
    else
      let f : VisFrame := { port := 3, frno := s.vis.replays % 65536, ts := s.now, addr := s.rd VIS_RADR_ADDR * 4096,
                            w := s.rd VIS_RFMT_W, h := s.rd VIS_RFMT_H, cfa := s.rd VIS_RFMT_CFA, fe := s.now,
                            lines := s.rd VIS_RFMT_H }
      { s with vis := { s.vis with replay := some f, replays := s.vis.replays + 1 } }))

/-- FRAME_MEMORY_ERROR (R146): an uncorrectable error ends the processing. -/
def execFrameMemoryError (s : State) : Host.Outcome State Fault Refusal :=
  s.ok (s.ifLive 0x06 (fun s => match s.vis.proc with | some p => s.visMemErr p | none => s))

/-- VIS_RING_READ_WRITE (R143): a write of VIS_RESRD. For EV 0x0610 the spec names no port: a free value. -/
def execVisRingReadWrite (v : Nat) (s : State) : Host.Outcome State Fault Refusal :=
  s.ok (s.hostWrite VIS_RESRD_IDX.addr (fun s =>
    if (v % 128 + 128 - s.rd VIS_RESRD_IDX) % 128 ≤ s.visUnread then s.wr VIS_RESRD_IDX v
    else (s.takeFree 2).2.emit 0x0610 [(s.takeFree 2).1, addrOff VIS_RESRD_IDX.addr]))

/-- SYNC_ERROR (R120): pixels sampled outside a frame are discarded. -/
def execSyncError (p n : Nat) (s : State) : Host.Outcome State Fault Refusal :=
  s.ok (s.visPort p [1, 2] (decide (0 < n)) (fun s =>
    (s.visFlag VIS_PFLAG_SYNCERR VIS_INTSTAT_PORTERR p).emitRateN n 0x0611 p 1000000000 (fun k => [p, k])))

/-- TRIGGER_PULSE_END (R125): ARG µs after the firing VPn_TRIG returns to its inactive level. -/
def execTriggerPulseEnd (p : Nat) (s : State) : Host.Outcome State Fault Refusal :=
  s.ok (s.ifOn 0x06 (fun s =>
    match tabFind s.vis.pulse p with
    | some t => if t ≤ s.now then { s with vis := { s.vis with pulse := tabDel s.vis.pulse p } } else s
    | none => s))

end Sys2Proof.Machine
end

