-- ==== Sys2Proof/Machine/Yul.lean ====
section
/-!
DEFINITION. The commands of the Yulis cascade link (spec/18_yulis_cascade_link.md), one meaning per row.
-/
namespace Sys2Proof.Machine

/-- CYCLE_START (R475, R477, R487): the master's SOC; a waiting group applies before the frame leaves. -/
def execCycleStart (s : State) : Host.Outcome State Fault Refusal :=
  s.ok (s.when (s.yulSends && s.now % 25000 = 0 && s.yul.soc != some s.now) (fun s =>
    let t := s.applyDue 0x13 0
    t.when t.yulSends State.yulCycle))

/-- FRAME_ARRIVAL (R476, R489): byte 0x000 of a frame arrives at a slave. -/
def execFrameArrival (frame : List Nat) (s : State) : Host.Outcome State Fault Refusal :=
  s.ok (s.when (s.yulPasses && !s.yulMaster) (fun s => (s.applyDue 0x13 1).yulArrive frame))

/-- MASTER_ENTRY_RECEIVED (R476, R486): byte 0x0AF is in, 175 bytes of 8 ns and the node's 8 ns after byte 0x000. -/
def execMasterEntryReceived (s : State) : Host.Outcome State Fault Refusal :=
  s.ok (s.when (s.yulPasses && !s.yulMaster) (fun s =>
    match s.yul.inc with
    | some f => s.when (!f.judged && decide (f.at_ + 1408 ≤ s.now)) (State.yulEntryIn f)
    | none => s))

/-- FRAME_RETURN (R486): byte 0x000 of a frame comes back to the master. -/
def execFrameReturn (frame : List Nat) (s : State) : Host.Outcome State Fault Refusal :=
  s.ok (s.when (s.yulPasses && s.yulMaster) (fun s => (s.applyDue 0x13 1).yulReturn frame))

/-- NODE_FRAME_END (R476, R483, R486): the last byte of the frame is in. -/
def execNodeFrameEnd (s : State) : Host.Outcome State Fault Refusal := s.ok (s.when s.yulPasses State.yulFrameEnd)

/-- SLAVE_MISS (R486): a slave's deadline has passed without a good frame. -/
def execSlaveMiss (s : State) : Host.Outcome State Fault Refusal :=
  let due := match s.yulDue with | some d => decide (d ≤ s.now) | none => false
  s.ok (s.when (s.yulPasses && !s.yulMaster && s.yulSt != 5 && due) (fun s =>
    (s.yulSet (fun y => { y with judged := y.judged + 1 })).yulMiss 1))

/-- RETURN_MISS (R486): the frame has not come back when it was due. -/
def execReturnMiss (s : State) : Host.Outcome State Fault Refusal :=
  let due := match s.yul.soc with | some l => decide (l + s.rd YUL_DLY_DLY + 1256 ≤ s.now) | none => false
  s.ok (s.when (s.yulSends && due && !s.yul.home && !s.yul.missed) State.yulReturnMiss)

/-- TXSWAP (R482): a host write asks for the exchange of the images. -/
def execTxswap (_v : Nat) (s : State) : Host.Outcome State Fault Refusal := s.ok (s.hostWrite YUL_TXSWAP_GO.addr State.yulTxSwap)

/-- LINK_TRAINED (R485): both links are up: LINK to SYNC. -/
def execLinkTrained (s : State) : Host.Outcome State Fault Refusal :=
  s.ok (s.when (s.blockOn 0x13 && s.on YUL_CTL_EN && s.yulSt = 1) State.yulSync)

/-- STRAP_CHANGE (R473): the straps change. -/
def execStrapChange (v : Nat) (s : State) : Host.Outcome State Fault Refusal := s.ok (s.yulStraps v)

end Sys2Proof.Machine
end

