-- ==== Sys2Proof/Machine/BusRows.lean ====
section
/-!
DEFINITION. Writes to the registers that have commands of their own (spec/opcode_table.json): the command that such a write gives.
-/
namespace Sys2Proof.Machine

/-- What a command answers. -/
abbrev Answered := Host.Outcome State Fault Refusal

/-- SYS: SYS_PWRCMD, SYS_DQSET, SYS_DQCLR. -/
def State.rowSys (off v : Nat) (s : State) : Option Answered :=
  match off with
  | 0x108 => if v % 16 = 1 then some (execSleep (v / 65536) s) else if v % 16 = 2 then some (execBootok (v / 65536) s) else none
  | 0x228 => some (execDqset v s)
  | 0x22C => some (execDqclr v s)
  | _ => none

def State.rowTsv (off v : Nat) (s : State) : Option Answered :=
  match off with
  | 0x10 => some (execWdkick 0 v s) | 0x14 => some (execWdkick 1 v s)
  | 0x18 => some (execWdkick 2 v s) | 0x1C => some (execWdkick 3 v s)
  | 0x30 => some (execAttach v s)
  | 0x38 => some (execSsreq v s)
  | 0x3C => some (execRstreq v s)
  | _ => none

/-- CAR: the strobes of the host ports and the ring index. -/
def State.rowCar (off v : Nat) (s : State) : Option Answered :=
  let p := (off - 0x100) / 0x40
  if off = 0x14 then some (execCarRetrdWrite v s)
  else if off < 0x100 ∨ 0x200 ≤ off then none
  else match off % 0x40 with
    | 0x18 => some (execPost p s) | 0x1C => some (execRetime p s)
    | 0x20 => some (execRevoke p s) | 0x24 => some (execFlush p s) | _ => none

def State.rowTbs (off v : Nat) (s : State) : Option Answered :=
  if off = 8 then some (execSnap v s)
  else if 0x100 ≤ off ∧ off < 0x500 ∧ off % 0x80 = 0x24 then some (execPreset ((off - 0x100) / 0x80) v s)
  else none

/-- CEN_LCMDn. -/
def State.rowSlot (n v : Nat) (s : State) : Option Answered :=
  match v % 8 with
  | 1 => some (execSlotOff n s) | 2 => some (execSlotMan n s) | 3 => some (execSlotAuto n s)
  | 4 => some (execResetIntegrator n s) | 5 => some (execRelease n s) | _ => none

def State.rowCen (off v : Nat) (s : State) : Option Answered :=
  if off = 0x10 then some (execSwtrig (v % 128) s)
  else if off = 0x1C then some (execCenRingReadWrite v s)
  else if 0x40 ≤ off ∧ off < 0x80 then some (execXfbWrite ((off - 0x40) / 4) v s)
  else if 0x1000 ≤ off ∧ off < 0x4000 ∧ off % 0x80 = 0x40 then s.rowSlot ((off - 0x1000) / 0x80) v
  else if 0x4000 ≤ off ∧ off < 0x4C00 ∧ off % 0x40 = 0x20 then
    (if v % 4 = 1 then some (execArm ((off - 0x4000) / 0x40) s) else if v % 4 = 2 then some (execDisarm ((off - 0x4000) / 0x40) s) else none)
  else none

def State.rowHsn (off v : Nat) (s : State) : Option Answered :=
  match off with
  | 0x10 =>
    match v % 16 with
    | 1 => some (execTare s) | 2 => some (execCalstart s) | 3 => some (execCalstop s) | 4 => some (execNlreset (v / 16 % 16) s)
    | 5 => some (execNlsnap s) | _ => none
  | 0x64 => some (execHsnRingReadWrite 0 v s)
  | 0x6C => some (execHsnRingReadWrite 1 v s)
  | _ => none

def State.rowVis (off v : Nat) (s : State) : Option Answered :=
  match off with | 0x14 => some (execVisRingReadWrite v s) | 0x28 => some (execRply s) | _ => none

def State.rowGns (off v : Nat) (s : State) : Option Answered :=
  match off with
  | 0x0C => if v % 4 = 1 then some (execSave s) else if v % 4 = 2 then some (execClearRetention s)
            else if v % 4 = 3 then some (execColdRestart s) else none
  | 0x184 => some (execGnsRingReadWrite v s)
  | _ => none

def State.rowFus (off v : Nat) (s : State) : Option Answered :=
  match off with
  | 0x10 => if v % 16 = 1 then some (execRestart s) else if v % 16 = 2 then some (execCalsnap (v / 256 % 65536) s)
            else if v % 16 = 3 then some (execCalreset (v / 256 % 65536) s) else none
  | 0x24 => some (execFusRingReadWrite v s)
  | _ => if 0x100 ≤ off ∧ off < 0x300 ∧ off % 0x80 = 0x40 then some (execPush ((off - 0x100) / 0x80) s) else none

def State.rowSec (off v : Nat) (s : State) : Option Answered :=
  if off != 0x60 then none
  else match v % 16 with
    | 1 => some (execReplan s) | 2 => some (execAlloff s) | 3 => some (execClrcov s) | 4 => some (execRowclr (v / 65536 % 512) s) | _ => none

/-- SOL: ON, OFF and CLR of a channel; what CLR finds at the channel is not in the write: free values. -/
def State.rowSv (n v : Nat) (s : State) : Option Answered :=
  match v % 4 with
  | 1 => some (execSolOn n s) | 2 => some (execSolOff n s)
  | 3 => let r := s.takeFree 2; some (execSolClr n (bit r.1 0) (bit r.1 1) r.2)
  | _ => none

def State.rowSol (off v : Nat) (s : State) : Option Answered :=
  let n := (off - 0x400) / 0x40
  if off = 0x10 then (if v % 4 = 1 then some (execBoostClr s) else none)
  else if 0x100 ≤ off ∧ off < 0x160 ∧ off % 16 = 8 then (if v % 4 = 1 then some (execGroupClr ((off - 0x100) / 16) s) else none)
  else if 0x400 ≤ off ∧ off < 0xA00 then
    match off % 0x40 with
    | 0x0C => some (execIsetWrite n (v % 65536) s) | 0x10 => some (execSolDutyWrite n (v % 1024) s) | 0x14 => s.rowSv n v | _ => none
  else none

/-- LSW: ON, OFF and CLR of a channel; what CLR finds at the channel is not in the write: free values. -/
def State.rowLs (n v : Nat) (s : State) : Option Answered :=
  match v % 4 with
  | 1 => some (execLswOn n s) | 2 => some (execLswOff n s)
  | 3 => let r := s.takeFree 2; some (execLswClr n (bit r.1 0) (bit r.1 1) r.2)
  | _ => none

def State.rowLsw (off v : Nat) (s : State) : Option Answered :=
  let n := (off - 0x400) / 0x40
  if off < 0x400 ∨ 0x1000 ≤ off then none
  else match off % 0x40 with | 0x0C => s.rowLs n v | 0x10 => some (execLswDutyWrite n (v % 16384) s) | _ => none

def State.rowCan (off v : Nat) (s : State) : Option Answered :=
  let n := off / 0x1000
  let o := off % 0x1000
  if 6 ≤ n then none
  else if o = 0x18 then (if v % 4 = 1 then some (execRecover n s) else none)
  else if 0x100 ≤ o ∧ o < 0x280 then
    match o % 0x80 with
    | 0x08 => some (execCanTxReq n ((o - 0x100) / 0x80) s) | 0x0C => some (execCanTxCancel n ((o - 0x100) / 0x80) s) | _ => none
  else match o with
    | 0xC10 => some (execRxpop n 0 s) | 0xD10 => some (execRxpop n 1 s)
    | 0xE1C => some (execLmtxgo n s) | 0xE38 => some (execCanRingReadWrite n v s) | _ => none

def State.rowEth (off v : Nat) (s : State) : Option Answered :=
  match off with | 0x2C => some (execEthRingIndexWrite false v s) | 0x30 => some (execEthRingIndexWrite true v s) | _ => none

/-- FLT: a key command written directly does not come through the dictionary path (R346): role 0. -/
def State.rowFlt (off v : Nat) (s : State) : Option Answered :=
  match off with
  | 0x28 => some (execSubgo s)
  | 0x48 => some (execFltRingReadWrite v s)
  | 0x50 => if v % 16 = 1 then some (execGenkey (v / 16 % 8) 0 s) else if v % 16 = 2 then some (execCsr (v / 16 % 8) 0 s)
            else if v % 16 = 3 then some (execErase (v / 16 % 8) 0 s) else none
  | _ => none

def State.rowThm (off v : Nat) (s : State) : Option Answered :=
  if off = 0x18 then some (execHack v s)
  else if 0x200 ≤ off ∧ off < 0x300 ∧ off % 0x40 = 0x34 then (if v % 4 = 1 then some (execFanClr ((off - 0x200) / 0x40) s) else none)
  else none

def State.rowDsp (off v : Nat) (s : State) : Option Answered :=
  match off with
  | 0x1C =>
    match v % 8 with
    | 1 => some (execPanelOn s) | 2 => some (execPanelOff s) | 3 => some (execFlip s) | 4 => some (execPanelClr s) | _ => none
  | 0x38 =>
    match v % 16 with
    | 1 => some (execUpdate (v / 65536 % 256) s) | 2 => some (execClean (v / 65536 % 256) s)
    | 3 => some (execCancel (v / 65536 % 256) s) | _ => none
  | _ => none

def State.rowEvr (off v : Nat) (s : State) : Option Answered :=
  match off with | 0x20 => some (execRdidx v s) | 0x94 => some (execHevgo v s) | _ => none

/-- PDS: the operation that PDS_HGOk names, on the host API's path. -/
def State.rowPds (off v : Nat) (s : State) : Option Answered :=
  if 0x100 ≤ off ∧ off < 0x180 ∧ off % 0x20 = 0x10 then
    let k := (off - 0x100) / 0x20
    some (s.ok (s.hostWrite (PDS_HGO_OP k).addr (State.hostOp (v % 16) k)))
  else none

/-- The command that a write of `v` to an address gives, where the register has commands of its own. -/
def State.rowWrite (a v : Nat) (s : State) : Option Answered :=
  let off := addrOff a
  match addrBlock a with
  | 0x00 => s.rowSys off v | 0x01 => s.rowTsv off v | 0x02 => s.rowCar off v | 0x03 => s.rowTbs off v | 0x04 => s.rowCen off v
  | 0x05 => s.rowHsn off v | 0x06 => s.rowVis off v | 0x07 => s.rowGns off v | 0x08 => s.rowFus off v | 0x09 => s.rowSec off v
  | 0x0A => s.rowSol off v | 0x0B => s.rowLsw off v | 0x0C => s.rowCan off v | 0x0D => s.rowEth off v | 0x0E => s.rowFlt off v
  | 0x0F => s.rowThm off v | 0x10 => s.rowDsp off v | 0x11 => s.rowEvr off v | 0x12 => s.rowPds off v
  | 0x13 => if off = 0x30 then some (execTxswap v s) else none
  | _ => none

end Sys2Proof.Machine
end

