-- ==== Sys2Proof/Machine/Blocks.lean ====
section
/-!
DEFINITION. The meanings of the commands that concern every block (spec/00_scope.md, R4–R8; spec/01_module_in_the_machine.md,
R19–R29, R526): a register access, a detected fault, a fence, a report of health.
-/
namespace Sys2Proof.Machine

/-! ## Register accesses -/

/-- The answer of an access that is not performed (R4, R5). -/
def State.busError (s : State) : State := { s with bus := { done := true, error := true } }

/-- The answer of a write. -/
def State.busWritten (s : State) : State := { s with bus := { done := true } }

/-- A write of Tocsin: R28 applies to it, R20 does not. -/
def State.tsvWrite (a : Nat) (f : State → State) (s : State) : State :=
  if !s.windowOn a then s.emit 0x0010 [addrBlock a, addrOff a, 1] else f s

/-- R33, R400: a host write to TSV outside its host interface. -/
def State.tsvBarred (s : State) (agent : Agent) (a : Nat) : Bool :=
  agent = .host && addrBlock a = 0x01 && s.windowOn a && !tsvHostRegs.contains (addrOff a)

/-- The access that begins is Tocsin's, or not. -/
def State.busOf (agent : Agent) (s : State) : State := { s with bus := { tsv := agent = .tsv } }

/-- A direct write that no row of its own takes. -/
def State.busWrite (agent : Agent) (a v : Nat) (s : State) : State :=
  if agent = .host then s.hostWrite a (State.writeReg .host a v) else s.tsvWrite a (State.writeReg .tsv a v)

/-- REGISTER_WRITE (R4, R5, R8, R20, R28, R33): an access of `size` bytes by the host or by Tocsin. A write to a register that has
commands of its own gives that command; an address outside the windows and below them is no register of the module. -/
def execRegisterWrite (agent : Agent) (acc : Access) (addr size v : Nat) (s : State) : Host.Outcome State Fault Refusal :=
  if aboveWindows addr then s.ok s.busError
  else if !inWindows addr then s.ok s
  else if !aligned32 addr size then s.ok s.busError
  else match acc with
  | .read => s.ok (s.hostRead addr (fun s => s.readWord addr))
  | .write =>
    if s.tsvBarred agent addr then s.ok (s.tsvIgnore (addrOff addr)).busWritten
    else match (s.busOf agent).rowWrite addr v with
      | some (.next t) => .next t.busWritten
      | some r => r
      | none => s.ok (s.busWrite agent addr v).busWritten

/-! ## Faults, fences, health -/

/-- The instances of `k` that a report at `inst` concerns: the one named, or all where the block has no such instance. -/
def faultScope (k inst : Nat) : List Nat := if inst < k then [inst] else List.range k

/-- SOL's consequence: the channel `inst`, every channel of group `inst − 24`, or all of them switched off; a fault of the boost
converter stops it and returns its lease (R214). -/
def State.solConsequence (inst : Nat) (boost : Option Nat) (s : State) : State :=
  let ns := if 24 ≤ inst ∧ inst < 30 then svOfGroup (inst - 24) else faultScope 24 inst
  let s := s.each ns State.svOff
  match boost with
  | some c => s.boostFault c
  | none => s

/-- R29, Table 10.4: the measurements of the epochs that the host has not read are flagged: none of them is valid, nor the speed record. -/
def State.gnsFlagEpochs (s : State) : State :=
  let flag (ws : List Nat) : List Nat := (List.range ws.length).map (fun i =>
    let w := ws.getD i 0
    if i = 1 then clrBit (clrBit w 18) 17
    else if 16 ≤ i ∧ i % 8 = 0 then clrBit (clrBit (clrBit w 4) 3) 2 else w)
  s.each (List.range s.gnsUnread) (fun i s =>
    let k := (s.rd GNS_EPRD_IDX + i) % 8
    { s with gns := { s.gns with slots := tabPut s.gns.slots k (flag (tabGet [] s.gns.slots k)) } })

/-- GNS's consequence: measurements flagged, the speed record invalid (R276), the time pulse in DOLDRUMS. -/
def State.gnsConsequence (s : State) : State :=
  (((s.gnsFlagEpochs.wr GNS_STAT_SOGV 0).wr GNS_SOGST_SOGV 0).gnsToBases).gnsDoldrums

/-- R104, R505: HSN's consequence, with the events of its sensors; their causes, which a report does not tell, are a free value. -/
def State.hsnConsequence (inst x : Nat) (s : State) : State :=
  let s := s.each (if inst = 8 then [] else faultScope 8 inst) (fun c s => (s.hsnChFault c).emit 0x050B [c, 1 + x % 2])
  s.when (decide (8 ≤ inst)) (fun s => s.hsnPlateFault.emit 0x050C [1 + x % 2])

/-- Table 9.5: the event of a channel's fault by its cause; the current and the temperature, which a report does not tell, are free. -/
def lsFaultEvent (n cause x : Nat) (s : State) : State :=
  match cause with
  | 1 => s.emit 0x0B20 [n, x]
  | 2 => s.emit 0x0B22 [n, (s.ls n).prof]
  | 3 => s.emit 0x0B21 [n, s.rd (LSW_CHCFG_WIRE n), x]
  | 4 => s.emit 0x0B23 [n, x]
  | _ => s.emit 0x0B24 [n]

/-- LSW's consequence at a channel: it trips. -/
def State.lsConsequence (n cause x : Nat) (s : State) : State :=
  if s.lsOn n && s.lsState n != 3 then lsFaultEvent n cause x (s.lsFault n cause) else s

/-- R29, Table 1.4: the data consequence that a block carries down when its agent detects a fault at `inst` (a base, a slot, a
channel, a port); an instance that the block does not have concerns all of it. Where a consequence shows a cause that the spec does
not name, the cause is a free value. -/
def State.consequence (b inst : Nat) (boost : Bool) (s : State) : State :=
  let x := s.takeFree 16
  match b with
  | 0x01 => s.signal (.rowFires 1 0)
  | 0x02 => s.each (s.carInState 1) (fun k s => s.carRetire k 2 false)
  | 0x03 => x.2.each (faultScope 8 inst) (fun n => State.tbLose n (1 + x.1 % 4))
  | 0x04 => x.2.each (faultScope 96 inst) (fun n => State.cenHold n (1 + x.1 % 5))
  | 0x05 => x.2.hsnConsequence inst x.1
  | 0x06 => s.visFault inst
  | 0x07 => s.gnsConsequence
  | 0x08 => x.2.when (s.on FUS_CTL_EN) (fun t => (t.emit 0x080D [1 + x.1 % 2]).fusFault)
  | 0x09 => s.secSend ⟨3, {}, 0⟩
  | 0x0A => x.2.solConsequence inst (if boost then some (1 + x.1 % 4) else none)
  | 0x0B => x.2.each (faultScope 48 inst) (fun n => State.lsConsequence n (1 + x.1 % 5) x.1)
  | 0x0C => s.each (faultScope 6 inst) State.canRxInvalid
  | 0x0D => s.ethRxInvalid
  | 0x10 => x.2.when (s.pst = 1 || s.pst = 2) (State.panelFault (1 + x.1 % 2) x.1)
  | 0x13 => s.when (!s.on YUL_STAT_MASTER) (State.signal (.rowFires 10 0))
  | _ => s

/-- R25: the consequence has recorded the report by the event that the block's chapter lists for it. -/
def State.faultSaid (b inst : Nat) (boost : Bool) (s : State) : Bool :=
  match b with
  | 0x03 => (faultScope 8 inst).any (fun n => tbValidSt (s.tbSt n) && (s.tb n).sub.isNone)
  | 0x04 => (faultScope 96 inst).any (fun n => s.cenSt n != 0 && s.cenSt n != 3)
  | 0x05 => true
  | 0x08 => true
  | 0x0A => boost
  | 0x0B => (faultScope 48 inst).any (fun n => s.lsOn n && s.lsState n != 3)
  | 0x10 => s.pst = 1 || s.pst = 2
  | _ => false

/-- R15, R25: the record of a fault report for which the block's chapter lists no event: an event of the block, with the instance. The low
byte of its code, which is not 0x00, is a free value, outside the codes by which EVR describes itself (assumption log, entry 83). -/
def State.faultRecord (b inst : Nat) (s : State) : State :=
  let r := s.takeFree 8
  r.2.emit (b * 256 + (if b = 0x11 then 5 + r.1 % 251 else 1 + r.1 % 255)) [inst]

/-- R398, cause 1: the agent of a holder reports a fault of the resource `r`, or of the holder's own function (`r` is none of the five):
the leases concerned are revoked, and the block gets none until it is reset or the fault has cleared. -/
def State.holderFault (b r : Nat) (s : State) : State :=
  let s := s.each (if r < 5 then [r] else List.range 5) (fun r s => s.when (s.holds r b) (State.revokeLease r 1 none))
  s.barHolder b

/-- BLOCK_FAULT_DETECTED (R23, R25, R29, R398 cause 1): the data consequence, the record of the report, the report to Tocsin with the row
of Table 14.1 that the failure belongs to, and the leases that a fault of a resource or of the holder's own function ends. -/
def execBlockFaultDetected (b inst : Nat) (row : Option Nat) (groups : Nat) (res : Option Nat) (s : State) :
    Host.Outcome State Fault Refusal :=
  s.ok (s.when (s.blockOn b && decide (b < 20)) (fun s =>
    let boost : Bool := res = some 4
    let said := s.faultSaid b inst boost
    let s := ((s.consequence b inst boost).when (!said) (State.faultRecord b inst)).toTocsin
    let s := match row with
      | some m => s.signal (.rowFires m groups)
      | none => s
    match res with
    | some r => s.holderFault b r
    | none => s))

/-- FENCE (R19): Tocsin or a domain manager fences a block. -/
def execFence (b : Nat) (s : State) : Host.Outcome State Fault Refusal := s.ok (s.fenceBlock b)

/-- BLOCK_HEALTHY (Table 1.1, R526, R395, R398): the agent of a block whose domain is on reports it healthy: no lease is barred to it any
longer, its fence is lifted and PDS commits its parameters anew. -/
def execBlockHealthy (b : Nat) (s : State) : Host.Outcome State Fault Refusal :=
  s.ok (s.when (decide (b < 20) && s.blockOn b) (fun s => (s.unbar b).when (s.isFenced b) (State.blockUp b)))

end Sys2Proof.Machine
end

