-- ==== Sys2Proof/Machine/Pds.lean ====
section
/-!
DEFINITION. The commands of the parameter dictionary and the store (spec/13_parameter_dictionary_and_store.md), one meaning
per row. The operations of Table 13.5 share their operands: the path (R530), the host's mailbox, the client of a remote path, the
node that a gateway's port names, the message.
-/
namespace Sys2Proof.Machine

/-! ## Operations (Table 13.5, R363, R528) -/

/-- READ (1). -/
def execReadParam (path k client : Nat) (node : Option Nat) (m : DictMsg) (s : State) : Host.Outcome State Fault Refusal :=
  s.ok (s.request 1 path k client node m)

/-- READEFF (2). -/
def execReadeff (path k client : Nat) (node : Option Nat) (m : DictMsg) (s : State) : Host.Outcome State Fault Refusal :=
  s.ok (s.request 2 path k client node m)

/-- WRITE (3, R364). -/
def execWriteParam (path k client : Nat) (node : Option Nat) (m : DictMsg) (s : State) : Host.Outcome State Fault Refusal :=
  s.ok (s.request 3 path k client node m)

/-- COMMIT (4, R365). -/
def execCommit (path k client : Nat) (node : Option Nat) (m : DictMsg) (s : State) : Host.Outcome State Fault Refusal :=
  s.ok (s.request 4 path k client node m)

/-- ABORT (5, R528). -/
def execAbortGroup (path k client : Nat) (node : Option Nat) (m : DictMsg) (s : State) : Host.Outcome State Fault Refusal :=
  s.ok (s.request 5 path k client node m)

/-- STORE (6, R369). -/
def execStoreParams (path k client : Nat) (node : Option Nat) (m : DictMsg) (s : State) : Host.Outcome State Fault Refusal :=
  s.ok (s.request 6 path k client node m)

/-- INFO (7, R358). -/
def execInfo (path k client : Nat) (node : Option Nat) (m : DictMsg) (s : State) : Host.Outcome State Fault Refusal :=
  s.ok (s.request 7 path k client node m)

/-- RESTORE (8, R368). -/
def execRestoreDefaults (path k client : Nat) (node : Option Nat) (m : DictMsg) (s : State) : Host.Outcome State Fault Refusal :=
  s.ok (s.request 8 path k client node m)

/-- SAVEDEF (9). -/
def execSavedef (path k client : Nat) (node : Option Nat) (m : DictMsg) (s : State) : Host.Outcome State Fault Refusal :=
  s.ok (s.request 9 path k client node m)

/-- LOGIN (10, R362). -/
def execLogin (path k client : Nat) (node : Option Nat) (m : DictMsg) (s : State) : Host.Outcome State Fault Refusal :=
  s.ok (s.request 10 path k client node m)

/-- LOGOUT (11, R362). -/
def execLogout (path k client : Nat) (node : Option Nat) (m : DictMsg) (s : State) : Host.Outcome State Fault Refusal :=
  s.ok (s.request 11 path k client node m)

/-- LIST (12). -/
def execListParams (path k client : Nat) (node : Option Nat) (m : DictMsg) (s : State) : Host.Outcome State Fault Refusal :=
  s.ok (s.request 12 path k client node m)

/-- UNKNOWN_OP (R528): a code that is no row of Table 13.5: ignored on the host's mailboxes, answered with RANGE on a remote path. -/
def execUnknownOp (path k client : Nat) (node : Option Nat) (m : DictMsg) (s : State) : Host.Outcome State Fault Refusal :=
  s.ok (s.when (m.op = 0 || decide (12 < m.op)) (State.request m.op path k client node m))

/-! ## Transactions, locks, sessions (R360–R367) -/

/-- GROUP_HANDOVER (R366): groups whose dependencies have applied are handed over. -/
def execGroupHandover (s : State) : Host.Outcome State Fault Refusal := s.ok (s.ifOn 0x12 State.handOver)

/-- GROUP_APPLY (R365): groups that were handed over apply where their block's apply point has come; transactions end. -/
def execGroupApply (s : State) : Host.Outcome State Fault Refusal := s.ok (s.ifOn 0x12 State.sweep)

/-- TRANSACTION_WITHDRAW (R365): what has not applied APTO ms after acceptance is withdrawn. -/
def execTransactionWithdraw (s : State) : Host.Outcome State Fault Refusal :=
  s.ok (s.ifOn 0x12 (State.withdraw (fun t _ => decide (t.at_ + s.apto ≤ s.now))))

/-- LOCK_EXPIRY (R364): locks without a write by their holder for LOCKTO seconds are released. -/
def execLockExpiry (s : State) : Host.Outcome State Fault Refusal :=
  s.ok (s.ifOn 0x12 (fun s =>
    s.each (s.pds.locks.filter (fun l => decide (l.at_ + s.lockTo ≤ s.now))) (fun l s =>
      (s.unlock l.grp).emit 0x1209 [l.grp.id, l.party])))

/-- SESSION_EXPIRY (R362): sessions without a message for SESSTO seconds end. -/
def execSessionExpiry (s : State) : Host.Outcome State Fault Refusal :=
  s.ok (s.ifOn 0x12 (fun s =>
    s.each (s.pds.sess.filter (fun x => decide (x.at_ + s.sessTo ≤ s.now))) (fun x s => s.endSess x.num)))

/-- LOGIN_BLOCK_END (R362): login blocks whose 60 s have passed end. -/
def execLoginBlockEnd (s : State) : Host.Outcome State Fault Refusal :=
  s.ok (s.ifOn 0x12 (fun s => s.setPds (fun p => { p with blocked := p.blocked.filter (fun e => !decide (e.2 ≤ s.now)) })))

/-- BANK_COPY_DONE (R367): the copies of swapped tables are complete. -/
def execBankCopyDone (s : State) : Host.Outcome State Fault Refusal :=
  s.ok (s.ifOn 0x12 (State.setPds (fun p => { p with copying := [] })))

/-! ## The store and the load (R369–R372, R529) -/

/-- STORE_LEASE_GRANT (R370): LEASE to WRITE. -/
def execStoreLeaseGrant (s : State) : Host.Outcome State Fault Refusal := s.ok (s.ifOn 0x12 State.storeGrant)

/-- STORE_LEASE_TIMEOUT (R370): 50 ms in LEASE without a grant. -/
def execStoreLeaseTimeout (s : State) : Host.Outcome State Fault Refusal :=
  s.ok (s.when (s.blockOn 0x12 && s.rd PDS_STAT_STSTATE = 1 && !s.holds 0 0x12 && decide (s.pds.leaseAt + 50000000 ≤ s.now))
    (State.storeFail 1))

/-- STORE_WRITE_DONE (R370): WRITE to VERIFY. -/
def execStoreWriteDone (s : State) : Host.Outcome State Fault Refusal :=
  s.ok (s.when (s.blockOn 0x12 && s.rd PDS_STAT_STSTATE = 2 && s.holds 0 0x12) (State.wr PDS_STAT_STSTATE 3))

/-- STORE_VERIFY_DONE (R370). -/
def execStoreVerifyDone (good : Bool) (s : State) : Host.Outcome State Fault Refusal := s.ok (s.ifOn 0x12 (State.storeVerify good))

/-- STORE_LEASE_REVOKED (R529). -/
def execStoreLeaseRevoked (s : State) : Host.Outcome State Fault Refusal := s.ok (s.ifOn 0x12 State.storeRevoked)

/-- Step 7 (R372, Table 15.2): the load, PARLD, and EV 0x0023 with the time since the wake: module time and what KA took before it started,
at most 2 ms (Table 15.2), a free value. After a wake by the RTC, run-on begins at once with IGN low (R418). -/
def State.stepSeven (s : State) : State :=
  let t := s.loadParams
  let s := { t with thm := { t.thm with loaded := true } }
  let s := ((s.wr SYS_PWRSTAT_STEP 7).wr SYS_PWRSTAT_PARLD 1).setFlagBit SYS_PINTSTAT_FLAGS 3
  let s := (s.takeFree 8).2.emit 0x0023 [s.now / 1000000 + (s.takeFree 8).1 % 3]
  s.when (s.mgr.rtcWake && !s.on SYS_PWRSTAT_IGN) State.runOnBegin

/-- PARAMETER_LOAD (R372, Table 15.2): step 7, once BOOTOK has been written. -/
def execParameterLoad (s : State) : Host.Outcome State Fault Refusal :=
  s.okMgr (s.when (s.blockOn 0x12 && s.mayStart && s.pwrStep = 6 && s.on SYS_PWRSTAT_BOOTOK && !s.pds.loadDone) State.stepSeven)

end Sys2Proof.Machine
end

