-- ==== Sys2Proof/Machine/Dispatch.lean ====
section
/-!
DEFINITION. The meaning of every command: one arm per constructor, one direct call of its meaning.
-/
namespace Sys2Proof.Machine

def exec (i : Instr) (s : State) : Host.Outcome State Fault Refusal :=
  match i with
  | .registerWrite agent acc addr size v => Sys2Proof.Machine.execRegisterWrite agent acc addr size v s
  | .blockFaultDetected b inst row groups res => Sys2Proof.Machine.execBlockFaultDetected b inst row groups res s
  | .fence b => Sys2Proof.Machine.execFence b s
  | .blockHealthy b => Sys2Proof.Machine.execBlockHealthy b s
  | .powerGoodLost d => Sys2Proof.Machine.execPowerGoodLost d s
  | .domainPowerGood d => Sys2Proof.Machine.execDomainPowerGood d s
  | .domainPowerFail d => Sys2Proof.Machine.execDomainPowerFail d s
  | .edgeAccepted n pin high => Sys2Proof.Machine.execEdgeAccepted n pin high s
  | .edgeDeadline n => Sys2Proof.Machine.execEdgeDeadline n s
  | .failoverReturn n => Sys2Proof.Machine.execFailoverReturn n s
  | .tbiWireBreak pin short ms => Sys2Proof.Machine.execTbiWireBreak pin short ms s
  | .gnssRecordMissing n => Sys2Proof.Machine.execGnssRecordMissing n s
  | .yulisUpdateMissing n => Sys2Proof.Machine.execYulisUpdateMissing n s
  | .preset n v => Sys2Proof.Machine.execPreset n v s
  | .snap v => Sys2Proof.Machine.execSnap v s
  | .phaseRead n => Sys2Proof.Machine.execPhaseRead n s
  | .plausibilityWindow n => Sys2Proof.Machine.execPlausibilityWindow n s
  | .post p => Sys2Proof.Machine.execPost p s
  | .retime p => Sys2Proof.Machine.execRetime p s
  | .revoke p => Sys2Proof.Machine.execRevoke p s
  | .flush p => Sys2Proof.Machine.execFlush p s
  | .predictionRound => Sys2Proof.Machine.execPredictionRound s
  | .eventFire bad => Sys2Proof.Machine.execEventFire bad s
  | .retirementWrite => Sys2Proof.Machine.execRetirementWrite s
  | .carRetrdWrite v => Sys2Proof.Machine.execCarRetrdWrite v s
  | .windowMaxlen n => Sys2Proof.Machine.execWindowMaxlen n s
  | .timeDomainSlot => Sys2Proof.Machine.execTimeDomainSlot s
  | .tare => Sys2Proof.Machine.execTare s
  | .calstart => Sys2Proof.Machine.execCalstart s
  | .calstop => Sys2Proof.Machine.execCalstop s
  | .nlreset mask => Sys2Proof.Machine.execNlreset mask s
  | .nlsnap => Sys2Proof.Machine.execNlsnap s
  | .moistureAverage cap tg => Sys2Proof.Machine.execMoistureAverage cap tg s
  | .moistureStale => Sys2Proof.Machine.execMoistureStale s
  | .historyStep => Sys2Proof.Machine.execHistoryStep s
  | .yieldRecord => Sys2Proof.Machine.execYieldRecord s
  | .lossSensorFault c mv => Sys2Proof.Machine.execLossSensorFault c mv s
  | .plateBridgeFault kind => Sys2Proof.Machine.execPlateBridgeFault kind s
  | .hsnRingReadWrite ring v => Sys2Proof.Machine.execHsnRingReadWrite ring v s
  | .portSynchronised p => Sys2Proof.Machine.execPortSynchronised p s
  | .frameStart p => Sys2Proof.Machine.execFrameStart p s
  | .frameEnd p lines => Sys2Proof.Machine.execFrameEnd p lines s
  | .frameTimeout p lines => Sys2Proof.Machine.execFrameTimeout p lines s
  | .pixelClockLost p lines => Sys2Proof.Machine.execPixelClockLost p lines s
  | .pixelClockReturn p => Sys2Proof.Machine.execPixelClockReturn p s
  | .triggerMissed p => Sys2Proof.Machine.execTriggerMissed p s
  | .frameQueued => Sys2Proof.Machine.execFrameQueued s
  | .processingStart => Sys2Proof.Machine.execProcessingStart s
  | .processingEnd => Sys2Proof.Machine.execProcessingEnd s
  | .quietSlotEnd => Sys2Proof.Machine.execQuietSlotEnd s
  | .resultWrite => Sys2Proof.Machine.execResultWrite s
  | .rply => Sys2Proof.Machine.execRply s
  | .frameMemoryError => Sys2Proof.Machine.execFrameMemoryError s
  | .visRingReadWrite v => Sys2Proof.Machine.execVisRingReadWrite v s
  | .timerTrigger n => Sys2Proof.Machine.execTimerTrigger n s
  | .swtrig n => Sys2Proof.Machine.execSwtrig n s
  | .evaluationIssue => Sys2Proof.Machine.execEvaluationIssue s
  | .evaluationOutput => Sys2Proof.Machine.execEvaluationOutput s
  | .sampleTimeout n => Sys2Proof.Machine.execSampleTimeout n s
  | .interlockScan => Sys2Proof.Machine.execInterlockScan s
  | .arm k => Sys2Proof.Machine.execArm k s
  | .disarm k => Sys2Proof.Machine.execDisarm k s
  | .slotOff n => Sys2Proof.Machine.execSlotOff n s
  | .slotMan n => Sys2Proof.Machine.execSlotMan n s
  | .slotAuto n => Sys2Proof.Machine.execSlotAuto n s
  | .resetIntegrator n => Sys2Proof.Machine.execResetIntegrator n s
  | .release n => Sys2Proof.Machine.execRelease n s
  | .xfbWrite n v => Sys2Proof.Machine.execXfbWrite n v s
  | .actuatorFault lsw ch code => Sys2Proof.Machine.execActuatorFault lsw ch code s
  | .cenRingReadWrite v => Sys2Proof.Machine.execCenRingReadWrite v s
  | .plan => Sys2Proof.Machine.execPlan s
  | .cutWidthUpdate => Sys2Proof.Machine.execCutWidthUpdate s
  | .holdEnter => Sys2Proof.Machine.execHoldEnter s
  | .holdRelease => Sys2Proof.Machine.execHoldRelease s
  | .replan => Sys2Proof.Machine.execReplan s
  | .alloff => Sys2Proof.Machine.execAlloff s
  | .clrcov => Sys2Proof.Machine.execClrcov s
  | .rowclr row => Sys2Proof.Machine.execRowclr row s
  | .solOn n => Sys2Proof.Machine.execSolOn n s
  | .solOff n => Sys2Proof.Machine.execSolOff n s
  | .solClr n cool supply => Sys2Proof.Machine.execSolClr n cool supply s
  | .groupClr g => Sys2Proof.Machine.execGroupClr g s
  | .boostClr => Sys2Proof.Machine.execBoostClr s
  | .isetWrite n v => Sys2Proof.Machine.execIsetWrite n v s
  | .solDutyWrite n duty => Sys2Proof.Machine.execSolDutyWrite n duty s
  | .peakStart n => Sys2Proof.Machine.execPeakStart n s
  | .peakEnd n => Sys2Proof.Machine.execPeakEnd n s
  | .peakNotReached n ix => Sys2Proof.Machine.execPeakNotReached n ix s
  | .nozzleCycleStart n => Sys2Proof.Machine.execNozzleCycleStart n s
  | .nozzleOnEnd n => Sys2Proof.Machine.execNozzleOnEnd n s
  | .decayEnd n => Sys2Proof.Machine.execDecayEnd n s
  | .boostLeaseGrant => Sys2Proof.Machine.execBoostLeaseGrant s
  | .boostReady v => Sys2Proof.Machine.execBoostReady v s
  | .boostLow v => Sys2Proof.Machine.execBoostLow v s
  | .boostTimeout => Sys2Proof.Machine.execBoostTimeout s
  | .boostFault ov => Sys2Proof.Machine.execBoostFault ov s
  | .boostLeaseRevoked => Sys2Proof.Machine.execBoostLeaseRevoked s
  | .solShort n ix => Sys2Proof.Machine.execSolShort n ix s
  | .groupShort g ix => Sys2Proof.Machine.execGroupShort g ix s
  | .solOpenLoad n ix => Sys2Proof.Machine.execSolOpenLoad n ix s
  | .solOpenLoadOff n => Sys2Proof.Machine.execSolOpenLoadOff n s
  | .solDriverOvertemp n t => Sys2Proof.Machine.execSolDriverOvertemp n t s
  | .outbUndervoltage v => Sys2Proof.Machine.execOutbUndervoltage v s
  | .lswOn n => Sys2Proof.Machine.execLswOn n s
  | .lswOff n => Sys2Proof.Machine.execLswOff n s
  | .lswClr n below plausible => Sys2Proof.Machine.execLswClr n below plausible s
  | .lswDutyWrite n duty => Sys2Proof.Machine.execLswDutyWrite n duty s
  | .pwmPeriodStart n => Sys2Proof.Machine.execPwmPeriodStart n s
  | .i2tTrip n ix => Sys2Proof.Machine.execI2tTrip n ix s
  | .shortTrip n ix => Sys2Proof.Machine.execShortTrip n ix s
  | .inrushEnd n => Sys2Proof.Machine.execInrushEnd n s
  | .limitTrip n => Sys2Proof.Machine.execLimitTrip n s
  | .bankUndervoltage b v => Sys2Proof.Machine.execBankUndervoltage b v s
  | .bankRecovered b v => Sys2Proof.Machine.execBankRecovered b v s
  | .bankCurrentHigh b ix => Sys2Proof.Machine.execBankCurrentHigh b ix s
  | .junctionOvertemp n tj => Sys2Proof.Machine.execJunctionOvertemp n tj s
  | .junctionSensorFail n => Sys2Proof.Machine.execJunctionSensorFail n s
  | .lswOpenLoad n ix => Sys2Proof.Machine.execLswOpenLoad n ix s
  | .lswOpenLoadOff n v => Sys2Proof.Machine.execLswOpenLoadOff n v s
  | .stuck n v => Sys2Proof.Machine.execStuck n v s
  | .noton n v => Sys2Proof.Machine.execNoton n v s
  | .measurementEpoch sats meas e => Sys2Proof.Machine.execMeasurementEpoch sats meas e s
  | .signalDetected c => Sys2Proof.Machine.execSignalDetected c s
  | .phaseLock c => Sys2Proof.Machine.execPhaseLock c s
  | .pullinTimeout c => Sys2Proof.Machine.execPullinTimeout c s
  | .trackLoss c cn0 ms => Sys2Proof.Machine.execTrackLoss c cn0 ms s
  | .reacqTimeout c => Sys2Proof.Machine.execReacqTimeout c s
  | .tp0Pulse => Sys2Proof.Machine.execTp0Pulse s
  | .tp1Pulse t => Sys2Proof.Machine.execTp1Pulse t s
  | .timeqWrite qerr => Sys2Proof.Machine.execTimeqWrite qerr s
  | .tqwkRead => Sys2Proof.Machine.execTqwkRead s
  | .timeSolution nsat pdop errsol off week tow ns rate leap leapWeek leapTow => Sys2Proof.Machine.execTimeSolution nsat pdop errsol off week tow ns rate leap leapWeek leapTow s
  | .doldrumsEntry => Sys2Proof.Machine.execDoldrumsEntry s
  | .retentionSave => Sys2Proof.Machine.execRetentionSave s
  | .save => Sys2Proof.Machine.execSave s
  | .clearRetention => Sys2Proof.Machine.execClearRetention s
  | .coldRestart => Sys2Proof.Machine.execColdRestart s
  | .antennaOpen a ix => Sys2Proof.Machine.execAntennaOpen a ix s
  | .antennaShort a ix => Sys2Proof.Machine.execAntennaShort a ix s
  | .antennaRetry a ix => Sys2Proof.Machine.execAntennaRetry a ix s
  | .interference band out => Sys2Proof.Machine.execInterference band out s
  | .tcxoFault dev => Sys2Proof.Machine.execTcxoFault dev s
  | .gnsRingReadWrite v => Sys2Proof.Machine.execGnsRingReadWrite v s
  | .imuSample k sat w => Sys2Proof.Machine.execImuSample k sat w s
  | .internalSample k => Sys2Proof.Machine.execInternalSample k s
  | .push p => Sys2Proof.Machine.execPush p s
  | .measurementUpdate => Sys2Proof.Machine.execMeasurementUpdate s
  | .resultIssue => Sys2Proof.Machine.execResultIssue s
  | .replayEnd => Sys2Proof.Machine.execReplayEnd s
  | .streamStale k => Sys2Proof.Machine.execStreamStale k s
  | .positionTimeout => Sys2Proof.Machine.execPositionTimeout s
  | .calibrationFocus => Sys2Proof.Machine.execCalibrationFocus s
  | .restart => Sys2Proof.Machine.execRestart s
  | .calsnap mask => Sys2Proof.Machine.execCalsnap mask s
  | .calreset mask => Sys2Proof.Machine.execCalreset mask s
  | .estimatorFault cause => Sys2Proof.Machine.execEstimatorFault cause s
  | .fusLastRead => Sys2Proof.Machine.execFusLastRead s
  | .fusRingReadWrite v => Sys2Proof.Machine.execFusRingReadWrite v s
  | .canTxReq n b => Sys2Proof.Machine.execCanTxReq n b s
  | .canTxCancel n b => Sys2Proof.Machine.execCanTxCancel n b s
  | .canTxArbitration n => Sys2Proof.Machine.execCanTxArbitration n s
  | .canTxDone n => Sys2Proof.Machine.execCanTxDone n s
  | .canTxError n lec dom arb more => Sys2Proof.Machine.execCanTxError n lec dom arb more s
  | .busOffRecovered n => Sys2Proof.Machine.execBusOffRecovered n s
  | .recover n => Sys2Proof.Machine.execRecover n s
  | .canRxFrame n f esi age => Sys2Proof.Machine.execCanRxFrame n f esi age s
  | .rxpop n q => Sys2Proof.Machine.execRxpop n q s
  | .messageTimeout n f => Sys2Proof.Machine.execMessageTimeout n f s
  | .addressClaim n => Sys2Proof.Machine.execAddressClaim n s
  | .lmtxgo n => Sys2Proof.Machine.execLmtxgo n s
  | .longMessageEnd n done reason => Sys2Proof.Machine.execLongMessageEnd n done reason s
  | .longMessageRx n m => Sys2Proof.Machine.execLongMessageRx n m s
  | .canRingReadWrite n v => Sys2Proof.Machine.execCanRingReadWrite n v s
  | .ethFrameRx p bytes err => Sys2Proof.Machine.execEthFrameRx p bytes err s
  | .hostTxFrame => Sys2Proof.Machine.execHostTxFrame s
  | .linkChange p up sqi => Sys2Proof.Machine.execLinkChange p up sqi s
  | .ptpSync gm delays => Sys2Proof.Machine.execPtpSync gm delays s
  | .ethRingIndexWrite tx v => Sys2Proof.Machine.execEthRingIndexWrite tx v s
  | .subgo => Sys2Proof.Machine.execSubgo s
  | .handshakeComplete k o => Sys2Proof.Machine.execHandshakeComplete k o s
  | .authenticationFailed k alert => Sys2Proof.Machine.execAuthenticationFailed k alert s
  | .connectTimeout k => Sys2Proof.Machine.execConnectTimeout k s
  | .sessionTimeout k => Sys2Proof.Machine.execSessionTimeout k s
  | .backoffEnd k => Sys2Proof.Machine.execBackoffEnd k s
  | .ping k => Sys2Proof.Machine.execPing k s
  | .fleetMessageRx k typ prio seq payload => Sys2Proof.Machine.execFleetMessageRx k typ prio seq payload s
  | .fltRingReadWrite v => Sys2Proof.Machine.execFltRingReadWrite v s
  | .genkey slot role => Sys2Proof.Machine.execGenkey slot role s
  | .csr slot role => Sys2Proof.Machine.execCsr slot role s
  | .erase slot role => Sys2Proof.Machine.execErase slot role s
  | .readParam path k client node m => Sys2Proof.Machine.execReadParam path k client node m s
  | .readeff path k client node m => Sys2Proof.Machine.execReadeff path k client node m s
  | .writeParam path k client node m => Sys2Proof.Machine.execWriteParam path k client node m s
  | .commit path k client node m => Sys2Proof.Machine.execCommit path k client node m s
  | .abortGroup path k client node m => Sys2Proof.Machine.execAbortGroup path k client node m s
  | .storeParams path k client node m => Sys2Proof.Machine.execStoreParams path k client node m s
  | .info path k client node m => Sys2Proof.Machine.execInfo path k client node m s
  | .restoreDefaults path k client node m => Sys2Proof.Machine.execRestoreDefaults path k client node m s
  | .savedef path k client node m => Sys2Proof.Machine.execSavedef path k client node m s
  | .login path k client node m => Sys2Proof.Machine.execLogin path k client node m s
  | .logout path k client node m => Sys2Proof.Machine.execLogout path k client node m s
  | .listParams path k client node m => Sys2Proof.Machine.execListParams path k client node m s
  | .unknownOp path k client node m => Sys2Proof.Machine.execUnknownOp path k client node m s
  | .groupHandover => Sys2Proof.Machine.execGroupHandover s
  | .groupApply => Sys2Proof.Machine.execGroupApply s
  | .transactionWithdraw => Sys2Proof.Machine.execTransactionWithdraw s
  | .lockExpiry => Sys2Proof.Machine.execLockExpiry s
  | .sessionExpiry => Sys2Proof.Machine.execSessionExpiry s
  | .loginBlockEnd => Sys2Proof.Machine.execLoginBlockEnd s
  | .bankCopyDone => Sys2Proof.Machine.execBankCopyDone s
  | .storeLeaseGrant => Sys2Proof.Machine.execStoreLeaseGrant s
  | .storeLeaseTimeout => Sys2Proof.Machine.execStoreLeaseTimeout s
  | .storeWriteDone => Sys2Proof.Machine.execStoreWriteDone s
  | .storeVerifyDone good => Sys2Proof.Machine.execStoreVerifyDone good s
  | .storeLeaseRevoked => Sys2Proof.Machine.execStoreLeaseRevoked s
  | .parameterLoad => Sys2Proof.Machine.execParameterLoad s
  | .clockFault c => Sys2Proof.Machine.execClockFault c s
  | .lockstepMismatch => Sys2Proof.Machine.execLockstepMismatch s
  | .heartbeatLost => Sys2Proof.Machine.execHeartbeatLost s
  | .eccError who mem addr unc => Sys2Proof.Machine.execEccError who mem addr unc s
  | .memoryScrub dram => Sys2Proof.Machine.execMemoryScrub dram s
  | .wdkick k v => Sys2Proof.Machine.execWdkick k v s
  | .watchdogExpiry k => Sys2Proof.Machine.execWatchdogExpiry k s
  | .bootWatchdogExpiry => Sys2Proof.Machine.execBootWatchdogExpiry s
  | .stuckCheck => Sys2Proof.Machine.execStuckCheck s
  | .steeringCheck => Sys2Proof.Machine.execSteeringCheck s
  | .groundSpeedCheck => Sys2Proof.Machine.execGroundSpeedCheck s
  | .selfTestDone fail => Sys2Proof.Machine.execSelfTestDone fail s
  | .attach v => Sys2Proof.Machine.execAttach v s
  | .ssreq v => Sys2Proof.Machine.execSsreq v s
  | .rstreq v => Sys2Proof.Machine.execRstreq v s
  | .reset own => Sys2Proof.Machine.execReset own s
  | .supervisorResetCommand v role => Sys2Proof.Machine.execSupervisorResetCommand v role s
  | .coldStartCommand v role => Sys2Proof.Machine.execColdStartCommand v role s
  | .orphanExpiry g => Sys2Proof.Machine.execOrphanExpiry g s
  | .tsvUnavailable => Sys2Proof.Machine.execTsvUnavailable s
  | .leaseRequest r h => Sys2Proof.Machine.execLeaseRequest r h s
  | .leaseReturn r h renew => Sys2Proof.Machine.execLeaseReturn r h renew s
  | .leaseExpiry r => Sys2Proof.Machine.execLeaseExpiry r s
  | .leaseRevoke r cause party => Sys2Proof.Machine.execLeaseRevoke r cause party s
  | .rollbackComplete r => Sys2Proof.Machine.execRollbackComplete r s
  | .supplyLow v => Sys2Proof.Machine.execSupplyLow v s
  | .supplyHigh v => Sys2Proof.Machine.execSupplyHigh v s
  | .powerFail v => Sys2Proof.Machine.execPowerFail v s
  | .holdupEnd v => Sys2Proof.Machine.execHoldupEnd v s
  | .ignWake dur v => Sys2Proof.Machine.execIgnWake dur v s
  | .rtcAlarm dur v => Sys2Proof.Machine.execRtcAlarm dur v s
  | .startStep => Sys2Proof.Machine.execStartStep s
  | .bootok key => Sys2Proof.Machine.execBootok key s
  | .ignOff => Sys2Proof.Machine.execIgnOff s
  | .sleep key => Sys2Proof.Machine.execSleep key s
  | .runOnEnd => Sys2Proof.Machine.execRunOnEnd s
  | .shutdownStep v => Sys2Proof.Machine.execShutdownStep v s
  | .shutdownCancel => Sys2Proof.Machine.execShutdownCancel s
  | .housekeepingRound r => Sys2Proof.Machine.execHousekeepingRound r s
  | .graceExpiry => Sys2Proof.Machine.execGraceExpiry s
  | .hack v => Sys2Proof.Machine.execHack v s
  | .kickTimeout f cur => Sys2Proof.Machine.execKickTimeout f cur s
  | .fanRunning f rpm => Sys2Proof.Machine.execFanRunning f rpm s
  | .tachSilence f cur => Sys2Proof.Machine.execTachSilence f cur s
  | .tachlossCurrent f cur ms => Sys2Proof.Machine.execTachlossCurrent f cur ms s
  | .retryWaitEnd f => Sys2Proof.Machine.execRetryWaitEnd f s
  | .fanShort f cur => Sys2Proof.Machine.execFanShort f cur s
  | .fanClr f => Sys2Proof.Machine.execFanClr f s
  | .panelOn => Sys2Proof.Machine.execPanelOn s
  | .panelOff => Sys2Proof.Machine.execPanelOff s
  | .flip => Sys2Proof.Machine.execFlip s
  | .panelClr => Sys2Proof.Machine.execPanelClr s
  | .panelFrameStart vpan ipan => Sys2Proof.Machine.execPanelFrameStart vpan ipan s
  | .prechargeDone vpan => Sys2Proof.Machine.execPrechargeDone vpan s
  | .dischargeDone => Sys2Proof.Machine.execDischargeDone s
  | .panelFault cause ipan => Sys2Proof.Machine.execPanelFault cause ipan s
  | .update mask => Sys2Proof.Machine.execUpdate mask s
  | .clean mask => Sys2Proof.Machine.execClean mask s
  | .cancel mask => Sys2Proof.Machine.execCancel mask s
  | .labelFrameBoundary => Sys2Proof.Machine.execLabelFrameBoundary s
  | .labelTempRead t => Sys2Proof.Machine.execLabelTempRead t s
  | .eventEmit code ps => Sys2Proof.Machine.execEventEmit code ps s
  | .recordWritten => Sys2Proof.Machine.execRecordWritten s
  | .recordWriteRevoked cause => Sys2Proof.Machine.execRecordWriteRevoked cause s
  | .logSearch => Sys2Proof.Machine.execLogSearch s
  | .rdidx ix => Sys2Proof.Machine.execRdidx ix s
  | .logClear key role => Sys2Proof.Machine.execLogClear key role s
  | .sectorErased => Sys2Proof.Machine.execSectorErased s
  | .hevgo v => Sys2Proof.Machine.execHevgo v s
  | .optimeSave => Sys2Proof.Machine.execOptimeSave s
  | .cycleStart => Sys2Proof.Machine.execCycleStart s
  | .frameArrival frame => Sys2Proof.Machine.execFrameArrival frame s
  | .masterEntryReceived => Sys2Proof.Machine.execMasterEntryReceived s
  | .frameReturn frame => Sys2Proof.Machine.execFrameReturn frame s
  | .nodeFrameEnd => Sys2Proof.Machine.execNodeFrameEnd s
  | .slaveMiss => Sys2Proof.Machine.execSlaveMiss s
  | .returnMiss => Sys2Proof.Machine.execReturnMiss s
  | .txswap v => Sys2Proof.Machine.execTxswap v s
  | .linkTrained => Sys2Proof.Machine.execLinkTrained s
  | .strapChange v => Sys2Proof.Machine.execStrapChange v s
  | .dqset v => Sys2Proof.Machine.execDqset v s
  | .dqclr v => Sys2Proof.Machine.execDqclr v s
  | .dqTrip n ix => Sys2Proof.Machine.execDqTrip n ix s
  | .supplyLimit b ix ms => Sys2Proof.Machine.execSupplyLimit b ix ms s
  | .supplyRetry b ix ms => Sys2Proof.Machine.execSupplyRetry b ix ms s
  | .analogFlag n val => Sys2Proof.Machine.execAnalogFlag n val s
  | .diLevelChange n high held => Sys2Proof.Machine.execDiLevelChange n high held s
  | .sampleConversion c x => Sys2Proof.Machine.execSampleConversion c x s
  | .syncError p n => Sys2Proof.Machine.execSyncError p n s
  | .triggerPulseEnd p => Sys2Proof.Machine.execTriggerPulseEnd p s
  | .timePulseEnd p => Sys2Proof.Machine.execTimePulseEnd p s
  | .dbaseSample => Sys2Proof.Machine.execDbaseSample s
  | .pwmOnTimeEnd n => Sys2Proof.Machine.execPwmOnTimeEnd n s
  | .revisionIssue => Sys2Proof.Machine.execRevisionIssue s
  | .canRxError n lec eight => Sys2Proof.Machine.execCanRxError n lec eight s
  | .addressAgeing mac vid => Sys2Proof.Machine.execAddressAgeing mac vid s
  | .kaSupplyLoss => Sys2Proof.Machine.execKaSupplyLoss s
  | .logpwrRecheck v => Sys2Proof.Machine.execLogpwrRecheck v s
  | .supplyNormal => Sys2Proof.Machine.execSupplyNormal s

end Sys2Proof.Machine
end

