-- ==== Sys2Proof/Safety.lean ====
section
/-!
DEFINITION. The invariants and the conditions in whose terms claims about the machine are made.
-/
namespace Sys2Proof.Machine

/-! ## Invariants -/

/-- R9: module time is a whole number of ticks of 5 ns. -/
def State.timeOk (s : State) : Bool := s.now % 5 = 0

/-- R26: a domain is on only while every domain that it requires is on (Table 1.2). -/
def State.domsOk (s : State) : Bool :=
  (List.range 14).all (fun d => !s.domOn d || (domRequires d).all (fun r => s.domOn r))

/-- LPDDR5 is in its canonical form: offsets strictly rising, no entry equal to what an unlisted byte reads as. -/
def Memory.wf (m : List Host.Cell) : Bool := tabWf (0 : Byte) m

/-- What every step keeps: time in whole ticks, R26, and no signal left from one step to the next. -/
def State.inv (s : State) : Prop := s.timeOk = true ∧ s.domsOk = true ∧ s.sigs = []

/-! ## Conditions -/

/-- Nothing but a command's own effect happens in its step: no signal is under way, no transaction waits for an apply point
(R365), Tocsin supervises no channel of CEN (R378), and SEC is not in HOLD (R202). -/
def State.quiet (s : State) : Bool :=
  s.sigs.isEmpty && s.pds.txns.isEmpty && decide (48 ≤ s.rd TSV_MPAR6_FCA) && decide (48 ≤ s.rd TSV_MPAR6_FCB) &&
  s.rd SEC_STAT_STATE != 3

/-- A host write of the register at address `a` has its effect: the register is powered (R28), and its block neither is fenced nor
about to be in this cycle (R20, R24). -/
def State.open (s : State) (a : Nat) : Bool := s.windowOn a && !s.fencing (addrBlock a)

/-- Every field outside the windows of the blocks `bs` reads in `t` as in `s` (Table 0.3). -/
def State.regsKept (bs : List Nat) (s t : State) : Prop :=
  ∀ f : Fld, f.lo < 32 → addrBlock f.addr ∉ bs → t.rd f = s.rd f

/-- Every byte of LPDDR5 reads in `t` as in `s`. -/
def State.memKept (s t : State) : Prop := ∀ a, t.ldb a = s.ldb a

/-- The commands that may switch a domain or start module time anew: power, start, run-on and shut-down, resets of domains, the
housekeeping round (R425), the load of the parameters (Table 15.2), and a register write, which may be one of them. -/
def switchesDomains : Instr → Bool
  | .powerGoodLost .. | .domainPowerGood .. | .domainPowerFail .. | .supplyLow .. | .supplyHigh .. | .supplyNormal | .powerFail ..
  | .holdupEnd .. | .kaSupplyLoss | .ignWake .. | .rtcAlarm .. | .logpwrRecheck .. | .startStep | .bootok .. | .ignOff | .sleep ..
  | .runOnEnd | .shutdownStep .. | .shutdownCancel | .housekeepingRound .. | .reset .. | .parameterLoad .. | .registerWrite .. => true
  | _ => false

/-! ## Frames -/

/-- Between `s` and `t` nothing outside the blocks `bs` (Table 0.3) has changed, but the answer on the bus, the count of free values
taken, and the notes of when a flag was last set (R8) and an event last emitted. -/
structure State.only (bs : List Nat) (s t : State) : Prop where
  regs    : s.regsKept bs t
  staged  : ∀ f : Fld, f.lo < 32 → addrBlock f.addr ∉ bs → tabFind t.staged f.key = tabFind s.staged f.key
  mem     : s.memKept t
  now     : t.now = s.now
  pending : t.pending = s.pending
  sigs    : t.sigs = s.sigs
  mgr     : t.mgr = s.mgr
  sd      : t.sd = s.sd
  fenced  : t.fenced = s.fenced
  fenceEv : ∀ b, b ∉ bs → bit t.fenceEv b = bit s.fenceEv b
  params  : t.params = s.params ∧ t.blobs = s.blobs ∧ t.banks = s.banks
  ka      : t.ret = s.ret ∧ t.rtc0 = s.rtc0
  io      : t.io = s.io
  /-- A lease that none of the blocks may request (Table 14.4). -/
  leases  : ∀ r, (∀ h ∈ leaseHolders r, h ∉ bs) → t.lease r = s.lease r
  tsv     : 0x01 ∈ bs ∨ t.tsv = s.tsv
  car     : 0x02 ∈ bs ∨ t.car = s.car
  tbs     : 0x03 ∈ bs ∨ t.tbs = s.tbs
  cen     : 0x04 ∈ bs ∨ t.cen = s.cen
  hsn     : 0x05 ∈ bs ∨ t.hsn = s.hsn
  vis     : 0x06 ∈ bs ∨ t.vis = s.vis
  gns     : 0x07 ∈ bs ∨ t.gns = s.gns
  fus     : 0x08 ∈ bs ∨ t.fus = s.fus
  sec     : 0x09 ∈ bs ∨ t.sec = s.sec
  sol     : 0x0A ∈ bs ∨ t.sol = s.sol
  lsw     : 0x0B ∈ bs ∨ t.lsw = s.lsw
  can     : 0x0C ∈ bs ∨ t.can = s.can
  eth     : 0x0D ∈ bs ∨ t.eth = s.eth
  flt     : 0x0E ∈ bs ∨ t.flt = s.flt
  thm     : 0x0F ∈ bs ∨ t.thm = s.thm
  dsp     : 0x10 ∈ bs ∨ t.dsp = s.dsp
  evr     : 0x11 ∈ bs ∨ t.evr = s.evr
  pds     : 0x12 ∈ bs ∨ t.pds = s.pds
  yul     : 0x13 ∈ bs ∨ t.yul = s.yul

end Sys2Proof.Machine
end

