-- ==== Sys2Proof/Certificates/Slice0/Obligations.lean ====
section
/-!
DEFINITION. What is claimed of the machine, one statement per name; OBLIGATIONS.json lists them with the rules they rest on.

`s.after e` is the state after a command whose own effect on `s` is `e`, once what other blocks do in the same step has followed; in a
quiet state nothing follows (`State.after_quiet`).
-/
open Sys2Proof Sys2Proof.Machine

/-- A step carries out the command at the front of the queue. For every command c, queue q and state s: a step of s with c at
  the front of its queue is c carried out on s with the rest of the queue. The queue is the model's (assumption log, entry
  1). -/
def Obligations.StepRunsFrontCommand : Prop :=
  (∀ (s : State) (c : Instr) (q : List Instr), step { s with pending := c :: q } = exec c { s with pending := q })

/-- With no command waiting, module time goes on by 5 ns while AON is on (the model's choice, assumption log, entry 1). For
  every state whose queue is empty, a step answers a next state: with AON on, the same with module time 5 ns on, at which
  bases that a structure commit has put in LOST enter SEEK (Table 2.2), after what is taken at the end of the cycle, where
  any waits: its attaches and the end of a grace time (assumption log, entry 101); with AON off, the same state. -/
def Obligations.EmptyQueueIsATick : Prop :=
  (∀ (s : State), s.pending = [] → s.domOn 1 = true → s.tbs.seek = [] → s.tsv.attaches = [] → s.thm.due = false →
    step s = .next { s with now := s.now + 5 }) ∧
  (∀ (s : State), s.pending = [] → s.domOn 1 = true → s.tbs.seek ≠ [] → s.tsv.attaches = [] → s.thm.due = false →
    step s = .next (State.after { s with now := s.now + 5 } (State.tbSeekAll { s with now := s.now + 5 }))) ∧
  (∀ (s : State) (u : State), s.pending = [] → s.domOn 1 = true → s.tsv.attaches ≠ [] ∨ s.thm.due = true →
    u = s.after s.lastly → step s = .next (if u.tbs.seek = [] then { u with now := u.now + 5 } else State.after
      { u with now := u.now + 5 } (State.tbSeekAll { u with now := u.now + 5 }))) ∧
  (∀ (s : State), s.pending = [] → s.domOn 1 = false → step s = .next s)

/-- After reset: module time 0, only KA and AON on, every register at its reset value, no memory listed, nothing waiting.
  State.reset has module time 0, an empty queue, the domains KA and AON on and no other, no block fenced, an LPDDR5 in
  canonical form with nothing listed, and every register field at the reset value of its table, among them PART 0x960, HWMAJ
  1, AMAX 0xC8 of each base, LOSSMARG 0x10. The invariant that every step keeps holds there. The reset values that the spec
  does not give are the model's choice (assumption log, entry 13). -/
def Obligations.ResetState : Prop :=
  (State.reset.inv ∧ Memory.wf State.reset.mem = true ∧ State.reset.mem = [] ∧ State.reset.quiet = true) ∧
  (State.reset.now = 0 ∧ State.reset.pending = [] ∧ State.reset.fenced = 0 ∧ State.reset.mgr.on = 3 ∧
    State.reset.staged = []) ∧
  (∀ (f : Fld), State.reset.rd f = f.rst ∧ State.reset.stagedVal f = f.rst) ∧
  (State.reset.regWord 0x40000000 / 0x100000 = 0x960 ∧ State.reset.rd SYS_IDENT_HWMAJ = 1 ∧
    State.reset.rd (TBS_LIM_AMAX 7) = 0xC8 ∧ State.reset.rd (TBS_LIM_LOSSMARG 0) = 0x10)

/-- Every step keeps: module time in whole ticks of 5 ns, every domain on only over the domains it requires, no signal left
  over. For every state in which module time is a multiple of 5 ns, every domain that is on has every domain of its Requires
  column on, and no signal between blocks is under way, and for every next state that a step answers there, the same holds.
  -/
def Obligations.EveryStepKeepsInvariant : Prop :=
  (∀ (s : State) (t : State), s.inv → step s = .next t → t.inv)

/-- Every command, on every state, is answered with a next state: no command stops the machine, and each takes one place of
  the queue. For every command and every state, the command answers a next state whose queue is the one it was given, whose
  module time is unchanged or 0 (where AON starts anew), with no signal between blocks left over, and with every domain on
  only over the domains it requires, if it was so before. So a run never ends in a fault or a refusal (the model's reading of
  commands whose condition does not hold, assumption log, entry 2). -/
def Obligations.EveryCommandCompletes : Prop :=
  (∀ (s : State) (c : Instr), ∃ t, exec c s = .next t ∧ t.pending = s.pending ∧ (t.now = s.now ∨ t.now = 0) ∧ t.sigs = [] ∧
    (s.domsOk = true → t.domsOk = true))

/-- No command but those of power, start and reset switches a domain, moves module time or changes what the domain managers
  hold. For every command outside the list of switchesDomains (power supply, wake, start, run-on, shut-down, lost or late
  power-good levels, resets of domains, housekeeping, the load of the parameters, and a register write, which may be one of
  these) and every state: the next state has the same domain managers' state, with it the same domains on, and the same
  module time. -/
def Obligations.OnlyManagersSwitchDomains : Prop :=
  (∀ (s : State) (c : Instr), switchesDomains c = false → ∃ t, exec c s = .next t ∧ t.mgr = s.mgr ∧ t.now = s.now ∧
    (∀ d, t.domOn d = s.domOn d))

/-- A lease has one holder; Tocsin is served first, then the others in the order of arrival; a return serves the next. For
  every state, resource r and party h: a party that Table 14.4 does not list, or that is barred, gets nothing; a holder's
  renewal moves the expiry alone; a request for a free resource with nobody waiting grants it; a request for a held one waits
  at the end; a return of a held resource with nobody waiting frees it, and otherwise grants it to Tocsin if Tocsin waits and
  no recovery is under way, and else to the first that waits, with its lease time and one more grant; SOL's converter is not
  granted while the level is SHUTDOWN. -/
def Obligations.LeasesAreGrantedInOrder : Prop :=
  (∀ (s : State) (r h : Nat), (leaseHolders r).contains h = false ∨ (s.lease r).barred.contains h = true →
    s.requestLease r h = s) ∧
  (∀ (s : State) (r h : Nat), (leaseHolders r).contains h = true → (s.lease r).barred.contains h = false →
    s.holds r h = true →
    s.requestLease r h = s.setLease r { s.lease r with expiry := if leaseTime r = 0 then 0 else s.now + leaseTime r }) ∧
  (∀ (s : State) (r h : Nat), (leaseHolders r).contains h = true → (s.lease r).barred.contains h = false →
    (s.lease r).state = 0 → (s.lease r).waiting = [] → (s.lease r).recover = none → r = 4 → s.rd TSV_STAT_SLEVEL ≠ 3 →
    (s.requestLease r h).lease r = (s.lease r).grantTo h s.now (leaseTime r) ∧ (s.requestLease r h).holds r h = true ∧
    (∀ q, q ≠ r → (s.requestLease r h).lease q = s.lease q)) ∧
  (∀ (s : State) (h : Nat), (leaseHolders 4).contains h = true → (s.lease 4).state = 0 → s.rd TSV_STAT_SLEVEL = 3 →
    (s.requestLease 4 h).holds 4 h = false) ∧
  (∀ (s : State) (r h : Nat), (leaseHolders r).contains h = true → (s.lease r).barred.contains h = false →
    (s.lease r).state = 1 → (s.lease r).owner ≠ h → (s.lease r).waiting.contains h = false →
    (s.requestLease r h).lease r = { s.lease r with waiting := (s.lease r).waiting ++ [h] }) ∧
  (∀ (s : State) (r h : Nat), s.holds r h = true → (s.lease r).waiting = [] → (s.lease r).recover = none →
    ((s.returnLease r h).lease r).state = 0 ∧ ((s.returnLease r h).lease r).owner = 0xFF) ∧
  (∀ (s : State) (r h : Nat), s.holds r h = true → r = 4 → s.rd TSV_STAT_SLEVEL ≠ 3 → (s.lease r).recover = none →
    (s.lease r).waiting.contains 1 = true → (s.returnLease r h).holds r 1 = true ∧
    ((s.returnLease r h).lease r).expiry = (if leaseTime r = 0 then 0 else s.now + leaseTime r)) ∧
  (∀ (s : State) (r h k : Nat) (q : List Nat), s.holds r h = true → r = 4 → s.rd TSV_STAT_SLEVEL ≠ 3 →
    (s.lease r).recover = none → (s.lease r).waiting = k :: q → (s.lease r).waiting.contains 1 = false →
    (s.returnLease r h).holds r k = true ∧ ((s.returnLease r h).lease r).waiting = q ∧
    ((s.returnLease r h).lease r).grants = incSat 16 (s.lease r).grants)

/-- Two phases of the same kind are compared by subtracting them modulo 2^32 and reading the result as signed. For all
  naturals a and b: the model's phase difference, which every comparison of phases uses, lies in the signed 32-bit range and
  is congruent to a − b modulo 2^32; so advancing both phases by the same amount leaves it, and a phase that has wrapped
  still compares above one shortly before the wrap. -/
def Obligations.PhasesCompareModulo : Prop :=
  (∀ a b : Nat, -2 ^ 31 ≤ phaseDiff a b ∧ phaseDiff a b < 2 ^ 31 ∧ (2 ^ 32 : Int) ∣ phaseDiff a b - ((a : Int) - (b : Int))) ∧
  (∀ a b k : Nat, phaseDiff ((a + k) % 2 ^ 32) ((b + k) % 2 ^ 32) = phaseDiff a b) ∧
  (∀ a d : Nat, d < 2 ^ 31 → phaseDiff ((a + d) % 2 ^ 32) a = d)

/-- RSTREQ: the resets that the host may request with the key; every other request is ignored with EV 0x0111. For every state
  in which the host may write TSV_RSTREQ and every value: with the key 0xA77A, KIND 1 and a block other than SYS, TSV, THM,
  PDS and EVR, KIND 2 and one of the domains RT, CEN, FUS, VIS, GNS, NET, DSP and SOL, or KIND 3 (APP), the reset is ordered,
  for RESET to carry out; any other value orders nothing and emits EV 0x0111 (once a second, R400). No request orders a reset
  of KA, AON, SAF, OUTA or OUTB. -/
def Obligations.ResetRequestsAreKeyedAndLimited : Prop :=
  (∀ (s : State) (v : Nat), s.open TSV_RSTREQ_KEY.addr = true → v % 65536 = 0xA77A → v / 2 ^ 28 % 16 = 1 →
    v / 2 ^ 16 % 256 < 20 → v / 2 ^ 16 % 256 ∉ [0x00, 0x01, 0x0F, 0x12, 0x11] →
    exec (.rstreq v) s = .next (s.after (s.orderReset ⟨4, v / 2 ^ 16 % 256, 1, 0xF, false⟩))) ∧
  (∀ (s : State) (v : Nat), s.open TSV_RSTREQ_KEY.addr = true → v % 65536 = 0xA77A → v / 2 ^ 28 % 16 = 2 →
    v / 2 ^ 16 % 256 ∈ [4, 5, 6, 7, 8, 9, 10, 13] →
    exec (.rstreq v) s = .next (s.after (s.orderReset ⟨3, v / 2 ^ 16 % 256, 1, 0xF, false⟩))) ∧
  (∀ (s : State) (v : Nat), s.open TSV_RSTREQ_KEY.addr = true → v % 65536 = 0xA77A → v / 2 ^ 28 % 16 = 3 →
    exec (.rstreq v) s = .next (s.after (s.orderReset ⟨3, 3, 1, 0xF, false⟩))) ∧
  (∀ (s : State) (v : Nat), s.open TSV_RSTREQ_KEY.addr = true →
    ¬ (v % 65536 = 0xA77A ∧ (v / 2 ^ 28 % 16 = 1 ∧ v / 2 ^ 16 % 256 < 20 ∧ v / 2 ^ 16 % 256 ∉ [0x00, 0x01, 0x0F, 0x12, 0x11]
    ∨ v / 2 ^ 28 % 16 = 2 ∧ v / 2 ^ 16 % 256 ∈ [4, 5, 6, 7, 8, 9, 10, 13] ∨ v / 2 ^ 28 % 16 = 3)) →
    exec (.rstreq v) s = .next (s.after (s.emitSec 0x0111 0 (fun _ => [0x3C])))) ∧
  (∀ (s : State) (o : ResetOrder), s.tsv.orders.contains o = false → (s.orderReset o).tsv.orders = s.tsv.orders ++ [o] ∧
    s.only [0x01] (s.orderReset o)) ∧
  (∀ (v : Nat) (o : ResetOrder), resetRequest v = some o → o.kind = 3 → o.target ∉ [0, 1, 2, 11, 12])

/-- What a write does to a field, and what a read returns, by its access code. For every state, field and word: a write of RW
  sets the field's bits at once; RO, WO and WS are left as they are; W1C clears the bits written 1 but those set in the same
  clock cycle, and no other; a value staged in RWS is what a read returns and leaves the value in effect; a read of WO or WS
  is 0, of RW, RO and W1C the current value. No write of one field changes another field of the register or of another
  register. -/
def Obligations.AccessCodesRule : Prop :=
  (∀ (s : State) (f : Fld) (w : Nat), f.acc = .rw → (s.writeFld w f).rd f = w / 2 ^ f.lo % 2 ^ f.wid ∧
    s.readFld [] f = s.rd f) ∧
  (∀ (s : State) (f : Fld) (w : Nat), f.acc = .ro ∨ f.acc = .wo ∨ f.acc = .ws → s.writeFld w f = s) ∧
  (∀ (s : State) (f : Fld) (w : Nat), f.acc = .w1c → f.wid ≤ 32 →
    (∀ i, i < f.wid → bit ((s.writeFld w f).rd f) i = (bit (s.rd f % 2 ^ f.wid) i && !(bit w (f.lo + i) && decide (tabGet 0
    s.flagAt (f.key + i) ≠ s.now + 1))))) ∧
  (∀ (s : State) (f : Fld) (v : Nat), f.acc = .rws → (s.stage f v).readFld [] f = v % 2 ^ f.wid ∧
    (s.stage f v).rd f = s.rd f) ∧
  (∀ (s : State) (f : Fld), f.acc = .wo ∨ f.acc = .ws → s.readFld [] f = 0) ∧
  (∀ (s : State) (f : Fld), f.acc = .ro ∨ f.acc = .w1c → s.readFld [] f = s.rd f) ∧
  (∀ (s : State) (f g : Fld) (w : Nat), f.key ≠ g.key → (s.writeFld w f).rd g = s.rd g ∧
    (s.stage f w).stagedVal g = s.stagedVal g)

/-- The frame of the load-switch commands: nothing outside LSW and the event recorder changes, but for faults reported to
  Tocsin. For every quiet state: LSW_ON, LSW_OFF, LSW_DUTY_WRITE, PWM_PERIOD_START, PWM_ON_TIME_END, INRUSH_END,
  BANK_RECOVERED and BANK_CURRENT_HIGH of any channel or bank leave every register, staged value, lease and part of the state
  outside LSW and EVR, and every byte of memory; LIMIT_TRIP, I2T_TRIP, SHORT_TRIP, JUNCTION_OVERTEMP, JUNCTION_SENSOR_FAIL,
  LSW_OPEN_LOAD, NOTON of a channel that no function claims (a claimed one reports to CEN, R259) and LSW_OPEN_LOAD_OFF those
  outside LSW, EVR and Tocsin, to which a fault is reported; LSW_CLR those outside LSW, EVR and Tocsin's record of stuck
  outputs. -/
def Obligations.LoadSwitchCommandsStayInTheirBlock : Prop :=
  (∀ (s : State) (n : Nat) (t : State), s.quiet = true → exec (.lswOn n) s = .next t → s.only [0x0B, 0x11] t) ∧
  (∀ (s : State) (n : Nat) (t : State), s.quiet = true → exec (.lswOff n) s = .next t → s.only [0x0B, 0x11] t) ∧
  (∀ (s : State) (n duty : Nat) (t : State), s.quiet = true → exec (.lswDutyWrite n duty) s = .next t →
    s.only [0x0B, 0x11] t) ∧
  (∀ (s : State) (n : Nat) (t : State), s.quiet = true → exec (.pwmPeriodStart n) s = .next t → s.only [0x0B, 0x11] t) ∧
  (∀ (s : State) (n : Nat) (t : State), s.quiet = true → exec (.pwmOnTimeEnd n) s = .next t → s.only [0x0B, 0x11] t) ∧
  (∀ (s : State) (n : Nat) (t : State), s.quiet = true → exec (.inrushEnd n) s = .next t → s.only [0x0B, 0x11] t) ∧
  (∀ (s : State) (b v : Nat) (t : State), s.quiet = true → exec (.bankRecovered b v) s = .next t → s.only [0x0B, 0x11] t) ∧
  (∀ (s : State) (b i : Nat) (t : State), s.quiet = true → exec (.bankCurrentHigh b i) s = .next t → s.only [0x0B, 0x11] t) ∧
  (∀ (s : State) (n v : Nat) (t : State), s.quiet = true → exec (.lswOpenLoadOff n v) s = .next t →
    s.only [0x01, 0x0B, 0x11] t) ∧
  (∀ (s : State) (n : Nat) (t : State), s.quiet = true → s.on (LSW_CHSTAT_CLAIM n) = false →
    exec (.limitTrip n) s = .next t → s.only [0x01, 0x0B, 0x11] t) ∧
  (∀ (s : State) (n i : Nat) (t : State), s.quiet = true → s.on (LSW_CHSTAT_CLAIM n) = false →
    exec (.i2tTrip n i) s = .next t → s.only [0x01, 0x0B, 0x11] t) ∧
  (∀ (s : State) (n i : Nat) (t : State), s.quiet = true → s.on (LSW_CHSTAT_CLAIM n) = false →
    exec (.shortTrip n i) s = .next t → s.only [0x01, 0x0B, 0x11] t) ∧
  (∀ (s : State) (n : Nat) (tj : Int) (t : State), s.quiet = true → s.on (LSW_CHSTAT_CLAIM n) = false →
    exec (.junctionOvertemp n tj) s = .next t → s.only [0x01, 0x0B, 0x11] t) ∧
  (∀ (s : State) (n : Nat) (t : State), s.quiet = true → s.on (LSW_CHSTAT_CLAIM n) = false →
    exec (.junctionSensorFail n) s = .next t → s.only [0x01, 0x0B, 0x11] t) ∧
  (∀ (s : State) (n i : Nat) (t : State), s.quiet = true → s.on (LSW_CHSTAT_CLAIM n) = false →
    exec (.lswOpenLoad n i) s = .next t → s.only [0x01, 0x0B, 0x11] t) ∧
  (∀ (s : State) (n v : Nat) (t : State), s.quiet = true → s.on (LSW_CHSTAT_CLAIM n) = false →
    exec (.noton n v) s = .next t → s.only [0x01, 0x0B, 0x11] t) ∧
  (∀ (s : State) (n : Nat) (below plausible : Bool) (t : State), s.quiet = true →
    exec (.lswClr n below plausible) s = .next t → s.only [0x01, 0x0B, 0x11] t)

/-- The frame of the solenoid commands: nothing outside SOL and the event recorder changes, but for the report of a peak
  without boost. For every quiet state: SOL_OFF, ISET_WRITE, SOL_DUTY_WRITE, PEAK_END, NOZZLE_ON_END and DECAY_END of any
  channel leave every register, staged value, lease and part of the state outside SOL and EVR, and every byte of memory;
  SOL_ON, PEAK_START and NOZZLE_CYCLE_START, by which a peak may start, those outside SOL, EVR and Tocsin, to which a peak
  without boost is reported. -/
def Obligations.SolenoidCommandsStayInTheirBlock : Prop :=
  (∀ (s : State) (n : Nat) (t : State), s.quiet = true → exec (.solOn n) s = .next t → s.only [0x01, 0x0A, 0x11] t) ∧
  (∀ (s : State) (n : Nat) (t : State), s.quiet = true → exec (.solOff n) s = .next t → s.only [0x0A, 0x11] t) ∧
  (∀ (s : State) (n : Nat) (t : State), s.quiet = true → exec (.peakStart n) s = .next t → s.only [0x01, 0x0A, 0x11] t) ∧
  (∀ (s : State) (n : Nat) (t : State), s.quiet = true → exec (.peakEnd n) s = .next t → s.only [0x0A, 0x11] t) ∧
  (∀ (s : State) (n : Nat) (t : State), s.quiet = true → exec (.nozzleCycleStart n) s = .next t →
    s.only [0x01, 0x0A, 0x11] t) ∧
  (∀ (s : State) (n : Nat) (t : State), s.quiet = true → exec (.nozzleOnEnd n) s = .next t → s.only [0x0A, 0x11] t) ∧
  (∀ (s : State) (n : Nat) (t : State), s.quiet = true → exec (.decayEnd n) s = .next t → s.only [0x0A, 0x11] t) ∧
  (∀ (s : State) (n v : Nat) (t : State), s.quiet = true → exec (.isetWrite n v) s = .next t → s.only [0x0A, 0x11] t) ∧
  (∀ (s : State) (n duty : Nat) (t : State), s.quiet = true → exec (.solDutyWrite n duty) s = .next t →
    s.only [0x0A, 0x11] t)

/-- The frame of commands of CAN, ETH and FLT that store nothing: nothing outside the block and the recorder changes, but for
  a bus-off reported. For every quiet state: CAN_TX_REQ, CAN_TX_CANCEL, CAN_TX_ARBITRATION, BUS_OFF_RECOVERED, RECOVER,
  RXPOP, ADDRESS_CLAIM, LMTXGO, LONG_MESSAGE_END and CAN_RING_READ_WRITE leave everything outside CAN and EVR; CAN_TX_DONE,
  CAN_TX_ERROR and CAN_RX_ERROR everything outside CAN, EVR and Tocsin, to which a bus-off is reported; LINK_CHANGE
  everything outside ETH and EVR; the session and queue commands of the fleet engine, its ring index and ERASE everything
  outside FLT and EVR; each leaves every byte of memory. -/
def Obligations.NetworkCommandsStayInTheirBlock : Prop :=
  (∀ (s : State) (n b : Nat) (t : State), s.quiet = true → exec (.canTxReq n b) s = .next t → s.only [0x0C, 0x11] t) ∧
  (∀ (s : State) (n b : Nat) (t : State), s.quiet = true → exec (.canTxCancel n b) s = .next t → s.only [0x0C, 0x11] t) ∧
  (∀ (s : State) (n : Nat) (t : State), s.quiet = true → exec (.canTxArbitration n) s = .next t → s.only [0x0C, 0x11] t) ∧
  (∀ (s : State) (n : Nat) (t : State), s.quiet = true → exec (.canTxDone n) s = .next t → s.only [0x01, 0x0C, 0x11] t) ∧
  (∀ (s : State) (n : Nat) (t : State), s.quiet = true → exec (.busOffRecovered n) s = .next t → s.only [0x0C, 0x11] t) ∧
  (∀ (s : State) (n : Nat) (t : State), s.quiet = true → exec (.recover n) s = .next t → s.only [0x0C, 0x11] t) ∧
  (∀ (s : State) (n : Nat) (t : State), s.quiet = true → exec (.addressClaim n) s = .next t → s.only [0x0C, 0x11] t) ∧
  (∀ (s : State) (n : Nat) (t : State), s.quiet = true → exec (.lmtxgo n) s = .next t → s.only [0x0C, 0x11] t) ∧
  (∀ (s : State) (n lec : Nat) (dom arb : Bool) (more : Nat) (t : State), s.quiet = true →
    exec (.canTxError n lec dom arb more) s = .next t → s.only [0x01, 0x0C, 0x11] t) ∧
  (∀ (s : State) (n q : Nat) (t : State), s.quiet = true → exec (.rxpop n q) s = .next t → s.only [0x0C, 0x11] t) ∧
  (∀ (s : State) (n : Nat) (done : Bool) (reason : Nat) (t : State), s.quiet = true →
    exec (.longMessageEnd n done reason) s = .next t → s.only [0x0C, 0x11] t) ∧
  (∀ (s : State) (n v : Nat) (t : State), s.quiet = true → exec (.canRingReadWrite n v) s = .next t → s.only [0x0C, 0x11] t) ∧
  (∀ (s : State) (n lec : Nat) (eight : Bool) (t : State), s.quiet = true → exec (.canRxError n lec eight) s = .next t →
    s.only [0x01, 0x0C, 0x11] t) ∧
  (∀ (s : State) (p : Nat) (up : Bool) (sqi : Nat) (t : State), s.quiet = true → exec (.linkChange p up sqi) s = .next t →
    s.only [0x0D, 0x11] t) ∧
  (∀ (s : State) (t : State), s.quiet = true → exec .subgo s = .next t → s.only [0x0E, 0x11] t) ∧
  (∀ (s : State) (k : Nat) (o : DtlsOffer) (t : State), s.quiet = true → exec (.handshakeComplete k o) s = .next t →
    s.only [0x0E, 0x11] t) ∧
  (∀ (s : State) (k : Nat) (t : State), s.quiet = true → exec (.connectTimeout k) s = .next t → s.only [0x0E, 0x11] t) ∧
  (∀ (s : State) (k : Nat) (t : State), s.quiet = true → exec (.sessionTimeout k) s = .next t → s.only [0x0E, 0x11] t) ∧
  (∀ (s : State) (k : Nat) (t : State), s.quiet = true → exec (.backoffEnd k) s = .next t → s.only [0x0E, 0x11] t) ∧
  (∀ (s : State) (k : Nat) (t : State), s.quiet = true → exec (.ping k) s = .next t → s.only [0x0E, 0x11] t) ∧
  (∀ (s : State) (k alert : Nat) (t : State), s.quiet = true → exec (.authenticationFailed k alert) s = .next t →
    s.only [0x0E, 0x11] t) ∧
  (∀ (s : State) (v : Nat) (t : State), s.quiet = true → exec (.fltRingReadWrite v) s = .next t → s.only [0x0E, 0x11] t) ∧
  (∀ (s : State) (slot role : Nat) (t : State), s.quiet = true → exec (.erase slot role) s = .next t → s.only [0x0E, 0x11] t)

/-- FLEET_MESSAGE_RX: which bytes of memory a DATA record stores, and that nothing else stores any. For every quiet state: a
  DATA message of a session in UP whose sequence is the next one, with 1 to 1,200 bytes and fewer than 256 unread slots,
  stores its payload at byte 16 of slot WR of the receive ring at RXR_BASE × 4,096 + (WR mod 256) × 2,048, and leaves every
  byte outside the 16 + length bytes of that entry; every other message leaves every byte of memory. Each leaves everything
  outside FLT and EVR but memory. -/
def Obligations.FleetMessagesStoreTheirBytes : Prop :=
  (∀ (s : State) (k prio seq : Nat) (payload : List Nat), s.quiet = true → k < 64 → s.live 0x0E = true → s.flSt k = 2 →
    seq = (s.fls k).last + 1 → s.fltUnread < 256 → payload ≠ [] → payload.length ≤ 1200 →
    ∃ t, exec (.fleetMessageRx k 1 prio seq payload) s = .next t ∧
    (∀ (i : Nat) (h : i < payload.length), t.ldb (s.rd FLT_RXR_BASE * 4096 + s.rd FLT_RXWR_IDX % 256 * 2048 + 16 + i) =
    payload[i] % 256) ∧ t.ldw (s.rd FLT_RXR_BASE * 4096 + s.rd FLT_RXWR_IDX % 256 * 2048) = (k * 2 ^ 26 + prio % 4 * 2 ^ 24 +
      payload.length) % 2 ^ 32 ∧ (∀ a, a < s.rd FLT_RXR_BASE * 4096 + s.rd FLT_RXWR_IDX % 256 * 2048 ∨ s.rd FLT_RXR_BASE *
      4096 + s.rd FLT_RXWR_IDX % 256 * 2048 + 16 + payload.length ≤ a → t.ldb a = s.ldb a) ∧
    t.rd FLT_RXWR_IDX = (s.rd FLT_RXWR_IDX + 1) % 512 ∧ s.regsKept [0x0E] t) ∧
  (∀ (s : State) (k typ prio seq : Nat) (payload : List Nat) (t : State), s.quiet = true →
    ¬ (typ = 1 ∧ k < 64 ∧ s.live 0x0E = true ∧ s.flSt k = 2 ∧ seq = (s.fls k).last + 1 ∧ s.fltUnread < 256 ∧ payload ≠ [] ∧
    payload.length ≤ 1200) → exec (.fleetMessageRx k typ prio seq payload) s = .next t → s.only [0x0E, 0x11] t)

/-- The frame of commands of the receiver's channels and antennas and of the event recorder. For every quiet state:
  SIGNAL_DETECTED, PHASE_LOCK, PULLIN_TIMEOUT, TRACK_LOSS, REACQ_TIMEOUT, TP1_PULSE, GNS_RING_READ_WRITE and TIME_PULSE_END
  leave everything outside GNS and EVR; ANTENNA_OPEN, ANTENNA_SHORT, ANTENNA_RETRY and INTERFERENCE everything outside GNS,
  EVR and Tocsin, to which a fault is reported; EVENT_EMIT, RECORD_WRITTEN, LOG_SEARCH, RDIDX, LOG_CLEAR, SECTOR_ERASED,
  HEVGO and OPTIME_SAVE everything outside EVR; each leaves every byte of memory. -/
def Obligations.ReceiverAndRecorderCommandsStayInTheirBlock : Prop :=
  (∀ (s : State) (c : Nat) (t : State), s.quiet = true → exec (.signalDetected c) s = .next t → s.only [0x07, 0x11] t) ∧
  (∀ (s : State) (c : Nat) (t : State), s.quiet = true → exec (.phaseLock c) s = .next t → s.only [0x07, 0x11] t) ∧
  (∀ (s : State) (c : Nat) (t : State), s.quiet = true → exec (.pullinTimeout c) s = .next t → s.only [0x07, 0x11] t) ∧
  (∀ (s : State) (c : Nat) (t : State), s.quiet = true → exec (.reacqTimeout c) s = .next t → s.only [0x07, 0x11] t) ∧
  (∀ (s : State) (c cn0 ms : Nat) (t : State), s.quiet = true → exec (.trackLoss c cn0 ms) s = .next t →
    s.only [0x07, 0x11] t) ∧
  (∀ (s : State) (p : Nat) (t : State), s.quiet = true → exec (.tp1Pulse p) s = .next t → s.only [0x07, 0x11] t) ∧
  (∀ (s : State) (a i : Nat) (t : State), s.quiet = true → exec (.antennaOpen a i) s = .next t → s.only [0x01, 0x07, 0x11] t) ∧
  (∀ (s : State) (a i : Nat) (t : State), s.quiet = true → exec (.antennaShort a i) s = .next t →
    s.only [0x01, 0x07, 0x11] t) ∧
  (∀ (s : State) (a i : Nat) (t : State), s.quiet = true → exec (.antennaRetry a i) s = .next t →
    s.only [0x01, 0x07, 0x11] t) ∧
  (∀ (s : State) (band : Nat) (out : Bool) (t : State), s.quiet = true → exec (.interference band out) s = .next t →
    s.only [0x01, 0x07, 0x11] t) ∧
  (∀ (s : State) (v : Nat) (t : State), s.quiet = true → exec (.gnsRingReadWrite v) s = .next t → s.only [0x07, 0x11] t) ∧
  (∀ (s : State) (p : Nat) (t : State), s.quiet = true → exec (.timePulseEnd p) s = .next t → s.only [0x07, 0x11] t) ∧
  (∀ (s : State) (code : Nat) (ps : List Nat) (t : State), s.quiet = true → exec (.eventEmit code ps) s = .next t →
    s.only [0x11] t) ∧
  (∀ (s : State) (t : State), s.quiet = true → exec .recordWritten s = .next t → s.only [0x11] t) ∧
  (∀ (s : State) (t : State), s.quiet = true → exec .logSearch s = .next t → s.only [0x11] t) ∧
  (∀ (s : State) (t : State), s.quiet = true → exec .sectorErased s = .next t → s.only [0x11] t) ∧
  (∀ (s : State) (t : State), s.quiet = true → exec .optimeSave s = .next t → s.only [0x11] t) ∧
  (∀ (s : State) (i : Nat) (t : State), s.quiet = true → exec (.rdidx i) s = .next t → s.only [0x11] t) ∧
  (∀ (s : State) (v : Nat) (t : State), s.quiet = true → exec (.hevgo v) s = .next t → s.only [0x11] t) ∧
  (∀ (s : State) (key role : Nat) (t : State), s.quiet = true → exec (.logClear key role) s = .next t → s.only [0x11] t)

/-- REGISTER_WRITE: bus errors, registers whose domain is off, fenced blocks, Tocsin's own registers, and plain reads and
  writes. For every state, agent, address, size and value: an access above the windows, or not 32-bit aligned inside them, is
  a bus error and changes nothing else; a host write to a register whose domain is off, where no row of its own takes it, is
  ignored with EV 0x0010, and a read answers 0 with that event; a host write to a fenced block is ignored, with EV 0x0011
  once per fence; a host write to TSV outside its host interface is ignored with EV 0x0111; a write that a row takes gives
  that row's effect; any other write writes the register, Tocsin's also in a fenced block; any other read answers with the
  register. -/
def Obligations.RegisterAccessesAnswer : Prop :=
  (∀ (s : State) (agent : Agent) (acc : Access) (a size v : Nat), aboveWindows a = true →
    exec (.registerWrite agent acc a size v) s = .next (s.after ({ s with bus := { done := true, error := true } }))) ∧
  (∀ (s : State) (agent : Agent) (acc : Access) (a size v : Nat), aboveWindows a = false → inWindows a = true →
    aligned32 a size = false →
    exec (.registerWrite agent acc a size v) s = .next (s.after ({ s with bus := { done := true, error := true } }))) ∧
  (∀ (s : State) (agent : Agent) (a size v : Nat), aboveWindows a = false → inWindows a = true → aligned32 a size = true →
    s.windowOn a = false → exec (.registerWrite agent .read a size v) s = .next (s.after
      ({ s.emit 0x0010 [addrBlock a, addrOff a, 0] with bus := { done := true } }))) ∧
  (∀ (s : State) (agent : Agent) (a size v : Nat), aboveWindows a = false → inWindows a = true → aligned32 a size = true →
    s.windowOn a = true → exec (.registerWrite agent .read a size v) s = .next (s.after
      ({ (s.readWord a).2 with bus := { done := true, data := (s.readWord a).1 } }))) ∧
  (∀ (s : State) (a size v : Nat), aboveWindows a = false → inWindows a = true → aligned32 a size = true →
    s.windowOn a = false → (s.busOf .host).rowWrite a v = none →
    exec (.registerWrite .host .write a size v) s = .next (s.after
    ({ s.emit 0x0010 [addrBlock a, addrOff a, 1] with bus := { done := true } }))) ∧
  (∀ (s : State) (a size v : Nat), aboveWindows a = false → inWindows a = true → aligned32 a size = true →
    s.windowOn a = true → s.fencing (addrBlock a) = true → s.bus.tsv = false → addrBlock a ≠ 1 →
    bit s.fenceEv (addrBlock a) = false → (s.busOf .host).rowWrite a v = none →
    exec (.registerWrite .host .write a size v) s = .next (s.after
    ({ State.emit 0x0011 [addrBlock a, addrOff a] { s with fenceEv := setBit s.fenceEv (addrBlock a) } with bus := { done := true } }))) ∧
  (∀ (s : State) (a size v : Nat), aboveWindows a = false → inWindows a = true → aligned32 a size = true →
    s.windowOn a = true → s.fencing (addrBlock a) = true → s.bus.tsv = false → addrBlock a ≠ 1 →
    bit s.fenceEv (addrBlock a) = true → (s.busOf .host).rowWrite a v = none →
    exec (.registerWrite .host .write a size v) s = .next (s.after ({ s with bus := { done := true } }))) ∧
  (∀ (s : State) (a size v : Nat), aboveWindows a = false → inWindows a = true → aligned32 a size = true →
    s.windowOn a = true → addrBlock a = 1 → tsvHostRegs.contains (addrOff a) = false →
    exec (.registerWrite .host .write a size v) s = .next (s.after
    ({ s.emitSec 0x0111 0 (fun _ => [addrOff a]) with bus := { done := true } }))) ∧
  (∀ (s : State) (a size v : Nat), aboveWindows a = false → inWindows a = true → aligned32 a size = true →
    s.windowOn a = true → s.fencing (addrBlock a) = false → addrBlock a ≠ 1 → (s.busOf .host).rowWrite a v = none →
    exec (.registerWrite .host .write a size v) s = .next (s.after ({ s.writeReg .host a v with bus := { done := true } }))) ∧
  (∀ (s : State) (agent : Agent) (a size v : Nat) (t : State), aboveWindows a = false → inWindows a = true →
    aligned32 a size = true → addrBlock a ≠ 1 ∨ agent = .tsv → (s.busOf agent).rowWrite a v = some (.next t) →
    exec (.registerWrite agent .write a size v) s = .next { t with bus := { done := true } }) ∧
  (∀ (s : State) (a size v : Nat), aboveWindows a = false → inWindows a = true → aligned32 a size = true →
    s.windowOn a = true → (s.busOf .tsv).rowWrite a v = none →
    exec (.registerWrite .tsv .write a size v) s = .next (s.after ({ s.writeReg .tsv a v with bus := { done := true } })))

/-- BLOCK_FAULT_DETECTED, FENCE, BLOCK_HEALTHY: a block's fault is carried down, recorded and reported; fences begin and end.
  While the block's domain is on: a detected fault has the block's consequence, it is recorded with the block's code, it
  reaches Tocsin by its flag (where SAF is on) and its row, and a lease of the resource at fault that the block holds is
  revoked with cause 1. FENCE fences the block, once. A healthy block is granted leases again that a revocation kept from it
  (R398); one that is fenced is lifted and its parameters committed anew; one whose domain is off is left alone. The code of
  a report for which the spec lists none is a free value (assumption log, entry 83). -/
def Obligations.FaultsFencesAndHealthAct : Prop :=
  (∀ (s : State) (b inst groups m : Nat), s.blockOn b = true → b < 20 →
    exec (.blockFaultDetected b inst (some m) groups none) s = .next (s.after ((((s.consequence b inst false).faultRecord b
    inst).toTocsin).signal (.rowFires m groups)))) ∧
  (∀ (s : State) (b inst groups : Nat), s.blockOn b = true → b < 20 →
    exec (.blockFaultDetected b inst none groups none) s = .next (s.after (((s.consequence b inst false).faultRecord b
    inst).toTocsin))) ∧
  (∀ (s : State) (b inst groups r : Nat), s.blockOn b = true → b < 20 → r ≠ 4 →
    (((s.consequence b inst false).faultRecord b inst).toTocsin).holds r b = true →
    exec (.blockFaultDetected b inst none groups (some r)) s = .next (s.after ((((s.consequence b inst false).faultRecord b
    inst).toTocsin).revokeLease r 1 none))) ∧
  (∀ (s : State) (b : Nat), b < 20 → s.isFenced b = false → exec (.fence b) s = .next (s.after (s.fenceBlock b))) ∧
  (∀ (s : State) (b : Nat), s.isFenced b = true → exec (.fence b) s = .next (s.after (s))) ∧
  (∀ (s : State) (b : Nat), b < 20 → s.blockOn b = true → s.isFenced b = true →
    exec (.blockHealthy b) s = .next (s.after ((s.unbar b).blockUp b))) ∧
  (∀ (s : State) (b : Nat), b < 20 → s.blockOn b = true → s.isFenced b = false →
    exec (.blockHealthy b) s = .next (s.after (s.unbar b))) ∧
  (∀ (s : State) (b : Nat), 20 ≤ b ∨ s.blockOn b = false → exec (.blockHealthy b) s = .next (s.after (s)))

/-- Switching a load-switch channel on, off and into FAULT: its registers, and what stays. For every state and channel n <
  48: switching on (no transaction waits) gives state INRUSH, or ON where TWIN of the channel's profile is 0, with ON set and
  CAUSE 0; switching off gives OFF with ON clear; a fault of a channel not in FAULT gives FAULT with its cause and ON clear,
  counts a trip for the causes 1 to 3, and leaves a channel already in FAULT as it is. Switching leaves memory and every
  register outside LSW's window, a fault those outside LSW's and Tocsin's, where it sets the fault flag. -/
def Obligations.LswSwitchingOperations : Prop :=
  (∀ (s : State) (n : Nat), n < 48 → s.pds.txns = [] →
    (s.lsTurnOn n).rd (LSW_CHSTAT_STATE n) = (if s.rd (LSW_PTIM_TWIN (s.rd (LSW_CHCFG_PROF n))) = 0 then 2 else 1) ∧
    (s.lsTurnOn n).rd (LSW_CHSTAT_ON n) = 1 ∧ (s.lsTurnOn n).rd (LSW_CHSTAT_CAUSE n) = 0 ∧ s.regsKept [0x0B] (s.lsTurnOn n) ∧
    s.memKept (s.lsTurnOn n)) ∧
  (∀ (s : State) (n : Nat), n < 48 → (s.lsTurnOff n).rd (LSW_CHSTAT_STATE n) = 0 ∧ (s.lsTurnOff n).rd (LSW_CHSTAT_ON n) = 0 ∧
    s.regsKept [0x0B] (s.lsTurnOff n) ∧ s.memKept (s.lsTurnOff n)) ∧
  (∀ (s : State) (n cause : Nat), n < 48 → cause < 16 → s.rd (LSW_CHSTAT_STATE n) ≠ 3 → s.lsSeen n ≠ 3 →
    (s.lsFault n cause).rd (LSW_CHSTAT_STATE n) = 3 ∧ (s.lsFault n cause).rd (LSW_CHSTAT_CAUSE n) = cause ∧
    (s.lsFault n cause).rd (LSW_CHSTAT_ON n) = 0 ∧ (s.lsFault n cause).rd (LSW_CHCNT_TRIPCNT n) = (if 1 ≤ cause ∧ cause ≤ 3
      then min (s.rd (LSW_CHCNT_TRIPCNT n) + 1) 65535 else s.rd (LSW_CHCNT_TRIPCNT n)) ∧
    s.regsKept [0x01, 0x0B] (s.lsFault n cause) ∧ s.memKept (s.lsFault n cause)) ∧
  (∀ (s : State) (n cause : Nat), s.rd (LSW_CHSTAT_STATE n) = 3 → (s.lsFault n cause).regs = s.regs)

/-- LSW_ON, LSW_OFF, LSW_CLR, LSW_DUTY_WRITE: what a host command of a load switch does, and where it is ignored. With the
  channel's registers open to the host and the channel neither claimed nor held: LSW_ON switches an OFF channel with MODE
  other than 0 on, LSW_OFF a channel that is on off, LSW_DUTY_WRITE sets the duty cut at 10,000, LSW_CLR takes a channel
  whose cause allows it from FAULT to OFF. On a claimed or held channel the first three are ignored and counted. -/
def Obligations.LswHostCommandsAct : Prop :=
  (∀ (s : State) (n : Nat), n < 48 → s.open (LSW_CHCMD_CMD n).addr = true → s.lsHostBarred n = false → s.lsMay n 5 = true →
    s.rd (LSW_CHSTAT_STATE n) = 0 → s.rd (LSW_CHCFG_MODE n) ≠ 0 →
    exec (.lswOn n) s = .next (s.after ((((s.lsNote n).lsFound n).lsTurnOn n).lsTook n 5))) ∧
  (∀ (s : State) (n : Nat), n < 48 → s.open (LSW_CHCMD_CMD n).addr = true → s.lsHostBarred n = false → s.lsMay n 5 = true →
    s.rd (LSW_CHSTAT_STATE n) = 1 ∨ s.rd (LSW_CHSTAT_STATE n) = 2 →
    exec (.lswOff n) s = .next (s.after ((((s.lsNote n).lsFound n).lsTurnOff n).lsTook n 5))) ∧
  (∀ (s : State) (n : Nat), n < 48 → s.open (LSW_CHCMD_CMD n).addr = true → s.lsHostBarred n = true →
    exec (.lswOn n) s = .next (s.after (s.lsIgnore n 2))) ∧
  (∀ (s : State) (n : Nat), n < 48 → s.open (LSW_CHCMD_CMD n).addr = true → s.lsHostBarred n = true →
    exec (.lswOff n) s = .next (s.after (s.lsIgnore n 2))) ∧
  (∀ (s : State) (n duty : Nat), n < 48 → s.open (LSW_CHDUTY_DUTY n).addr = true → s.lsHostBarred n = false →
    s.lsMay n 5 = true → exec (.lswDutyWrite n duty) s = .next (s.after (s.lsSetDuty n (min (duty % 16384) 10000)))) ∧
  (∀ (s : State) (n : Nat) (plausible : Bool), n < 48 → s.open (LSW_CHCMD_CMD n).addr = true →
    s.rd (LSW_CHSTAT_STATE n) = 3 → (s.lsHeat n 0).lsMay n 5 = true → (s.lsHeat n 0).lsState n = 3 →
    (s.lsHeat n 0).lsClrOk n false plausible = true → exec (.lswClr n false plausible) s = .next (s.after (((((s.lsHeat n
      0).lsNote n).wr (LSW_CHSTAT_STATE n) 0).wr (LSW_CHSTAT_CAUSE n) 0).lsTook n 5)))

/-- The load-switch channel's own events: PWM periods, INRUSH_END, trips, over-temperature, diagnostics, readback; the supply
  of a bank. For a channel whose bank is on, each event in its condition: PWM_PERIOD_START, PWM_ON_TIME_END, INRUSH_END (ON),
  LIMIT_TRIP (cause 2), I2T_TRIP (cause 3 at E at or above K), SHORT_TRIP (cause 1), JUNCTION_OVERTEMP (cause 4),
  JUNCTION_SENSOR_FAIL (cause 5), LSW_OPEN_LOAD (cause 6 with OLACT), LSW_OPEN_LOAD_OFF, STUCK (cause 8) above V_RB, half the
  bank's supply and at least 6.0 V, NOTON (cause 9) below it, which ends row 5's condition of the channel whatever its state:
  with flags, interrupt and event; a fault is looked for in the channel as it stood before the commands of its tick (R243).
  For a bank that is on: below 5.0 V UV is set with EV 0x0B01 and every channel of the bank that is in INRUSH or ON enters
  FAULT with cause 7; above 7.0 V after that UV clears with EV 0x0B02; the mean current is taken, and HI is set above BANKLIM
  and clear otherwise. -/
def Obligations.LswChannelEventsAct : Prop :=
  (∀ (s : State) (n : Nat), s.lsOn n = true → s.lsIsOn n = true → s.rd (LSW_CHCFG_MODE n) = 2 → (s.ls n).pwmNext ≤ s.now →
    exec (.pwmPeriodStart n) s = .next (s.after (s.lsPeriodStart n))) ∧
  (∀ (s : State) (n : Nat), s.lsOn n = true → s.lsIsOn n = true → s.rd (LSW_CHCFG_MODE n) = 2 → (s.ls n).pwmOff ≠ 0 →
    (s.ls n).pwmOff ≤ s.now →
    exec (.pwmOnTimeEnd n) s = .next (s.after (s.setLs n { s.ls n with out := false, pwmOff := 0 }))) ∧
  (∀ (s : State) (n : Nat), s.lsOn n = true → s.rd (LSW_CHSTAT_STATE n) = 1 → (s.ls n).winEnd ≤ s.now →
    exec (.inrushEnd n) s = .next (s.after ((s.wr (LSW_CHSTAT_STATE n) 2).setLs n
    { s.ls n with olFrom := s.now + (s.ls n).olblank * 1000000 }))) ∧
  (∀ (s : State) (n : Nat), s.lsOn n = true → s.lsSeen n = 1 → (s.ls n).winFrom + (s.ls n).tsc * 1000000 ≤ s.now →
    exec (.limitTrip n) s = .next (s.after ((((s.lsFault n 2).setFlag (LSW_CHFLAG_LIMIT n)).setFlag LSW_INTSTAT_TRIP).emit
    0x0B22 [n, (s.ls n).prof]))) ∧
  (∀ (s : State) (n i j : Nat), s.lsOn n = true → j = (if s.lsState n = 1 then min i (s.lsLimit n) else i) →
    ((s.lsHeat n j).wr (LSW_CHSTAT_IMEAS n) (min (j / 10) 0xFFFF)).lsSeenOn n = true →
    lsTripK n (((s.lsHeat n j).wr (LSW_CHSTAT_IMEAS n) (min (j / 10) 0xFFFF)).rd (LSW_CHCFG_WIRE n)) ≤ (((s.lsHeat n j).wr
    (LSW_CHSTAT_IMEAS n) (min (j / 10) 0xFFFF)).ls n).heat → exec (.i2tTrip n i) s = .next (s.after (((((s.lsHeat n j).wr
      (LSW_CHSTAT_IMEAS n) (min (j / 10) 0xFFFF)).lsFault n 3 |>.setFlag (LSW_CHFLAG_I2T n)).setFlag LSW_INTSTAT_TRIP).emit
      0x0B21 [n, ((s.lsHeat n j).wr (LSW_CHSTAT_IMEAS n) (min (j / 10) 0xFFFF)).rd (LSW_CHCFG_WIRE n), j / 10]))) ∧
  (∀ (s : State) (n i : Nat), s.lsOn n = true → s.lsSeenOn n = true → lsIsc n ≤ i →
    exec (.shortTrip n i) s = .next (s.after (((((s.lsFault n 1).setFlag (LSW_CHFLAG_SHORT n)).setFlag LSW_INTSTAT_TRIP).wr
    (LSW_CHSTAT_IMEAS n) (min i 0xFFFF)).emit 0x0B20 [n, i]))) ∧
  (∀ (s : State) (n : Nat) (tj : Int), s.lsOn n = true → 1500 ≤ tj → s.rd (LSW_CHSTAT_STATE n) ≠ 3 →
    exec (.junctionOvertemp n tj) s = .next (s.after (((((s.wrS (LSW_CHTH_TJ n) tj).lsFault n 4).setFlag (LSW_CHFLAG_OVT
    n)).setFlag LSW_INTSTAT_OVT).emit 0x0B23 [n, tc 32 tj]))) ∧
  (∀ (s : State) (n : Nat), s.lsOn n = true → s.rd (LSW_CHSTAT_STATE n) ≠ 3 →
    exec (.junctionSensorFail n) s = .next (s.after (((((s.wr (LSW_CHTH_TJ n) 0x7FFF).lsFault n 5).setFlag (LSW_CHFLAG_SENSOR
    n)).setFlag LSW_INTSTAT_SENSOR).emit 0x0B24 [n]))) ∧
  (∀ (s : State) (n i : Nat), s.lsOn n = true → s.lsSeen n = 2 → i < s.rd (LSW_CHOL_OLTHR n) →
    (s.ls n).olFrom + 200000000 ≤ s.now → s.rd (LSW_CHCFG_MODE n) ≠ 2 ∨ 1000 ≤ s.rd (LSW_CHDUTY_DUTY n) ∧
    (s.ls n).out = true → s.on (LSW_CHCFG_OLACT n) = false → exec (.lswOpenLoad n i) s = .next (s.after ((((s.wr
      (LSW_CHSTAT_IMEAS n) (i / 10)).setFlag (LSW_CHFLAG_OPEN n)).setFlag LSW_INTSTAT_OPEN).emit 0x0B25 [n, i / 10]
      |>.toTocsin))) ∧
  (∀ (s : State) (n v : Nat), s.lsOn n = true → s.lsSeen n = 0 → s.on (LSW_CHCFG_DIAGEN n) = true → 350 < v →
    exec (.lswOpenLoadOff n v) s = .next (s.after ((((s.setFlag (LSW_CHFLAG_OPENOFF n)).setFlag LSW_INTSTAT_OPEN).emit 0x0B26
    [n]).toTocsin))) ∧
  (∀ (s : State) (n v : Nat), s.lsOn n = true → s.lsSeen n = 0 ∨ s.rd (LSW_CHSTAT_STATE n) = 3 →
    max (tabGet 0 s.lsw.volt (lsBank n)) 1200 < 2 * v → exec (.stuck n v) s = .next (s.after ((((((s.lsFault n
      8).toTocsin).setFlag (LSW_CHFLAG_STUCK n)).setFlag LSW_INTSTAT_READBK).emit 0x0B27 [n, v]).signal (.lsStuck n)))) ∧
  (∀ (s : State) (n v : Nat), s.lsOn n = true → s.lsSeen n = 2 → 2 * v < max (tabGet 0 s.lsw.volt (lsBank n)) 1200 →
    exec (.noton n v) s = .next (s.after (((({ s with tsv := { s.tsv with stuckLs := clrBit s.tsv.stuckLs n } } :
    State).lsFault n 9 |>.setFlag (LSW_CHFLAG_NOTON n)).setFlag LSW_INTSTAT_READBK).emit 0x0B28 [n, v]))) ∧
  (∀ (s : State) (n v : Nat), s.lsOn n = true → s.lsSeen n ≠ 2 → 2 * v < max (tabGet 0 s.lsw.volt (lsBank n)) 1200 →
    exec (.noton n v) s = .next (s.after ({ s with tsv := { s.tsv with stuckLs := clrBit s.tsv.stuckLs n } }))) ∧
  (∀ (s : State) (b v : Nat), b < 2 → s.domOn (lsBankDom b) = true → v < 500 →
    exec (.bankUndervoltage b v) s = .next (s.after ((List.range 48).foldl (fun (t : State) n => t.when (lsBank n = b &&
    t.lsSeenOn n) (fun t => (t.lsFault n 7).setFlag (LSW_CHFLAG_UV n))) ((((s.wr (LSW_BSTAT_UV b) 1).supplyIs b v).setFlag
    LSW_INTSTAT_UV).emit 0x0B01 [b, v])))) ∧
  (∀ (s : State) (b v : Nat), b < 2 → s.domOn (lsBankDom b) = true → s.on (LSW_BSTAT_UV b) = true → 700 < v →
    exec (.bankRecovered b v) s = .next (s.after (((s.wr (LSW_BSTAT_UV b) 0).supplyIs b v).emit 0x0B02 [b, v]))) ∧
  (∀ (s : State) (b i : Nat), b < 2 → s.domOn (lsBankDom b) = true → s.rd (LSW_BCFG_BANKLIM b) * 10 < i →
    exec (.bankCurrentHigh b i) s = .next (s.after ((((s.wr (LSW_BSTAT_IBANK b) (min i 0xFFFF)).wr (LSW_BSTAT_HI b)
    1).setFlag LSW_INTSTAT_BANKHI).emitRate 0x0B03 b 10000000000 (fun _ => [b, i])))) ∧
  (∀ (s : State) (b i : Nat), b < 2 → s.domOn (lsBankDom b) = true → i ≤ s.rd (LSW_BCFG_BANKLIM b) * 10 →
    exec (.bankCurrentHigh b i) s = .next (s.after ((s.wr (LSW_BSTAT_IBANK b) (min i 0xFFFF)).wr (LSW_BSTAT_HI b) 0)))

/-- A solenoid channel switched off, sent into FAULT, and its peak booked: registers, calendar, and what stays. For every
  state and channel n < 24: switching off releases the channel's windows and gives OFF from WAIT, DECAY from PEAK, HOLD and
  REG, with ON clear; a fault of a channel that is neither in FAULT nor a slave gives FAULT with its cause, ON clear, no own
  window left and the report to Tocsin; a peak request whose requested start overlaps no booked window is booked at that
  start, with the window in the group's calendar and DLY 0; a request that would be delayed by more than PKMAX is refused
  with no window booked. Memory stays. -/
def Obligations.SolenoidOperations : Prop :=
  (∀ (s : State) (n : Nat), n < 24 → s.rd (SOL_CHSTAT_STATE n) = 1 ∨ s.rd (SOL_CHSTAT_STATE n) = 2 ∨ s.rd (SOL_CHSTAT_STATE
      n) = 3 ∨ s.rd (SOL_CHSTAT_STATE n) = 4 →
    (s.svOff n).rd (SOL_CHSTAT_STATE n) = (if s.rd (SOL_CHSTAT_STATE n) = 1 then 0 else 5) ∧
    (s.svOff n).rd (SOL_CHSTAT_ON n) = 0 ∧
    (s.svOff n).cal (n / 4) = (s.cal (n / 4)).filter (fun w => !(w.chan = n && w.owner = 0)) ∧
    s.regsKept [0x0A] (s.svOff n) ∧ s.memKept (s.svOff n)) ∧
  (∀ (s : State) (n cause : Nat), n < 24 → cause < 16 → s.rd (SOL_CHSTAT_STATE n) ≠ 6 → s.rd (SOL_CHSTAT_STATE n) ≠ 7 →
    (s.svFault n cause).rd (SOL_CHSTAT_STATE n) = 6 ∧ (s.svFault n cause).rd (SOL_CHSTAT_CAUSE n) = cause ∧
    (s.svFault n cause).rd (SOL_CHSTAT_ON n) = 0 ∧
    (s.svFault n cause).cal (n / 4) = (s.cal (n / 4)).filter (fun w => !(w.chan = n && w.owner = 0)) ∧
    s.regsKept [0x01, 0x0A] (s.svFault n cause) ∧ s.memKept (s.svFault n cause)) ∧
  (∀ (s : State) (n r src owner : Nat), n < 24 → calFree (s.cal (n / 4)) r (s.peakLen n) = true →
    (s.bookPeak n r src owner).1 = some r ∧
    (s.bookPeak n r src owner).2.cal (n / 4) = s.cal (n / 4) ++ [⟨r, r + s.peakLen n, n, owner⟩] ∧
    (s.bookPeak n r src owner).2.rd (SOL_CHDLY_DLY n) = 0) ∧
  (∀ (s : State) (n r src owner : Nat), n < 24 → s.peakSlot n r = none → (s.bookPeak n r src owner).1 = none ∧
    (s.bookPeak n r src owner).2.cal (n / 4) = s.cal (n / 4) ∧ (s.bookPeak n r src owner).2.rd (SOL_CHFLAG_REFUSED n) = 1)

/-- SOL_ON, SOL_OFF, SOL_CLR, GROUP_CLR, BOOST_CLR, ISET_WRITE, SOL_DUTY_WRITE: what a host command of the solenoid drive
  does. With the registers open to the host, the channel neither claimed, held nor a slave, and neither it nor its group in
  FAULT: SOL_ON of a PH or PWMN channel that is off books a peak; SOL_OFF switches off; ISET_WRITE takes the setpoint;
  SOL_DUTY_WRITE the duty cut at 1,000. SOL_CLR takes a channel whose cause allows it from FAULT to OFF, but none after an
  undervoltage until OUTB is back, GROUP_CLR clears the group short, BOOST_CLR takes the converter from FAULT to WAITLEASE or
  OFF. On a claimed, held or slave channel a host ON is ignored and counted. -/
def Obligations.SolenoidHostCommandsAct : Prop :=
  (∀ (s : State) (n : Nat), n < 24 → s.open (SOL_CHCMD_CMD n).addr = true → s.svHostBarred n = false →
    s.svInFault n = false → s.svMay n 4 = true → s.rd (SOL_CHCFG_MODE n) = 1 ∨ s.rd (SOL_CHCFG_MODE n) = 3 →
    s.on (SOL_CHSTAT_ON n) = false → exec (.solOn n) s = .next (s.after ((s.svBookOn n 2).2.svTook n 4))) ∧
  (∀ (s : State) (n : Nat), n < 24 → s.open (SOL_CHCMD_CMD n).addr = true → s.svHostBarred n = true →
    exec (.solOn n) s = .next (s.after (s.svIgnore n 2))) ∧
  (∀ (s : State) (n : Nat), n < 24 → s.open (SOL_CHCMD_CMD n).addr = true → s.svHostBarred n = false →
    s.svInFault n = false → s.svMay n 4 = true → s.rd (SOL_CHCFG_MODE n) ≠ 2 →
    exec (.solOff n) s = .next (s.after ((s.svOff n).svTook n 4))) ∧
  (∀ (s : State) (n : Nat) (cool supply : Bool), n < 24 → s.open (SOL_CHCMD_CMD n).addr = true →
    s.rd (SOL_CHSTAT_STATE n) = 6 → s.svMay n 4 = true → s.on (SOL_GSTAT_GFLT (n / 4)) = false →
    cool = true ∨ s.rd (SOL_CHSTAT_CAUSE n) ≠ 1 ∧ s.rd (SOL_CHSTAT_CAUSE n) ≠ 5 → supply = true ∨ s.sol.low = false →
    exec (.solClr n cool supply) s = .next (s.after (((((s.when supply (fun s => (s.wr SOL_STAT_UV 0).outbBack)).wr
    (SOL_CHSTAT_STATE n) 0).wr (SOL_CHSTAT_CAUSE n) 0).wr (SOL_CHSTAT_IMEAS n) 0).svTook n 4))) ∧
  (∀ (s : State) (n : Nat) (cool : Bool), n < 24 → s.open (SOL_CHCMD_CMD n).addr = true → s.rd (SOL_CHSTAT_STATE n) = 6 →
    s.svMay n 4 = true → s.sol.low = true → exec (.solClr n cool false) s = .next (s.after (s.svIgnore n 2))) ∧
  (∀ (s : State) (g : Nat), g < 6 → s.open (SOL_GCMD_CMD g).addr = true → s.sol.low = false →
    exec (.groupClr g) s = .next (s.after ((s.wr (SOL_GSTAT_GFLT g) 0).tsvSet (fun t =>
    { t with stuckSv := clrBit t.stuckSv g })))) ∧
  (∀ (s : State), s.open SOL_BCMD_CMD.addr = true → s.rd SOL_STAT_BSTATE = 5 → s.on SOL_CTL_BEN = true →
    exec .boostClr s = .next (s.after (((s.unbar 0x0A).wr SOL_STAT_BSTATE 1).requestLease 4 0x0A))) ∧
  (∀ (s : State), s.open SOL_BCMD_CMD.addr = true → s.rd SOL_STAT_BSTATE = 5 → s.on SOL_CTL_BEN = false →
    exec .boostClr s = .next (s.after ((s.unbar 0x0A).wr SOL_STAT_BSTATE 0))) ∧
  (∀ (s : State) (n v : Nat), n < 24 → s.open (SOL_CHSET_ISET n).addr = true → s.svHostBarred n = false →
    s.svInFault n = false → s.svMay n 4 = true →
    exec (.isetWrite n v) s = .next (s.after ((s.svSetpoint n (v % 65536)).svTook n 4))) ∧
  (∀ (s : State) (n duty : Nat), n < 24 → s.open (SOL_CHDUTY_DUTY n).addr = true → s.svHostBarred n = false →
    s.svInFault n = false → exec (.solDutyWrite n duty) s = .next (s.after (s.svSetDuty n (duty % 1024))))

/-- PEAK_START, PEAK_END, PEAK_NOT_REACHED, NOZZLE_CYCLE_START, NOZZLE_ON_END, DECAY_END: the course of a solenoid peak and
  cycle. A booked peak of a channel in WAIT starts at its time; at TPEAK the channel goes from PEAK to HOLD and its window
  ends; a current below IPEAK at TPKTO sets PKNR with EV 0x0A09 (and faults with cause 4 where PKACT is set); 100 µs before a
  cycle start the peak of the next on-period is booked; at a cycle start an on-period that still runs is extended by the
  on-time of DUTY, and nothing happens where none runs and none is booked; the end of an on-period gives REG; the end of
  DECAY gives OFF. -/
def Obligations.SolenoidPeaksAndCyclesAct : Prop :=
  (∀ (s : State) (n : Nat), s.blockOn 0x0A = true → n < 24 → s.rd (SOL_CHSTAT_STATE n) = 1 → (s.sv n).book ≤ s.now →
    exec (.peakStart n) s = .next (s.after ((s.setSv n { s.sv n with book := 0 }).peakStart n))) ∧
  (∀ (s : State) (n : Nat), s.blockOn 0x0A = true → n < 24 → s.rd (SOL_CHSTAT_STATE n) = 2 → (s.sv n).peakEnd ≤ s.now →
    exec (.peakEnd n) s = .next (s.after (((s.releaseWin n 0).wr (SOL_CHSTAT_STATE n) 3).railOf (n / 4)))) ∧
  (∀ (s : State) (n i : Nat), s.blockOn 0x0A = true → n < 24 → s.rd (SOL_CHSTAT_STATE n) = 2 → (s.sv n).peakTo ≤ s.now →
    i < s.rd (SOL_CHCUR_IPEAK n) → s.on (SOL_CHCFG_PKACT n) = false →
    exec (.peakNotReached n i) s = .next (s.after (((((s.wr (SOL_CHSTAT_IMEAS n) (min i 0xFFFF)).setFlag (SOL_CHFLAG_PKNR
    n)).setFlag SOL_INTSTAT_PKNR).emit 0x0A09 [n, i]).toTocsin))) ∧
  (∀ (s : State) (n i : Nat), s.blockOn 0x0A = true → n < 24 → s.rd (SOL_CHSTAT_STATE n) = 2 → (s.sv n).peakTo ≤ s.now →
    i < s.rd (SOL_CHCUR_IPEAK n) → s.on (SOL_CHCFG_PKACT n) = true →
    exec (.peakNotReached n i) s = .next (s.after ((((((s.wr (SOL_CHSTAT_IMEAS n) (min i 0xFFFF)).setFlag (SOL_CHFLAG_PKNR
    n)).setFlag SOL_INTSTAT_PKNR).emit 0x0A09 [n, i]).toTocsin).svFault n 4))) ∧
  (∀ (s : State) (n : Nat), s.blockOn 0x0A = true → n < 24 → s.on (SOL_CHSTAT_ON n) = true → s.rd (SOL_CHCFG_MODE n) = 3 →
    s.svInFault n = false → s.svSlave n = false → s.isCycleStart n (s.now + 100000) = false → s.isCycleStart n s.now = true →
    s.svMay n 5 = true → (s.sv n).period = false → (s.sv n).nozzle = 0 → s.rd (SOL_CHDUTY_DUTY n) ≠ 0 →
    exec (.nozzleCycleStart n) s = .next (s.after (s))) ∧
  (∀ (s : State) (n : Nat), s.blockOn 0x0A = true → n < 24 → s.on (SOL_CHSTAT_ON n) = true → s.rd (SOL_CHCFG_MODE n) = 3 →
    s.svInFault n = false → s.svSlave n = false → s.isCycleStart n (s.now + 100000) = false → s.isCycleStart n s.now = true →
    s.svMay n 5 = true → (s.sv n).period = true → (s.sv n).endless = false → s.now ≤ (s.sv n).onEnd →
    s.rd (SOL_CHDUTY_DUTY n) ≠ 0 → (s.nozzleOnTime n (s.rd (SOL_CHDUTY_DUTY n))).2 = false →
    exec (.nozzleCycleStart n) s = .next (s.after (s.setSv n
    { s.sv n with onEnd := s.now + (s.nozzleOnTime n (s.rd (SOL_CHDUTY_DUTY n))).1, endless := s.rd (SOL_CHDUTY_DUTY n) = 1000 }))) ∧
  (∀ (s : State) (n a : Nat), s.blockOn 0x0A = true → n < 24 → s.on (SOL_CHSTAT_ON n) = true → s.rd (SOL_CHCFG_MODE n) = 3 →
    s.svInFault n = false → s.svSlave n = false → s.isCycleStart n (s.now + 100000) = true → s.rd (SOL_CHDUTY_DUTY n) ≠ 0 →
    (s.sv n).nozzle = 0 → (s.sv n).period = false → (s.bookPeak n (s.now + 100000) 4 0).1 = some a →
    exec (.nozzleCycleStart n) s = .next (s.after (let t := (s.bookPeak n (s.now + 100000) 4 0).2; t.setSv n
    { t.sv n with nozzle := a + 1 }))) ∧
  (∀ (s : State) (n : Nat), s.blockOn 0x0A = true → n < 24 → s.rd (SOL_CHCFG_MODE n) = 3 → (s.sv n).period = true →
    (s.sv n).endless = false → (s.sv n).onEnd ≤ s.now → s.rd (SOL_CHSTAT_STATE n) = 3 →
    exec (.nozzleOnEnd n) s = .next (s.after (((s.setSv n { s.sv n with period := false }).wr (SOL_CHSTAT_STATE n) 4).railOf
    (n / 4)))) ∧
  (∀ (s : State) (n : Nat), s.blockOn 0x0A = true → n < 24 → s.rd (SOL_CHSTAT_STATE n) = 5 →
    exec (.decayEnd n) s = .next (s.after ((s.wr (SOL_CHSTAT_STATE n) 0).wr (SOL_CHSTAT_IMEAS n) 0)))

/-- BOOST_LEASE_GRANT, BOOST_READY, BOOST_LOW, BOOST_TIMEOUT, BOOST_FAULT, BOOST_LEASE_REVOKED: the states of the boost
  converter. While SOL acts: the granted lease takes WAITLEASE to START; 95 % of the setpoint takes START or LOW to READY
  with EV 0x0A01; below 90 % READY goes to LOW; START beyond 20 ms faults with cause 2 and LOW for 5 ms with cause 3; from
  any state but FAULT an over-voltage faults with cause 1 and an over-current with cause 4; a lost lease takes START, READY
  and LOW to WAITLEASE, peaks in progress going on from OUTB, and it is requested anew. -/
def Obligations.BoostConverterActs : Prop :=
  (∀ (s : State), s.live 0x0A = true → s.rd SOL_STAT_BSTATE = 1 → s.holds 4 0x0A = true → s.on SOL_CTL_BEN = true →
    exec .boostLeaseGrant s = .next (s.after ({ s.wr SOL_STAT_BSTATE 2 with sol := { s.sol with since := s.now } }))) ∧
  (∀ (s : State) (v : Nat), s.live 0x0A = true → s.rd SOL_STAT_BSTATE = 2 ∨ s.rd SOL_STAT_BSTATE = 4 →
    s.boostSet * 95 ≤ v * 100 →
    exec (.boostReady v) s = .next (s.after (((s.wr SOL_STAT_BSTATE 3).wr SOL_STAT_VBOOST (min v 0xFFF)).emit 0x0A01 [v]))) ∧
  (∀ (s : State) (v : Nat), s.live 0x0A = true → s.rd SOL_STAT_BSTATE = 3 → v * 100 < s.boostSet * 90 →
    exec (.boostLow v) s = .next (s.after
    ({ (s.wr SOL_STAT_BSTATE 4).wr SOL_STAT_VBOOST (min v 0xFFF) with sol := { s.sol with since := s.now } }))) ∧
  (∀ (s : State), s.live 0x0A = true → s.rd SOL_STAT_BSTATE = 2 → s.sol.since + 20000000 ≤ s.now →
    exec .boostTimeout s = .next (s.after (s.boostFault 2))) ∧
  (∀ (s : State), s.live 0x0A = true → s.rd SOL_STAT_BSTATE = 4 → s.sol.since + 5000000 ≤ s.now →
    exec .boostTimeout s = .next (s.after (s.boostFault 3))) ∧
  (∀ (s : State) (ov : Bool), s.live 0x0A = true → s.rd SOL_STAT_BSTATE ≠ 5 →
    exec (.boostFault ov) s = .next (s.after (s.boostFault (if ov then 1 else 4)))) ∧
  (∀ (s : State), s.live 0x0A = true → s.rd SOL_STAT_BSTATE = 2 ∨ s.rd SOL_STAT_BSTATE = 3 ∨ s.rd SOL_STAT_BSTATE = 4 →
    s.holds 4 0x0A = false → exec .boostLeaseRevoked s = .next (s.after (s.boostStop 1 true)))

/-- SOL_SHORT, GROUP_SHORT, SOL_OPEN_LOAD, SOL_OPEN_LOAD_OFF, SOL_DRIVER_OVERTEMP, OUTB_UNDERVOLTAGE: the faults of the
  solenoid drive. While the SOL domain is on: a measured current is shown, and above 15 A (a pair 27 A) a channel that is in
  no fault faults with cause 1; above 33 A, or with the group switch on, a group short opens the group switch and faults its
  four channels with cause 2; a holding current below a quarter of its target faults with cause 3; an off-state open load is
  only flagged; a driver above 150 °C faults with cause 5; OUTB below 8.0 V faults every channel that is not OFF, FAULT or
  SLAVE with cause 6 and stops the boost. -/
def Obligations.SolenoidFaultsAct : Prop :=
  (∀ (s : State) (n i : Nat), s.blockOn 0x0A = true → n < 24 → s.rd (SOL_CHSTAT_STATE n) < 6 →
    (if s.svPaired n then 27000 else 15000) < i → exec (.solShort n i) s = .next (s.after (((((s.wr (SOL_CHSTAT_IMEAS n) (min
      i 0xFFFF)).svFault n 1).setFlag (SOL_CHFLAG_SHORT n)).setFlag SOL_INTSTAT_SHORT).emit 0x0A06 [n, i]))) ∧
  (∀ (s : State) (n i : Nat), s.blockOn 0x0A = true → n < 24 → s.rd (SOL_CHSTAT_STATE n) ≠ 7 →
    i ≤ (if s.svPaired n then 27000 else 15000) →
    exec (.solShort n i) s = .next (s.after (s.wr (SOL_CHSTAT_IMEAS n) (min i 0xFFFF)))) ∧
  (∀ (s : State) (g i : Nat), s.blockOn 0x0A = true → g < 6 → 33000 < i ∨ s.on (SOL_GSTAT_GON g) = true →
    exec (.groupShort g i) s = .next (s.after (((((((svOfGroup g).foldl (fun (t : State) n => (t.svFault n 2).setFlag
    (SOL_CHFLAG_SHORT n)) (s.wr (SOL_GSTAT_GFLT g) 1)).setFlag SOL_INTSTAT_SHORT).wr (SOL_GSTAT_IGRP g) (min (i / 200)
    0xFF)).railOf g).emit 0x0A07 [g, i / 200])))) ∧
  (∀ (s : State) (n i : Nat), s.blockOn 0x0A = true → n < 24 → s.svSeen n = 3 ∨ s.svSeen n = 4 ∧
    s.rd (SOL_CHCFG_MODE n) = 2 →
    i * 4 < (if s.rd (SOL_CHCFG_MODE n) = 2 then s.rd (SOL_CHSET_ISET n) else s.rd (SOL_CHCUR_IHOLD n)) →
    exec (.solOpenLoad n i) s = .next (s.after (((((s.wr (SOL_CHSTAT_IMEAS n) i).svFault n 3).setFlag (SOL_CHFLAG_OPEN
    n)).setFlag SOL_INTSTAT_OPEN).emit 0x0A08 [n, 1]))) ∧
  (∀ (s : State) (n : Nat), s.blockOn 0x0A = true → n < 24 → s.svSeen n = 0 → s.on (SOL_CHCFG_DIAGEN n) = true →
    exec (.solOpenLoadOff n) s = .next (s.after ((((s.setFlag (SOL_CHFLAG_OPENOFF n)).setFlag SOL_INTSTAT_OPEN).emit 0x0A08
    [n, 2]).toTocsin))) ∧
  (∀ (s : State) (n : Nat) (td : Int), s.blockOn 0x0A = true → n < 24 → 1500 < td → s.rd (SOL_CHSTAT_STATE n) < 6 →
    exec (.solDriverOvertemp n td) s = .next (s.after ((((s.svFault n 5).setFlag (SOL_CHFLAG_OVT n)).setFlag
    SOL_INTSTAT_OVT).emit 0x0A0A [n, tc 32 td]))) ∧
  (∀ (s : State) (v : Nat), s.blockOn 0x0A = true → v < 80 → ((List.range 24).foldl (fun (t : State) n => t.when (t.svSeen n
      != 0 && t.svState n != 6 && t.svState n != 7) (fun t => (t.svFault n 6).setFlag (SOL_CHFLAG_UV n)))
      { (s.supplyIs 1 (v * 10)).wr SOL_STAT_UV 1 with sol := { s.sol with low := true, above := false } }).rd SOL_STAT_BSTATE
      ∉ [2, 3, 4] → exec (.outbUndervoltage v) s = .next (s.after ((((List.range 24).foldl (fun (t : State) n => t.when
      (t.svSeen n != 0 && t.svState n != 6 && t.svState n != 7) (fun t => (t.svFault n 6).setFlag (SOL_CHFLAG_UV n)))
      { (s.supplyIs 1 (v * 10)).wr SOL_STAT_UV 1 with sol := { s.sol with low := true, above := false } }).setFlag
      SOL_INTSTAT_UV).emit 0x0A0B [v]))) ∧
  (∀ (s : State) (v : Nat), s.blockOn 0x0A = true → v < 80 → ((List.range 24).foldl (fun (t : State) n => t.when (t.svSeen n
      != 0 && t.svState n != 6 && t.svState n != 7) (fun t => (t.svFault n 6).setFlag (SOL_CHFLAG_UV n)))
      { (s.supplyIs 1 (v * 10)).wr SOL_STAT_UV 1 with sol := { s.sol with low := true, above := false } }).rd SOL_STAT_BSTATE
      ∈ [2, 3, 4] → exec (.outbUndervoltage v) s = .next (s.after (((State.boostStop 1 true ((List.range 24).foldl (fun (t :
      State) n => t.when (t.svSeen n != 0 && t.svState n != 6 && t.svState n != 7) (fun t => (t.svFault n 6).setFlag
      (SOL_CHFLAG_UV n)))
      { (s.supplyIs 1 (v * 10)).wr SOL_STAT_UV 1 with sol := { s.sol with low := true, above := false } })).setFlag
      SOL_INTSTAT_UV).emit 0x0A0B [v])))

/-- Between edges the interpolated phase stays from the phase of the last edge up to one LSB short of the next expected edge.
  For every edge phase, velocity, acceleration and time: with the next expected edge at least one phase LSB ahead, the
  interpolated phase of a base moving forward lies from the phase of the last edge to one LSB before the next expected edge,
  in reverse motion likewise with the signs exchanged, and at the time of the edge it is the phase of the edge. In STILL,
  SEEK and LOST the base's phase is the phase of its last edge whatever the time. -/
def Obligations.InterpolatedPhaseStaysBetweenEdges : Prop :=
  (∀ (pe v a l : Int) (te t : Nat), pe + lsb16 ≤ l → pe ≤ tbInterp pe te v a true (some l) t ∧
    tbInterp pe te v a true (some l) t ≤ l - lsb16) ∧
  (∀ (pe v a l : Int) (te t : Nat), l + lsb16 ≤ pe → tbInterp pe te v a false (some l) t ≤ pe ∧
    l + lsb16 ≤ tbInterp pe te v a false (some l) t) ∧
  (∀ (pe v a : Int) (fwd : Bool) (lim : Option Int) (te : Nat), tbInterp pe te v a fwd lim te = pe) ∧
  (∀ (s : State) (n t : Nat), s.tbSt n = 1 ∨ s.tbSt n = 3 ∨ s.tbSt n = 5 → (s.tb n).sub = none →
    s.tbPhase16 8 n t = (s.tb n).pe)

/-- EDGE_ACCEPTED, EDGE_DEADLINE, FAILOVER_RETURN, TBI_WIRE_BREAK, GNSS_RECORD_MISSING, YULIS_UPDATE_MISSING,
  PLAUSIBILITY_WINDOW. While RT is on: an accepted edge is dated FILT × 20 ns back; a deadline that has passed loses the base
  with cause 1 or, outside SUSPECT, puts it in STILL; a base under failover whose own source has tracked for 1 s returns to
  it with EV 0x030C, its edges shifted so that the phase goes on without a jump; a wire break of an input in mode 2, or an
  open one in mode 0, after 1 ms is taken; a GNSS base without a record for 1.5 epoch periods and a Yulis base without an
  update for 62,500 ns are lost with cause 3; a plausibility check without a window under way starts one where both bases
  allow it, and at the end of 100 ms a travel within TOL (in 0.5 %) of REF's times RATIO clears the cause, one beyond sets
  PLAUSERR and, as the check first fails, EV 0x0309 with the measured ratio, a report to Tocsin and SUSPECT. -/
def Obligations.TimeBaseEventsAct : Prop :=
  (∀ (s : State) (n pin : Nat) (high : Bool), n < 8 → s.blockOn 0x03 = true → pin < 16 →
    exec (.edgeAccepted n pin high) s = .next (s.after (s.tbEdge n pin (s.now - s.rd (TBS_TEETH_FILT n) * 20) high))) ∧
  (∀ (s : State) (n d : Nat), n < 8 → s.blockOn 0x03 = true → (s.tbPins n).filter (fun p => s.wireBreakWaits p) = [] →
    (s.tb n).dueAt = some d → d ≤ s.now → (s.tb n).dueLost = true →
    exec (.edgeDeadline n) s = .next (s.after (s.tbLose n 1))) ∧
  (∀ (s : State) (n d : Nat), n < 8 → s.blockOn 0x03 = true → (s.tbPins n).filter (fun p => s.wireBreakWaits p) = [] →
    (s.tb n).dueAt = some d → d ≤ s.now → (s.tb n).dueLost = false → (s.tb n).st ≠ 4 →
    exec (.edgeDeadline n) s = .next (s.after (s.tbEnter n 3 0))) ∧
  (∀ (s : State) (n d : Nat), n < 8 → s.blockOn 0x03 = true → (s.tbPins n).filter (fun p => s.wireBreakWaits p) = [] →
    (s.tb n).dueAt = some d → s.now < d → exec (.edgeDeadline n) s = .next (s.after (s))) ∧
  (∀ (s : State) (n u base ratio : Nat) (own ref : Int) (fl : Option Int), n < 8 → s.blockOn 0x03 = true →
    (s.tb n).sub = some ⟨own, ref, some u, base, ratio, fl⟩ → u + 1000000000 ≤ s.now →
    exec (.failoverReturn n) s = .next (s.after (let d := s.tbPhase16 8 n s.now - (s.tb n).phaseAt s.now; ((s.setTb n
    { s.tb n with sub := none, pe := (s.tb n).pe + d, origin := (s.tb n).origin + d, hist := (s.tb n).hist.map (fun (e : Nat × Int) => (e.1, e.2 + d)) }).emit
    0x030C [n]).tbRenewed n false))) ∧
  (∀ (s : State) (pin ms : Nat) (short : Bool), pin < 16 → 1 ≤ ms → s.blockOn 0x03 = true →
    bits (s.rd SYS_TBIMODE_MODE) (2 * pin) 2 = 2 ∨ bits (s.rd SYS_TBIMODE_MODE) (2 * pin) 2 = 0 ∧ short = false →
    exec (.tbiWireBreak pin short ms) s = .next (s.after (s.tbWireBreak pin))) ∧
  (∀ (s : State) (n : Nat), n < 8 → s.blockOn 0x03 = true → s.rd (TBS_CFG_SRC n) = 5 →
    2 * (s.tb n).updAt + 3 * s.gnsPeriod ≤ 2 * s.now → exec (.gnssRecordMissing n) s = .next (s.after (s.tbLose n 3))) ∧
  (∀ (s : State) (n : Nat), n < 8 → s.blockOn 0x03 = true → s.rd (TBS_CFG_SRC n) = 6 → (s.tb n).updAt + 62500 ≤ s.now →
    exec (.yulisUpdateMissing n) s = .next (s.after (s.tbLose n 3))) ∧
  (∀ (s : State) (n : Nat), n < 8 → s.blockOn 0x03 = true → s.on (TBS_PLAUS_PEN n) = true →
    (s.tb n).win = none ∨ s.edgeWaits n = false ∧ s.edgeWaits (s.rd (TBS_PLAUS_REF n)) = false →
    exec (.plausibilityWindow n) s = .next (s.after (((s.tbFirst n).tbFirst (s.rd (TBS_PLAUS_REF n))).tbPlaus n))) ∧
  (∀ (s : State) (n : Nat), (s.tb n).win = none → tbMovingSt (s.tbSt n) = true → s.tbSt (s.rd (TBS_PLAUS_REF n)) = 2 →
    s.tbPlaus n = s.setTb n
    { s.tb n with win := some ⟨s.now, s.rd (TBS_PLAUS_REF n), s.tbPhase16 8 n s.now, s.tbPhase16 8 (s.rd (TBS_PLAUS_REF n)) s.now⟩ }) ∧
  (∀ (s : State) (n : Nat) (w : TbWin), (s.tb n).win = some w → w.from_ + 100000000 ≤ s.now →
    w.base = s.rd (TBS_PLAUS_REF n) → 200 * ((s.tbPhase16 8 n s.now - w.own) * 65536 - ((s.tbPhase16 8 w.base s.now - w.ref)
      * (s.rd (TBS_RATIO_RATIO n) : Int))).natAbs ≤ s.rd (TBS_PLAUS_TOL n) * ((s.tbPhase16 8 w.base s.now - w.ref) * (s.rd
      (TBS_RATIO_RATIO n) : Int)).natAbs → s.tbPlaus n = (s.tbWindow n).tbClear n 2) ∧
  (∀ (s : State) (n : Nat) (w : TbWin), (s.tb n).win = some w → w.from_ + 100000000 ≤ s.now →
    w.base = s.rd (TBS_PLAUS_REF n) → s.rd (TBS_PLAUS_TOL n) * ((s.tbPhase16 8 w.base s.now - w.ref) * (s.rd (TBS_RATIO_RATIO
      n) : Int)).natAbs < 200 * ((s.tbPhase16 8 n s.now - w.own) * 65536 - ((s.tbPhase16 8 w.base s.now - w.ref) * (s.rd
      (TBS_RATIO_RATIO n) : Int))).natAbs → (s.tb n).causes.contains 2 = false →
    s.tbPlaus n = ((((s.tbWindow n).tbFlag TBS_FLAGS_PLAUSERR n).emit 0x0309 [n, w.base, if s.tbPhase16 8 w.base s.now -
    w.ref = 0 then 0 else tc 32 ((s.tbPhase16 8 n s.now - w.own) * 65536 / (s.tbPhase16 8 w.base s.now -
    w.ref))]).toTocsin).tbSuspect n 2)

/-- PRESET, SNAP and PHASE_READ complete, with what each does. With the register open to the host: a PRESET of a base that is
  neither a distance base nor a virtual one changes nothing but that it emits EV 0x030D; a PRESET of a distance base or of a
  virtual one moves the phase of the base, at the present time, by the least number of phase LSB that gives the value
  written, starts its edge history afresh, and is a jump of that size; that number leads to the value written from every
  phase. SNAP latches the values of all eight bases as they are now. A read of TBS_PHASE answers with the phase latched by
  SNAP where one waits for the base, which it uses up, and otherwise with the phase of the base now, and latches the other
  values that go with the phase answered. -/
def Obligations.TimeBaseHostAccessesAct : Prop :=
  (∀ (s : State) (n v : Nat), n < 8 → s.open (TBS_PRESET_PRESET n).addr = true → s.tbKind n ≠ 1 → s.rd (TBS_CFG_SRC n) ≠ 7 →
    exec (.preset n v) s = .next (s.after (s.emit 0x030D [n]))) ∧
  (∀ (s : State) (n v : Nat) (old d : Int) (t : State), n < 8 → s.open (TBS_PRESET_PRESET n).addr = true →
    s.tbKind n = 1 ∨ s.rd (TBS_CFG_SRC n) = 7 → old = s.tbPhase16 8 n s.now →
    d = old / lsb16 * lsb16 + phaseDiff v (tc 32 (old / lsb16)) * lsb16 - old →
    t = State.tbJump n (phaseDiff v (tc 32 (old / lsb16)) * lsb16) (s.setTb n
    { s.tb n with pe := old + d, te := s.now, origin := (s.tb n).origin + d, hist := [], sub := (s.tb n).sub.map (fun u => { u with own := u.own + d, floor := u.floor.map (fun x => x + d) }) })
    → exec (.preset n v) s = .next (s.after (t.setTb n
      { t.tb n with limit := if tbMovingSt (t.tbSt n) then t.tbNextEdge n else none }))) ∧
  (∀ (v : Nat) (old : Int), v < 2 ^ 32 → tc 32 (old / lsb16 + phaseDiff v (tc 32 (old / lsb16))) = v) ∧
  (∀ (s : State) (v : Nat), s.open TBS_SNAP_SNAP.addr = true → exec (.snap v) s = .next (s.after
      ({ s with tbs := { s.tbs with snap := (List.range 8).map (fun n => (n, s.tbSnapOf n)) } }))) ∧
  (∀ (s : State) (n : Nat), n < 8 → s.windowOn (TBS_PHASE_PHASE n).addr = true → tabFind s.tbs.snap n = none →
    exec (.phaseRead n) s = .next (s.after
    ({ s.tbLatch n (s.tbSnapOf n) with bus := { done := true, data := s.tbPhase n } }))) ∧
  (∀ (s : State) (n : Nat) (x : TbSnap), n < 8 → s.windowOn (TBS_PHASE_PHASE n).addr = true → tabFind s.tbs.snap n = some x →
    exec (.phaseRead n) s = .next (s.after
    ({ State.tbLatch n x { s with tbs := { s.tbs with snap := tabDel s.tbs.snap n } } with bus := { done := true, data := x.phase } })))

/-- DQSET, DQCLR, DQ_TRIP, SUPPLY_LIMIT, SUPPLY_RETRY, ANALOG_FLAG and DI_LEVEL_CHANGE complete, with what each does. DQSET,
  with the register open to the host, turns on the outputs of its set bits that are not in fault, and does nothing while
  Tocsin holds the outputs; DQCLR clears the faults of the outputs of its set bits and turns them off. An output put to a
  level shows it, unless a happening of higher rank has had its effect in the same tick. A current above 0.8 A at an output
  that is on, or was before the happenings of the tick, and in no fault, trips it with EV 0x0031 and a report to Tocsin; what
  trips reads off and in fault. A supply at 125 % of its rating is shown at its limit, and after 10 ms is off with EV 0x0030
  and the time kept. A supply that is off is retried 1 s after it went off or was last retried: below its rating for 100 ms
  its flags clear, else the time of the retry is kept. A conversion of an analog input is stored with its OPEN and RANGE
  flags, each of them, where it is new, with EV 0x0033. A digital input takes a level that it has held for its filter time,
  counted from the time at which the filter was last changed. -/
def Obligations.InputsOutputsAndSuppliesAct : Prop :=
  (∀ (s : State) (v : Nat), s.open SYS_DQSET_BITS.addr = true → s.dqHeld = false →
    exec (.dqset v) s = .next (s.after (s.each (List.range 16) (fun n s => if bit v n && !s.dqFault n then s.dqPut n 3 true
    else s)))) ∧
  (∀ (s : State) (v : Nat), s.open SYS_DQSET_BITS.addr = true → s.dqHeld = true → exec (.dqset v) s = .next (s.after (s))) ∧
  (∀ (s : State) (v : Nat), s.open SYS_DQCLR_BITS.addr = true →
    exec (.dqclr v) s = .next (s.after (s.each (List.range 16) (fun n s => if bit v n then (s.wr SYS_DQSTAT_FLT (clrBit (s.rd
    SYS_DQSTAT_FLT) n)).dqPut n 3 false else s)))) ∧
  (∀ (s : State) (n r : Nat) (on : Bool), n < 16 → s.dqMay n r = true → bit ((s.dqPut n r on).rd SYS_DQSTAT_LEVEL) n = on) ∧
  (∀ (s : State) (n r : Nat) (on : Bool), s.dqMay n r = false → s.dqPut n r on = s) ∧
  (∀ (s : State) (n i : Nat), n < 16 → 800 < i → bit (s.rd SYS_DQSTAT_LEVEL) n = true ∨ bit s.dqBefore n = true →
    s.dqFault n = false → s.domOn 1 = true →
    exec (.dqTrip n i) s = .next (s.after (((s.dqTrip n).emit 0x0031 [n, i]).toTocsin))) ∧
  (∀ (s : State) (n : Nat), n < 16 → s.dqMay n 1 = true → bit ((s.dqTrip n).rd SYS_DQSTAT_LEVEL) n = false ∧
    bit ((s.dqTrip n).rd SYS_DQSTAT_FLT) n = true) ∧
  (∀ (s : State) (b i ms : Nat), b < 10 → s.domOn 1 = true → 125 * vsRated b ≤ 100 * i →
    bit (s.rd SYS_VSSTAT_OFF) b = false → ms < 10 →
    exec (.supplyLimit b i ms) s = .next (s.after (s.wr SYS_VSSTAT_LIM (setBit (s.rd SYS_VSSTAT_LIM) b)))) ∧
  (∀ (s : State) (b i ms : Nat), b < 10 → s.domOn 1 = true → 125 * vsRated b ≤ 100 * i →
    bit (s.rd SYS_VSSTAT_OFF) b = false → 10 ≤ ms → exec (.supplyLimit b i ms) s = .next (s.after (State.emit 0x0030 [b, i]
      { (s.wr SYS_VSSTAT_LIM (setBit (s.rd SYS_VSSTAT_LIM) b)).wr SYS_VSSTAT_OFF (setBit ((s.wr SYS_VSSTAT_LIM (setBit (s.rd SYS_VSSTAT_LIM) b)).rd SYS_VSSTAT_OFF) b) with io := { s.io with vsAt := tabSet 0 s.io.vsAt b s.now } }))) ∧
  (∀ (s : State) (b i ms : Nat), b < 10 → s.domOn 1 = true → bit (s.rd SYS_VSSTAT_OFF) b = true →
    tabGet 0 s.io.vsAt b + 1000000000 ≤ s.now → i < vsRated b → 100 ≤ ms →
    exec (.supplyRetry b i ms) s = .next (s.after
    ({ (s.wr SYS_VSSTAT_LIM (clrBit (s.rd SYS_VSSTAT_LIM) b)).wr SYS_VSSTAT_OFF (clrBit (s.rd SYS_VSSTAT_OFF) b) with io := { s.io with vsAt := tabSet 0 s.io.vsAt b 0 } }))) ∧
  (∀ (s : State) (b i ms : Nat), b < 10 → s.domOn 1 = true → bit (s.rd SYS_VSSTAT_OFF) b = true →
    tabGet 0 s.io.vsAt b + 1000000000 ≤ s.now → vsRated b ≤ i ∨ ms < 100 →
    exec (.supplyRetry b i ms) s = .next (s.after ({ s with io := { s.io with vsAt := tabSet 0 s.io.vsAt b s.now } }))) ∧
  (∀ (s : State) (n : Nat) (val : Int), n < 16 → s.domOn 1 = true →
    exec (.analogFlag n val) s = .next (s.after (((((s.wr (SYS_AIN_VAL n) (s.ainStored n (s.refCorr val))).wr (SYS_AIN_OPEN
    n) (b2n (s.ainFlags n (s.refCorr val)).1)).wr (SYS_AIN_RANGE n) (b2n (s.ainFlags n (s.refCorr val)).2)).when ((s.ainFlags
    n (s.refCorr val)).1 && !s.on (SYS_AIN_OPEN n)) (State.emit 0x0033 [n, 1])).when ((s.ainFlags n (s.refCorr val)).2 &&
    !s.on (SYS_AIN_RANGE n)) (State.emit 0x0033 [n, 2])))) ∧
  (∀ (s : State) (n held : Nat) (high : Bool), n < 32 → s.domOn 1 = true → tabGet 0 s.io.filtAt n = 0 → s.diFilter n ≤ held →
    exec (.diLevelChange n high held) s = .next (s.after (s.wr SYS_DILVL_LEVEL (putBit (s.rd SYS_DILVL_LEVEL) n high)))) ∧
  (∀ (s : State) (n held : Nat) (high : Bool), n < 32 → s.domOn 1 = true → tabGet 0 s.io.filtAt n ≠ 0 → s.diFilter n ≤ held →
    s.diFilter n ≤ s.now + 1 - tabGet 0 s.io.filtAt n →
    exec (.diLevelChange n high held) s = .next (s.after (s.wr SYS_DILVL_LEVEL (putBit (s.rd SYS_DILVL_LEVEL) n high))))

/-- A post takes the lowest FREE slot into PROV, or is answered with its result code and takes none. For every state, host
  port and command: a post whose checks all pass takes the lowest FREE slot to PROV with the descriptor (under a fence it
  retires FENCED at once, R82, the model's reading, assumption log, entry 85), and the port answers DONE with the handle
  (generation × 256 + slot) and is no longer BUSY; a post that fails a check leaves every slot as it was and answers its
  result code. -/
def Obligations.PostedEventEntersProvOrIsAnswered : Prop :=
  (∀ (s : State) (p : Nat) (c : CarCmd), p < 4 → s.carPostCheck p c.desc = 0 → (s.slot s.carFree).gen < 256 →
    s.isFenced 0x02 = false → ((s.carPost p c).slot s.carFree).st = 1 ∧ ((s.carPost p c).slot s.carFree).desc = c.desc ∧
    ((s.carPost p c).slot s.carFree).port = p ∧ (s.carPost p c).rd (CAR_HPRES_BUSY p) = 0 ∧
    (s.carPost p c).rd (CAR_HPRES_STATUS p) = 0 ∧
    (s.carPost p c).rd (CAR_HPRES_HANDLE p) = (s.slot s.carFree).gen * 256 + s.carFree ∧
    (∀ k, k ≠ s.carFree → (s.carPost p c).slot k = s.slot k)) ∧
  (∀ (s : State) (p : Nat) (c : CarCmd), p < 4 → s.carPostCheck p c.desc = 0 → s.isFenced 0x02 = true →
    ((s.carPost p c).slot s.carFree).st = 3 ∧ (∀ k, k ≠ s.carFree → (s.carPost p c).slot k = s.slot k)) ∧
  (∀ (s : State) (p : Nat) (c : CarCmd), p < 4 → s.carPostCheck p c.desc ≠ 0 → (∀ k, (s.carPost p c).slot k = s.slot k) ∧
    (s.carPost p c).rd (CAR_HPRES_BUSY p) = 0 ∧ (s.carPost p c).rd (CAR_HPRES_STATUS p) = s.carPostCheck p c.desc % 16)

/-- A retired event holds its slot until its entry is written; the write frees the slot with the next generation. For every
  state: retiring a slot makes it HELD and adds one entry to those that wait; with space in the ring, writing the next entry
  moves the write index by one, puts its words at that place of the ring, and a final entry frees its slot with the next
  generation; with the ring full nothing is written. -/
def Obligations.RetirementKeepsSlotsUntilWritten : Prop :=
  (∀ (s : State) (k status : Nat) (collide : Bool), ((s.carRetire k status collide).slot k).st = 3 ∧
    (s.carRetire k status collide).car.wait.length = s.car.wait.length + 1 ∧
    (∀ j, j ≠ k → (s.carRetire k status collide).slot j = s.slot j)) ∧
  (∀ (s : State) (r : CarRet) (q : List CarRet), s.car.wait = r :: q → s.carUnread < 512 → s.rd CAR_RETWR_WR < 1024 →
    s.carWriteEntry.car.wait = q ∧ tabFind s.carWriteEntry.car.ring (s.rd CAR_RETWR_WR % 512) = some r.words ∧
    s.carWriteEntry.rd CAR_RETWR_WR = (s.rd CAR_RETWR_WR + 1) % 1024 ∧
    (r.final = true → s.carWriteEntry.slot r.slot = { gen := ((s.slot r.slot).gen + 1) % 256 })) ∧
  (∀ (s : State), s.carUnread = 512 → s.carWriteEntry = s)

/-- POST, RETIME, REVOKE, FLUSH, PREDICTION_ROUND, EVENT_FIRE, RETIREMENT_WRITE, CAR_RETRD_WRITE: what Carillon's commands
  do. A strobe of a port that is not BUSY makes it BUSY with its command and descriptor until the next round; one of a BUSY
  port is dropped with EV 0x020B. A round runs at a multiple of 1,000 ns, once. The events that are due fire while RT is on,
  apart from those that the second comparator found wrong. The next retirement entry is written. CAR_RETRD moves within the
  span from RD to WR; another value is ignored with EV 0x020B, whose first parameter is a free value. -/
def Obligations.CarillonCommandsAct : Prop :=
  (∀ (s : State) (p : Nat), p < 4 → s.open (CAR_HPPOST_GO p).addr = true → s.on (CAR_HPRES_BUSY p) = false →
    exec (.post p) s = .next (s.after
    ({ (s.wr (CAR_HPRES_BUSY p) 1).wr (CAR_HPRES_DROP p) 0 with car := { s.car with ports := tabSet none s.car.ports p (some ⟨0, s.carDescOf p, s.rd (CAR_HPHDL_HANDLE p)⟩) } }))) ∧
  (∀ (s : State) (p : Nat), p < 4 → s.open (CAR_HPRETIME_GO p).addr = true → s.on (CAR_HPRES_BUSY p) = false →
    exec (.retime p) s = .next (s.after
    ({ (s.wr (CAR_HPRES_BUSY p) 1).wr (CAR_HPRES_DROP p) 0 with car := { s.car with ports := tabSet none s.car.ports p (some ⟨1, s.carDescOf p, s.rd (CAR_HPHDL_HANDLE p)⟩) } }))) ∧
  (∀ (s : State) (p : Nat), p < 4 → s.open (CAR_HPREVOKE_GO p).addr = true → s.on (CAR_HPRES_BUSY p) = false →
    exec (.revoke p) s = .next (s.after
    ({ (s.wr (CAR_HPRES_BUSY p) 1).wr (CAR_HPRES_DROP p) 0 with car := { s.car with ports := tabSet none s.car.ports p (some ⟨2, s.carDescOf p, s.rd (CAR_HPHDL_HANDLE p)⟩) } }))) ∧
  (∀ (s : State) (p : Nat), p < 4 → s.open (CAR_HPFLUSH_GO p).addr = true → s.on (CAR_HPRES_BUSY p) = false →
    exec (.flush p) s = .next (s.after
    ({ (s.wr (CAR_HPRES_BUSY p) 1).wr (CAR_HPRES_DROP p) 0 with car := { s.car with ports := tabSet none s.car.ports p (some ⟨3, s.carDescOf p, s.rd (CAR_HPHDL_HANDLE p)⟩) } }))) ∧
  (∀ (s : State) (p : Nat), p < 4 → s.open (CAR_HPPOST_GO p).addr = true → s.on (CAR_HPRES_BUSY p) = true →
    exec (.post p) s = .next (s.after (((s.wr (CAR_HPRES_DROP p) 1).setFlag CAR_INTSTAT_DROP).emit 0x020B [p, addrOff
    (CAR_HPPOST_GO p).addr]))) ∧
  (∀ (s : State), s.blockOn 0x02 = true → s.now % 1000 = 0 → s.car.round ≠ s.now + 1 →
    exec .predictionRound s = .next (s.after (s.carRound))) ∧
  (∀ (s : State) (bad : List Nat), s.blockOn 0x02 = true →
    exec (.eventFire bad) s = .next (s.after ((s.carFireAll bad).each (bad.filter (· < 256)) State.carMismatch))) ∧
  (∀ (s : State), s.blockOn 0x02 = true → exec .retirementWrite s = .next (s.after (s.carWriteEntry))) ∧
  (∀ (s : State) (v : Nat), s.open CAR_RETRD_RD.addr = true → (v % 1024 + 1024 - s.rd CAR_RETRD_RD) % 1024 ≤ s.carUnread →
    exec (.carRetrdWrite v) s = .next (s.after (s.wr CAR_RETRD_RD v))) ∧
  (∀ (s : State) (v : Nat), s.open CAR_RETRD_RD.addr = true → s.carUnread < (v % 1024 + 1024 - s.rd CAR_RETRD_RD) % 1024 →
    exec (.carRetrdWrite v) s = .next (s.after ((s.takeFree 32).2.emit 0x020B [(s.takeFree 32).1, addrOff
    CAR_RETRD_RD.addr])))

/-- TARE, CALSTART, CALSTOP, NLRESET, NLSNAP, MOISTURE_AVERAGE, MOISTURE_STALE, HISTORY_STEP, YIELD_RECORD,
  HSN_RING_READ_WRITE. TARE begins the sum over the next 16 paddle periods with TAREBSY set; CALSTART clears the calibration
  sums and starts the run, CALSTOP freezes them with EV 0x0503; NLRESET clears the learned noise of the bands in its mask;
  NLSNAP copies the live table to the staged bank of P.05.00.300; the moisture average is taken at multiples of 100 ms and is
  stale after 60 s without a reading; the history steps every 100 ms; an interval's record is due 1 ms after its end; a read
  index moves within the unread span, else EV 0x0510. -/
def Obligations.HarvestSensingCommandsAct : Prop :=
  (∀ (s : State), s.open HSN_CMD_CMD.addr = true → s.hsnYieldWin = none →
    exec .tare s = .next (s.after (State.wr HSN_STAT_TAREBSY 1
    { s with hsn := { s.hsn with tareSum := 0, tareN := 0, tareLeft := 16, tareOn := false } }))) ∧
  (∀ (s : State), s.open HSN_CMD_CMD.addr = true → exec .calstart s = .next (s.after
      (((((({ s with hsn := { s.hsn with cal := 0 } }.wr HSN_CALSUMLO_SUM 0).wr HSN_CALSUMHI_SUM 0).wr HSN_CALPAD_PAD 0).wr
      HSN_CALMASS_MASS 0).wr HSN_STAT_CALRUN 1)))) ∧
  (∀ (s : State), s.open HSN_CMD_CMD.addr = true →
    exec .calstop s = .next (s.after ((s.wr HSN_STAT_CALRUN 0).emit 0x0503 [s.rd HSN_CALPAD_PAD, s.rd HSN_CALMASS_MASS]))) ∧
  (∀ (s : State) (mask : Nat), s.open HSN_CMD_CMD.addr = true →
    exec (.nlreset mask) s = .next (s.after
    ({ s with hsn := { s.hsn with noise := s.hsn.noise.filter (fun e => !bit mask (e.1 / 2048)), told := (List.range 4).foldl (fun t b => if bit mask b then clrBit t b else t) s.hsn.told } }))) ∧
  (∀ (s : State), s.open HSN_CMD_CMD.addr = true → exec .nlsnap s = .next (s.after
      ({ s with banks := tabPut s.banks 0x00500300 ((List.range 8192).flatMap (fun k => wordBytes (s.hsnNoiseWord k))) }))) ∧
  (∀ (s : State) (cap : Nat) (tg : Int), s.live 0x05 = true → s.now % 100000000 = 0 → s.on HSN_CTL_MOIEN = true →
    exec (.moistureAverage cap tg) s = .next (s.after ((s.hsnSync.hsnAverage cap tg).applyDue 0x05 2))) ∧
  (∀ (s : State), s.live 0x05 = true → s.on HSN_MOIST_STALE = false → s.hsn.readAt + 60000000000 ≤ s.now →
    exec .moistureStale s = .next (s.after (((s.hsnSync.wr HSN_MOIST_STALE 1).setFlag HSN_INTSTAT_MSTALE).emit 0x050A
    [(s.hsnSync.now - s.hsnSync.hsn.readAt) / 1000000000]))) ∧
  (∀ (s : State), s.live 0x05 = true → s.now % 100000000 = 0 → exec .historyStep s = .next (s.after (s.hsnStep))) ∧
  (∀ (s : State) (iv : HsnIval), s.live 0x05 = true → s.hsnSync.hsn.due = some iv → iv.te + 1000000 ≤ s.hsnSync.now →
    s.hsnSync.on HSN_CTL_RECEN = true → exec .yieldRecord s = .next (s.after (s.hsnSync.hsnRecord iv false))) ∧
  (∀ (s : State) (v : Nat), s.open HSN_WRRD_IDX.addr = true → (v % 128 + 128 - s.rd HSN_WRRD_IDX) % 128 ≤ s.hsnUnreadW →
    exec (.hsnRingReadWrite 0 v) s = .next (s.after (s.wr HSN_WRRD_IDX v))) ∧
  (∀ (s : State) (v : Nat), s.open HSN_WRRD_IDX.addr = true → s.hsnUnreadW < (v % 128 + 128 - s.rd HSN_WRRD_IDX) % 128 →
    exec (.hsnRingReadWrite 0 v) s = .next (s.after (s.emit 0x0510 [addrOff HSN_WRRD_IDX.addr]))) ∧
  (∀ (s : State) (v : Nat), s.open HSN_YRRD_IDX.addr = true → (v % 256 + 256 - s.rd HSN_YRRD_IDX) % 256 ≤ s.hsnUnreadY →
    exec (.hsnRingReadWrite 1 v) s = .next (s.after (s.wr HSN_YRRD_IDX v)))

/-- WINDOW_MAXLEN, TIME_DOMAIN_SLOT, LOSS_SENSOR_FAULT, PLATE_BRIDGE_FAULT, SAMPLE_CONVERSION: windows, slots and sensors of
  HSN. A window open for MAXLEN is closed with cause 4; a 50 ms slot ends at multiples of 50 ms in the time domain; a loss
  channel whose bias leaves 2–18 V is in fault, flags its open windows and emits EV 0x050B, and recovers within; the plate's
  bridge in fault sets PLATEFLT with EV 0x050C; a sample of the plate, corrected and held to 16 bits, enters the yield
  measurement, and one of an enabled loss channel enters its detection with its clipping. -/
def Obligations.HarvestSensingWindowsAndSensorsAct : Prop :=
  (∀ (s : State) (n : Nat), s.live 0x05 = true → n < 16 → (s.hsnWin n).isOpen = true →
    s.rd (HSN_WCFG_MAXLEN n) * 50000 ≤ s.hsnOpenFor n → exec (.windowMaxlen n) s = .next (s.after (s.hsnForceClose n 4))) ∧
  (∀ (s : State), s.live 0x05 = true → s.hsn.tdom = true → s.now % 50000000 = 0 →
    exec .timeDomainSlot s = .next (s.after (s.hsnSync.hsnSlotEnd))) ∧
  (∀ (s : State) (c mv : Nat), s.blockOn 0x05 = true → c < 8 → 2000 ≤ mv → mv ≤ 18000 → bit (s.rd HSN_STAT_LFLT) c = true →
    exec (.lossSensorFault c mv) s = .next (s.after (s.wr HSN_STAT_LFLT (clrBit (s.rd HSN_STAT_LFLT) c)))) ∧
  (∀ (s : State) (c mv : Nat), s.blockOn 0x05 = true → c < 8 → mv < 2000 → bit (s.rd HSN_STAT_LFLT) c = false →
    exec (.lossSensorFault c mv) s = .next (s.after (((s.hsnChFault c).emit 0x050B [c, 2]).toTocsin))) ∧
  (∀ (s : State) (kind : Nat), s.blockOn 0x05 = true → 1 ≤ kind → kind ≤ 2 → s.on HSN_STAT_PLATEFLT = false →
    exec (.plateBridgeFault kind) s = .next (s.after ((s.hsnPlateFault.emit 0x050C [kind]).toTocsin))) ∧
  (∀ (s : State) (x : Int), s.live 0x05 = true → s.hsnActionDue = false → s.hsnSync.on HSN_CTL_YLDEN = true →
    exec (.sampleConversion 8 x) s = .next (s.after (s.hsnSync.hsnPlate (satS 16 (s.hsnSync.refCorr x))))) ∧
  (∀ (s : State) (c : Nat) (x : Int), s.live 0x05 = true → s.hsnActionDue = false → c < 8 →
    s.hsnSync.on HSN_CTL_LOSSEN = true → s.hsnSync.on (HSN_LCFG_EN c) = true →
    exec (.sampleConversion c x) s = .next (s.after ((s.hsnSync.takeFree 16).2.hsnLoss c (sx 16 (s.hsnSync.takeFree 16).1)
    (decide (satS 16 (s.hsnSync.refCorr x * hsnGain (s.hsnSync.rd (HSN_LCFG_PGA c))) ≤ -32768) || decide (32767 ≤ satS 16
    (s.hsnSync.refCorr x * hsnGain (s.hsnSync.rd (HSN_LCFG_PGA c))))))))

/-- PORT_SYNCHRONISED, FRAME_START, FRAME_END, FRAME_TIMEOUT, PIXEL_CLOCK_LOST, PIXEL_CLOCK_RETURN, TRIGGER_MISSED,
  SYNC_ERROR, TRIGGER_PULSE_END. While VIS acts, a port in the state that Table 5.2 names: ARMED goes to IDLE with EV 0x0601;
  from IDLE a frame starts after the port-format group's apply point; from FRAME the frame ends, or FTO after its start is
  closed with the port going to ARMED; a lost pixel clock closes a frame under way and gives NOCLK with EV 0x0606; the
  clock's return gives ARMED; pixels outside a frame are counted in SYNCERR; a trigger not paired within TRIGWIN is missed; a
  trigger pulse ends when it is due. -/
def Obligations.VisionPortsAct : Prop :=
  (∀ (s : State) (p : Nat), s.live 0x06 = true → p < 3 → s.rd (VIS_PSTAT_STATE p) = 1 →
    exec (.portSynchronised p) s = .next (s.after ((s.wr (VIS_PSTAT_STATE p) 2).emit 0x0601 [p]))) ∧
  (∀ (s : State) (p : Nat), s.live 0x06 = true → p < 3 → s.rd (VIS_PSTAT_STATE p) = 2 →
    exec (.frameStart p) s = .next (s.after ((s.applyDue 0x06 p).visStart p))) ∧
  (∀ (s : State) (p : Nat) (lines : List (List Nat)) (f : VisFrame), s.live 0x06 = true → p < 3 →
    s.rd (VIS_PSTAT_STATE p) = 3 → tabFind s.vis.cur p = some f →
    exec (.frameEnd p lines) s = .next (s.after ((s.visFrameEnd p f lines).applyDue 0x06 (8 + p)))) ∧
  (∀ (s : State) (p : Nat) (lines : List (List Nat)) (f : VisFrame), s.live 0x06 = true → p < 3 →
    s.rd (VIS_PSTAT_STATE p) = 3 → tabFind s.vis.cur p = some f → f.ts + s.rd (VIS_PTRIG_FTO p) * 100000 ≤ s.now →
    exec (.frameTimeout p lines) s = .next (s.after (((s.visTimeout p lines).wr (VIS_PSTAT_STATE p) 1).applyDue 0x06 (8 +
    p)))) ∧
  (∀ (s : State) (p : Nat) (lines : List (List Nat)), s.live 0x06 = true → p < 3 →
    s.rd (VIS_PSTAT_STATE p) = 1 ∨ s.rd (VIS_PSTAT_STATE p) = 2 →
    exec (.pixelClockLost p lines) s = .next (s.after ((((s.visTimeout p lines).wr (VIS_PSTAT_STATE p) 4).visFlag
    VIS_PFLAG_NOCLK VIS_INTSTAT_PORTERR p).emit 0x0606 [p]))) ∧
  (∀ (s : State) (p : Nat) (lines : List (List Nat)), s.live 0x06 = true → p < 3 → s.rd (VIS_PSTAT_STATE p) = 3 →
    exec (.pixelClockLost p lines) s = .next (s.after (((((s.visTimeout p lines).wr (VIS_PSTAT_STATE p) 4).visFlag
    VIS_PFLAG_NOCLK VIS_INTSTAT_PORTERR p).emit 0x0606 [p]).applyDue 0x06 (8 + p)))) ∧
  (∀ (s : State) (p : Nat), s.live 0x06 = true → p < 3 → s.rd (VIS_PSTAT_STATE p) = 4 →
    exec (.pixelClockReturn p) s = .next (s.after (s.wr (VIS_PSTAT_STATE p) 1))) ∧
  (∀ (s : State) (p t : Nat), s.live 0x06 = true → tabFind s.vis.trig p = some t →
    t + s.rd (VIS_PTRIG_TRIGWIN p) * 1000 < s.now → exec (.triggerMissed p) s = .next (s.after (s.visMiss p))) ∧
  (∀ (s : State) (p n : Nat), s.live 0x06 = true → p < 3 → s.rd (VIS_PSTAT_STATE p) = 1 ∨ s.rd (VIS_PSTAT_STATE p) = 2 →
    0 < n → exec (.syncError p n) s = .next (s.after ((s.visFlag VIS_PFLAG_SYNCERR VIS_INTSTAT_PORTERR p).emitRateN n 0x0611
      p 1000000000 (fun k => [p, k])))) ∧
  (∀ (s : State) (p t : Nat), s.blockOn 0x06 = true → tabFind s.vis.pulse p = some t → t ≤ s.now →
    exec (.triggerPulseEnd p) s = .next (s.after ({ s with vis := { s.vis with pulse := tabDel s.vis.pulse p } })))

/-- FRAME_QUEUED, PROCESSING_START, PROCESSING_END, QUIET_SLOT_END, RESULT_WRITE, RPLY, FRAME_MEMORY_ERROR,
  VIS_RING_READ_WRITE. The frame that ended first enters the queue 50 ns after its end; a free pipeline takes the next frame
  after its context's apply point; a processing whose time has passed finishes; a quiet slot that is over ends; a result that
  is due leaves the queue and is written or dropped; a replay with good dimensions is queued while none is under way, else EV
  0x060D; an uncorrectable memory error ends the processing; the result read index moves within the unread span. -/
def Obligations.VisionPipelineActs : Prop :=
  (∀ (s : State) (f : VisFrame), s.live 0x06 = true → visNextEnded s.vis.ended = some f → f.fe + 50 ≤ s.now →
    exec .frameQueued s = .next (s.after
    ({ s with vis := { s.vis with ended := s.vis.ended.erase f, queue := s.vis.queue ++ [f] } }))) ∧
  (∀ (s : State) (f : VisFrame), s.live 0x06 = true → s.vis.proc = none → s.vis.quiet = none → s.visNext = some f →
    exec .processingStart s = .next (s.after ((s.applyDue 0x06 (16 + f.port)).visBegin f))) ∧
  (∀ (s : State) (p : VisProc), s.live 0x06 = true → s.vis.proc = some p → p.ends ≤ s.now →
    exec .processingEnd s = .next (s.after (s.visFinish p))) ∧
  (∀ (s : State) (t : Nat), s.live 0x06 = true → s.vis.quiet = some t → t ≤ s.now →
    exec .quietSlotEnd s = .next (s.after ({ s with vis := { s.vis with quiet := none } }.visLevel))) ∧
  (∀ (s : State) (r : VisRes) (q : List VisRes), s.blockOn 0x06 = true → s.vis.results = r :: q → r.due ≤ s.now →
    exec .resultWrite s = .next (s.after ({ s with vis := { s.vis with results := q } }.visWrite r))) ∧
  (∀ (s : State), s.open VIS_RPLY_GO.addr = true → s.vis.replay.isSome = true →
    exec .rply s = .next (s.after (s.emit 0x060D [3, 1]))) ∧
  (∀ (s : State), s.open VIS_RPLY_GO.addr = true → s.vis.replay = none → s.vis.proc = none → s.rd VIS_RFMT_CFA ≤ 4 →
    visBadDim (s.rd VIS_RFMT_W) = false → visBadDim (s.rd VIS_RFMT_H) = false →
    exec .rply s = .next (s.after
    ({ s with vis := { s.vis with replay := some { port := 3, frno := s.vis.replays % 65536, ts := s.now, addr := s.rd VIS_RADR_ADDR * 4096, w := s.rd VIS_RFMT_W, h := s.rd VIS_RFMT_H, cfa := s.rd VIS_RFMT_CFA, fe := s.now, lines := s.rd VIS_RFMT_H }, replays := s.vis.replays + 1 } }))) ∧
  (∀ (s : State) (p : VisProc), s.live 0x06 = true → s.vis.proc = some p →
    exec .frameMemoryError s = .next (s.after (s.visMemErr p))) ∧
  (∀ (s : State) (v : Nat), s.open VIS_RESRD_IDX.addr = true → (v % 128 + 128 - s.rd VIS_RESRD_IDX) % 128 ≤ s.visUnread →
    exec (.visRingReadWrite v) s = .next (s.after (s.wr VIS_RESRD_IDX v)))

/-- TIMER_TRIGGER, SWTRIG, EVALUATION_ISSUE, EVALUATION_OUTPUT, SAMPLE_TIMEOUT, INTERLOCK_SCAN, ACTUATOR_FAULT: the control
  engine's cycle. While CEN acts: the timer of a slot with TRIG = 2 triggers it at OFS past every PERIOD; a write of
  CEN_SWTRIG triggers its slot; the next eligible trigger is issued after the slot's apply point; the one evaluation whose
  time has passed writes its output; STO ms without a trigger in MAN or AUTO holds the slot with NOSAMP, which is reported;
  the interlocks are scanned every 10 µs; a reported actuator fault is told to CEN. -/
def Obligations.ControlEngineEvaluationActs : Prop :=
  (∀ (s : State) (n : Nat), s.live 0x04 = true → n < 96 → s.rd (CEN_LCTL_TRIG n) = 2 →
    s.now % (s.rd (CEN_LTIM_PERIOD n) * 1000) = s.rd (CEN_LTIM_OFS n) * 1000 →
    exec (.timerTrigger n) s = .next (s.after (s.cenTrigger n s.now))) ∧
  (∀ (s : State) (n : Nat), s.open CEN_SWTRIG_SLOT.addr = true → n < 96 →
    exec (.swtrig n) s = .next (s.after (s.cenTrigger n s.now))) ∧
  (∀ (s : State) (p : CenPend) (t : Nat), s.live 0x04 = true → s.cenPick = some (p, t) →
    exec .evaluationIssue s = .next (s.after (((s.cenIssued p.slot t).applyDue 0x04 p.slot).cenCompute p t))) ∧
  (∀ (s : State) (f : CenFlight), s.live 0x04 = true → s.cen.flight.filter (fun x => decide (x.out24 ≤ 24 * s.now)) = [f] →
    exec .evaluationOutput s = .next (s.after (s.cenOutput f))) ∧
  (∀ (s : State) (n : Nat), s.live 0x04 = true → n < 96 → s.rd (CEN_LSTAT_STATE n) = 1 ∨ s.rd (CEN_LSTAT_STATE n) = 2 →
    s.rd (CEN_LSUP_STO n) ≠ 0 → (s.cslot n).seen + s.rd (CEN_LSUP_STO n) * 1000000 ≤ s.now →
    exec (.sampleTimeout n) s = .next (s.after ((((s.setFlag (CEN_LFLAG_NOSAMP n)).setFlag CEN_INTSTAT_NOSAMP).cenHold n
    1).toTocsin))) ∧
  (∀ (s : State), s.live 0x04 = true → s.now % 10000 = 0 →
    exec .interlockScan s = .next (s.after ((s.applyDue 0x04 0xF0).cenScan))) ∧
  (∀ (s : State) (lsw : Bool) (ch code : Nat), code ≠ 0 →
    exec (.actuatorFault lsw ch code) s = .next (s.after (s.signal (.actFault lsw ch code))))

/-- ARM, DISARM, SLOT_OFF, SLOT_MAN, SLOT_AUTO, RESET_INTEGRATOR, RELEASE, XFB_WRITE, CEN_RING_READ_WRITE: the host's
  commands to CEN. With the registers open to the host: ARM and DISARM act on a channel; SLOT_OFF puts a slot in OFF;
  SLOT_MAN and SLOT_AUTO put a slot that is in OFF, or in the other of the two, and whose channel is IDLE, in MAN and AUTO;
  RESET_INTEGRATOR sets i to 0; RELEASE takes an unbound slot out of HOLD with FBINV or FENCE; XFB_WRITE stores the value
  with its module time; CEN_TRRD moves within the unread span. -/
def Obligations.ControlEngineHostCommandsAct : Prop :=
  (∀ (s : State) (k : Nat), k < 48 → s.open (CEN_FCMD_CMD k).addr = true → exec (.arm k) s = .next (s.after (s.cenArm k))) ∧
  (∀ (s : State) (k : Nat), k < 48 → s.open (CEN_FCMD_CMD k).addr = true →
    exec (.disarm k) s = .next (s.after (s.cenDisarm k))) ∧
  (∀ (s : State) (n : Nat), n < 96 → s.open (CEN_LCMD_CMD n).addr = true →
    exec (.slotOff n) s = .next (s.after (s.cenEnter n 0 none))) ∧
  (∀ (s : State) (n : Nat), n < 96 → s.open (CEN_LCMD_CMD n).addr = true → s.cenTaken n = false →
    s.rd (CEN_LSTAT_STATE n) = 0 ∨ s.rd (CEN_LSTAT_STATE n) = 2 →
    exec (.slotMan n) s = .next (s.after (s.cenEnter n 1 none))) ∧
  (∀ (s : State) (n : Nat), n < 96 → s.open (CEN_LCMD_CMD n).addr = true → s.cenTaken n = false →
    s.rd (CEN_LSTAT_STATE n) = 0 ∨ s.rd (CEN_LSTAT_STATE n) = 1 →
    exec (.slotAuto n) s = .next (s.after (s.cenEnter n 2 none))) ∧
  (∀ (s : State) (n : Nat), n < 96 → s.open (CEN_LCMD_CMD n).addr = true → s.cenTaken n = true →
    exec (.slotAuto n) s = .next (s.after (s))) ∧
  (∀ (s : State) (n : Nat), n < 96 → s.open (CEN_LCMD_CMD n).addr = true →
    exec (.resetIntegrator n) s = .next (s.after (s.setCslot n { s.cslot n with i := 0 }))) ∧
  (∀ (s : State) (n : Nat), n < 96 → s.open (CEN_LCMD_CMD n).addr = true → s.rd (CEN_LSTAT_STATE n) = 3 →
    s.cenChanOf n = none → s.rd (CEN_LSTAT_CAUSE n) = 2 ∨ s.rd (CEN_LSTAT_CAUSE n) = 5 →
    exec (.release n) s = .next (s.after (s.cenUnhold n))) ∧
  (∀ (s : State) (n v : Nat), n < 16 → s.open (CEN_XFB_RAW n).addr = true →
    exec (.xfbWrite n v) s = .next (s.after ({ s with cen := { s.cen with xfb := tabPut s.cen.xfb n (s.now + 1) } }.wr
    (CEN_XFB_RAW n) v))) ∧
  (∀ (s : State) (v : Nat), s.open CEN_TRRD_IDX.addr = true → (v % 512 + 512 - s.rd CEN_TRRD_IDX) % 512 ≤ s.cenUnread →
    exec (.cenRingReadWrite v) s = .next (s.after (s.wr CEN_TRRD_IDX v))) ∧
  (∀ (s : State) (v : Nat), s.open CEN_TRRD_IDX.addr = true → s.cenUnread < (v % 512 + 512 - s.rd CEN_TRRD_IDX) % 512 →
    exec (.cenRingReadWrite v) s = .next (s.after ((s.takeFree 8).2.emit 0x040D [(s.takeFree 8).1, addrOff
    CEN_TRRD_IDX.addr])))

/-- PLAN, CUT_WIDTH_UPDATE, HOLD_ENTER, HOLD_RELEASE, REPLAN, ALLOFF, CLRCOV, ROWCLR, DBASE_SAMPLE: section and row control.
  While SEC acts and a plan is asked for and may start, PLAN applies the waiting groups and starts it; CUTW is updated every
  10 ms; a cause in RUN gives HOLD with that cause; 500 ms without a cause takes HOLD to WAIT; REPLAN asks for a plan; ALLOFF
  carries out step 2 of R203; CLRCOV clears the coverage map in OFF and WAIT and answers EV 0x0908 otherwise; ROWCLR takes a
  row from FAULT to OFF; the distance base is sampled every 100 µs. -/
def Obligations.SectionControlCommandsAct : Prop :=
  (∀ (s : State), s.live 0x09 = true → s.secMayPlan = true → s.secAsked = true → (s.applyDue 0x09 0).secMayStart = true →
    exec .plan s = .next (s.after ((s.applyDue 0x09 0).secStart))) ∧
  (∀ (s : State), s.blockOn 0x09 = true → s.now % 10000000 = 0 → exec .cutWidthUpdate s = .next (s.after (s.secCut))) ∧
  (∀ (s : State), s.blockOn 0x09 = true → s.rd SEC_STAT_STATE = 2 → s.secCause ≠ 0 →
    exec .holdEnter s = .next (s.after (s.secHold s.secCause true))) ∧
  (∀ (s : State), s.blockOn 0x09 = true → s.rd SEC_STAT_STATE = 3 → s.secCause = 0 → s.sec.causeAt + 500000000 ≤ s.now →
    exec .holdRelease s = .next (s.after (s.wr SEC_STAT_STATE 1))) ∧
  (∀ (s : State), s.open SEC_CMD_CMD.addr = true →
    exec .replan s = .next (s.after ({ s with sec := { s.sec with replan := true } }))) ∧
  (∀ (s : State), s.open SEC_CMD_CMD.addr = true → exec .alloff s = .next (s.after (s.secAllOff))) ∧
  (∀ (s : State), s.open SEC_CMD_CMD.addr = true → s.rd SEC_STAT_STATE = 0 ∨ s.rd SEC_STAT_STATE = 1 →
    exec .clrcov s = .next (s.after (s.secClear))) ∧
  (∀ (s : State), s.open SEC_CMD_CMD.addr = true → s.rd SEC_STAT_STATE = 2 ∨ s.rd SEC_STAT_STATE = 3 →
    exec .clrcov s = .next (s.after (s.emit 0x0908 [3, s.rd SEC_STAT_STATE]))) ∧
  (∀ (s : State) (row : Nat), s.open SEC_CMD_CMD.addr = true → row < 512 → s.rd (SEC_RCSTAT_STATE row) = 3 →
    exec (.rowclr row) s = .next (s.after (s.wr (SEC_RCSTAT_STATE row) 1))) ∧
  (∀ (s : State), s.blockOn 0x09 = true → s.now % 100000 = 0 → exec .dbaseSample s = .next (s.after (s.secSample)))

/-- MEASUREMENT_EPOCH, SIGNAL_DETECTED, PHASE_LOCK, PULLIN_TIMEOUT, TRACK_LOSS, REACQ_TIMEOUT, GNS_RING_READ_WRITE, SAVE,
  CLEAR_RETENTION, COLD_RESTART. While GNS is on and its receiver enabled, an epoch at a whole multiple of the epoch period
  applies the groups that wait for it (the Heading group on a full second) and is taken; the channel states move as Table
  10.2 says, on its times; a ring read index inside the span is taken and one outside it answers EV 0x070E; retention is
  saved when LOCKED, and cleared; COLD_RESTART switches the receiver off and starts it without retained data. -/
def Obligations.ReceiverChannelsAndEpochsAct : Prop :=
  (∀ (s : State) (sats : List GnsSat) (meas : List GnsMeas) (e : GnsEpoch), s.blockOn 0x07 = true → e.tow % s.gnsPeriod = 0 →
    e.tow % 1000000000 ≠ 0 → (s.applyDue 0x07 0).on GNS_CTL_EN = true →
    exec (.measurementEpoch sats meas e) s = .next (s.after ((s.applyDue 0x07 0).gnsEpoch sats meas e))) ∧
  (∀ (s : State) (sats : List GnsSat) (meas : List GnsMeas) (e : GnsEpoch), s.blockOn 0x07 = true → e.tow % s.gnsPeriod = 0 →
    e.tow % 1000000000 = 0 → ((s.applyDue 0x07 0).applyDue 0x07 2).on GNS_CTL_EN = true →
    exec (.measurementEpoch sats meas e) s = .next (s.after (((s.applyDue 0x07 0).applyDue 0x07 2).gnsEpoch sats meas e))) ∧
  (∀ (s : State) (c : Nat), s.blockOn 0x07 = true → c < 184 → s.rd (GNS_CHSTAT_STATE c) = 1 ∨ s.rd (GNS_CHSTAT_STATE c) = 4 →
    exec (.signalDetected c) s = .next (s.after (s.gnsEnter c 2))) ∧
  (∀ (s : State) (c : Nat), s.blockOn 0x07 = true → c < 184 → s.rd (GNS_CHSTAT_STATE c) = 2 →
    exec (.phaseLock c) s = .next (s.after (s.gnsEnter c 3))) ∧
  (∀ (s : State) (c : Nat), s.blockOn 0x07 = true → c < 184 → s.rd (GNS_CHSTAT_STATE c) = 2 →
    (s.gch c).since + 2000000000 ≤ s.now → exec (.pullinTimeout c) s = .next (s.after (s.gnsEnter c 1))) ∧
  (∀ (s : State) (c cn0 ms : Nat), s.blockOn 0x07 = true → c < 184 → s.rd (GNS_CHSTAT_STATE c) = 3 → cn0 < 80 ∨ 200 ≤ ms →
    exec (.trackLoss c cn0 ms) s = .next (s.after (s.gnsEnter c 4))) ∧
  (∀ (s : State) (c : Nat), s.blockOn 0x07 = true → c < 184 → s.rd (GNS_CHSTAT_STATE c) = 4 →
    (s.gch c).since + 10000000000 ≤ s.now → exec (.reacqTimeout c) s = .next (s.after (s.gnsEnter c 1))) ∧
  (∀ (s : State) (v : Nat), s.open GNS_EPRD_IDX.addr = true →
    (v % 16 + 16 - s.rd GNS_EPRD_IDX) % 16 ≤ (s.rd GNS_EPWR_IDX + 16 - s.rd GNS_EPRD_IDX) % 16 →
    exec (.gnsRingReadWrite v) s = .next (s.after (s.wr GNS_EPRD_IDX (v % 16)))) ∧
  (∀ (s : State) (v : Nat), s.open GNS_EPRD_IDX.addr = true →
    (s.rd GNS_EPWR_IDX + 16 - s.rd GNS_EPRD_IDX) % 16 < (v % 16 + 16 - s.rd GNS_EPRD_IDX) % 16 →
    exec (.gnsRingReadWrite v) s = .next (s.after (s.emit 0x070E [addrOff GNS_EPRD_IDX.addr]))) ∧
  (∀ (s : State), s.blockOn 0x07 = true → s.rd GNS_STAT_TSTATE = 1 → s.gns.savedAt + 600000000000 ≤ s.now →
    exec .retentionSave s = .next (s.after (s.gnsRetain))) ∧
  (∀ (s : State), s.open GNS_CMD_CMD.addr = true → s.rd GNS_STAT_TSTATE = 1 → exec .save s = .next (s.after (s.gnsRetain))) ∧
  (∀ (s : State), s.open GNS_CMD_CMD.addr = true → s.rd GNS_STAT_TSTATE ≠ 1 → exec .save s = .next (s.after (s))) ∧
  (∀ (s : State), s.open GNS_CMD_CMD.addr = true → exec .clearRetention s = .next (s.after ({ s with ret := {} }))) ∧
  (∀ (s : State), s.open GNS_CMD_CMD.addr = true → exec .coldRestart s = .next (s.after (s.gnsDisable.gnsStart 0)))

/-- TP0_PULSE, TP1_PULSE, TIMEQ_WRITE, TQWK_READ, TIME_SOLUTION, DOLDRUMS_ENTRY, TIME_PULSE_END, ANTENNA_OPEN / SHORT /
  RETRY, INTERFERENCE, TCXO_FAULT. While GNS is on: TP0 pulses at the instant of its message, with which the Time-pulse group
  committed before the message applies, TP1 on its grid, each ending after its width; the message of the next pulse is
  written once, within 10 ms of the pulse before, by the Time-pulse group as it will stand at that pulse, and the group
  applies at once where no pulse is to come; a read of TQWK latches; a valid time solution is taken, and 1 s without one
  enters DOLDRUMS; antenna open, short and retry set and clear the antenna's fault with EV 0x0706; a band leaving its window
  sets INTF with EV 0x0707; a TCXO beyond 10 ppm stops the pulses with EV 0x0708; each of these faults is reported to Tocsin.
  -/
def Obligations.TimePulseAndAntennasAct : Prop :=
  (∀ (s : State) (m : TimeqMsg), s.blockOn 0x07 = true → s.gns.next = some m → m.due s.now = true →
    s.on GNS_STAT_TCXOFLT = false → exec .tp0Pulse s = .next (s.after ((s.applyBy 0x07 1 m.wrote).gnsPulse m))) ∧
  (∀ (s : State) (t : Nat), s.blockOn 0x07 = true → s.gnsTp1 = true → s.gnsTp1Now t = true →
    ((t : Int) - (s.rd GNS_TP1OFS_OFS : Int)) % (s.rd GNS_TP1PER_PER : Int) = 0 →
    exec (.tp1Pulse t) s = .next (s.after
    ({ s with gns := { s.gns with tp := tabPut s.gns.tp 1 (s.now + s.rd GNS_TP1W_W * 1000) } }))) ∧
  (∀ (s : State) (q : Int), s.blockOn 0x07 = true → s.gns.next = none → (s.applyDue 0x07 1).gnsPulses = true →
    s.gnsOnTime = true → exec (.timeqWrite q) s = .next (s.after (State.gnsTimeq (s.applyDue 0x07 1) q s))) ∧
  (∀ (s : State) (q : Int), s.blockOn 0x07 = true → s.gns.next = none → (s.applyDue 0x07 1).gnsPulses = false →
    exec (.timeqWrite q) s = .next (s.after (s.applyDue 0x07 1))) ∧
  (∀ (s : State), s.windowOn GNS_TQWK_WEEK.addr = true →
    exec .tqwkRead s = .next (s.after ({ s.gnsReadTqwk.2 with bus := { done := true, data := s.gnsReadTqwk.1 } }))) ∧
  (∀ (s : State) (nsat pdop err : Nat) (off : Int) (week tow ns : Nat) (rate leap : Int) (lweek ltow : Nat), s.blockOn 0x07 =
    true → s.on GNS_CTL_EN = true → 4 ≤ nsat → pdop ≤ 100 → exec (.timeSolution nsat pdop err off week tow ns rate leap lweek
      ltow) s = .next (s.after (s.gnsSolution err off week tow ns rate leap lweek ltow))) ∧
  (∀ (s : State) (nsat pdop err : Nat) (off : Int) (week tow ns : Nat) (rate leap : Int) (lweek ltow : Nat), nsat < 4 ∨ 100 <
    pdop → exec (.timeSolution nsat pdop err off week tow ns rate leap lweek ltow) s = .next (s.after (s))) ∧
  (∀ (s : State), s.blockOn 0x07 = true → s.gns.solAt + 1000000000 ≤ s.now →
    exec .doldrumsEntry s = .next (s.after (s.gnsDoldrums))) ∧
  (∀ (s : State) (p t : Nat), s.blockOn 0x07 = true → tabFind s.gns.tp p = some t → t ≤ s.now →
    exec (.timePulseEnd p) s = .next (s.after ({ s with gns := { s.gns with tp := tabDel s.gns.tp p } }))) ∧
  (∀ (s : State) (a i : Nat), s.blockOn 0x07 = true → a < 2 → i < 2000 →
    s.rd (if a = 0 then GNS_STAT_ANT0F else GNS_STAT_ANT1F) = 0 →
    exec (.antennaOpen a i) s = .next (s.after ((((s.wr (if a = 0 then GNS_STAT_ANT0F else GNS_STAT_ANT1F) 1).setFlag
    GNS_INTSTAT_ANT).emit 0x0706 [a, 1]).toTocsin))) ∧
  (∀ (s : State) (a i : Nat), s.blockOn 0x07 = true → a < 2 → 2000 ≤ i →
    s.rd (if a = 0 then GNS_STAT_ANT0F else GNS_STAT_ANT1F) = 1 →
    exec (.antennaOpen a i) s = .next (s.after (s.wr (if a = 0 then GNS_STAT_ANT0F else GNS_STAT_ANT1F) 0))) ∧
  (∀ (s : State) (a i : Nat), s.blockOn 0x07 = true → a < 2 → 100000 < i →
    s.rd (if a = 0 then GNS_STAT_ANT0F else GNS_STAT_ANT1F) ≠ 2 →
    exec (.antennaShort a i) s = .next (s.after
    ({ (((s.wr (if a = 0 then GNS_STAT_ANT0F else GNS_STAT_ANT1F) 2).setFlag GNS_INTSTAT_ANT).emit 0x0706 [a, 2]).toTocsin with gns := { s.gns with shortAt := tabPut s.gns.shortAt a s.now } }))) ∧
  (∀ (s : State) (a i : Nat), s.blockOn 0x07 = true → a < 2 → s.rd (if a = 0 then GNS_STAT_ANT0F else GNS_STAT_ANT1F) = 2 →
    tabGet 0 s.gns.shortAt a + 10000000000 ≤ s.now → i ≤ 100000 →
    exec (.antennaRetry a i) s = .next (s.after
    ({ s.wr (if a = 0 then GNS_STAT_ANT0F else GNS_STAT_ANT1F) 0 with gns := { s.gns with shortAt := tabDel s.gns.shortAt a } }))) ∧
  (∀ (s : State) (a i : Nat), s.blockOn 0x07 = true → a < 2 → s.rd (if a = 0 then GNS_STAT_ANT0F else GNS_STAT_ANT1F) = 2 →
    tabGet 0 s.gns.shortAt a + 10000000000 ≤ s.now → 100000 < i →
    exec (.antennaRetry a i) s = .next (s.after
    (((({ s with gns := { s.gns with shortAt := tabPut s.gns.shortAt a s.now } }).setFlag GNS_INTSTAT_ANT).emit 0x0706 [a,
    2]).toTocsin))) ∧
  (∀ (s : State) (band : Nat), s.blockOn 0x07 = true → band < 4 → bit s.gns.bands band = false →
    (putBit s.gns.bands band true) ≠ 0 → exec (.interference band true) s = .next (s.after
      ((((({ s with gns := { s.gns with bands := putBit s.gns.bands band true } }).wr GNS_STAT_INTF 1).setFlag
      GNS_INTSTAT_INTF).emit 0x0707 [band]).toTocsin))) ∧
  (∀ (s : State) (band : Nat), s.blockOn 0x07 = true → band < 4 →
    exec (.interference band false) s = .next (s.after
    (({ s with gns := { s.gns with bands := putBit s.gns.bands band false } }).wr GNS_STAT_INTF (b2n (putBit s.gns.bands band
    false != 0))))) ∧
  (∀ (s : State) (dev : Int), s.blockOn 0x07 = true → 10000 < dev.natAbs → s.on GNS_STAT_TCXOFLT = false →
    exec (.tcxoFault dev) s = .next (s.after ((State.emit 0x0708 [tc 32 dev]
    { ((s.wr GNS_STAT_TCXOFLT 1).setFlag GNS_INTSTAT_TCXO).gnsTstate 0 with gns := { (((s.wr GNS_STAT_TCXOFLT 1).setFlag GNS_INTSTAT_TCXO).gnsTstate 0).gns with next := none, labelled := false, tp := [], offs := [], resid := 0 } }).toTocsin))) ∧
  (∀ (s : State) (dev : Int), s.blockOn 0x07 = true → dev.natAbs ≤ 10000 →
    exec (.tcxoFault dev) s = .next (s.after (s.wr GNS_STAT_TCXOFLT 0)))

/-- IMU_SAMPLE, INTERNAL_SAMPLE, PUSH, MEASUREMENT_UPDATE, RESULT_ISSUE, REVISION_ISSUE, REPLAY_END: samples into and results
  out of FUS. While FUS acts and is enabled: the on-module IMU is sampled at 1,000 Hz and a pushed sample of the primary IMU
  propagates once its time has come, and is dropped with EV 0x0806 where it is older than the history window, another IMU's
  is measured; an internal stream is sampled at its instants; a PUSH admits the record of its port; the head of the queue is
  measured once its time has come; the live lane issues a result when it may; the replay revises its next instant when it
  reaches it, and ends when none is left. -/
def Obligations.FusionSamplesAndResultsAct : Prop :=
  (∀ (s : State) (k : Nat) (sat : Bool) (w : List Nat), s.live 0x08 = true → s.on FUS_CTL_EN = true → k < 16 →
    s.on (FUS_SCFG_EN k) = true → s.rd (FUS_SCFG_TYPE k) = 1 → s.now % 1000000 = 0 →
    exec (.imuSample k sat w) s = .next (s.after (s.fusOwnImu
    { strm := k, tm := s.now, words := (List.range 6).map (fun i => w.getD i 0) ++ [b2n sat] }))) ∧
  (∀ (s : State) (k : Nat) (sat : Bool) (w : List Nat) (x : FusSamp) (q : List FusSamp), s.live 0x08 = true →
    s.on FUS_CTL_EN = true → k < 16 → s.on (FUS_SCFG_EN k) = true → s.rd (FUS_SCFG_TYPE k) = 2 → s.fus.queue = x :: q →
    x.strm = k → x.tm ≤ s.now → s.rd FUS_STAT_PRIM = k →
    (State.fusDepth { s with fus := { s.fus with queue := q } }).fusOld x.tm = false →
    exec (.imuSample k sat w) s = .next (s.after ((State.fusDepth { s with fus := { s.fus with queue := q } }).fusImu x))) ∧
  (∀ (s : State) (k : Nat) (sat : Bool) (w : List Nat) (x : FusSamp) (q : List FusSamp), s.live 0x08 = true →
    s.on FUS_CTL_EN = true → k < 16 → s.on (FUS_SCFG_EN k) = true → s.rd (FUS_SCFG_TYPE k) = 2 → s.fus.queue = x :: q →
    x.strm = k → x.tm ≤ s.now → s.rd FUS_STAT_PRIM = k →
    (State.fusDepth { s with fus := { s.fus with queue := q } }).fusOld x.tm = true →
    exec (.imuSample k sat w) s = .next (s.after ((State.fusDepth { s with fus := { s.fus with queue := q } }).fusLate))) ∧
  (∀ (s : State) (k : Nat) (sat : Bool) (w : List Nat) (x : FusSamp) (q : List FusSamp), s.live 0x08 = true →
    s.on FUS_CTL_EN = true → k < 16 → s.on (FUS_SCFG_EN k) = true → s.rd (FUS_SCFG_TYPE k) = 2 → s.fus.queue = x :: q →
    x.strm = k → x.tm ≤ s.now → s.rd FUS_STAT_PRIM ≠ k → exec (.imuSample k sat w) s = .next (s.after (s.fusMeasure x))) ∧
  (∀ (s : State) (k : Nat), s.live 0x08 = true → s.on FUS_CTL_EN = true → k < 16 → s.on (FUS_SCFG_EN k) = true →
    s.fusInstant k = true → exec (.internalSample k) s = .next (s.after (s.fusSample k))) ∧
  (∀ (s : State) (p : Nat), p < 4 → s.open (FUS_PPUSH_GO p).addr = true → exec (.push p) s = .next (s.after (s.fusPush p))) ∧
  (∀ (s : State) (x : FusSamp) (q : List FusSamp), s.live 0x08 = true → s.on FUS_CTL_EN = true → s.fus.queue = x :: q →
    x.tm ≤ s.now → s.rd FUS_STAT_PRIM ≠ x.strm → exec .measurementUpdate s = .next (s.after (s.fusMeasure x))) ∧
  (∀ (s : State), s.live 0x08 = true → s.on FUS_CTL_EN = true → s.fusReady = true →
    exec .resultIssue s = .next (s.after (s.fusIssue.fusDeliver))) ∧
  (∀ (s : State) (r : FusReplay) (i : FusInst), s.live 0x08 = true → s.on FUS_CTL_EN = true → s.fus.rp = some r →
    s.fusRpNext r = some i → s.fusRpDue r i.tv ≤ s.now * 120 →
    exec .revisionIssue s = .next (s.after ((s.fusRevise r i).fusHandRev i))) ∧
  (∀ (s : State) (r : FusReplay), s.live 0x08 = true → s.on FUS_CTL_EN = true → s.fus.rp = some r → s.fusRpNext r = none →
    exec .replayEnd s = .next (s.after (s.fusRpEnd r)))

/-- STREAM_STALE, POSITION_TIMEOUT, CALIBRATION_FOCUS, RESTART, CALSNAP, CALRESET, ESTIMATOR_FAULT, FUS_LAST_READ,
  FUS_RING_READ_WRITE. A USED stream without a usable sample for STALE ms goes STALE; POSTO ms without a type-3 sample takes
  NAV to DR; the focus moves when it is due; RESTART restarts an enabled estimator; CALSNAP and CALRESET act on the streams
  of their mask; an estimator fault sets its flag with EV 0x080D, restarts the estimator and is reported to Tocsin, one of
  memory as row 2 of Table 14.1 too; the first word of FUS_LAST latches the rest; the read index moves within the span, else
  EV 0x080F. -/
def Obligations.FusionSupervisionAndCommandsAct : Prop :=
  (∀ (s : State) (k : Nat), s.live 0x08 = true → s.on FUS_CTL_EN = true → k < 16 → s.rd (FUS_SSTAT_SSTATE k) = 2 →
    (s.fstr k).seen + s.rd (FUS_SPER_STALE k) * 1000000 ≤ s.now → exec (.streamStale k) s = .next (s.after (s.fusStale k))) ∧
  (∀ (s : State), s.live 0x08 = true → s.on FUS_CTL_EN = true → s.rd FUS_STAT_ESTATE = 3 →
    s.fus.posAt + s.rd FUS_LIM_POSTO * 1000000 ≤ s.now →
    exec .positionTimeout s = .next (s.after (((s.wr FUS_STAT_ESTATE 4).setFlag FUS_INTSTAT_ESTATE).emit 0x0801 [4]))) ∧
  (∀ (s : State), s.live 0x08 = true → s.on FUS_CTL_EN = true → s.fusFocusDue = true →
    exec .calibrationFocus s = .next (s.after (s.fusFocus))) ∧
  (∀ (s : State), s.open FUS_CMD_CMD.addr = true → s.on FUS_CTL_EN = true → exec .restart s = .next (s.after (s.fusRestart))) ∧
  (∀ (s : State), s.open FUS_CMD_CMD.addr = true → s.on FUS_CTL_EN = false → exec .restart s = .next (s.after (s))) ∧
  (∀ (s : State) (mask : Nat), s.open FUS_CMD_CMD.addr = true →
    exec (.calsnap mask) s = .next (s.after (s.each (fusStreams.filter (bit mask)) State.fusCalSnap))) ∧
  (∀ (s : State) (mask : Nat), s.open FUS_CMD_CMD.addr = true →
    exec (.calreset mask) s = .next (s.after (s.each (fusStreams.filter (bit mask)) State.fusCalReset))) ∧
  (∀ (s : State) (cause : Nat), s.live 0x08 = true → s.on FUS_CTL_EN = true → cause = 1 →
    exec (.estimatorFault cause) s = .next (s.after ((s.emit 0x080D [cause]).fusFault.toTocsin))) ∧
  (∀ (s : State) (cause : Nat), s.live 0x08 = true → s.on FUS_CTL_EN = true → cause = 2 →
    exec (.estimatorFault cause) s = .next (s.after (((s.emit 0x080D [cause]).fusFault.toTocsin).signal (.rowFires 2 0)))) ∧
  (∀ (s : State), s.windowOn (FUS_LAST_WORD 0).addr = true →
    exec .fusLastRead s = .next (s.after ({ s.fusReadLast.2 with bus := { done := true, data := s.rd (FUS_LAST_WORD 0) } }))) ∧
  (∀ (s : State) (v : Nat), s.open FUS_RESRD_IDX.addr = true → (v % 1024 + 1024 - s.rd FUS_RESRD_IDX) % 1024 ≤ s.fusUnread →
    exec (.fusRingReadWrite v) s = .next (s.after (s.wr FUS_RESRD_IDX v))) ∧
  (∀ (s : State) (v : Nat), s.open FUS_RESRD_IDX.addr = true → s.fusUnread < (v % 1024 + 1024 - s.rd FUS_RESRD_IDX) % 1024 →
    exec (.fusRingReadWrite v) s = .next (s.after (s.emit 0x080F [addrOff FUS_RESRD_IDX.addr])))

/-- CAN_TX_REQ, CAN_TX_CANCEL, CAN_TX_ARBITRATION, CAN_TX_DONE, CAN_TX_ERROR, BUS_OFF_RECOVERED, RECOVER, LMTXGO,
  LONG_MESSAGE_END. On a powered controller: REQ of an unreserved buffer with nothing waiting copies the staged frame and
  sets PEND; of a buffer that waits unfrozen it replaces the frame and counts REPL; CANCEL of a waiting, unfrozen buffer
  clears PEND with RES 2; a request for a frozen buffer waits behind it, and both are remembered for the CAN clock cycle in
  which the choice may still fall; both are ignored and counted on a reserved buffer. Arbitration freezes the buffer chosen
  as it stood before the strobes of its own cycle; the frozen frame ends in success or error; recovery ends in error active
  with both counters 0 and EV 0x0C04; RECOVER starts it in bus-off; a long message is submitted, and ends, a message of one
  frame with its frame. -/
def Obligations.CanTransmissionActs : Prop :=
  (∀ (s : State) (n b : Nat), n < 6 → b < 3 → s.open (CAN_TXREQ_GO n b).addr = true → s.canReserved n b = false →
    s.rd (CAN_TXSTAT_FROZEN n b) = 0 → s.rd (CAN_TXSTAT_PEND n b) = 0 →
    exec (.canTxReq n b) s = .next (s.after (((((s.canStrobe n b (some (s.canStaged n b))).setCanBuf n b
    { copy := s.canStaged n b }).wr (CAN_TXSTAT_PEND n b) 1).wr (CAN_TXSTAT_RES n b) 0).wr (CAN_TXSTAT_CANLATE n b) 0))) ∧
  (∀ (s : State) (n b : Nat), n < 6 → b < 3 → s.open (CAN_TXREQ_GO n b).addr = true → s.canReserved n b = false →
    s.rd (CAN_TXSTAT_FROZEN n b) = 0 → s.on (CAN_TXSTAT_PEND n b) = true →
    exec (.canTxReq n b) s = .next (s.after (((s.canStrobe n b (some (s.canStaged n b))).setCanBuf n b
    { copy := s.canStaged n b }).inc (CAN_TXSTAT_REPL n b)))) ∧
  (∀ (s : State) (n b : Nat), n < 6 → b < 3 → s.open (CAN_TXREQ_GO n b).addr = true → s.canReserved n b = false →
    s.on (CAN_TXSTAT_FROZEN n b) = true →
    exec (.canTxReq n b) s = .next (s.after (s.setCanBuf n b { s.canBuf n b with repl := some (s.canStaged n b) }))) ∧
  (∀ (s : State) (n b : Nat), n < 6 → b < 3 → s.open (CAN_TXREQ_GO n b).addr = true → s.canReserved n b = true →
    exec (.canTxReq n b) s = .next (s.after ((s.setFlagBit (CAN_INTSTAT_FLAGS n) 11).emitSec 0x0C08 (n * 4 + b) (fun k => [n,
    b, k])))) ∧
  (∀ (s : State) (n b : Nat), n < 6 → b < 3 → s.open (CAN_TXCAN_GO n b).addr = true → s.canReserved n b = false →
    s.rd (CAN_TXSTAT_FROZEN n b) = 0 → s.on (CAN_TXSTAT_PEND n b) = true →
    exec (.canTxCancel n b) s = .next (s.after ((((s.canStrobe n b none).setCanBuf n b {}).wr (CAN_TXSTAT_PEND n b) 0).wr
    (CAN_TXSTAT_RES n b) 2))) ∧
  (∀ (s : State) (n b : Nat), n < 6 → b < 3 → s.open (CAN_TXCAN_GO n b).addr = true → s.canReserved n b = false →
    s.on (CAN_TXSTAT_FROZEN n b) = true →
    exec (.canTxCancel n b) s = .next (s.after (s.setCanBuf n b { s.canBuf n b with canc := true }))) ∧
  (∀ (s : State) (n b : Nat), n < 6 → s.canMayTx n = true → s.canFrozenBuf n = none → s.canChoose n = some b →
    s.each [0, 1, 2] (State.canBefore n) = s →
    exec (.canTxArbitration n) s = .next (s.after ((s.wr (CAN_TXSTAT_FROZEN n b) 1).each [0, 1, 2] (State.canAfter n)))) ∧
  (∀ (s : State) (n : Nat), n < 6 → s.canMayTx n = true → s.canFrozenBuf n = none →
    exec (.canTxArbitration n) s = .next (s.after (s.canFreeze n))) ∧
  (∀ (s : State) (n b : Nat), n < 6 → s.blockOn 0x0C = true → s.canFrozenBuf n = some b →
    b ≠ 0 ∨ s.on (CAN_CTL_ISOEN n) = false → exec (.canTxDone n) s = .next (s.after (s.canDone n b))) ∧
  (∀ (s : State) (n : Nat), n < 6 → s.blockOn 0x0C = true → s.canFrozenBuf n = some 0 → s.on (CAN_CTL_ISOEN n) = true →
    exec (.canTxDone n) s = .next (s.after ((s.canDone n 0).bpeSent n))) ∧
  (∀ (s : State) (n : Nat), (s.bpe n).fin = true → (s.bpe n).outq = [] → s.bpeSent n = s.lmEnd n true 0) ∧
  (∀ (s : State) (n b lec : Nat) (dom arb : Bool) (more : Nat), n < 6 → s.blockOn 0x0C = true → s.canFrozenBuf n = some b →
    lec < 7 → exec (.canTxError n lec dom arb more) s = .next (s.after (s.canFail n b lec dom arb more))) ∧
  (∀ (s : State) (n : Nat), n < 6 → s.blockOn 0x0C = true → s.rd (CAN_STAT_ESTATE n) = 3 →
    exec (.busOffRecovered n) s = .next (s.after (((((s.wr (CAN_STAT_ESTATE n) 0).wr (CAN_STAT_TEC n) 0).wr (CAN_STAT_REC n)
    0).setFlagBit (CAN_INTSTAT_FLAGS n) 4).emit 0x0C04 [n]))) ∧
  (∀ (s : State) (n : Nat), n < 6 → s.open (CAN_CMD_CMD n).addr = true → s.rd (CAN_STAT_ESTATE n) = 2 →
    exec (.recover n) s = .next (s.after ((s.wr (CAN_STAT_ESTATE n) 3).setFlagBit (CAN_INTSTAT_FLAGS n) 4))) ∧
  (∀ (s : State) (n : Nat), n < 6 → s.open (CAN_LMTXGO_GO n).addr = true →
    exec (.lmtxgo n) s = .next (s.after (s.lmSubmit n))) ∧
  (∀ (s : State) (n reason : Nat), n < 6 → s.blockOn 0x0C = true → s.on (CAN_LMTXS_BUSY n) = true → (s.bpe n).out = none →
    exec (.longMessageEnd n true reason) s = .next (s.after (((((s.setBpe n { s.bpe n with out := none, fin := false }).wr
    (CAN_LMTXS_BUSY n) 0).wr (CAN_LMTXS_RES n) 0).wr (CAN_LMTXS_REASON n) 0).setFlagBit (CAN_INTSTAT_FLAGS n) 8))) ∧
  (∀ (s : State) (n reason : Nat), n < 6 → s.blockOn 0x0C = true → s.on (CAN_LMTXS_BUSY n) = true →
    exec (.longMessageEnd n false reason) s = .next (s.after (s.lmStop n false reason)))

/-- CAN_RX_FRAME, CAN_RX_ERROR, RXPOP, MESSAGE_TIMEOUT, ADDRESS_CLAIM, LONG_MESSAGE_RX, CAN_RING_READ_WRITE. On a powered
  controller that receives: a good frame lowers REC where it counts, goes through the filters and to the bus protocol engine;
  an error while receiving sets LEC and raises REC by 1 or 8; RXPOP removes the FIFO's head and clears OVF; an overdue
  supervised message sets TMOUT with EV 0x0C07, and with TSUP is reported to Tocsin; 250 ms without contention gives the
  claimed address with EV 0x0C09; a happening on an inbound session is taken while ISOEN is set; the ring's read index moves
  within its span, else EV 0x0C0E. -/
def Obligations.CanReceptionActs : Prop :=
  (∀ (s : State) (n : Nat) (f : CanFrame) (esi : Bool) (age : Nat), n < 6 → s.blockOn 0x0C = true →
    s.on (CAN_CTL_EN n) = true → s.rd (CAN_STAT_ESTATE n) ≠ 2 → s.canJoined n = true →
    f.fdf = false ∨ s.on (CAN_CTL_FDEN n) = true ∧ f.rtr = false → s.canCounts n = true →
    exec (.canRxFrame n f esi age) s = .next (s.after (((s.canRecDown n).canFilters n f esi age).bpeFrame n f))) ∧
  (∀ (s : State) (n : Nat) (f : CanFrame) (esi : Bool) (age : Nat), n < 6 → s.blockOn 0x0C = true →
    s.on (CAN_CTL_EN n) = true → s.rd (CAN_STAT_ESTATE n) ≠ 2 → s.canJoined n = true →
    f.fdf = false ∨ s.on (CAN_CTL_FDEN n) = true ∧ f.rtr = false → s.canCounts n = false →
    exec (.canRxFrame n f esi age) s = .next (s.after ((s.canFilters n f esi age).bpeFrame n f))) ∧
  (∀ (s : State) (n lec : Nat) (eight : Bool), n < 6 → s.blockOn 0x0C = true → s.on (CAN_CTL_EN n) = true →
    s.canCounts n = true → 0 < lec → lec < 7 → exec (.canRxError n lec eight) s = .next (s.after (((s.wr (CAN_STAT_LEC n)
      lec).wr (CAN_STAT_REC n) (min (s.rd (CAN_STAT_REC n) + if eight then 8 else 1) 255)).canErrors n))) ∧
  (∀ (s : State) (n q : Nat), n < 6 → q < 2 → s.open (CAN_RXPOP_GO n q).addr = true →
    exec (.rxpop n q) s = .next (s.after ((s.setCanFifo n q (s.canFifo n q).tail).wr (CAN_RXFSTAT_OVF n q) 0))) ∧
  (∀ (s : State) (n f : Nat), n < 6 → s.blockOn 0x0C = true → f < 128 → s.canTmoDue n f = true →
    s.on (CAN_FCFG_TSUP n f) = false → exec (.messageTimeout n f) s = .next (s.after (((s.wr (CAN_FCFG_TMOUT n f)
      1).setFlagBit (CAN_INTSTAT_FLAGS n) 7).emit 0x0C07 [n, f]))) ∧
  (∀ (s : State) (n f : Nat), n < 6 → s.blockOn 0x0C = true → f < 128 → s.canTmoDue n f = true →
    s.on (CAN_FCFG_TSUP n f) = true → bit (s.rd TSV_MPAR9_CF) n = true →
    exec (.messageTimeout n f) s = .next (s.after ((((s.wr (CAN_FCFG_TMOUT n f) 1).setFlagBit (CAN_INTSTAT_FLAGS n) 7).emit
    0x0C07 [n, f]).toTocsin.signal (.rowFires 9 0)))) ∧
  (∀ (s : State) (n f : Nat), n < 6 → s.blockOn 0x0C = true → f < 128 → s.canTmoDue n f = true →
    s.on (CAN_FCFG_TSUP n f) = true → bit (s.rd TSV_MPAR9_CF) n = false →
    exec (.messageTimeout n f) s = .next (s.after ((((s.wr (CAN_FCFG_TMOUT n f) 1).setFlagBit (CAN_INTSTAT_FLAGS n) 7).emit
    0x0C07 [n, f]).toTocsin))) ∧
  (∀ (s : State) (n : Nat), n < 6 → s.blockOn 0x0C = true → s.rd (CAN_ISOADDR_CSTATE n) = 1 →
    (s.bpe n).at_ + 250000000 ≤ s.now → exec (.addressClaim n) s = .next (s.after ((((s.wr (CAN_ISOADDR_CSTATE n) 2).wr
      (CAN_ISOADDR_ADDR n) (s.bpe n).addr).setFlagBit (CAN_INTSTAT_FLAGS n) 10).emit 0x0C09 [n, (s.bpe n).addr]))) ∧
  (∀ (s : State) (n : Nat) (m : CanLong), n < 6 → s.blockOn 0x0C = true → s.on (CAN_CTL_EN n) = true →
    s.rd (CAN_STAT_ESTATE n) ≠ 2 → s.canJoined n = true → s.on (CAN_CTL_ISOEN n) = true →
    exec (.longMessageRx n m) s = .next (s.after (s.lmRx n m))) ∧
  (∀ (s : State) (n v : Nat), n < 6 → s.open (CAN_LMRXRD_IDX n).addr = true →
    (v % 32 + 32 - s.rd (CAN_LMRXRD_IDX n)) % 32 ≤ (s.rd (CAN_LMRXWR_IDX n) + 32 - s.rd (CAN_LMRXRD_IDX n)) % 32 →
    exec (.canRingReadWrite n v) s = .next (s.after (s.wr (CAN_LMRXRD_IDX n) (v % 32)))) ∧
  (∀ (s : State) (n v : Nat), n < 6 → s.open (CAN_LMRXRD_IDX n).addr = true →
    (s.rd (CAN_LMRXWR_IDX n) + 32 - s.rd (CAN_LMRXRD_IDX n)) % 32 < (v % 32 + 32 - s.rd (CAN_LMRXRD_IDX n)) % 32 →
    exec (.canRingReadWrite n v) s = .next (s.after (s.emit 0x0C0E [n, addrOff (CAN_LMRXRD_IDX n).addr])))

/-- ETH_FRAME_RX, HOST_TX_FRAME, LINK_CHANGE, PTP_SYNC, ETH_RING_INDEX_WRITE, ADDRESS_AGEING: what the Ethernet switch does.
  With ETH powered: a good frame of 64 to 1,522 bytes at an enabled, linked port is switched, and FLT answers it where it is
  its to answer; one with an error is counted, and goes to the ring of the host marked with ERR, one of another length
  dropped and counted, one at a port that is off ignored; the host's next frame is taken while ETH is not fenced; a link that
  comes up or goes down shows in LINK with EV 0x0D01 or 0x0D02; a sync interval renews the PTP state while 802.1AS is on; a
  valid ring index is taken, and an invalid one ignored with EV 0x0D07; a learned address is dropped after 300 s. -/
def Obligations.EthernetSwitchActs : Prop :=
  (∀ (s : State) (p : Nat) (bytes : List Nat), p < 6 → s.blockOn 0x0D = true → s.on (ETH_PCTL_EN p) = true →
    s.ethLink p = true → 64 ≤ bytes.length → bytes.length ≤ 1522 →
    exec (.ethFrameRx p bytes false) s = .next (s.after ((s.ethNone.ethSwitch p bytes).fltAnswers p bytes))) ∧
  (∀ (s : State) (p : Nat) (bytes : List Nat), p < 6 → s.blockOn 0x0D = true → s.on (ETH_PCTL_EN p) = true →
    s.ethLink p = true → bytes.length < 64 ∨ 1522 < bytes.length →
    exec (.ethFrameRx p bytes false) s = .next (s.after ((s.ethNone.ethDrop p).fltAnswers p bytes))) ∧
  (∀ (s : State) (p : Nat) (bytes : List Nat), p < 6 → s.blockOn 0x0D = true → s.on (ETH_PCTL_EN p) = true →
    s.ethLink p = true → bytes.length < 64 →
    exec (.ethFrameRx p bytes true) s = .next (s.after ((s.ethNone.inc (ETH_PCNT_RXERR p)).fltAnswers p bytes))) ∧
  (∀ (s : State) (p : Nat) (bytes : List Nat), p < 6 → s.blockOn 0x0D = true → s.on (ETH_PCTL_EN p) = true →
    s.ethLink p = true → 64 ≤ bytes.length → bytes.length ≤ 1522 →
    exec (.ethFrameRx p bytes true) s = .next (s.after (((s.ethNone.inc (ETH_PCNT_RXERR p)).ethBad p bytes).fltAnswers p
    bytes))) ∧
  (∀ (s : State) (p : Nat) (bytes : List Nat) (err : Bool), p < 6 → s.blockOn 0x0D = true →
    s.on (ETH_PCTL_EN p) = false ∨ s.ethLink p = false →
    exec (.ethFrameRx p bytes err) s = .next (s.after (s.ethNone.fltAnswers p bytes))) ∧
  (∀ (s : State), s.live 0x0D = true → exec .hostTxFrame s = .next (s.after (s.ethHostTx))) ∧
  (∀ (s : State) (p sqi : Nat), p < 6 → s.blockOn 0x0D = true → s.on (ETH_PCTL_EN p) = true → s.ethLink p = false →
    exec (.linkChange p true sqi) s = .next (s.after (((((s.wr (ETH_PSTAT_SQI p) sqi).wr ETH_STAT_LINK (putBit (s.rd
    ETH_STAT_LINK) p true)).wr (ETH_PSTAT_LINK p) 1).setFlagBit ETH_INTSTAT_FLAGS 2).emit 0x0D01 [p, sqi]))) ∧
  (∀ (s : State) (p sqi : Nat), p < 6 → s.blockOn 0x0D = true → s.ethLink p = true →
    exec (.linkChange p false sqi) s = .next (s.after ((((((s.wr (ETH_PSTAT_SQI p) sqi).wr ETH_STAT_LINK (putBit (s.rd
    ETH_STAT_LINK) p false)).wr (ETH_PSTAT_LINK p) 0).setFlagBit ETH_INTSTAT_FLAGS 2).ethCut p).emit 0x0D02 [p, sqi]))) ∧
  (∀ (s : State) (gm : Option EthGm) (delays : List (Nat × Nat)), s.blockOn 0x0D = true → s.on ETH_PTPCTL_EN = true →
    s.ethElapsed s.eth.syncAt 125000000 = true → exec (.ptpSync gm delays) s = .next (s.after (s.ethSync gm delays))) ∧
  (∀ (s : State) (v : Nat), s.open ETH_HRXRD_IDX.addr = true → s.ethIdxOk false (v % 2048) = true →
    exec (.ethRingIndexWrite false v) s = .next (s.after (s.wr ETH_HRXRD_IDX (v % 2048)))) ∧
  (∀ (s : State) (v : Nat), s.open ETH_HTXWR_IDX.addr = true → s.ethIdxOk true (v % 2048) = true →
    exec (.ethRingIndexWrite true v) s = .next (s.after (s.wr ETH_HTXWR_IDX (v % 2048)))) ∧
  (∀ (s : State) (v : Nat), s.open ETH_HRXRD_IDX.addr = true → s.ethIdxOk false (v % 2048) = false →
    exec (.ethRingIndexWrite false v) s = .next (s.after ((s.takeFree 3).2.emit 0x0D07 [(s.takeFree 3).1, addrOff
    ETH_HRXRD_IDX.addr]))) ∧
  (∀ (s : State) (mac vid : Nat), s.blockOn 0x0D = true → exec (.addressAgeing mac vid) s = .next (s.after
      ({ s with eth := { s.eth with macs := s.eth.macs.filter (fun m => !(m.mac = mac && m.vid = vid && decide (m.at_ + 300000000000 ≤ s.now))) } })))

/-- SUBGO, HANDSHAKE_COMPLETE, AUTHENTICATION_FAILED, CONNECT_TIMEOUT, SESSION_TIMEOUT, BACKOFF_END, PING, FLEET_MESSAGE_RX,
  FLT_RING_READ_WRITE, GENKEY, CSR, ERASE. While FLT acts: SUBGO submits the record of the submit registers; a session goes
  from CONNECT to UP, FAULT or BACKOFF, from UP to BACKOFF after 45 s without a datagram, and from BACKOFF to CONNECT after
  its wait; 15 s without sending is a PING; a message of a session in UP is taken; the ring's read index moves within its
  span; a key command acts with the Service role or higher. -/
def Obligations.FleetEngineActs : Prop :=
  (∀ (s : State), s.open FLT_SUBGO_GO.addr = true → exec .subgo s = .next (s.after (s.fltSubmit))) ∧
  (∀ (s : State) (k : Nat) (o : DtlsOffer), k < 64 → s.live 0x0E = true → s.rd (FLT_SSTAT_STATE k) = 1 →
    s.fltRefuses k o = none → exec (.handshakeComplete k o) s = .next (s.after (s.flUp k))) ∧
  (∀ (s : State) (k alert : Nat) (o : DtlsOffer), k < 64 → s.live 0x0E = true → s.rd (FLT_SSTAT_STATE k) = 1 →
    s.fltRefuses k o = some alert → exec (.handshakeComplete k o) s = .next (s.after (((s.flEnterFree k 4).setFlagBit
      FLT_INTSTAT_FLAGS 5).emit 0x0E03 [k, alert]))) ∧
  (∀ (s : State) (k : Nat) (o : DtlsOffer), s.fltRefuses k o = none → o.suite = 0x1301 ∧ o.group = 0x17 ∧ o.sig = 0x0403 ∧
    o.plain = true ∧ o.shown = true ∧ 0 < o.depth ∧ o.depth ≤ 3 ∧ o.anchor = s.rd (FLT_SCFG_ANCHOR k) ∧
    (o.dated = true ∨ s.rd GNS_STAT_TSTATE = 0)) ∧
  (∀ (s : State) (k alert : Nat), k < 64 → s.live 0x0E = true → s.rd (FLT_SSTAT_STATE k) = 1 →
    exec (.authenticationFailed k alert) s = .next (s.after (((s.flEnterFree k 4).setFlagBit FLT_INTSTAT_FLAGS 5).emit 0x0E03
    [k, alert]))) ∧
  (∀ (s : State) (k : Nat), k < 64 → s.live 0x0E = true → s.rd (FLT_SSTAT_STATE k) = 1 →
    (s.fls k).at_ + 10000000000 ≤ s.now → exec (.connectTimeout k) s = .next (s.after (s.flBackoff k))) ∧
  (∀ (s : State) (k : Nat), k < 64 → s.live 0x0E = true → s.rd (FLT_SSTAT_STATE k) = 2 → (s.fls k).rx + 45000000000 ≤ s.now →
    exec (.sessionTimeout k) s = .next (s.after (s.flBackoff k))) ∧
  (∀ (s : State) (k : Nat), k < 64 → s.live 0x0E = true → s.rd (FLT_SSTAT_STATE k) = 3 →
    (s.fls k).at_ + (s.fls k).wait * 1000000000 ≤ s.now → exec (.backoffEnd k) s = .next (s.after (s.flEnterFree k 1))) ∧
  (∀ (s : State) (k : Nat), k < 64 → s.live 0x0E = true → s.rd (FLT_SSTAT_STATE k) = 2 → s.domOn 3 = true →
    (s.fls k).tx + 15000000000 ≤ s.now → exec (.ping k) s = .next (s.after (s.fltSend k ⟨3, 0, 0, []⟩))) ∧
  (∀ (s : State) (k typ prio seq : Nat) (payload : List Nat), k < 64 → s.live 0x0E = true → s.rd (FLT_SSTAT_STATE k) = 2 →
    exec (.fleetMessageRx k typ prio seq payload) s = .next (s.after (s.fltMessage k typ prio seq payload))) ∧
  (∀ (s : State) (v : Nat), s.open FLT_RXRD_IDX.addr = true → (v % 512 + 512 - s.rd FLT_RXRD_IDX) % 512 ≤ s.fltUnread →
    exec (.fltRingReadWrite v) s = .next (s.after ((s.wr FLT_RXRD_IDX (v % 512)).each (List.range 64) State.fltAckOut))) ∧
  (∀ (s : State) (v : Nat), s.open FLT_RXRD_IDX.addr = true → s.fltUnread < (v % 512 + 512 - s.rd FLT_RXRD_IDX) % 512 →
    exec (.fltRingReadWrite v) s = .next (s.after ((s.takeFree 6).2.emit 0x0E08 [(s.takeFree 6).1, addrOff
    FLT_RXRD_IDX.addr]))) ∧
  (∀ (s : State) (slot role : Nat), slot < 8 → 1 ≤ role → s.live 0x0E = true →
    exec (.genkey slot role) s = .next (s.after
    ({ (s.takeFree 256).2 with flt := { s.flt with keys := tabPut s.flt.keys slot (s.takeFree 256).1 } }))) ∧
  (∀ (s : State) (slot role : Nat), slot < 8 → 1 ≤ role → s.live 0x0E = true → (tabFind s.flt.keys slot).isSome = true →
    exec (.csr slot role) s = .next (s.after
    ({ (s.takeFrees 8 64).2 with blobs := tabPut s.blobs (0x00E00200 + slot * 16) (s.takeFrees 8 64).1 }))) ∧
  (∀ (s : State) (slot role : Nat), slot < 8 → 1 ≤ role → s.live 0x0E = true →
    exec (.erase slot role) s = .next (s.after ({ s with flt := { s.flt with keys := tabDel s.flt.keys slot } })))

/-- PANEL_ON / OFF / CLR / FRAME_START / FAULT, FLIP, PRECHARGE_DONE, DISCHARGE_DONE, UPDATE, CLEAN, CANCEL,
  LABEL_FRAME_BOUNDARY, LABEL_TEMP_READ. With the display's registers open: PANEL_ON takes OFF to PRECHG where EN is in
  effect; PANEL_OFF takes PRECHG and ON to DISCHG; FLIP exchanges the buffers at once in OFF and waits otherwise; PANEL_CLR
  takes FAULT to OFF. A frame start applies what waits for it; precharge ends in ON with EV 0x1001, discharge in OFF with EV
  0x1002, or in FAULT after a fault; a fault discharges the panel with EV 0x1003 and is reported to Tocsin. UPDATE, CLEAN and
  CANCEL act on the areas of their mask; at each 20 ms boundary the label advances, once; and before a request that comes on
  its tick; its thermistor is read once per second under a lease of the bus, which is waited for up to 5 ms. -/
def Obligations.DisplaysAct : Prop :=
  (∀ (s : State), s.open DSP_PCMD_CMD.addr = true → s.rd DSP_STAT_PSTATE = 0 → s.on DSP_PCFG_EN = true →
    exec .panelOn s = .next (s.after ({ s.wr DSP_STAT_PSTATE 1 with dsp := { s.dsp with since := s.now } }))) ∧
  (∀ (s : State), s.open DSP_PCMD_CMD.addr = true → s.rd DSP_STAT_PSTATE = 1 ∨ s.rd DSP_STAT_PSTATE = 2 →
    exec .panelOff s = .next (s.after ({ s.wr DSP_STAT_PSTATE 3 with dsp := { s.dsp with since := s.now } }))) ∧
  (∀ (s : State), s.open DSP_PCMD_CMD.addr = true → s.rd DSP_STAT_PSTATE = 0 →
    exec .flip s = .next (s.after (((({ s with dsp := { s.dsp with front := s.dsp.back, back := s.dsp.front } }).wr
    DSP_STAT_FLIPPEND 0).setFlagBit DSP_INTSTAT_FLAGS 1)))) ∧
  (∀ (s : State), s.open DSP_PCMD_CMD.addr = true → s.rd DSP_STAT_PSTATE ≠ 0 →
    exec .flip s = .next (s.after (s.wr DSP_STAT_FLIPPEND 1))) ∧
  (∀ (s : State), s.open DSP_PCMD_CMD.addr = true → s.rd DSP_STAT_PSTATE = 4 → s.on DSP_STAT_FLIPPEND = false →
    exec .panelClr s = .next (s.after (s.panelTo 0))) ∧
  (∀ (s : State) (v i : Nat), s.blockOn 0x10 = true → s.panelScans = true → s.dsp.frame + s.dspFrame ≤ s.now →
    s.on DSP_STAT_FLIPPEND = false →
    (({ s with dsp := { s.dsp with frame := s.now } }).applyDue 0x10 0).rd DSP_PTIM_VPANEL = s.rd DSP_PTIM_VPANEL →
    exec (.panelFrameStart v i) s = .next (s.after ((((({ s with dsp := { s.dsp with frame := s.now } }).applyDue 0x10 0).wr
    DSP_PMEAS_VPAN (min v 0xFFFF)).wr DSP_PMEAS_IPAN (min i 0xFFFF)).setFlagBit DSP_INTSTAT_FLAGS 0))) ∧
  (∀ (s : State) (v : Nat), s.blockOn 0x10 = true → s.rd DSP_STAT_PSTATE = 1 →
    s.dsp.since + s.rd DSP_PTIM_PCHT * 1000000 + 2 * s.dspFrame ≤ s.now →
    exec (.prechargeDone v) s = .next (s.after ((((s.panelTo 2).dspSupplyFrom (100 * s.rd DSP_PTIM_VPANEL)).wr DSP_PMEAS_VPAN
    (min v 0xFFFF)).emit 0x1001 [v]))) ∧
  (∀ (s : State), s.blockOn 0x10 = true → s.rd DSP_STAT_PSTATE = 3 → s.dsp.since + 5000000 ≤ s.now → s.dsp.fault = true →
    exec .dischargeDone s = .next (s.after
    ({ s.wr DSP_STAT_PSTATE 4 with dsp := { s.dsp with since := s.now, fault := false } }))) ∧
  (∀ (s : State), s.blockOn 0x10 = true → s.rd DSP_STAT_PSTATE = 3 → s.dsp.since + 5000000 ≤ s.now → s.dsp.fault = false →
    s.on DSP_STAT_FLIPPEND = false → exec .dischargeDone s = .next (s.after ((s.panelTo 0).emit 0x1002 []))) ∧
  (∀ (s : State) (i : Nat), s.blockOn 0x10 = true → s.rd DSP_STAT_PSTATE = 1 ∨ s.rd DSP_STAT_PSTATE = 2 → 1300 < i →
    exec (.panelFault 1 i) s = .next (s.after
    ({ (((s.wr DSP_STAT_PCAUSE 1).dspFlag 2).emit 0x1003 [1, i]).toTocsin.panelDischarge with dsp := { (((s.wr DSP_STAT_PCAUSE 1).dspFlag 2).emit 0x1003 [1, i]).toTocsin.panelDischarge.dsp with fault := true } }))) ∧
  (∀ (s : State) (i : Nat), s.blockOn 0x10 = true → s.rd DSP_STAT_PSTATE = 1 → s.dsp.since + 10000000 ≤ s.now →
    exec (.panelFault 2 i) s = .next (s.after
    ({ (((s.wr DSP_STAT_PCAUSE 2).dspFlag 2).emit 0x1003 [2, i]).toTocsin.panelDischarge with dsp := { (((s.wr DSP_STAT_PCAUSE 2).dspFlag 2).emit 0x1003 [2, i]).toTocsin.panelDischarge.dsp with fault := true } }))) ∧
  (∀ (s : State) (mask : Nat), s.open DSP_LCMD_CMD.addr = true →
    exec (.update mask) s = .next (s.after (s.labelTick.labelRequest mask false))) ∧
  (∀ (s : State) (mask : Nat), s.open DSP_LCMD_CMD.addr = true →
    exec (.clean mask) s = .next (s.after (s.labelTick.labelRequest mask true))) ∧
  (∀ (s : State) (mask : Nat), s.open DSP_LCMD_CMD.addr = true →
    exec (.cancel mask) s = .next (s.after (s.each (dspAreas.filter (bit mask)) (fun n s => s.setArea n
    { s.area n with pend := false, clean := false })))) ∧
  (∀ (s : State), s.blockOn 0x10 = true → s.now % 20000000 = 0 → s.dsp.bound ≠ s.now + 1 →
    ({ s with dsp := { s.dsp with bound := s.now + 1 } } : State).labelBoundary.labelIdle = true →
    exec .labelFrameBoundary s = .next (s.after (({ s with dsp := { s.dsp with bound := s.now + 1 } } :
    State).labelBoundary.applyDue 0x10 1))) ∧
  (∀ (s : State), s.blockOn 0x10 = true → s.now % 20000000 = 0 → s.dsp.bound ≠ s.now + 1 →
    ({ s with dsp := { s.dsp with bound := s.now + 1 } } : State).labelBoundary.labelIdle = false →
    exec .labelFrameBoundary s = .next (s.after (({ s with dsp := { s.dsp with bound := s.now + 1 } } :
    State).labelBoundary))) ∧
  (∀ (s : State), s.dsp.bound = s.now + 1 → exec .labelFrameBoundary s = .next (s.after (s))) ∧
  (∀ (s : State), s.now % 20000000 ≠ 0 ∨ s.dsp.bound = s.now + 1 → s.labelTick = s) ∧
  (∀ (s : State) (t : Int), s.live 0x10 = true → s.dsp.readAt = 0 ∨ s.dsp.readAt + 1000000000 ≤ s.now + 1 →
    ({ s with dsp := { s.dsp with readAt := s.now + 1, asked := s.now + 1 } }.requestLease 2 0x10).holds 2 0x10 = true →
    exec (.labelTempRead t) s = .next (s.after
    (({ ({ s with dsp := { s.dsp with readAt := s.now + 1, asked := s.now + 1 } }.requestLease 2 0x10) with dsp := { ({ s with dsp := { s.dsp with readAt := s.now + 1, asked := s.now + 1 } }.requestLease 2 0x10).dsp with temp := t, tempAt := s.now + 1, asked := 0 } }.returnLease
    2 0x10).dspTemp))) ∧
  (∀ (s : State) (t : Int), s.live 0x10 = true → s.dsp.readAt = 0 ∨ s.dsp.readAt + 1000000000 ≤ s.now + 1 →
    ({ s with dsp := { s.dsp with readAt := s.now + 1, asked := s.now + 1 } }.requestLease 2 0x10).holds 2 0x10 = false →
    (({ s with dsp := { s.dsp with readAt := s.now + 1, asked := s.now + 1 } }.requestLease 2 0x10).lease 2).waiting.contains
    0x10 = true → exec (.labelTempRead t) s = .next (s.after
      (({ s with dsp := { s.dsp with readAt := s.now + 1, asked := s.now + 1 } }.requestLease 2 0x10).dspTemp))) ∧
  (∀ (s : State) (t : Int), s.live 0x10 = true → s.dsp.readAt ≠ 0 → s.now + 1 < s.dsp.readAt + 1000000000 → s.dsp.asked ≠ 0 →
    s.now + 1 ≤ s.dsp.asked + 5000000 → s.holds 2 0x10 = true →
    exec (.labelTempRead t) s = .next (s.after
    (({ s with dsp := { s.dsp with temp := t, tempAt := s.now + 1, asked := 0 } }.returnLease 2 0x10).dspTemp))) ∧
  (∀ (s : State) (t : Int), s.live 0x10 = true → s.dsp.readAt ≠ 0 → s.now + 1 < s.dsp.readAt + 1000000000 → s.dsp.asked ≠ 0 →
    s.dsp.asked + 5000000 < s.now + 1 →
    exec (.labelTempRead t) s = .next (s.after (({ s with dsp := { s.dsp with asked := 0 } }.returnLease 2 0x10).dspTemp)))

/-- CYCLE_START, FRAME_ARRIVAL, MASTER_ENTRY_RECEIVED, FRAME_RETURN, NODE_FRAME_END, SLAVE_MISS, RETURN_MISS, TXSWAP,
  LINK_TRAINED, STRAP_CHANGE. A master that sends starts a cycle at multiples of 25 µs after the waiting groups; a slave
  whose link passes frames takes an arriving frame and judges the master's entry once it is in; the master takes a returning
  one; the end of a frame is processed; a deadline that has passed is a miss of the slave, a frame that is not back in time
  one of the master. TXSWAP asks for the exchange once; a trained link goes to SYNC; a change of the straps is flagged with
  EV 0x1306. -/
def Obligations.YulisLinkActs : Prop :=
  (∀ (s : State), s.yulSends = true → s.now % 25000 = 0 → s.yul.soc ≠ some s.now → (s.applyDue 0x13 0).yulSends = true →
    exec .cycleStart s = .next (s.after ((s.applyDue 0x13 0).yulCycle))) ∧
  (∀ (s : State) (frame : List Nat), s.yulPasses = true → s.yul.id ≠ 0 →
    exec (.frameArrival frame) s = .next (s.after ((s.applyDue 0x13 1).yulArrive frame))) ∧
  (∀ (s : State) (f : YulIn), s.yulPasses = true → s.yul.id ≠ 0 → s.yul.inc = some f → f.judged = false →
    f.at_ + 1408 ≤ s.now → exec .masterEntryReceived s = .next (s.after (s.yulEntryIn f))) ∧
  (∀ (s : State) (frame : List Nat), s.yulPasses = true → s.yul.id = 0 →
    exec (.frameReturn frame) s = .next (s.after ((s.applyDue 0x13 1).yulReturn frame))) ∧
  (∀ (s : State), s.yulPasses = true → exec .nodeFrameEnd s = .next (s.after (s.yulFrameEnd))) ∧
  (∀ (s : State) (d : Nat), s.yulPasses = true → s.yul.id ≠ 0 → s.rd YUL_STAT_STATE ≠ 5 → s.yulDue = some d → d ≤ s.now →
    exec .slaveMiss s = .next (s.after (({ s with yul := { s.yul with judged := s.yul.judged + 1 } }).yulMiss 1))) ∧
  (∀ (s : State) (l : Nat), s.yulSends = true → s.yul.soc = some l → l + s.rd YUL_DLY_DLY + 1256 ≤ s.now →
    s.yul.home = false → s.yul.missed = false → exec .returnMiss s = .next (s.after (s.yulReturnMiss))) ∧
  (∀ (s : State) (v : Nat), s.open YUL_TXSWAP_GO.addr = true → s.on YUL_STAT_TXPEND = false →
    exec (.txswap v) s = .next (s.after ({ s.wr YUL_STAT_TXPEND 1 with yul := { s.yul with swapAt := s.now } }))) ∧
  (∀ (s : State) (v : Nat), s.open YUL_TXSWAP_GO.addr = true → s.on YUL_STAT_TXPEND = true →
    exec (.txswap v) s = .next (s.after (s))) ∧
  (∀ (s : State), s.blockOn 0x13 = true → s.on YUL_CTL_EN = true → s.rd YUL_STAT_STATE = 1 →
    exec .linkTrained s = .next (s.after (s.yulSync))) ∧
  (∀ (s : State) (v : Nat), s.blockOn 0x13 = true → v % 8 ≠ s.yul.straps →
    exec (.strapChange v) s = .next (s.after ((({ s with yul := { s.yul with straps := v % 8 } }).wr YUL_STAT_STRAPCHG
    1).emit 0x1306 [v % 8]))) ∧
  (∀ (s : State) (v : Nat), v % 8 = s.yul.straps →
    exec (.strapChange v) s = .next (s.after ({ s with yul := { s.yul with straps := v % 8 } })))

/-- What emitting a record does: filtered below MINSEV, discarded once full, lost without a place, else staged in order. For
  every state with AON on and every record: below MINSEV only FILTERED counts it; with the log FULL and no clear running only
  DISCARD counts it; with the accumulator open or 64 places taken it is lost into the accumulator, with LOSTEV and flag 1,
  unless the last place was taken in the same cycle by an event of a higher code, which is lost in its stead; else the queue
  grows by exactly that record, keeps its head unless that came in the same cycle with a higher code, and nothing is counted.
  As a place frees, a waiting summary takes it. Memory and every register outside EVR's window stay in every case. -/
def Obligations.EventsAreStagedFilteredOrLost : Prop :=
  (∀ (s : State) (r : EvRec), s.domOn 1 = true → r.sev < s.minSev →
    (s.stageEvent r) = s.wr EVR_FILTERED_COUNT (min (s.rd EVR_FILTERED_COUNT + 1) 0xFFFFFFFF) ∧
    s.regsKept [0x11] (s.stageEvent r) ∧ s.memKept (s.stageEvent r)) ∧
  (∀ (s : State) (r : EvRec), s.domOn 1 = true → s.minSev ≤ r.sev → s.on EVR_STAT_FULL = true →
    s.on EVR_STAT_CLEARING = false →
    (s.stageEvent r) = s.wr EVR_DISCARD_COUNT (min (s.rd EVR_DISCARD_COUNT + 1) 0xFFFFFFFF) ∧
    s.regsKept [0x11] (s.stageEvent r) ∧ s.memKept (s.stageEvent r)) ∧
  (∀ (s : State) (r : EvRec), s.domOn 1 = true → s.minSev ≤ r.sev →
    s.on EVR_STAT_FULL = false ∨ s.on EVR_STAT_CLEARING = true → s.evr.acc.isSome = true ∨ 64 ≤ s.evr.queue.length →
    s.evr.queue.getLast?.all (fun e => decide (e.at_ ≠ s.now + 1 ∨ e.ent.code ≤ r.code)) = true →
    (s.stageEvent r).evr.queue = s.evr.queue ∧ (s.stageEvent r).evr.acc.map (·.last) = some (s.evr.acc.elim r.code (fun a =>
      if a.lastAt = s.now + 1 then max a.last r.code else r.code)) ∧
    (s.stageEvent r).evr.acc.map (·.count) = some (s.evr.acc.elim 1 (fun a => min (a.count + 1) 0xFFFFFFFF)) ∧
    (s.stageEvent r).rd EVR_CNT_LOSTEV = min (s.rd EVR_CNT_LOSTEV + 1) (2 ^ EVR_CNT_LOSTEV.wid - 1) ∧
    bit ((s.stageEvent r).rd EVR_INTSTAT_FLAGS) 1 = true ∧ s.regsKept [0x11] (s.stageEvent r) ∧ s.memKept (s.stageEvent r)) ∧
  (∀ (s : State) (r : EvRec), s.domOn 1 = true → s.minSev ≤ r.sev →
    s.on EVR_STAT_FULL = false ∨ s.on EVR_STAT_CLEARING = true → s.evr.acc = none → s.evr.queue.length < 64 →
    ((s.stageEvent r).evr.queue).Perm (⟨s.now + 1, r⟩ :: s.evr.queue) ∧
    (∀ e q, s.evr.queue = e :: q → e.at_ ≠ s.now + 1 ∨ e.ent.code ≤ r.code → (s.stageEvent r).evr.queue.head? = some e) ∧
    (s.stageEvent r).rd EVR_FILTERED_COUNT = s.rd EVR_FILTERED_COUNT ∧
    (s.stageEvent r).rd EVR_DISCARD_COUNT = s.rd EVR_DISCARD_COUNT ∧
    (s.stageEvent r).rd EVR_CNT_LOSTEV = s.rd EVR_CNT_LOSTEV ∧ s.regsKept [0x11] (s.stageEvent r) ∧
    s.memKept (s.stageEvent r)) ∧
  (∀ (s : State) (r : EvRec) (e : StagedRec), s.domOn 1 = true → s.minSev ≤ r.sev →
    s.on EVR_STAT_FULL = false ∨ s.on EVR_STAT_CLEARING = true → s.accOld = false →
    s.evr.acc.isSome = true ∨ 64 ≤ s.evr.queue.length → s.evr.queue.getLast? = some e → e.at_ = s.now + 1 →
    r.code < e.ent.code → ((s.stageEvent r).evr.queue).Perm (⟨s.now + 1, r⟩ :: s.evr.queue.dropLast) ∧
    (s.stageEvent r).evr.acc.map (·.count) = some (s.evr.acc.elim 1 (fun a => min (a.count + 1) 0xFFFFFFFF)) ∧
    (s.stageEvent r).rd EVR_CNT_LOSTEV = min (s.rd EVR_CNT_LOSTEV + 1) (2 ^ EVR_CNT_LOSTEV.wid - 1) ∧
    bit ((s.stageEvent r).rd EVR_INTSTAT_FLAGS) 1 = true ∧ s.regsKept [0x11] (s.stageEvent r) ∧ s.memKept (s.stageEvent r)) ∧
  (∀ (s : State) (a : EvAcc), s.evr.acc = some a → a.at_ ≠ s.now + 1 → s.evr.queue.length < 64 →
    s.placeFreed.evr.acc = none ∧ s.placeFreed.evr.queue.map (·.ent) = s.evr.queue.map (·.ent) ++ [a.summary s.evr.pcyc])

/-- EVENT_EMIT, RECORD_WRITTEN, RECORD_WRITE_REVOKED, LOG_SEARCH, RDIDX, LOG_CLEAR, SECTOR_ERASED, HEVGO, OPTIME_SAVE: the
  event recorder. With EVR powered: an event of a listed code is emitted with the severity and source of its code; the next
  record's program operation takes the next place; a revoked write leaves its place invalid; the log is searched once; RDIDX
  latches a place; a clear starts with the key and the OEM or Factory role at standstill, each erased sector continues it;
  HEVGO records the host's event with SRC = 3, except XX below 0x80 or SEV 3; OPTIME is saved every 10 minutes under the NVM
  lease, or waits for the lease, before any further record. -/
def Obligations.EventRecorderCommandsAct : Prop :=
  (∀ (s : State) (code : Nat) (ps : List Nat), s.blockOn 0x11 = true → code / 256 ≤ 0x13 → 1 ≤ code % 256 →
    code % 256 ≤ 0x3F → code ≠ 0x1101 → code ≠ 0x1102 →
    exec (.eventEmit code ps) s = .next (s.after (s.stageEvent (s.mkRec code (evSev code) (evSrc code) ps)))) ∧
  (∀ (s : State) (r : EvRec), s.blockOn 0x11 = true → s.nextRecord = some r → s.evrWrites = true → s.evr.optDue = false →
    exec .recordWritten s = .next (s.after (((((s.takePlace ⟨r.words, true⟩).dropRecord.setFlagBit EVR_INTSTAT_FLAGS
    0).placeFreed).closeIfFull).evrLease))) ∧
  (∀ (s : State), s.blockOn 0x11 = true → s.evr.optDue = true → s.holds 0 0x11 = true →
    exec .recordWritten s = .next (s.after (s.saveOptime))) ∧
  (∀ (s : State) (cause : Nat), s.blockOn 0x11 = true → s.holds 0 0x11 = true → s.evrWrites = true →
    s.nextRecord.isSome = true → exec (.recordWriteRevoked cause) s = .next (s.after (s.revokeLease 0 cause none))) ∧
  (∀ (s : State), s.blockOn 0x11 = true → exec .logSearch s = .next (s.after (s.logSearch))) ∧
  (∀ (s : State) (i : Nat), s.open EVR_RDIDX_IDX.addr = true →
    exec (.rdidx i) s = .next (s.after ((s.wr EVR_RDIDX_IDX i).latchPlace (i % 65536)))) ∧
  (∀ (s : State) (role : Nat), s.blockOn 0x11 = true → role = 2 ∨ role = 3 → s.standstill = true →
    exec (.logClear 0xA77A role) s = .next (s.after (s.logClear role))) ∧
  (∀ (s : State) (key role : Nat), key ≠ 0xA77A ∨ s.standstill = false → exec (.logClear key role) s = .next (s.after (s))) ∧
  (∀ (s : State), s.blockOn 0x11 = true → exec .sectorErased s = .next (s.after (s.sectorErased))) ∧
  (∀ (s : State) (v : Nat), s.open EVR_HEVGO_GO.addr = true → 0x80 ≤ s.rd EVR_HEVCODE_XX → s.rd EVR_HEVCODE_SEV ≠ 3 →
    exec (.hevgo v) s = .next (s.after (s.stageEvent (s.mkRec (0x1100 + s.rd EVR_HEVCODE_XX) (s.rd EVR_HEVCODE_SEV) 3
    ((List.range 4).map (fun j => s.rd (EVR_HEVP_P j))))))) ∧
  (∀ (s : State) (v : Nat), s.open EVR_HEVGO_GO.addr = true → s.rd EVR_HEVCODE_XX < 0x80 ∨ s.rd EVR_HEVCODE_SEV = 3 →
    exec (.hevgo v) s = .next (s.after (s))) ∧
  (∀ (s : State), s.blockOn 0x11 = true → s.evr.savedAt + 600000000000 ≤ s.now →
    exec .optimeSave s = .next (s.after (State.saveOptime { s with evr := { s.evr with savedAt := s.now } }))) ∧
  (∀ (s : State), (s.requestLease 0 0x11).holds 0 0x11 = true →
    s.saveOptime.evr.nvOptime = min (s.evr.optime0 + s.now / 1000000000) 0xFFFFFFFF ∧ s.saveOptime.evr.optDue = false) ∧
  (∀ (s : State), (s.requestLease 0 0x11).holds 0 0x11 = false → s.saveOptime.evr.nvOptime = s.evr.nvOptime ∧
    s.saveOptime.evr.optDue = true)

/-- HOUSEKEEPING_ROUND, GRACE_EXPIRY, HACK, KICK_TIMEOUT, FAN_RUNNING, TACH_SILENCE, TACHLOSS_CURRENT, RETRY_WAIT_END,
  FAN_SHORT, FAN_CLR. With AON on: a round is made once at every multiple of 10 ms; the end of the grace time enforces the
  level at the end of its cycle, unless an acknowledgement comes in it; the host's DMA engine pauses 0, 1/4, 1 and 3 transfer
  times at its levels; HACK acknowledges; a fan that has been in KICK for 2 s, or in RUN for 500 ms of silence, is judged by
  its current; ten pulses at RPMMIN / 2 or more take KICK to RUN and any ten TACHLOSS to RUN with EV 0x0F0D; in TACHLOSS a
  current at or above ISTALL is a stall, one below IOPEN an open fault; after 3 s a waiting fan kicks again; above 15 A a fan
  faults with cause 3; the times do not run while OUTPWR-B is below 8.0 V; CLR takes FAULT to OFF. -/
def Obligations.ThermalBlockAndFansAct : Prop :=
  (∀ (s : State) (r : ThmRound), s.domOn 1 = true → s.now % 10000000 = 0 → s.thm.round ≠ s.now + 1 →
    exec (.housekeepingRound r) s = .next (s.afterMgr (s.thmRound r))) ∧
  (∀ (s : State), s.domOn 1 = true → s.thm.grace ≠ 0 → s.thm.grace ≤ s.now + 1 →
    exec .graceExpiry s = .next (s.after (s.setThm (fun m => { m with due := true })))) ∧
  (∀ (s : State), s.tsv.attaches = [] → s.thm.due = true → s.blockOn 0x0F = true → s.lastly = s.thmEnforce ∧
    s.thmEnforce.rd THM_STAT_HENF = 1 ∧ s.thmEnforce.thm.cap = s.rd THM_STAT_HREQ ∧ s.thmEnforce.thm.due = false) ∧
  (∀ (s : State) (ns : Nat), s.car.dmaLvl < 4 → s.dmaPause ns = ns * (if s.car.dmaLvl = 0 then 0 else if s.car.dmaLvl = 1
      then 1 else if s.car.dmaLvl = 2 then 4 else 12) / 4) ∧
  (∀ (s : State) (v : Nat), s.open THM_HACK_ACK.addr = true → exec (.hack v) s = .next (s.after (s.thmAck v))) ∧
  (∀ (s : State) (f c : Nat), f < 4 → s.domOn 1 = true → s.rd (THM_FSTAT_STATE f) = 1 → 800 ≤ s.rd THM_VSUP1_OUTPWRB →
    (s.fan f).at_ + 2000000000 ≤ s.now →
    exec (.kickTimeout f c) s = .next (s.after ((s.wr (THM_FMEAS_IDRV f) (min c 0xFFFF)).fanSilent f c))) ∧
  (∀ (s : State) (f c : Nat), f < 4 → s.domOn 1 = true → s.rd (THM_FSTAT_STATE f) = 3 → 800 ≤ s.rd THM_VSUP1_OUTPWRB →
    (s.fan f).at_ + 500000000 ≤ s.now →
    exec (.tachSilence f c) s = .next (s.after ((s.wr (THM_FMEAS_IDRV f) (min c 0xFFFF)).fanSilent f c))) ∧
  (∀ (s : State) (f rpm : Nat), f < 4 → s.domOn 1 = true → 800 ≤ s.rd THM_VSUP1_OUTPWRB → s.rd (THM_FSTAT_STATE f) = 1 →
    s.rd (THM_FLIM_RPMMIN f) ≤ 2 * rpm →
    exec (.fanRunning f rpm) s = .next (s.after ((s.wr (THM_FMEAS_RPM f) (min rpm 0xFFFF)).fanEnter f 3))) ∧
  (∀ (s : State) (f rpm : Nat), f < 4 → s.domOn 1 = true → 800 ≤ s.rd THM_VSUP1_OUTPWRB → s.rd (THM_FSTAT_STATE f) = 4 →
    exec (.fanRunning f rpm) s = .next (s.after (((s.wr (THM_FMEAS_RPM f) (min rpm 0xFFFF)).fanEnter f 3).emit 0x0F0D [f,
    rpm]))) ∧
  (∀ (s : State) (f c ms : Nat), f < 4 → s.domOn 1 = true → s.rd (THM_FSTAT_STATE f) = 4 → 800 ≤ s.rd THM_VSUP1_OUTPWRB →
    (s.fan f).at_ + 500000000 ≤ s.now → 500 ≤ ms → s.rd (THM_FCUR_ISTALL f) ≤ c →
    exec (.tachlossCurrent f c ms) s = .next (s.after ((s.wr (THM_FMEAS_IDRV f) (min c 0xFFFF)).fanRetry f c))) ∧
  (∀ (s : State) (f c ms : Nat), f < 4 → s.domOn 1 = true → s.rd (THM_FSTAT_STATE f) = 4 → 800 ≤ s.rd THM_VSUP1_OUTPWRB →
    (s.fan f).at_ + 500000000 ≤ s.now → 500 ≤ ms → c < s.rd (THM_FCUR_ISTALL f) → c < s.rd (THM_FCUR_IOPEN f) →
    exec (.tachlossCurrent f c ms) s = .next (s.after ((s.wr (THM_FMEAS_IDRV f) (min c 0xFFFF)).fanFault f 2 c))) ∧
  (∀ (s : State) (f : Nat), f < 4 → s.domOn 1 = true → s.rd (THM_FSTAT_STATE f) = 2 → 800 ≤ s.rd THM_VSUP1_OUTPWRB →
    (s.fan f).at_ + 3000000000 ≤ s.now → exec (.retryWaitEnd f) s = .next (s.after (s.fanEnter f 1))) ∧
  (∀ (s : State) (f c : Nat), f < 4 → s.domOn 1 = true → 15000 < c → s.rd (THM_FSTAT_STATE f) ≠ 5 →
    exec (.fanShort f c) s = .next (s.after ((s.wr (THM_FMEAS_IDRV f) (min c 0xFFFF)).fanFault f 3 c))) ∧
  (∀ (s : State) (f : Nat), f < 4 → s.open (THM_FCMD_CMD f).addr = true → s.rd (THM_FSTAT_STATE f) = 5 →
    exec (.fanClr f) s = .next (s.after ((s.wr (THM_FSTAT_CAUSE f) 0).fanOff f)))

/-- READ, READEFF, WRITE, COMMIT, ABORT, STORE, INFO, RESTORE, SAVEDEF, LIST through a host mailbox: the answer and the
  state. For each of the four mailboxes that is open and not BUSY, an operation acts with the host's party (OEM role) on the
  PID, offset and length of the mailbox, and its result is put there: READ and READEFF the staged value or the one in effect,
  WRITE of up to 4 bytes the value of HDATA, COMMIT the PIDs listed at ADDR, ABORT, INFO, RESTORE, SAVEDEF and LIST their
  own; STORE sets BUSY and is started or queued. A mailbox that is BUSY ignores the write. -/
def Obligations.DictionaryOperationsOfTheHostAct : Prop :=
  (∀ (s : State) (k c : Nat) (m : DictMsg), k < 4 → s.domOn 1 = true → s.open (PDS_HGO_OP k).addr = true →
    s.on (PDS_HRES_BUSY k) = false → exec (.readParam 0 k c none m) s = .next (s.after (s.hostResult k 1 (s.rd (PDS_HLEN_LEN
      k)) (s.parRead hostParty false (s.rd (PDS_HPID_PID k)) (s.rd (PDS_HOFS_OFS k)) (s.rd (PDS_HLEN_LEN k)))))) ∧
  (∀ (s : State) (k c : Nat) (m : DictMsg), k < 4 → s.domOn 1 = true → s.open (PDS_HGO_OP k).addr = true →
    s.on (PDS_HRES_BUSY k) = false → exec (.readeff 0 k c none m) s = .next (s.after (s.hostResult k 2 (s.rd (PDS_HLEN_LEN
      k)) (s.parRead hostParty true (s.rd (PDS_HPID_PID k)) (s.rd (PDS_HOFS_OFS k)) (s.rd (PDS_HLEN_LEN k)))))) ∧
  (∀ (s : State) (k c : Nat) (m : DictMsg), k < 4 → s.domOn 1 = true → s.open (PDS_HGO_OP k).addr = true →
    s.on (PDS_HRES_BUSY k) = false → (s.rd (PDS_HLEN_LEN k)) ≤ 4 →
    exec (.writeParam 0 k c none m) s = .next (s.after ((s.parWrite hostParty (s.rd (PDS_HPID_PID k)) (s.rd (PDS_HOFS_OFS k))
    (leBytes (s.rd (PDS_HLEN_LEN k)) (s.rd (PDS_HDATA_DATA k)))).2.hostResult k 3 (s.rd (PDS_HLEN_LEN k)) (s.parWrite
    hostParty (s.rd (PDS_HPID_PID k)) (s.rd (PDS_HOFS_OFS k)) (leBytes (s.rd (PDS_HLEN_LEN k)) (s.rd (PDS_HDATA_DATA
    k)))).1))) ∧
  (∀ (s : State) (k c : Nat) (m : DictMsg), k < 4 → s.domOn 1 = true → s.open (PDS_HGO_OP k).addr = true →
    s.on (PDS_HRES_BUSY k) = false → exec (.commit 0 k c none m) s = .next (s.after ((s.commit hostParty ((List.range (min
      (s.rd (PDS_HLEN_LEN k)) 33)).map (fun i => s.ldw (s.rd (PDS_HADDR_ADDR k) + 4 * i)))).2.hostResult k 4 (s.rd
      (PDS_HLEN_LEN k)) (s.commit hostParty ((List.range (min (s.rd (PDS_HLEN_LEN k)) 33)).map (fun i => s.ldw (s.rd
      (PDS_HADDR_ADDR k) + 4 * i)))).1))) ∧
  (∀ (s : State) (k c : Nat) (m : DictMsg), k < 4 → s.domOn 1 = true → s.open (PDS_HGO_OP k).addr = true →
    s.on (PDS_HRES_BUSY k) = false → exec (.abortGroup 0 k c none m) s = .next (s.after ((s.parAbort hostParty (s.rd
      (PDS_HPID_PID k))).2.hostResult k 5 (s.rd (PDS_HLEN_LEN k)) (s.parAbort hostParty (s.rd (PDS_HPID_PID k))).1))) ∧
  (∀ (s : State) (k c : Nat) (m : DictMsg), k < 4 → s.domOn 1 = true → s.open (PDS_HGO_OP k).addr = true →
    s.on (PDS_HRES_BUSY k) = false →
    exec (.storeParams 0 k c none m) s = .next (s.after ((s.wr (PDS_HRES_BUSY k) 1).storeAsk ⟨0, k, s.hostMsg k 6⟩))) ∧
  (∀ (s : State) (k c : Nat) (m : DictMsg), k < 4 → s.domOn 1 = true → s.open (PDS_HGO_OP k).addr = true →
    s.on (PDS_HRES_BUSY k) = false → exec (.info 0 k c none m) s = .next (s.after (s.hostResult k 7 (s.rd (PDS_HLEN_LEN k))
      (s.parInfo hostParty (s.rd (PDS_HPID_PID k)))))) ∧
  (∀ (s : State) (k c : Nat) (m : DictMsg), k < 4 → s.domOn 1 = true → s.open (PDS_HGO_OP k).addr = true →
    s.on (PDS_HRES_BUSY k) = false → exec (.restoreDefaults 0 k c none m) s = .next (s.after ((s.restore hostParty (s.rd
      (PDS_HOFS_OFS k))).2.hostResult k 8 (s.rd (PDS_HLEN_LEN k)) (s.restore hostParty (s.rd (PDS_HOFS_OFS k))).1))) ∧
  (∀ (s : State) (k c : Nat) (m : DictMsg), k < 4 → s.domOn 1 = true → s.open (PDS_HGO_OP k).addr = true →
    s.on (PDS_HRES_BUSY k) = false → exec (.savedef 0 k c none m) s = .next (s.after ((s.saveDef hostParty).2.hostResult k 9
      (s.rd (PDS_HLEN_LEN k)) (s.saveDef hostParty).1))) ∧
  (∀ (s : State) (k c : Nat) (m : DictMsg), k < 4 → s.domOn 1 = true → s.open (PDS_HGO_OP k).addr = true →
    s.on (PDS_HRES_BUSY k) = false → exec (.listParams 0 k c none m) s = .next (s.after (s.hostResult k 12 (s.rd
      (PDS_HLEN_LEN k)) (parList (s.rd (PDS_HPID_PID k)))))) ∧
  (∀ (s : State) (k c : Nat) (m : DictMsg), k < 4 → s.domOn 1 = true → s.open (PDS_HGO_OP k).addr = true →
    s.on (PDS_HRES_BUSY k) = true → exec (.readParam 0 k c none m) s = .next (s.after (s)))

/-- LOGIN, LOGOUT, UNKNOWN_OP and READ on a remote path: sessions and responses. On a remote path 1 to 4 that carries
  messages (Table 13.4; assumption log, entry 38), for a message that is not a repetition and awaits no store: LOGIN is
  answered with its outcome, and its response carries the new session; LOGOUT of a session, granted or not, ends it and its
  locks; a code that is no operation is answered with RANGE, and ignored at a host mailbox; any other operation without a
  session with a role is answered with NOAUTH, and READ of a party is answered with the value staged. A repetition is
  answered with the same response. -/
def Obligations.DictionaryOperationsOfClientsAct : Prop :=
  (∀ (s : State) (path k c : Nat) (m : DictMsg), 1 ≤ path → path ≤ 4 → s.domOn 1 = true → s.pathOpen path k c = true →
    (s.touch path c { m with op := 10 }).awaited path c { m with op := 10 } = false →
    (s.touch path c { m with op := 10 }).repeated path c { m with op := 10 } = none →
    exec (.login path k c none m) s = .next (s.after (((s.touch path c { m with op := 10 }).login path c
    { m with op := 10 }).2.reply path c
    { (((s.touch path c { m with op := 10 }).login path c { m with op := 10 }).1.msg { m with op := 10 }) with sess := if m.data.isEmpty then ((s.touch path c { m with op := 10 }).login path c { m with op := 10 }).1.detail else m.sess }))) ∧
  (∀ (s : State) (path k c : Nat) (m : DictMsg), 1 ≤ path → path ≤ 4 → s.domOn 1 = true → s.pathOpen path k c = true →
    (s.touch path c { m with op := 11 }).awaited path c { m with op := 11 } = false →
    (s.touch path c { m with op := 11 }).repeated path c { m with op := 11 } = none →
    ((s.touch path c { m with op := 11 }).sessOf path c { m with op := 11 }).isSome = true →
    exec (.logout path k c none m) s = .next (s.after (((s.touch path c { m with op := 11 }).endSess m.sess).reply path c
    (Answer.msg (Answer.mk 0 0 []) { m with op := 11 })))) ∧
  (∀ (s : State) (path k c : Nat) (m : DictMsg), m.op = 0 ∨ 12 < m.op → 1 ≤ path → path ≤ 4 → s.domOn 1 = true →
    s.pathOpen path k c = true → (s.touch path c { m with op := m.op }).awaited path c { m with op := m.op } = false →
    (s.touch path c { m with op := m.op }).repeated path c { m with op := m.op } = none →
    exec (.unknownOp path k c none m) s = .next (s.after ((s.touch path c m).reply path c (Answer.msg (Answer.mk 3 0 []) m)))) ∧
  (∀ (s : State) (k c : Nat) (m : DictMsg), m.op = 0 ∨ 12 < m.op → k < 4 → s.domOn 1 = true →
    s.open (PDS_HGO_OP k).addr = true → exec (.unknownOp 0 k c none m) s = .next (s.after (s))) ∧
  (∀ (s : State) (path k c : Nat) (m : DictMsg), 1 ≤ path → path ≤ 4 → s.domOn 1 = true → s.pathOpen path k c = true →
    (s.touch path c { m with op := 1 }).awaited path c { m with op := 1 } = false →
    (s.touch path c { m with op := 1 }).repeated path c { m with op := 1 } = none →
    (s.touch path c { m with op := 1 }).partyOf path c { m with op := 1 } = none →
    exec (.readParam path k c none m) s = .next (s.after ((s.touch path c { m with op := 1 }).reply path c (Answer.msg
    (Answer.mk 14 0 []) { m with op := 1 })))) ∧
  (∀ (s : State) (path k c : Nat) (m : DictMsg) (who : Party), 1 ≤ path → path ≤ 4 → s.domOn 1 = true →
    s.pathOpen path k c = true → (s.touch path c { m with op := 1 }).awaited path c { m with op := 1 } = false →
    (s.touch path c { m with op := 1 }).repeated path c { m with op := 1 } = none →
    (s.touch path c { m with op := 1 }).partyOf path c { m with op := 1 } = some who → who.path = path →
    exec (.readParam path k c none m) s = .next (s.after ((s.touch path c { m with op := 1 }).reply path c ((((s.touch path c
    { m with op := 1 }).parRead who false m.pid m.ofs m.len).fit path m.len).msg { m with op := 1 })))) ∧
  (∀ (s : State) (path k c : Nat) (m : DictMsg) (r : PdsReply), 1 ≤ path → path ≤ 4 → s.domOn 1 = true →
    s.pathOpen path k c = true → (s.touch path c { m with op := 3 }).awaited path c { m with op := 3 } = false →
    (s.touch path c { m with op := 3 }).repeated path c { m with op := 3 } = some r →
    exec (.writeParam path k c none m) s = .next (s.after ((s.touch path c { m with op := 3 }).reply path c r.msg)))

/-- GROUP_HANDOVER / APPLY, TRANSACTION_WITHDRAW, LOCK / SESSION_EXPIRY, LOGIN_BLOCK_END, BANK_COPY_DONE, STORE_* (5 rows),
  PARAMETER_LOAD. With PDS powered: groups whose dependencies have applied are handed over; handed groups apply; what has not
  applied APTO ms after acceptance is withdrawn; locks idle for LOCKTO are released with EV 0x1209; idle sessions end; login
  blocks end; bank copies complete. A store goes from LEASE to WRITE with its lease, its records the values in effect at the
  first grant, fails with cause 1 after 50 ms without, goes to VERIFY once written, ends where it reads back good, fits 3 MiB
  and holds no uncorrectable error, else is rewritten once and then fails with cause 2, and asks anew when its lease is
  revoked. At step 6 with BOOTOK the parameters are loaded once. -/
def Obligations.TransactionsLocksAndTheStoreAct : Prop :=
  (∀ (s : State), s.blockOn 0x12 = true → exec .groupHandover s = .next (s.after (s.handOver))) ∧
  (∀ (s : State), s.blockOn 0x12 = true → exec .groupApply s = .next (s.after (s.sweep))) ∧
  (∀ (s : State), s.blockOn 0x12 = true →
    exec .transactionWithdraw s = .next (s.after (s.withdraw (fun t _ => decide (t.at_ + s.apto ≤ s.now))))) ∧
  (∀ (s : State), s.blockOn 0x12 = true → exec .lockExpiry s = .next (s.after (s.each (s.pds.locks.filter (fun (l : Lock) =>
      decide (l.at_ + s.lockTo ≤ s.now))) (fun (l : Lock) (s : State) => (s.unlock l.grp).emit 0x1209 [l.grp.id, l.party])))) ∧
  (∀ (s : State), s.blockOn 0x12 = true → exec .sessionExpiry s = .next (s.after (s.each (s.pds.sess.filter (fun (x :
      PdsSess) => decide (x.at_ + s.sessTo ≤ s.now))) (fun (x : PdsSess) (s : State) => s.endSess x.num)))) ∧
  (∀ (s : State), s.blockOn 0x12 = true → exec .loginBlockEnd s = .next (s.after
      ({ s with pds := { s.pds with blocked := s.pds.blocked.filter (fun e => !decide (e.2 ≤ s.now)) } }))) ∧
  (∀ (s : State), s.blockOn 0x12 = true →
    exec .bankCopyDone s = .next (s.after ({ s with pds := { s.pds with copying := [] } }))) ∧
  (∀ (s : State), s.blockOn 0x12 = true → s.rd PDS_STAT_STSTATE = 1 → s.holds 0 0x12 = true → s.pds.started = false →
    exec .storeLeaseGrant s = .next (s.after
    ((({ s with pds := { s.pds with started := true, snap := s.persistent } }).setBank (storeBank s.storeSeq
    s.persistent)).showBanks.wr PDS_STAT_STSTATE 2))) ∧
  (∀ (s : State), s.blockOn 0x12 = true → s.rd PDS_STAT_STSTATE = 1 → s.holds 0 0x12 = true → s.pds.started = true →
    exec .storeLeaseGrant s = .next (s.after ((s.setBank (storeBank (if s.pds.bank then s.pds.bankB.seq else s.pds.bankA.seq)
    s.pds.snap)).showBanks.wr PDS_STAT_STSTATE 2))) ∧
  (∀ (s : State), s.blockOn 0x12 = true → s.rd PDS_STAT_STSTATE = 1 → s.holds 0 0x12 = false →
    s.pds.leaseAt + 50000000 ≤ s.now → exec .storeLeaseTimeout s = .next (s.after (s.storeFail 1))) ∧
  (∀ (s : State), s.blockOn 0x12 = true → s.rd PDS_STAT_STSTATE = 2 → s.holds 0 0x12 = true →
    exec .storeWriteDone s = .next (s.after (s.wr PDS_STAT_STSTATE 3))) ∧
  (∀ (s : State), s.blockOn 0x12 = true → s.rd PDS_STAT_STSTATE = 3 → s.holds 0 0x12 = true → s.storeNow.spoilt = false →
    s.storeNow.len ≤ 3145728 → exec (.storeVerifyDone true) s = .next (s.after (s.storeDone))) ∧
  (∀ (s : State) (good : Bool), s.blockOn 0x12 = true → s.rd PDS_STAT_STSTATE = 3 → s.holds 0 0x12 = true →
    good = false ∨ s.storeNow.spoilt = true ∨ 3145728 < s.storeNow.len → s.pds.rewrote = false →
    exec (.storeVerifyDone good) s = .next (s.after (({ s with pds := { s.pds with rewrote := true } }).wr PDS_STAT_STSTATE
    2))) ∧
  (∀ (s : State) (good : Bool), s.blockOn 0x12 = true → s.rd PDS_STAT_STSTATE = 3 → s.holds 0 0x12 = true →
    good = false ∨ s.storeNow.spoilt = true ∨ 3145728 < s.storeNow.len → s.pds.rewrote = true →
    exec (.storeVerifyDone good) s = .next (s.after (s.storeFail 2))) ∧
  (∀ (s : State), s.blockOn 0x12 = true → s.rd PDS_STAT_STSTATE = 2 ∨ s.rd PDS_STAT_STSTATE = 3 → s.holds 0 0x12 = false →
    s.pds.revoked = 0 → exec .storeLeaseRevoked s = .next (s.after
      ((({ s with pds := { s.pds with revoked := 1, leaseAt := s.now } }).wr PDS_STAT_STSTATE 1).requestLease 0 0x12))) ∧
  (∀ (s : State), s.blockOn 0x12 = true → s.rd PDS_STAT_STSTATE = 2 ∨ s.rd PDS_STAT_STSTATE = 3 → s.holds 0 0x12 = false →
    s.pds.revoked ≠ 0 → exec .storeLeaseRevoked s = .next (s.after (s.storeFail 1))) ∧
  (∀ (s : State), s.blockOn 0x12 = true → s.mayStart = true → s.rd SYS_PWRSTAT_STEP = 6 → s.on SYS_PWRSTAT_BOOTOK = true →
    s.pds.loadDone = false → exec .parameterLoad s = .next (s.afterMgr (s.stepSeven)))

/-- A WRITE under a lock is refused with LOCKED; an accepted WRITE to a group stages under a lock and changes nothing in
  effect. For every state, party, PID, offset and data: a WRITE to a group locked for another party (not Tocsin) answers
  LOCKED (5) and changes nothing; a WRITE to a parameter of a group whose value lies in registers leaves every register field
  in effect, every table in effect and memory, and where it is accepted, the party holds the group's lock afterwards. -/
def Obligations.StagingLeavesWhatIsInEffect : Prop :=
  (∀ (s : State) (who : Party) (pid ofs : Nat) (d : List Nat) (p : PDef) (g : Grp), dictFind pid = some p →
    p.mayWrite who.role = true → p.wr ≠ 4 → d ≠ [] → p.grp = some g → who.id ≠ 0xFFFF → s.lockedFor g who.id = true →
    (s.parWrite who pid ofs d).1.status = 5 ∧ (s.parWrite who pid ofs d).2 = s) ∧
  (∀ (s : State) (who : Party) (pid ofs : Nat) (d : List Nat) (p : PDef) (g : Grp) (l : List Fld), dictFind pid = some p →
    p.grp = some g → p.kind = .flds l → (∀ f : Fld, (s.parWrite who pid ofs d).2.rd f = s.rd f) ∧
    (s.parWrite who pid ofs d).2.blobs = s.blobs ∧ s.memKept (s.parWrite who pid ofs d).2 ∧
    ((s.parWrite who pid ofs d).1.status = 0 → ((s.parWrite who pid ofs d).2.lockOf g).map (·.party) = some who.id))

/-- CLOCK_FAULT, LOCKSTEP_MISMATCH, HEARTBEAT_LOST, ECC_ERROR, MEMORY_SCRUB, WDKICK, (BOOT_)WATCHDOG_EXPIRY, STUCK / STEERING
  / GROUND_SPEED_CHECK, SELF_TEST_DONE. With SAF on, each detection reports and fires its row: a clock fault row 0 with EV
  0x010E, a lockstep mismatch row 1 with EV 0x010D and SHUTDOWN at the third in 10 s, a lost heartbeat row 1, an
  uncorrectable error with EV 0x010C, the loss of the NVM structure that it is in, and a failure of the core, of Tocsin or of
  the estimator that it is in, a corrected one counted; scrubs are due on their times; a kick and an expiry act on the
  watchdog of their core; the checks of rows 5, 6 and 8 are made at their times; the self-test passes with EV 0x0101 or fails
  with EV 0x0102 into SHUTDOWN. -/
def Obligations.TocsinDetectionActs : Prop :=
  (∀ (s : State) (c : Nat), s.blockOn 0x01 = true →
    exec (.clockFault c) s = .next (s.after (((s.setTsvCond 0 (setBit (s.tsvCond 0) (c % 64))).emit 0x010E [c]).tsvFire 0 0))) ∧
  (∀ (s : State), s.blockOn 0x01 = true →
    (s.now :: s.tsv.mismatch.filter (fun t => decide (s.now < t + 10000000000))).length < 3 →
    exec .lockstepMismatch s = .next (s.after
    ((({ s with tsv := { s.tsv with mismatch := (s.now :: s.tsv.mismatch.filter (fun t => decide (s.now < t + 10000000000))) } }).emit
    0x010D [(s.now :: s.tsv.mismatch.filter (fun t => decide (s.now < t + 10000000000))).length]).tsvFire 1 0))) ∧
  (∀ (s : State), s.blockOn 0x01 = true →
    3 ≤ (s.now :: s.tsv.mismatch.filter (fun t => decide (s.now < t + 10000000000))).length →
    exec .lockstepMismatch s = .next (s.after
    (((({ s with tsv := { s.tsv with mismatch := (s.now :: s.tsv.mismatch.filter (fun t => decide (s.now < t + 10000000000))) } }).emit
    0x010D [(s.now :: s.tsv.mismatch.filter (fun t => decide (s.now < t + 10000000000))).length]).rowReport 1 0xFF).tsvHold
    0xFF 3 1 true))) ∧
  (∀ (s : State), s.blockOn 0x01 = true → exec .heartbeatLost s = .next (s.after (s.tsvFire 1 0))) ∧
  (∀ (s : State) (who mem addr : Nat), s.blockOn 0x01 = true →
    exec (.eccError who mem addr false) s = .next (s.after (s.eccCorrected))) ∧
  (∀ (s : State) (who mem addr : Nat), s.blockOn 0x01 = true → who < 0x20 ∨ 0x24 ≤ who → who ≠ 1 → who ≠ 8 →
    exec (.eccError who mem addr true) s = .next (s.after ((((((s.eccHour).inc TSV_ECCCNT_UE).setFlagBit TSV_INTSTAT_FLAGS
    5).emit 0x010C [mem, addr]).tsvFire 2 0).nvmSpoils (Config.nvmAt mem addr)))) ∧
  (∀ (s : State) (mem addr : Nat), s.blockOn 0x01 = true → exec (.eccError 8 mem addr true) s = .next (s.after
      (((((((s.eccHour).inc TSV_ECCCNT_UE).setFlagBit TSV_INTSTAT_FLAGS 5).emit 0x010C [mem, addr]).tsvFire 2 0).nvmSpoils
      (Config.nvmAt mem addr)).fusMemory))) ∧
  (∀ (s : State) (mem addr : Nat), s.blockOn 0x01 = true → exec (.eccError 1 mem addr true) s = .next (s.after
      (((((((s.eccHour).inc TSV_ECCCNT_UE).setFlagBit TSV_INTSTAT_FLAGS 5).emit 0x010C [mem, addr]).tsvFire 2 0).nvmSpoils
      (Config.nvmAt mem addr)).tsvFire 1 0))) ∧
  (∀ (s : State) (who mem addr : Nat), s.blockOn 0x01 = true → 0x20 ≤ who → who < 0x24 →
    exec (.eccError who mem addr true) s = .next (s.after (((((((s.eccHour).inc TSV_ECCCNT_UE).setFlagBit TSV_INTSTAT_FLAGS
    5).emit 0x010C [mem, addr]).tsvFire 2 0).nvmSpoils (Config.nvmAt mem addr)).coreFails (who - 0x20)))) ∧
  (∀ (s : State), s.blockOn 0x01 = true → s.tsv.scrubSram + 3600000000000 ≤ s.now →
    exec (.memoryScrub false) s = .next (s.after
    ({ s.eccHour with tsv := { s.eccHour.tsv with scrubSram := s.eccHour.now } }))) ∧
  (∀ (s : State), s.blockOn 0x01 = true → s.domOn 3 = true → s.tsv.scrubDram + 86400000000000 ≤ s.now →
    exec (.memoryScrub true) s = .next (s.after
    ({ s.eccHour with tsv := { s.eccHour.tsv with scrubDram := s.eccHour.now } }))) ∧
  (∀ (s : State) (k v : Nat), k < 4 → s.open (TSV_WDKICK_KEY k).addr = true →
    exec (.wdkick k v) s = .next (s.after (s.wdKick k (v % 65536)))) ∧
  (∀ (s : State) (k : Nat), s.blockOn 0x01 = true → k < 4 → (s.wd k).running = true → s.wdDue k = true →
    exec (.watchdogExpiry k) s = .next (s.after (((s.setFlagBit TSV_INTSTAT_FLAGS 3).emit 0x0107 [k, 1]).coreFails k))) ∧
  (∀ (s : State), s.blockOn 0x01 = true → (s.wd 0).running = false → s.wdDue 0 = true →
    exec .bootWatchdogExpiry s = .next (s.after (((s.setFlagBit TSV_INTSTAT_FLAGS 3).emit 0x0107 [0, 1]).coreFails 0))) ∧
  (∀ (s : State), s.blockOn 0x01 = true → s.blockOn 0x0A = true → s.now % 10000000 = 0 →
    exec .stuckCheck s = .next (s.after (s.stuckRead.2.each ((List.range 6).filter (bit s.stuckRead.1)) (fun g s => s.svStuck
    g)))) ∧
  (∀ (s : State) (t : State), s.blockOn 0x01 = true → s.now % 1000000 = 0 →
    t =
    ({ s with tsv := { s.tsv with steerAt := s.steerChans.foldl (fun a k => if s.steerOff k then (if tabGet 0 a k = 0 then tabSet 0 a k (s.now + 1) else a) else tabSet 0 a k 0) s.tsv.steerAt } })
    → exec .steeringCheck s = .next (s.after ((t.setTsvCond 6 ((t.steerChans.filter t.steerLong).foldl setBit 0)).when
      (t.steerChans.any (fun k => bit ((t.steerChans.filter t.steerLong).foldl setBit 0) k && !bit (t.tsvCond 6) k))
      (State.tsvFire 6 0)))) ∧
  (∀ (s : State) (t : State), s.blockOn 0x01 = true → s.now % 1000000 = 0 →
    t =
    ({ s with tsv := { s.tsv with speedAt := (if s.gsDiffer then (if s.tsv.speedAt = 0 then s.now + 1 else s.tsv.speedAt) else 0), motionAt := (if s.gsMoves then (if s.tsv.motionAt = 0 then s.now + 1 else s.tsv.motionAt) else 0) } })
    → exec .groundSpeedCheck s = .next (s.after ((t.setTsvCond 8 t.gsBad).when ((List.range 3).any (fun i => bit t.gsBad i &&
      !bit (t.tsvCond 8) i)) (State.tsvFire 8 0)))) ∧
  (∀ (s : State), s.blockOn 0x01 = true → s.on TSV_STAT_STDONE = false → s.rd SYS_PWRSTAT_STEP = 2 →
    exec (.selfTestDone none) s = .next (s.after (((s.wr TSV_STAT_STDONE 1).wr SYS_PWRSTAT_STEP 3).emit 0x0101 []))) ∧
  (∀ (s : State) (n : Nat), s.blockOn 0x01 = true → s.on TSV_STAT_STDONE = false → s.rd SYS_PWRSTAT_STEP = 2 →
    (s.emit 0x0102 [n]).slevel ≠ 3 →
    exec (.selfTestDone (some n)) s = .next (s.after ((s.emit 0x0102 [n]).tsvHold 0xFF 3 12 false)))

/-- ATTACH, SSREQ, RSTREQ, RESET, SUPERVISOR_RESET / COLD_START_COMMAND, ORPHAN_EXPIRY, TSV_UNAVAILABLE, LEASE_*,
  ROLLBACK_COMPLETE. With the key 0xA77A and TSV open: ATTACH asks for its groups, which the end of the cycle attaches, SSREQ
  holds groups or every output, RSTREQ orders a reset; without the key ATTACH and SSREQ do nothing and RSTREQ answers EV
  0x0111. RESET carries out the next order, or one that Tocsin or a domain manager may give: the level and the revocations of
  R393 first, the rest once no lease in scope is being rolled back, till when the order waits in front. The dictionary's
  commands are writes of P.01.00.0F0 and 0F1. An expired orphan timer switches its members off; with SAF out the managers
  hold every output. Leases are requested, returned, renewed, expire, are revoked in the cases of R398, and become free with
  the rollback's end. -/
def Obligations.TocsinRequestsAndLeaseCommandsAct : Prop :=
  (∀ (s : State) (v : Nat), s.open TSV_ATTACH_KEY.addr = true → bits v 0 16 = 0xA77A →
    exec (.attach v) s = .next (s.after ((s.wr TSV_ATTRES_BUSY 1).tsvSet (fun t =>
    { t with attaches := t.attaches ++ [bits v 16 8] })))) ∧
  (∀ (s : State) (v : Nat), s.open TSV_ATTACH_KEY.addr = true → bits v 0 16 ≠ 0xA77A →
    exec (.attach v) s = .next (s.after (s))) ∧
  (∀ (s : State) (a : Nat), s.tsv.attaches = [a] → s.thm.due = false →
    s.lastly = State.attach a { s with tsv := { s.tsv with attaches := [] } }) ∧
  (∀ (s : State) (v : Nat), s.open TSV_SSREQ_KEY.addr = true → bits v 0 16 = 0xA77A →
    exec (.ssreq v) s = .next (s.after (s.tsvHold (bits v 16 8) (if bit v 31 then 2 else 1) 11 true))) ∧
  (∀ (s : State) (v : Nat), s.open TSV_SSREQ_KEY.addr = true → bits v 0 16 ≠ 0xA77A →
    exec (.ssreq v) s = .next (s.after (s))) ∧
  (∀ (s : State) (v : Nat) (o : ResetOrder), s.open TSV_RSTREQ_KEY.addr = true → resetRequest v = some o →
    exec (.rstreq v) s = .next (s.after (s.orderReset o))) ∧
  (∀ (s : State) (v : Nat), s.open TSV_RSTREQ_KEY.addr = true → resetRequest v = none →
    exec (.rstreq v) s = .next (s.after (s.emitSec 0x0111 0 (fun _ => [addrOff TSV_RSTREQ_KEY.addr])))) ∧
  (∀ (s : State) (o : ResetOrder) (r : List ResetOrder), s.mayStart = true → s.domOn 1 = true → s.tsv.orders = o :: r →
    exec (.reset none) s = .next (s.afterMgr (State.doReset o { s with tsv := { s.tsv with orders := r } }))) ∧
  (∀ (s : State) (k t src : Nat), s.mayStart = true → s.domOn 1 = true → ownReset k t src = true →
    exec (.reset (some (k, t, src))) s = .next (s.afterMgr (s.doReset ⟨k, t, src, 0xF, false⟩))) ∧
  (∀ (s : State) (o : ResetOrder), o.kind ≠ 4 ∨ s.blockOn o.target = true → o.begun = false →
    (s.resetBegin o).resetWaits o = false → s.doReset o = (s.resetBegin o).resetActs o) ∧
  (∀ (s : State) (o : ResetOrder) (u : State), o.kind ≠ 4 ∨ s.blockOn o.target = true → o.begun = false →
    u = s.resetBegin o → u.resetWaits o = true →
    s.doReset o = { u with tsv := { u.tsv with orders := { o with begun := true } :: u.tsv.orders } }) ∧
  (∀ (s : State), s.mayStart = true → s.domOn 1 = true → s.tsv.orders = [] → exec (.reset none) s = .next (s.afterMgr (s))) ∧
  (∀ (s : State) (v role : Nat), s.blockOn 0x12 = true →
    exec (.supervisorResetCommand v role) s = .next (s.after ((s.parWrite ⟨0, 0, role⟩ 0x001000F0 0 (leBytes 4 v)).2))) ∧
  (∀ (s : State) (v role : Nat), s.blockOn 0x12 = true →
    exec (.coldStartCommand v role) s = .next (s.after ((s.parWrite ⟨0, 0, role⟩ 0x001000F1 0 (leBytes 4 v)).2))) ∧
  (∀ (s : State) (g e : Nat), s.domOn 1 = true → g < 8 → tabFind s.tsv.orphan g = some e → e ≤ s.now + 1 →
    exec (.orphanExpiry g) s = .next (s.after (s.orphanOff g))) ∧
  (∀ (s : State), s.domOn 1 = true → s.domOn 2 = false → exec .tsvUnavailable s = .next (s.after (s.managersHold))) ∧
  (∀ (s : State) (r h : Nat), r < 5 → s.live h = true → exec (.leaseRequest r h) s = .next (s.after (s.requestLease r h))) ∧
  (∀ (s : State) (r h : Nat), r < 5 → s.live h = true → s.holds r h = true →
    exec (.leaseReturn r h false) s = .next (s.after (s.returnLease r h))) ∧
  (∀ (s : State) (r h : Nat), r < 5 → s.live h = true → s.holds r h = true →
    exec (.leaseReturn r h true) s = .next (s.after (s.requestLease r h))) ∧
  (∀ (s : State) (r : Nat), r < 5 → s.domOn 1 = true → (s.lease r).state = 1 → (s.lease r).expiry ≠ 0 →
    (s.lease r).expiry ≤ s.now → exec (.leaseExpiry r) s = .next (s.after (s.revokeLease r 3 none))) ∧
  (∀ (s : State) (r cause : Nat) (party : Option Nat), r < 5 → s.domOn 1 = true → s.mayRevoke r cause party = true →
    exec (.leaseRevoke r cause party) s = .next (s.after (s.revokeLease r cause party))) ∧
  (∀ (s : State) (r : Nat), r < 5 → s.domOn 1 = true → (s.lease r).state = 2 →
    exec (.rollbackComplete r) s = .next (s.afterMgr ((((s.setLease r { s.lease r with state := 0, owner := 0xFF }).emit
    0x0109 [r, (s.now - (s.lease r).since) / 1000]).serveLease r).resetGoesOn)))

/-- POWER_GOOD_LOST, DOMAIN_POWER_GOOD / FAIL, SUPPLY_*, POWER_FAIL, HOLDUP_END, KA_SUPPLY_LOSS, IGN_WAKE, RTC_ALARM,
  LOGPWR_RECHECK, START_STEP, BOOTOK. A domain that loses power-good goes off with those that require it, AON and KA with the
  module; a domain switched on comes up when what it requires is on, or is reported failed after 5 ms with EV 0x0024. While
  supplied, LOGPWR's range shows in SUPPLY with EV 0x0020 or 0x0021; below 6.0 V is a power fail, which ends in off or a new
  start. KA loses its state below 3.0 V. A wake starts with 9.0 V or waits for it; IGN that is high again while the module
  runs shows in IGN, and a start by the RTC goes on as one by IGN; in the wait for the supply it is kept for the start; a
  ready step of the start is taken; BOOTOK completes step 6. -/
def Obligations.DomainsSupplyAndStartAct : Prop :=
  (∀ (s : State) (d : Nat), 2 ≤ d → d < 14 → s.domOn d = true → s.running = true →
    exec (.powerGoodLost d) s = .next (s.afterMgr (s.domLost d))) ∧
  (∀ (s : State), s.domOn 1 = true → s.running = true → exec (.powerGoodLost 1) s = .next (s.afterMgr (s.toStandby))) ∧
  (∀ (s : State) (d : Nat), d < 14 → s.comesUp d = true → exec (.domainPowerGood d) s = .next (s.afterMgr (s.domUp d))) ∧
  (∀ (s : State) (d : Nat), d < 14 → s.running = true → bit s.mgr.swOn d = true → s.domOn d = false →
    tabGet 0 s.mgr.swAt d + 5000000 ≤ s.now → exec (.domainPowerFail d) s = .next (s.afterMgr ((State.emit 0x0024 [d]
      (State.setFlagBit SYS_PINTSTAT_FLAGS 4
      { s with mgr := { s.mgr with swOn := clrBit s.mgr.swOn d, flt := setBit s.mgr.flt d, want := (domDependents d).foldl clrBit s.mgr.want } })).showStep))) ∧
  (∀ (s : State) (v : Nat), 600 ≤ v → v < 900 → s.running = true → s.domOn 1 = true → s.mgr.failAt = none →
    s.rd SYS_PWRSTAT_SUPPLY ≠ 1 → exec (.supplyLow v) s = .next (s.afterMgr (((s.wr SYS_PWRSTAT_SUPPLY 1).setFlagBit
      SYS_PINTSTAT_FLAGS 2).emit 0x0020 [v]))) ∧
  (∀ (s : State) (v : Nat), 3200 < v → s.running = true → s.domOn 1 = true → s.mgr.failAt = none →
    s.rd SYS_PWRSTAT_SUPPLY ≠ 2 → exec (.supplyHigh v) s = .next (s.afterMgr (((s.wr SYS_PWRSTAT_SUPPLY 2).setFlagBit
      SYS_PINTSTAT_FLAGS 2).emit 0x0021 [v]))) ∧
  (∀ (s : State), s.running = true → s.domOn 1 = true → s.mgr.failAt = none → s.rd SYS_PWRSTAT_SUPPLY ≠ 0 →
    exec .supplyNormal s = .next (s.afterMgr ((s.wr SYS_PWRSTAT_SUPPLY 0).setFlagBit SYS_PINTSTAT_FLAGS 2))) ∧
  (∀ (s : State) (v : Nat), s.running = true → s.domOn 1 = true → s.mgr.failAt = none → v < 600 →
    exec (.powerFail v) s = .next (s.afterMgr (s.powerFail v))) ∧
  (∀ (s : State) (v : Nat), 600 ≤ v → exec (.powerFail v) s = .next (s.afterMgr (s))) ∧
  (∀ (s : State) (v : Nat), s.running = true → s.holdupOver = true →
    exec (.holdupEnd v) s = .next (s.afterMgr (if s.on SYS_PWRSTAT_IGN = true ∧ 900 ≤ v ∧ s.mgr.otLatch = false then
    s.allOff.coldStart 1 4 1 (s.rd SYS_PWRSTAT_LASTSTBY) true 0 else s.toStandby))) ∧
  (∀ (s : State), s.running = false → exec .kaSupplyLoss s = .next (s.afterMgr
      ({ s with ret := {}, rtc0 := 0, mgr := { s.mgr with ka := .standby, otLatch := false, powerOn := true, stby := 1, alarm := 0, ignUp := false } }))) ∧
  (∀ (s : State) (dur v : Nat), s.mgr.ka = .standby → s.mgr.otLatch = false →
    exec (.ignWake dur v) s = .next (s.afterMgr (s.wake 1 dur v))) ∧
  (∀ (s : State) (dur v : Nat), s.mgr.ka = .standby → s.mgr.otLatch = true →
    exec (.ignWake dur v) s = .next (s.afterMgr (s))) ∧
  (∀ (s : State) (dur v : Nat), s.mgr.ka = .running → s.domOn 1 = true →
    exec (.ignWake dur v) s = .next (s.afterMgr ((s.wr SYS_PWRSTAT_IGN 1).setMgr (fun m => { m with rtcWake := false })))) ∧
  (∀ (s : State) (dur v : Nat), s.mgr.ka = .waitSupply →
    exec (.ignWake dur v) s = .next (s.afterMgr (s.setMgr (fun m => { m with ignUp := true })))) ∧
  (∀ (s : State) (dur v : Nat), s.mgr.ka = .standby → s.mgr.otLatch = false → s.mgr.powerOn = false → s.mgr.stby = 1 →
    s.mgr.alarm ≠ 0 → s.mgr.alarm * 60000000000 ≤ dur → exec (.rtcAlarm dur v) s = .next (s.afterMgr (s.wake 2 dur v))) ∧
  (∀ (s : State) (v : Nat), s.mgr.ka = .waitSupply →
    exec (.logpwrRecheck v) s = .next (s.afterMgr (s.wake s.mgr.wakeSrc 1000000000 v))) ∧
  (∀ (s : State), s.startReady = true → exec .startStep s = .next (s.afterMgr (s.startNext))) ∧
  (∀ (s : State) (key : Nat), s.open SYS_PWRCMD_CMD.addr = true → key % 65536 = 0xA77A → s.rd SYS_PWRSTAT_STEP = 5 →
    s.domOn 3 = true → exec (.bootok key) s = .next (s.afterMgr ((s.wr SYS_PWRSTAT_STEP 6).wr SYS_PWRSTAT_BOOTOK 1))) ∧
  (∀ (s : State) (key : Nat), s.open SYS_PWRCMD_CMD.addr = true → key % 65536 ≠ 0xA77A →
    exec (.bootok key) s = .next (s.afterMgr (s)))

/-- IGN_OFF, SLEEP, RUN_ON_END, SHUTDOWN_STEP, SHUTDOWN_CANCEL: run-on and shut-down. While the module runs, IGN_OFF is taken
  as R413 and R414 say; at STEP 8 under SHUTDOWN it ends run-on at once, and SHUTDOWN with IGN low does so of itself; in the
  wait for the supply it ends the wake of IGN; SLEEP with its key ends run-on unless IGN is high; run-on ends after its time;
  each step of Table 15.3 in turn is carried out: s0 puts the outputs in their safe state, s1 switches SOL off, s2 closes the
  displays, s3 switches the loads off once the displays are done, s4 stores, s5 switches SAF off once the store has ended,
  and the last enters standby; IGN high cancels in run-on and before s0. -/
def Obligations.KeyOffActs : Prop :=
  (∀ (s : State), s.mgr.ka = .waitSupply → s.mgr.wakeSrc = 1 →
    exec .ignOff s = .next (s.afterMgr ({ s with mgr := { s.mgr with ka := .standby, ignUp := false } }))) ∧
  (∀ (s : State), s.running = true → exec .ignOff s = .next (s.afterMgr (s.ignLow))) ∧
  (∀ (s : State), s.running = true → s.mayStart = true → s.slevel = 3 → s.rd SYS_PWRSTAT_STEP = 8 →
    exec .ignOff s = .next (s.afterMgr ((s.wr SYS_PWRSTAT_IGN 0).offAtOnce))) ∧
  (∀ (s : State), s.mayStart = true → s.domOn 1 = true → s.on SYS_PWRSTAT_IGN = false →
    State.carry .safeShut s = s.offAtOnce ∧ s.offAtOnce.sd.atOnce = true ∧ s.offAtOnce.sd.ix = some 0) ∧
  (∀ (s : State) (key : Nat), s.open SYS_PWRCMD_CMD.addr = true → key % 65536 = 0xA77A → s.rd SYS_PWRSTAT_STEP = 8 →
    s.on SYS_PWRSTAT_IGN = false → exec (.sleep key) s = .next (s.afterMgr (s.sdBegin 7 false))) ∧
  (∀ (s : State) (key : Nat), s.open SYS_PWRCMD_CMD.addr = true → s.on SYS_PWRSTAT_IGN = true →
    exec (.sleep key) s = .next (s.afterMgr (s))) ∧
  (∀ (s : State), s.running = true → s.mgr.failAt = none → s.rd SYS_PWRSTAT_STEP = 8 → s.mgr.runEnd ≤ s.now →
    exec .runOnEnd s = .next (s.afterMgr (s.sdBegin 7 false))) ∧
  (∀ (s : State), s.mgr.ka = .waitSupply → s.mgr.wakeSrc ≠ 1 →
    exec .ignOff s = .next (s.afterMgr ({ s with mgr := { s.mgr with ka := .waitSupply, ignUp := false } }))) ∧
  (∀ (s : State) (v : Nat), s.running = true → s.mgr.failAt = none → s.sd.ix = some 0 →
    exec (.shutdownStep v) s = .next (s.afterMgr ({ s.sdOutputs with sd := { s.sdOutputs.sd with ix := some 1 } }))) ∧
  (∀ (s : State) (v : Nat), s.running = true → s.mgr.failAt = none → s.sd.ix = some 1 →
    exec (.shutdownStep v) s = .next (s.afterMgr ({ (s.domsOff [13]) with sd := { (s.domsOff [13]).sd with ix := some 2 } }))) ∧
  (∀ (s : State) (v : Nat), s.running = true → s.mgr.failAt = none → s.sd.ix = some 2 → s.domOn 10 = true →
    exec (.shutdownStep v) s = .next (s.afterMgr ({ s.dspClose with sd := { s.sd with ix := some 3, dspAt := s.now } }))) ∧
  (∀ (s : State) (v : Nat), s.running = true → s.mgr.failAt = none → s.sd.ix = some 3 → s.sdDspDone = true →
    exec (.shutdownStep v) s = .next (s.afterMgr ({ s.sdLoads with sd := { s.sdLoads.sd with ix := some 4 } }))) ∧
  (∀ (s : State) (v : Nat), s.running = true → s.mgr.failAt = none → s.sd.ix = some 4 →
    exec (.shutdownStep v) s = .next (s.afterMgr ({ s.sdStore with sd := { s.sdStore.sd with ix := some 5 } }))) ∧
  (∀ (s : State) (v : Nat), s.running = true → s.mgr.failAt = none → s.sd.ix = some 5 → s.rd PDS_STAT_STSTATE = 0 →
    exec (.shutdownStep v) s = .next (s.afterMgr ({ (s.domsOff [2]) with sd := { (s.domsOff [2]).sd with ix := some 6 } }))) ∧
  (∀ (s : State) (v : Nat), s.running = true → s.mgr.failAt = none → s.sd.ix = some 6 →
    exec (.shutdownStep v) s = .next (s.afterMgr (s.sdLast v))) ∧
  (∀ (s : State), s.running = true → s.mgr.failAt = none → s.rd SYS_PWRSTAT_STEP = 8 ∨ s.sd.ix = some 0 →
    exec .shutdownCancel s = .next (s.afterMgr ((State.emit 0x0026 [] (State.setFlagBit SYS_PINTSTAT_FLAGS 1
    { State.setMgr (fun m => { m with rtcWake := false }) ((s.wr SYS_PWRSTAT_IGN 1).wr SYS_PWRSTAT_STEP (if s.rd SYS_PWRSTAT_STEP = 9 then s.sd.left else 7)) with sd := {} })).showStep))) ∧
  (∀ (s : State), s.running = false ∨ s.mgr.failAt.isSome = true → exec .shutdownCancel s = .next (s.afterMgr (s)))
end

