-- ==== Sys2Proof/Laws/State.lean ====
section
/-!
SUPPORT. For every update of State, one lemma that says which fields it leaves as they were: one conjunct per field, each true by
rfl, all simp rules. Conjuncts about `rd`, `domOn` and the like say the same of what is read through a field.
-/
namespace Sys2Proof.Machine

@[simp] theorem State.wr_frame (f : Fld) (v : Nat) (s : State) :
    (s.wr f v).now = s.now ∧ (s.wr f v).pending = s.pending ∧ (s.wr f v).staged = s.staged ∧ (s.wr f v).flagAt = s.flagAt ∧ (s.wr
    f v).rate = s.rate ∧ (s.wr f v).params = s.params ∧ (s.wr f v).blobs = s.blobs ∧ (s.wr f v).mem = s.mem ∧ (s.wr f v).fenced =
    s.fenced ∧ (s.wr f v).fenceEv = s.fenceEv ∧ (s.wr f v).bus = s.bus ∧ (s.wr f v).free = s.free ∧ (s.wr f v).mgr = s.mgr ∧ (s.wr
    f v).sd = s.sd ∧ (s.wr f v).leases = s.leases ∧ (s.wr f v).evr = s.evr ∧ (s.wr f v).tsv = s.tsv ∧ (s.wr f v).sigs = s.sigs ∧
    (s.wr f v).tbs = s.tbs ∧ (s.wr f v).car = s.car ∧ (s.wr f v).hsn = s.hsn ∧ (s.wr f v).vis = s.vis ∧ (s.wr f v).cen = s.cen ∧
    (s.wr f v).sol = s.sol ∧ (s.wr f v).lsw = s.lsw ∧ (s.wr f v).gns = s.gns ∧ (s.wr f v).ret = s.ret ∧ (s.wr f v).rtc0 = s.rtc0 ∧
    (s.wr f v).banks = s.banks ∧ (s.wr f v).io = s.io ∧ (s.wr f v).fus = s.fus ∧ (s.wr f v).sec = s.sec ∧ (s.wr f v).can = s.can ∧
    (s.wr f v).eth = s.eth ∧ (s.wr f v).flt = s.flt ∧ (s.wr f v).dsp = s.dsp ∧ (s.wr f v).yul = s.yul ∧ (s.wr f v).pds = s.pds ∧
    (s.wr f v).thm = s.thm ∧ (∀ d, (s.wr f v).domOn d = s.domOn d) ∧ (∀ k, (s.wr f v).blockOn k = s.blockOn k) ∧ (∀ k, (s.wr f
    v).live k = s.live k) ∧ (∀ k, (s.wr f v).isFenced k = s.isFenced k) ∧ (∀ o, (s.wr f v).ldb o = s.ldb o) :=
  ⟨rfl, rfl, rfl, rfl, rfl, rfl, rfl, rfl, rfl, rfl, rfl, rfl, rfl, rfl, rfl, rfl, rfl, rfl, rfl, rfl, rfl, rfl, rfl, rfl, rfl,
    rfl, rfl, rfl, rfl, rfl, rfl, rfl, rfl, rfl, rfl, rfl, rfl, rfl, rfl, fun _ => rfl, fun _ => rfl, fun _ => rfl, fun _ => rfl,
    fun _ => rfl⟩

@[simp] theorem State.stage_frame (f : Fld) (v : Nat) (s : State) :
    (s.stage f v).now = s.now ∧ (s.stage f v).pending = s.pending ∧ (s.stage f v).regs = s.regs ∧ (s.stage f v).flagAt = s.flagAt
    ∧ (s.stage f v).rate = s.rate ∧ (s.stage f v).params = s.params ∧ (s.stage f v).blobs = s.blobs ∧ (s.stage f v).mem = s.mem ∧
    (s.stage f v).fenced = s.fenced ∧ (s.stage f v).fenceEv = s.fenceEv ∧ (s.stage f v).bus = s.bus ∧ (s.stage f v).free = s.free
    ∧ (s.stage f v).mgr = s.mgr ∧ (s.stage f v).sd = s.sd ∧ (s.stage f v).leases = s.leases ∧ (s.stage f v).evr = s.evr ∧ (s.stage
    f v).tsv = s.tsv ∧ (s.stage f v).sigs = s.sigs ∧ (s.stage f v).tbs = s.tbs ∧ (s.stage f v).car = s.car ∧ (s.stage f v).hsn =
    s.hsn ∧ (s.stage f v).vis = s.vis ∧ (s.stage f v).cen = s.cen ∧ (s.stage f v).sol = s.sol ∧ (s.stage f v).lsw = s.lsw ∧
    (s.stage f v).gns = s.gns ∧ (s.stage f v).ret = s.ret ∧ (s.stage f v).rtc0 = s.rtc0 ∧ (s.stage f v).banks = s.banks ∧ (s.stage
    f v).io = s.io ∧ (s.stage f v).fus = s.fus ∧ (s.stage f v).sec = s.sec ∧ (s.stage f v).can = s.can ∧ (s.stage f v).eth = s.eth
    ∧ (s.stage f v).flt = s.flt ∧ (s.stage f v).dsp = s.dsp ∧ (s.stage f v).yul = s.yul ∧ (s.stage f v).pds = s.pds ∧ (s.stage f
    v).thm = s.thm ∧ (∀ h, (s.stage f v).rd h = s.rd h) ∧ (∀ h, (s.stage f v).on h = s.on h) ∧ (∀ h, (s.stage f v).rdS h = s.rdS
    h) ∧ (∀ d, (s.stage f v).domOn d = s.domOn d) ∧ (∀ k, (s.stage f v).blockOn k = s.blockOn k) ∧ (∀ k, (s.stage f v).live k =
    s.live k) ∧ (∀ k, (s.stage f v).isFenced k = s.isFenced k) ∧ (∀ o, (s.stage f v).ldb o = s.ldb o) :=
  ⟨rfl, rfl, rfl, rfl, rfl, rfl, rfl, rfl, rfl, rfl, rfl, rfl, rfl, rfl, rfl, rfl, rfl, rfl, rfl, rfl, rfl, rfl, rfl, rfl, rfl,
    rfl, rfl, rfl, rfl, rfl, rfl, rfl, rfl, rfl, rfl, rfl, rfl, rfl, rfl, fun _ => rfl, fun _ => rfl, fun _ => rfl, fun _ => rfl,
    fun _ => rfl, fun _ => rfl, fun _ => rfl, fun _ => rfl⟩

@[simp] theorem State.unstage_frame (f : Fld) (s : State) :
    (s.unstage f).now = s.now ∧ (s.unstage f).pending = s.pending ∧ (s.unstage f).regs = s.regs ∧ (s.unstage f).flagAt = s.flagAt
    ∧ (s.unstage f).rate = s.rate ∧ (s.unstage f).params = s.params ∧ (s.unstage f).blobs = s.blobs ∧ (s.unstage f).mem = s.mem ∧
    (s.unstage f).fenced = s.fenced ∧ (s.unstage f).fenceEv = s.fenceEv ∧ (s.unstage f).bus = s.bus ∧ (s.unstage f).free = s.free
    ∧ (s.unstage f).mgr = s.mgr ∧ (s.unstage f).sd = s.sd ∧ (s.unstage f).leases = s.leases ∧ (s.unstage f).evr = s.evr ∧
    (s.unstage f).tsv = s.tsv ∧ (s.unstage f).sigs = s.sigs ∧ (s.unstage f).tbs = s.tbs ∧ (s.unstage f).car = s.car ∧ (s.unstage
    f).hsn = s.hsn ∧ (s.unstage f).vis = s.vis ∧ (s.unstage f).cen = s.cen ∧ (s.unstage f).sol = s.sol ∧ (s.unstage f).lsw = s.lsw
    ∧ (s.unstage f).gns = s.gns ∧ (s.unstage f).ret = s.ret ∧ (s.unstage f).rtc0 = s.rtc0 ∧ (s.unstage f).banks = s.banks ∧
    (s.unstage f).io = s.io ∧ (s.unstage f).fus = s.fus ∧ (s.unstage f).sec = s.sec ∧ (s.unstage f).can = s.can ∧ (s.unstage
    f).eth = s.eth ∧ (s.unstage f).flt = s.flt ∧ (s.unstage f).dsp = s.dsp ∧ (s.unstage f).yul = s.yul ∧ (s.unstage f).pds = s.pds
    ∧ (s.unstage f).thm = s.thm ∧ (∀ h, (s.unstage f).rd h = s.rd h) ∧ (∀ h, (s.unstage f).on h = s.on h) ∧ (∀ h, (s.unstage
    f).rdS h = s.rdS h) ∧ (∀ d, (s.unstage f).domOn d = s.domOn d) ∧ (∀ k, (s.unstage f).blockOn k = s.blockOn k) ∧ (∀ k,
    (s.unstage f).live k = s.live k) ∧ (∀ k, (s.unstage f).isFenced k = s.isFenced k) ∧ (∀ o, (s.unstage f).ldb o = s.ldb o) :=
  ⟨rfl, rfl, rfl, rfl, rfl, rfl, rfl, rfl, rfl, rfl, rfl, rfl, rfl, rfl, rfl, rfl, rfl, rfl, rfl, rfl, rfl, rfl, rfl, rfl, rfl,
    rfl, rfl, rfl, rfl, rfl, rfl, rfl, rfl, rfl, rfl, rfl, rfl, rfl, rfl, fun _ => rfl, fun _ => rfl, fun _ => rfl, fun _ => rfl,
    fun _ => rfl, fun _ => rfl, fun _ => rfl, fun _ => rfl⟩

@[simp] theorem State.setFlag_frame (f : Fld) (s : State) :
    (s.setFlag f).now = s.now ∧ (s.setFlag f).pending = s.pending ∧ (s.setFlag f).staged = s.staged ∧ (s.setFlag f).rate = s.rate
    ∧ (s.setFlag f).params = s.params ∧ (s.setFlag f).blobs = s.blobs ∧ (s.setFlag f).mem = s.mem ∧ (s.setFlag f).fenced =
    s.fenced ∧ (s.setFlag f).fenceEv = s.fenceEv ∧ (s.setFlag f).bus = s.bus ∧ (s.setFlag f).free = s.free ∧ (s.setFlag f).mgr =
    s.mgr ∧ (s.setFlag f).sd = s.sd ∧ (s.setFlag f).leases = s.leases ∧ (s.setFlag f).evr = s.evr ∧ (s.setFlag f).tsv = s.tsv ∧
    (s.setFlag f).sigs = s.sigs ∧ (s.setFlag f).tbs = s.tbs ∧ (s.setFlag f).car = s.car ∧ (s.setFlag f).hsn = s.hsn ∧ (s.setFlag
    f).vis = s.vis ∧ (s.setFlag f).cen = s.cen ∧ (s.setFlag f).sol = s.sol ∧ (s.setFlag f).lsw = s.lsw ∧ (s.setFlag f).gns = s.gns
    ∧ (s.setFlag f).ret = s.ret ∧ (s.setFlag f).rtc0 = s.rtc0 ∧ (s.setFlag f).banks = s.banks ∧ (s.setFlag f).io = s.io ∧
    (s.setFlag f).fus = s.fus ∧ (s.setFlag f).sec = s.sec ∧ (s.setFlag f).can = s.can ∧ (s.setFlag f).eth = s.eth ∧ (s.setFlag
    f).flt = s.flt ∧ (s.setFlag f).dsp = s.dsp ∧ (s.setFlag f).yul = s.yul ∧ (s.setFlag f).pds = s.pds ∧ (s.setFlag f).thm = s.thm
    ∧ (∀ d, (s.setFlag f).domOn d = s.domOn d) ∧ (∀ k, (s.setFlag f).blockOn k = s.blockOn k) ∧ (∀ k, (s.setFlag f).live k =
    s.live k) ∧ (∀ k, (s.setFlag f).isFenced k = s.isFenced k) ∧ (∀ o, (s.setFlag f).ldb o = s.ldb o) :=
  ⟨rfl, rfl, rfl, rfl, rfl, rfl, rfl, rfl, rfl, rfl, rfl, rfl, rfl, rfl, rfl, rfl, rfl, rfl, rfl, rfl, rfl, rfl, rfl, rfl, rfl,
    rfl, rfl, rfl, rfl, rfl, rfl, rfl, rfl, rfl, rfl, rfl, rfl, rfl, fun _ => rfl, fun _ => rfl, fun _ => rfl, fun _ => rfl, fun _
    => rfl⟩

@[simp] theorem State.setFlagBit_frame (f : Fld) (i : Nat) (s : State) :
    (s.setFlagBit f i).now = s.now ∧ (s.setFlagBit f i).pending = s.pending ∧ (s.setFlagBit f i).staged = s.staged ∧ (s.setFlagBit
    f i).rate = s.rate ∧ (s.setFlagBit f i).params = s.params ∧ (s.setFlagBit f i).blobs = s.blobs ∧ (s.setFlagBit f i).mem =
    s.mem ∧ (s.setFlagBit f i).fenced = s.fenced ∧ (s.setFlagBit f i).fenceEv = s.fenceEv ∧ (s.setFlagBit f i).bus = s.bus ∧
    (s.setFlagBit f i).free = s.free ∧ (s.setFlagBit f i).mgr = s.mgr ∧ (s.setFlagBit f i).sd = s.sd ∧ (s.setFlagBit f i).leases =
    s.leases ∧ (s.setFlagBit f i).evr = s.evr ∧ (s.setFlagBit f i).tsv = s.tsv ∧ (s.setFlagBit f i).sigs = s.sigs ∧ (s.setFlagBit
    f i).tbs = s.tbs ∧ (s.setFlagBit f i).car = s.car ∧ (s.setFlagBit f i).hsn = s.hsn ∧ (s.setFlagBit f i).vis = s.vis ∧
    (s.setFlagBit f i).cen = s.cen ∧ (s.setFlagBit f i).sol = s.sol ∧ (s.setFlagBit f i).lsw = s.lsw ∧ (s.setFlagBit f i).gns =
    s.gns ∧ (s.setFlagBit f i).ret = s.ret ∧ (s.setFlagBit f i).rtc0 = s.rtc0 ∧ (s.setFlagBit f i).banks = s.banks ∧ (s.setFlagBit
    f i).io = s.io ∧ (s.setFlagBit f i).fus = s.fus ∧ (s.setFlagBit f i).sec = s.sec ∧ (s.setFlagBit f i).can = s.can ∧
    (s.setFlagBit f i).eth = s.eth ∧ (s.setFlagBit f i).flt = s.flt ∧ (s.setFlagBit f i).dsp = s.dsp ∧ (s.setFlagBit f i).yul =
    s.yul ∧ (s.setFlagBit f i).pds = s.pds ∧ (s.setFlagBit f i).thm = s.thm ∧ (∀ d, (s.setFlagBit f i).domOn d = s.domOn d) ∧ (∀
    k, (s.setFlagBit f i).blockOn k = s.blockOn k) ∧ (∀ k, (s.setFlagBit f i).live k = s.live k) ∧ (∀ k, (s.setFlagBit f
    i).isFenced k = s.isFenced k) ∧ (∀ o, (s.setFlagBit f i).ldb o = s.ldb o) :=
  ⟨rfl, rfl, rfl, rfl, rfl, rfl, rfl, rfl, rfl, rfl, rfl, rfl, rfl, rfl, rfl, rfl, rfl, rfl, rfl, rfl, rfl, rfl, rfl, rfl, rfl,
    rfl, rfl, rfl, rfl, rfl, rfl, rfl, rfl, rfl, rfl, rfl, rfl, rfl, fun _ => rfl, fun _ => rfl, fun _ => rfl, fun _ => rfl, fun _
    => rfl⟩

@[simp] theorem State.signal_frame (g : Sig) (s : State) :
    (s.signal g).now = s.now ∧ (s.signal g).pending = s.pending ∧ (s.signal g).regs = s.regs ∧ (s.signal g).staged = s.staged ∧
    (s.signal g).flagAt = s.flagAt ∧ (s.signal g).rate = s.rate ∧ (s.signal g).params = s.params ∧ (s.signal g).blobs = s.blobs ∧
    (s.signal g).mem = s.mem ∧ (s.signal g).fenced = s.fenced ∧ (s.signal g).fenceEv = s.fenceEv ∧ (s.signal g).bus = s.bus ∧
    (s.signal g).free = s.free ∧ (s.signal g).mgr = s.mgr ∧ (s.signal g).sd = s.sd ∧ (s.signal g).leases = s.leases ∧ (s.signal
    g).evr = s.evr ∧ (s.signal g).tsv = s.tsv ∧ (s.signal g).tbs = s.tbs ∧ (s.signal g).car = s.car ∧ (s.signal g).hsn = s.hsn ∧
    (s.signal g).vis = s.vis ∧ (s.signal g).cen = s.cen ∧ (s.signal g).sol = s.sol ∧ (s.signal g).lsw = s.lsw ∧ (s.signal g).gns =
    s.gns ∧ (s.signal g).ret = s.ret ∧ (s.signal g).rtc0 = s.rtc0 ∧ (s.signal g).banks = s.banks ∧ (s.signal g).io = s.io ∧
    (s.signal g).fus = s.fus ∧ (s.signal g).sec = s.sec ∧ (s.signal g).can = s.can ∧ (s.signal g).eth = s.eth ∧ (s.signal g).flt =
    s.flt ∧ (s.signal g).dsp = s.dsp ∧ (s.signal g).yul = s.yul ∧ (s.signal g).pds = s.pds ∧ (s.signal g).thm = s.thm ∧ (∀ h,
    (s.signal g).rd h = s.rd h) ∧ (∀ h, (s.signal g).on h = s.on h) ∧ (∀ h, (s.signal g).rdS h = s.rdS h) ∧ (∀ d, (s.signal
    g).domOn d = s.domOn d) ∧ (∀ k, (s.signal g).blockOn k = s.blockOn k) ∧ (∀ k, (s.signal g).live k = s.live k) ∧ (∀ k,
    (s.signal g).isFenced k = s.isFenced k) ∧ (∀ o, (s.signal g).ldb o = s.ldb o) :=
  ⟨rfl, rfl, rfl, rfl, rfl, rfl, rfl, rfl, rfl, rfl, rfl, rfl, rfl, rfl, rfl, rfl, rfl, rfl, rfl, rfl, rfl, rfl, rfl, rfl, rfl,
    rfl, rfl, rfl, rfl, rfl, rfl, rfl, rfl, rfl, rfl, rfl, rfl, rfl, rfl, fun _ => rfl, fun _ => rfl, fun _ => rfl, fun _ => rfl,
    fun _ => rfl, fun _ => rfl, fun _ => rfl, fun _ => rfl⟩

@[simp] theorem State.stb_frame (a v : Nat) (s : State) :
    (s.stb a v).now = s.now ∧ (s.stb a v).pending = s.pending ∧ (s.stb a v).regs = s.regs ∧ (s.stb a v).staged = s.staged ∧ (s.stb
    a v).flagAt = s.flagAt ∧ (s.stb a v).rate = s.rate ∧ (s.stb a v).params = s.params ∧ (s.stb a v).blobs = s.blobs ∧ (s.stb a
    v).fenced = s.fenced ∧ (s.stb a v).fenceEv = s.fenceEv ∧ (s.stb a v).bus = s.bus ∧ (s.stb a v).free = s.free ∧ (s.stb a v).mgr
    = s.mgr ∧ (s.stb a v).sd = s.sd ∧ (s.stb a v).leases = s.leases ∧ (s.stb a v).evr = s.evr ∧ (s.stb a v).tsv = s.tsv ∧ (s.stb a
    v).sigs = s.sigs ∧ (s.stb a v).tbs = s.tbs ∧ (s.stb a v).car = s.car ∧ (s.stb a v).hsn = s.hsn ∧ (s.stb a v).vis = s.vis ∧
    (s.stb a v).cen = s.cen ∧ (s.stb a v).sol = s.sol ∧ (s.stb a v).lsw = s.lsw ∧ (s.stb a v).gns = s.gns ∧ (s.stb a v).ret =
    s.ret ∧ (s.stb a v).rtc0 = s.rtc0 ∧ (s.stb a v).banks = s.banks ∧ (s.stb a v).io = s.io ∧ (s.stb a v).fus = s.fus ∧ (s.stb a
    v).sec = s.sec ∧ (s.stb a v).can = s.can ∧ (s.stb a v).eth = s.eth ∧ (s.stb a v).flt = s.flt ∧ (s.stb a v).dsp = s.dsp ∧
    (s.stb a v).yul = s.yul ∧ (s.stb a v).pds = s.pds ∧ (s.stb a v).thm = s.thm ∧ (∀ h, (s.stb a v).rd h = s.rd h) ∧ (∀ h, (s.stb
    a v).on h = s.on h) ∧ (∀ h, (s.stb a v).rdS h = s.rdS h) ∧ (∀ d, (s.stb a v).domOn d = s.domOn d) ∧ (∀ k, (s.stb a v).blockOn
    k = s.blockOn k) ∧ (∀ k, (s.stb a v).live k = s.live k) ∧ (∀ k, (s.stb a v).isFenced k = s.isFenced k) :=
  ⟨rfl, rfl, rfl, rfl, rfl, rfl, rfl, rfl, rfl, rfl, rfl, rfl, rfl, rfl, rfl, rfl, rfl, rfl, rfl, rfl, rfl, rfl, rfl, rfl, rfl,
    rfl, rfl, rfl, rfl, rfl, rfl, rfl, rfl, rfl, rfl, rfl, rfl, rfl, rfl, fun _ => rfl, fun _ => rfl, fun _ => rfl, fun _ => rfl,
    fun _ => rfl, fun _ => rfl, fun _ => rfl⟩

@[simp] theorem State.setLease_frame (r : Nat) (l : Lease) (s : State) :
    (s.setLease r l).now = s.now ∧ (s.setLease r l).pending = s.pending ∧ (s.setLease r l).regs = s.regs ∧ (s.setLease r l).staged
    = s.staged ∧ (s.setLease r l).flagAt = s.flagAt ∧ (s.setLease r l).rate = s.rate ∧ (s.setLease r l).params = s.params ∧
    (s.setLease r l).blobs = s.blobs ∧ (s.setLease r l).mem = s.mem ∧ (s.setLease r l).fenced = s.fenced ∧ (s.setLease r
    l).fenceEv = s.fenceEv ∧ (s.setLease r l).bus = s.bus ∧ (s.setLease r l).free = s.free ∧ (s.setLease r l).mgr = s.mgr ∧
    (s.setLease r l).sd = s.sd ∧ (s.setLease r l).evr = s.evr ∧ (s.setLease r l).tsv = s.tsv ∧ (s.setLease r l).sigs = s.sigs ∧
    (s.setLease r l).tbs = s.tbs ∧ (s.setLease r l).car = s.car ∧ (s.setLease r l).hsn = s.hsn ∧ (s.setLease r l).vis = s.vis ∧
    (s.setLease r l).cen = s.cen ∧ (s.setLease r l).sol = s.sol ∧ (s.setLease r l).lsw = s.lsw ∧ (s.setLease r l).gns = s.gns ∧
    (s.setLease r l).ret = s.ret ∧ (s.setLease r l).rtc0 = s.rtc0 ∧ (s.setLease r l).banks = s.banks ∧ (s.setLease r l).io = s.io
    ∧ (s.setLease r l).fus = s.fus ∧ (s.setLease r l).sec = s.sec ∧ (s.setLease r l).can = s.can ∧ (s.setLease r l).eth = s.eth ∧
    (s.setLease r l).flt = s.flt ∧ (s.setLease r l).dsp = s.dsp ∧ (s.setLease r l).yul = s.yul ∧ (s.setLease r l).pds = s.pds ∧
    (s.setLease r l).thm = s.thm ∧ (∀ h, (s.setLease r l).rd h = s.rd h) ∧ (∀ h, (s.setLease r l).on h = s.on h) ∧ (∀ h,
    (s.setLease r l).rdS h = s.rdS h) ∧ (∀ d, (s.setLease r l).domOn d = s.domOn d) ∧ (∀ k, (s.setLease r l).blockOn k = s.blockOn
    k) ∧ (∀ k, (s.setLease r l).live k = s.live k) ∧ (∀ k, (s.setLease r l).isFenced k = s.isFenced k) ∧ (∀ o, (s.setLease r
    l).ldb o = s.ldb o) :=
  ⟨rfl, rfl, rfl, rfl, rfl, rfl, rfl, rfl, rfl, rfl, rfl, rfl, rfl, rfl, rfl, rfl, rfl, rfl, rfl, rfl, rfl, rfl, rfl, rfl, rfl,
    rfl, rfl, rfl, rfl, rfl, rfl, rfl, rfl, rfl, rfl, rfl, rfl, rfl, rfl, fun _ => rfl, fun _ => rfl, fun _ => rfl, fun _ => rfl,
    fun _ => rfl, fun _ => rfl, fun _ => rfl, fun _ => rfl⟩

@[simp] theorem State.tsvSet_frame (g : Tsv → Tsv) (s : State) :
    (s.tsvSet g).now = s.now ∧ (s.tsvSet g).pending = s.pending ∧ (s.tsvSet g).regs = s.regs ∧ (s.tsvSet g).staged = s.staged ∧
    (s.tsvSet g).flagAt = s.flagAt ∧ (s.tsvSet g).rate = s.rate ∧ (s.tsvSet g).params = s.params ∧ (s.tsvSet g).blobs = s.blobs ∧
    (s.tsvSet g).mem = s.mem ∧ (s.tsvSet g).fenced = s.fenced ∧ (s.tsvSet g).fenceEv = s.fenceEv ∧ (s.tsvSet g).bus = s.bus ∧
    (s.tsvSet g).free = s.free ∧ (s.tsvSet g).mgr = s.mgr ∧ (s.tsvSet g).sd = s.sd ∧ (s.tsvSet g).leases = s.leases ∧ (s.tsvSet
    g).evr = s.evr ∧ (s.tsvSet g).sigs = s.sigs ∧ (s.tsvSet g).tbs = s.tbs ∧ (s.tsvSet g).car = s.car ∧ (s.tsvSet g).hsn = s.hsn ∧
    (s.tsvSet g).vis = s.vis ∧ (s.tsvSet g).cen = s.cen ∧ (s.tsvSet g).sol = s.sol ∧ (s.tsvSet g).lsw = s.lsw ∧ (s.tsvSet g).gns =
    s.gns ∧ (s.tsvSet g).ret = s.ret ∧ (s.tsvSet g).rtc0 = s.rtc0 ∧ (s.tsvSet g).banks = s.banks ∧ (s.tsvSet g).io = s.io ∧
    (s.tsvSet g).fus = s.fus ∧ (s.tsvSet g).sec = s.sec ∧ (s.tsvSet g).can = s.can ∧ (s.tsvSet g).eth = s.eth ∧ (s.tsvSet g).flt =
    s.flt ∧ (s.tsvSet g).dsp = s.dsp ∧ (s.tsvSet g).yul = s.yul ∧ (s.tsvSet g).pds = s.pds ∧ (s.tsvSet g).thm = s.thm ∧ (∀ h,
    (s.tsvSet g).rd h = s.rd h) ∧ (∀ h, (s.tsvSet g).on h = s.on h) ∧ (∀ h, (s.tsvSet g).rdS h = s.rdS h) ∧ (∀ d, (s.tsvSet
    g).domOn d = s.domOn d) ∧ (∀ k, (s.tsvSet g).blockOn k = s.blockOn k) ∧ (∀ k, (s.tsvSet g).live k = s.live k) ∧ (∀ k,
    (s.tsvSet g).isFenced k = s.isFenced k) ∧ (∀ o, (s.tsvSet g).ldb o = s.ldb o) :=
  ⟨rfl, rfl, rfl, rfl, rfl, rfl, rfl, rfl, rfl, rfl, rfl, rfl, rfl, rfl, rfl, rfl, rfl, rfl, rfl, rfl, rfl, rfl, rfl, rfl, rfl,
    rfl, rfl, rfl, rfl, rfl, rfl, rfl, rfl, rfl, rfl, rfl, rfl, rfl, rfl, fun _ => rfl, fun _ => rfl, fun _ => rfl, fun _ => rfl,
    fun _ => rfl, fun _ => rfl, fun _ => rfl, fun _ => rfl⟩

@[simp] theorem State.setTsvCond_frame (m v : Nat) (s : State) :
    (s.setTsvCond m v).now = s.now ∧ (s.setTsvCond m v).pending = s.pending ∧ (s.setTsvCond m v).regs = s.regs ∧ (s.setTsvCond m
    v).staged = s.staged ∧ (s.setTsvCond m v).flagAt = s.flagAt ∧ (s.setTsvCond m v).rate = s.rate ∧ (s.setTsvCond m v).params =
    s.params ∧ (s.setTsvCond m v).blobs = s.blobs ∧ (s.setTsvCond m v).mem = s.mem ∧ (s.setTsvCond m v).fenced = s.fenced ∧
    (s.setTsvCond m v).fenceEv = s.fenceEv ∧ (s.setTsvCond m v).bus = s.bus ∧ (s.setTsvCond m v).free = s.free ∧ (s.setTsvCond m
    v).mgr = s.mgr ∧ (s.setTsvCond m v).sd = s.sd ∧ (s.setTsvCond m v).leases = s.leases ∧ (s.setTsvCond m v).evr = s.evr ∧
    (s.setTsvCond m v).sigs = s.sigs ∧ (s.setTsvCond m v).tbs = s.tbs ∧ (s.setTsvCond m v).car = s.car ∧ (s.setTsvCond m v).hsn =
    s.hsn ∧ (s.setTsvCond m v).vis = s.vis ∧ (s.setTsvCond m v).cen = s.cen ∧ (s.setTsvCond m v).sol = s.sol ∧ (s.setTsvCond m
    v).lsw = s.lsw ∧ (s.setTsvCond m v).gns = s.gns ∧ (s.setTsvCond m v).ret = s.ret ∧ (s.setTsvCond m v).rtc0 = s.rtc0 ∧
    (s.setTsvCond m v).banks = s.banks ∧ (s.setTsvCond m v).io = s.io ∧ (s.setTsvCond m v).fus = s.fus ∧ (s.setTsvCond m v).sec =
    s.sec ∧ (s.setTsvCond m v).can = s.can ∧ (s.setTsvCond m v).eth = s.eth ∧ (s.setTsvCond m v).flt = s.flt ∧ (s.setTsvCond m
    v).dsp = s.dsp ∧ (s.setTsvCond m v).yul = s.yul ∧ (s.setTsvCond m v).pds = s.pds ∧ (s.setTsvCond m v).thm = s.thm ∧ (∀ h,
    (s.setTsvCond m v).rd h = s.rd h) ∧ (∀ h, (s.setTsvCond m v).on h = s.on h) ∧ (∀ h, (s.setTsvCond m v).rdS h = s.rdS h) ∧ (∀
    d, (s.setTsvCond m v).domOn d = s.domOn d) ∧ (∀ k, (s.setTsvCond m v).blockOn k = s.blockOn k) ∧ (∀ k, (s.setTsvCond m v).live
    k = s.live k) ∧ (∀ k, (s.setTsvCond m v).isFenced k = s.isFenced k) ∧ (∀ o, (s.setTsvCond m v).ldb o = s.ldb o) :=
  ⟨rfl, rfl, rfl, rfl, rfl, rfl, rfl, rfl, rfl, rfl, rfl, rfl, rfl, rfl, rfl, rfl, rfl, rfl, rfl, rfl, rfl, rfl, rfl, rfl, rfl,
    rfl, rfl, rfl, rfl, rfl, rfl, rfl, rfl, rfl, rfl, rfl, rfl, rfl, rfl, fun _ => rfl, fun _ => rfl, fun _ => rfl, fun _ => rfl,
    fun _ => rfl, fun _ => rfl, fun _ => rfl, fun _ => rfl⟩

@[simp] theorem State.setPds_frame (g : Pds → Pds) (s : State) :
    (s.setPds g).now = s.now ∧ (s.setPds g).pending = s.pending ∧ (s.setPds g).regs = s.regs ∧ (s.setPds g).staged = s.staged ∧
    (s.setPds g).flagAt = s.flagAt ∧ (s.setPds g).rate = s.rate ∧ (s.setPds g).params = s.params ∧ (s.setPds g).blobs = s.blobs ∧
    (s.setPds g).mem = s.mem ∧ (s.setPds g).fenced = s.fenced ∧ (s.setPds g).fenceEv = s.fenceEv ∧ (s.setPds g).bus = s.bus ∧
    (s.setPds g).free = s.free ∧ (s.setPds g).mgr = s.mgr ∧ (s.setPds g).sd = s.sd ∧ (s.setPds g).leases = s.leases ∧ (s.setPds
    g).evr = s.evr ∧ (s.setPds g).tsv = s.tsv ∧ (s.setPds g).sigs = s.sigs ∧ (s.setPds g).tbs = s.tbs ∧ (s.setPds g).car = s.car ∧
    (s.setPds g).hsn = s.hsn ∧ (s.setPds g).vis = s.vis ∧ (s.setPds g).cen = s.cen ∧ (s.setPds g).sol = s.sol ∧ (s.setPds g).lsw =
    s.lsw ∧ (s.setPds g).gns = s.gns ∧ (s.setPds g).ret = s.ret ∧ (s.setPds g).rtc0 = s.rtc0 ∧ (s.setPds g).banks = s.banks ∧
    (s.setPds g).io = s.io ∧ (s.setPds g).fus = s.fus ∧ (s.setPds g).sec = s.sec ∧ (s.setPds g).can = s.can ∧ (s.setPds g).eth =
    s.eth ∧ (s.setPds g).flt = s.flt ∧ (s.setPds g).dsp = s.dsp ∧ (s.setPds g).yul = s.yul ∧ (s.setPds g).thm = s.thm ∧ (∀ h,
    (s.setPds g).rd h = s.rd h) ∧ (∀ h, (s.setPds g).on h = s.on h) ∧ (∀ h, (s.setPds g).rdS h = s.rdS h) ∧ (∀ d, (s.setPds
    g).domOn d = s.domOn d) ∧ (∀ k, (s.setPds g).blockOn k = s.blockOn k) ∧ (∀ k, (s.setPds g).live k = s.live k) ∧ (∀ k,
    (s.setPds g).isFenced k = s.isFenced k) ∧ (∀ o, (s.setPds g).ldb o = s.ldb o) :=
  ⟨rfl, rfl, rfl, rfl, rfl, rfl, rfl, rfl, rfl, rfl, rfl, rfl, rfl, rfl, rfl, rfl, rfl, rfl, rfl, rfl, rfl, rfl, rfl, rfl, rfl,
    rfl, rfl, rfl, rfl, rfl, rfl, rfl, rfl, rfl, rfl, rfl, rfl, rfl, rfl, fun _ => rfl, fun _ => rfl, fun _ => rfl, fun _ => rfl,
    fun _ => rfl, fun _ => rfl, fun _ => rfl, fun _ => rfl⟩

@[simp] theorem State.setMgr_frame (g : Mgr → Mgr) (s : State) :
    (s.setMgr g).now = s.now ∧ (s.setMgr g).pending = s.pending ∧ (s.setMgr g).regs = s.regs ∧ (s.setMgr g).staged = s.staged ∧
    (s.setMgr g).flagAt = s.flagAt ∧ (s.setMgr g).rate = s.rate ∧ (s.setMgr g).params = s.params ∧ (s.setMgr g).blobs = s.blobs ∧
    (s.setMgr g).mem = s.mem ∧ (s.setMgr g).fenced = s.fenced ∧ (s.setMgr g).fenceEv = s.fenceEv ∧ (s.setMgr g).bus = s.bus ∧
    (s.setMgr g).free = s.free ∧ (s.setMgr g).sd = s.sd ∧ (s.setMgr g).leases = s.leases ∧ (s.setMgr g).evr = s.evr ∧ (s.setMgr
    g).tsv = s.tsv ∧ (s.setMgr g).sigs = s.sigs ∧ (s.setMgr g).tbs = s.tbs ∧ (s.setMgr g).car = s.car ∧ (s.setMgr g).hsn = s.hsn ∧
    (s.setMgr g).vis = s.vis ∧ (s.setMgr g).cen = s.cen ∧ (s.setMgr g).sol = s.sol ∧ (s.setMgr g).lsw = s.lsw ∧ (s.setMgr g).gns =
    s.gns ∧ (s.setMgr g).ret = s.ret ∧ (s.setMgr g).rtc0 = s.rtc0 ∧ (s.setMgr g).banks = s.banks ∧ (s.setMgr g).io = s.io ∧
    (s.setMgr g).fus = s.fus ∧ (s.setMgr g).sec = s.sec ∧ (s.setMgr g).can = s.can ∧ (s.setMgr g).eth = s.eth ∧ (s.setMgr g).flt =
    s.flt ∧ (s.setMgr g).dsp = s.dsp ∧ (s.setMgr g).yul = s.yul ∧ (s.setMgr g).pds = s.pds ∧ (s.setMgr g).thm = s.thm ∧ (∀ h,
    (s.setMgr g).rd h = s.rd h) ∧ (∀ h, (s.setMgr g).on h = s.on h) ∧ (∀ h, (s.setMgr g).rdS h = s.rdS h) ∧ (∀ k, (s.setMgr
    g).isFenced k = s.isFenced k) ∧ (∀ o, (s.setMgr g).ldb o = s.ldb o) :=
  ⟨rfl, rfl, rfl, rfl, rfl, rfl, rfl, rfl, rfl, rfl, rfl, rfl, rfl, rfl, rfl, rfl, rfl, rfl, rfl, rfl, rfl, rfl, rfl, rfl, rfl,
    rfl, rfl, rfl, rfl, rfl, rfl, rfl, rfl, rfl, rfl, rfl, rfl, rfl, rfl, fun _ => rfl, fun _ => rfl, fun _ => rfl, fun _ => rfl,
    fun _ => rfl⟩

@[simp] theorem State.setThm_frame (g : Thm → Thm) (s : State) :
    (s.setThm g).now = s.now ∧ (s.setThm g).pending = s.pending ∧ (s.setThm g).regs = s.regs ∧ (s.setThm g).staged = s.staged ∧
    (s.setThm g).flagAt = s.flagAt ∧ (s.setThm g).rate = s.rate ∧ (s.setThm g).params = s.params ∧ (s.setThm g).blobs = s.blobs ∧
    (s.setThm g).mem = s.mem ∧ (s.setThm g).fenced = s.fenced ∧ (s.setThm g).fenceEv = s.fenceEv ∧ (s.setThm g).bus = s.bus ∧
    (s.setThm g).free = s.free ∧ (s.setThm g).mgr = s.mgr ∧ (s.setThm g).sd = s.sd ∧ (s.setThm g).leases = s.leases ∧ (s.setThm
    g).evr = s.evr ∧ (s.setThm g).tsv = s.tsv ∧ (s.setThm g).sigs = s.sigs ∧ (s.setThm g).tbs = s.tbs ∧ (s.setThm g).car = s.car ∧
    (s.setThm g).hsn = s.hsn ∧ (s.setThm g).vis = s.vis ∧ (s.setThm g).cen = s.cen ∧ (s.setThm g).sol = s.sol ∧ (s.setThm g).lsw =
    s.lsw ∧ (s.setThm g).gns = s.gns ∧ (s.setThm g).ret = s.ret ∧ (s.setThm g).rtc0 = s.rtc0 ∧ (s.setThm g).banks = s.banks ∧
    (s.setThm g).io = s.io ∧ (s.setThm g).fus = s.fus ∧ (s.setThm g).sec = s.sec ∧ (s.setThm g).can = s.can ∧ (s.setThm g).eth =
    s.eth ∧ (s.setThm g).flt = s.flt ∧ (s.setThm g).dsp = s.dsp ∧ (s.setThm g).yul = s.yul ∧ (s.setThm g).pds = s.pds ∧ (∀ h,
    (s.setThm g).rd h = s.rd h) ∧ (∀ h, (s.setThm g).on h = s.on h) ∧ (∀ h, (s.setThm g).rdS h = s.rdS h) ∧ (∀ d, (s.setThm
    g).domOn d = s.domOn d) ∧ (∀ k, (s.setThm g).blockOn k = s.blockOn k) ∧ (∀ k, (s.setThm g).live k = s.live k) ∧ (∀ k,
    (s.setThm g).isFenced k = s.isFenced k) ∧ (∀ o, (s.setThm g).ldb o = s.ldb o) :=
  ⟨rfl, rfl, rfl, rfl, rfl, rfl, rfl, rfl, rfl, rfl, rfl, rfl, rfl, rfl, rfl, rfl, rfl, rfl, rfl, rfl, rfl, rfl, rfl, rfl, rfl,
    rfl, rfl, rfl, rfl, rfl, rfl, rfl, rfl, rfl, rfl, rfl, rfl, rfl, rfl, fun _ => rfl, fun _ => rfl, fun _ => rfl, fun _ => rfl,
    fun _ => rfl, fun _ => rfl, fun _ => rfl, fun _ => rfl⟩

@[simp] theorem State.setFan_frame (n : Nat) (g : ThmFan → ThmFan) (s : State) :
    (s.setFan n g).now = s.now ∧ (s.setFan n g).pending = s.pending ∧ (s.setFan n g).regs = s.regs ∧ (s.setFan n g).staged =
    s.staged ∧ (s.setFan n g).flagAt = s.flagAt ∧ (s.setFan n g).rate = s.rate ∧ (s.setFan n g).params = s.params ∧ (s.setFan n
    g).blobs = s.blobs ∧ (s.setFan n g).mem = s.mem ∧ (s.setFan n g).fenced = s.fenced ∧ (s.setFan n g).fenceEv = s.fenceEv ∧
    (s.setFan n g).bus = s.bus ∧ (s.setFan n g).free = s.free ∧ (s.setFan n g).mgr = s.mgr ∧ (s.setFan n g).sd = s.sd ∧ (s.setFan
    n g).leases = s.leases ∧ (s.setFan n g).evr = s.evr ∧ (s.setFan n g).tsv = s.tsv ∧ (s.setFan n g).sigs = s.sigs ∧ (s.setFan n
    g).tbs = s.tbs ∧ (s.setFan n g).car = s.car ∧ (s.setFan n g).hsn = s.hsn ∧ (s.setFan n g).vis = s.vis ∧ (s.setFan n g).cen =
    s.cen ∧ (s.setFan n g).sol = s.sol ∧ (s.setFan n g).lsw = s.lsw ∧ (s.setFan n g).gns = s.gns ∧ (s.setFan n g).ret = s.ret ∧
    (s.setFan n g).rtc0 = s.rtc0 ∧ (s.setFan n g).banks = s.banks ∧ (s.setFan n g).io = s.io ∧ (s.setFan n g).fus = s.fus ∧
    (s.setFan n g).sec = s.sec ∧ (s.setFan n g).can = s.can ∧ (s.setFan n g).eth = s.eth ∧ (s.setFan n g).flt = s.flt ∧ (s.setFan
    n g).dsp = s.dsp ∧ (s.setFan n g).yul = s.yul ∧ (s.setFan n g).pds = s.pds ∧ (∀ h, (s.setFan n g).rd h = s.rd h) ∧ (∀ h,
    (s.setFan n g).on h = s.on h) ∧ (∀ h, (s.setFan n g).rdS h = s.rdS h) ∧ (∀ d, (s.setFan n g).domOn d = s.domOn d) ∧ (∀ k,
    (s.setFan n g).blockOn k = s.blockOn k) ∧ (∀ k, (s.setFan n g).live k = s.live k) ∧ (∀ k, (s.setFan n g).isFenced k =
    s.isFenced k) ∧ (∀ o, (s.setFan n g).ldb o = s.ldb o) :=
  ⟨rfl, rfl, rfl, rfl, rfl, rfl, rfl, rfl, rfl, rfl, rfl, rfl, rfl, rfl, rfl, rfl, rfl, rfl, rfl, rfl, rfl, rfl, rfl, rfl, rfl,
    rfl, rfl, rfl, rfl, rfl, rfl, rfl, rfl, rfl, rfl, rfl, rfl, rfl, rfl, fun _ => rfl, fun _ => rfl, fun _ => rfl, fun _ => rfl,
    fun _ => rfl, fun _ => rfl, fun _ => rfl, fun _ => rfl⟩

@[simp] theorem State.yulSet_frame (g : Yul → Yul) (s : State) :
    (s.yulSet g).now = s.now ∧ (s.yulSet g).pending = s.pending ∧ (s.yulSet g).regs = s.regs ∧ (s.yulSet g).staged = s.staged ∧
    (s.yulSet g).flagAt = s.flagAt ∧ (s.yulSet g).rate = s.rate ∧ (s.yulSet g).params = s.params ∧ (s.yulSet g).blobs = s.blobs ∧
    (s.yulSet g).mem = s.mem ∧ (s.yulSet g).fenced = s.fenced ∧ (s.yulSet g).fenceEv = s.fenceEv ∧ (s.yulSet g).bus = s.bus ∧
    (s.yulSet g).free = s.free ∧ (s.yulSet g).mgr = s.mgr ∧ (s.yulSet g).sd = s.sd ∧ (s.yulSet g).leases = s.leases ∧ (s.yulSet
    g).evr = s.evr ∧ (s.yulSet g).tsv = s.tsv ∧ (s.yulSet g).sigs = s.sigs ∧ (s.yulSet g).tbs = s.tbs ∧ (s.yulSet g).car = s.car ∧
    (s.yulSet g).hsn = s.hsn ∧ (s.yulSet g).vis = s.vis ∧ (s.yulSet g).cen = s.cen ∧ (s.yulSet g).sol = s.sol ∧ (s.yulSet g).lsw =
    s.lsw ∧ (s.yulSet g).gns = s.gns ∧ (s.yulSet g).ret = s.ret ∧ (s.yulSet g).rtc0 = s.rtc0 ∧ (s.yulSet g).banks = s.banks ∧
    (s.yulSet g).io = s.io ∧ (s.yulSet g).fus = s.fus ∧ (s.yulSet g).sec = s.sec ∧ (s.yulSet g).can = s.can ∧ (s.yulSet g).eth =
    s.eth ∧ (s.yulSet g).flt = s.flt ∧ (s.yulSet g).dsp = s.dsp ∧ (s.yulSet g).pds = s.pds ∧ (s.yulSet g).thm = s.thm ∧ (∀ h,
    (s.yulSet g).rd h = s.rd h) ∧ (∀ h, (s.yulSet g).on h = s.on h) ∧ (∀ h, (s.yulSet g).rdS h = s.rdS h) ∧ (∀ d, (s.yulSet
    g).domOn d = s.domOn d) ∧ (∀ k, (s.yulSet g).blockOn k = s.blockOn k) ∧ (∀ k, (s.yulSet g).live k = s.live k) ∧ (∀ k,
    (s.yulSet g).isFenced k = s.isFenced k) ∧ (∀ o, (s.yulSet g).ldb o = s.ldb o) :=
  ⟨rfl, rfl, rfl, rfl, rfl, rfl, rfl, rfl, rfl, rfl, rfl, rfl, rfl, rfl, rfl, rfl, rfl, rfl, rfl, rfl, rfl, rfl, rfl, rfl, rfl,
    rfl, rfl, rfl, rfl, rfl, rfl, rfl, rfl, rfl, rfl, rfl, rfl, rfl, rfl, fun _ => rfl, fun _ => rfl, fun _ => rfl, fun _ => rfl,
    fun _ => rfl, fun _ => rfl, fun _ => rfl, fun _ => rfl⟩

@[simp] theorem State.setLs_frame (n : Nat) (c : LsChan) (s : State) :
    (s.setLs n c).now = s.now ∧ (s.setLs n c).pending = s.pending ∧ (s.setLs n c).regs = s.regs ∧ (s.setLs n c).staged = s.staged
    ∧ (s.setLs n c).flagAt = s.flagAt ∧ (s.setLs n c).rate = s.rate ∧ (s.setLs n c).params = s.params ∧ (s.setLs n c).blobs =
    s.blobs ∧ (s.setLs n c).mem = s.mem ∧ (s.setLs n c).fenced = s.fenced ∧ (s.setLs n c).fenceEv = s.fenceEv ∧ (s.setLs n c).bus
    = s.bus ∧ (s.setLs n c).free = s.free ∧ (s.setLs n c).mgr = s.mgr ∧ (s.setLs n c).sd = s.sd ∧ (s.setLs n c).leases = s.leases
    ∧ (s.setLs n c).evr = s.evr ∧ (s.setLs n c).tsv = s.tsv ∧ (s.setLs n c).sigs = s.sigs ∧ (s.setLs n c).tbs = s.tbs ∧ (s.setLs n
    c).car = s.car ∧ (s.setLs n c).hsn = s.hsn ∧ (s.setLs n c).vis = s.vis ∧ (s.setLs n c).cen = s.cen ∧ (s.setLs n c).sol = s.sol
    ∧ (s.setLs n c).gns = s.gns ∧ (s.setLs n c).ret = s.ret ∧ (s.setLs n c).rtc0 = s.rtc0 ∧ (s.setLs n c).banks = s.banks ∧
    (s.setLs n c).io = s.io ∧ (s.setLs n c).fus = s.fus ∧ (s.setLs n c).sec = s.sec ∧ (s.setLs n c).can = s.can ∧ (s.setLs n
    c).eth = s.eth ∧ (s.setLs n c).flt = s.flt ∧ (s.setLs n c).dsp = s.dsp ∧ (s.setLs n c).yul = s.yul ∧ (s.setLs n c).pds = s.pds
    ∧ (s.setLs n c).thm = s.thm ∧ (∀ h, (s.setLs n c).rd h = s.rd h) ∧ (∀ h, (s.setLs n c).on h = s.on h) ∧ (∀ h, (s.setLs n
    c).rdS h = s.rdS h) ∧ (∀ d, (s.setLs n c).domOn d = s.domOn d) ∧ (∀ k, (s.setLs n c).blockOn k = s.blockOn k) ∧ (∀ k, (s.setLs
    n c).live k = s.live k) ∧ (∀ k, (s.setLs n c).isFenced k = s.isFenced k) ∧ (∀ o, (s.setLs n c).ldb o = s.ldb o) :=
  ⟨rfl, rfl, rfl, rfl, rfl, rfl, rfl, rfl, rfl, rfl, rfl, rfl, rfl, rfl, rfl, rfl, rfl, rfl, rfl, rfl, rfl, rfl, rfl, rfl, rfl,
    rfl, rfl, rfl, rfl, rfl, rfl, rfl, rfl, rfl, rfl, rfl, rfl, rfl, rfl, fun _ => rfl, fun _ => rfl, fun _ => rfl, fun _ => rfl,
    fun _ => rfl, fun _ => rfl, fun _ => rfl, fun _ => rfl⟩

@[simp] theorem State.setSv_frame (n : Nat) (c : SvChan) (s : State) :
    (s.setSv n c).now = s.now ∧ (s.setSv n c).pending = s.pending ∧ (s.setSv n c).regs = s.regs ∧ (s.setSv n c).staged = s.staged
    ∧ (s.setSv n c).flagAt = s.flagAt ∧ (s.setSv n c).rate = s.rate ∧ (s.setSv n c).params = s.params ∧ (s.setSv n c).blobs =
    s.blobs ∧ (s.setSv n c).mem = s.mem ∧ (s.setSv n c).fenced = s.fenced ∧ (s.setSv n c).fenceEv = s.fenceEv ∧ (s.setSv n c).bus
    = s.bus ∧ (s.setSv n c).free = s.free ∧ (s.setSv n c).mgr = s.mgr ∧ (s.setSv n c).sd = s.sd ∧ (s.setSv n c).leases = s.leases
    ∧ (s.setSv n c).evr = s.evr ∧ (s.setSv n c).tsv = s.tsv ∧ (s.setSv n c).sigs = s.sigs ∧ (s.setSv n c).tbs = s.tbs ∧ (s.setSv n
    c).car = s.car ∧ (s.setSv n c).hsn = s.hsn ∧ (s.setSv n c).vis = s.vis ∧ (s.setSv n c).cen = s.cen ∧ (s.setSv n c).lsw = s.lsw
    ∧ (s.setSv n c).gns = s.gns ∧ (s.setSv n c).ret = s.ret ∧ (s.setSv n c).rtc0 = s.rtc0 ∧ (s.setSv n c).banks = s.banks ∧
    (s.setSv n c).io = s.io ∧ (s.setSv n c).fus = s.fus ∧ (s.setSv n c).sec = s.sec ∧ (s.setSv n c).can = s.can ∧ (s.setSv n
    c).eth = s.eth ∧ (s.setSv n c).flt = s.flt ∧ (s.setSv n c).dsp = s.dsp ∧ (s.setSv n c).yul = s.yul ∧ (s.setSv n c).pds = s.pds
    ∧ (s.setSv n c).thm = s.thm ∧ (∀ h, (s.setSv n c).rd h = s.rd h) ∧ (∀ h, (s.setSv n c).on h = s.on h) ∧ (∀ h, (s.setSv n
    c).rdS h = s.rdS h) ∧ (∀ d, (s.setSv n c).domOn d = s.domOn d) ∧ (∀ k, (s.setSv n c).blockOn k = s.blockOn k) ∧ (∀ k, (s.setSv
    n c).live k = s.live k) ∧ (∀ k, (s.setSv n c).isFenced k = s.isFenced k) ∧ (∀ o, (s.setSv n c).ldb o = s.ldb o) :=
  ⟨rfl, rfl, rfl, rfl, rfl, rfl, rfl, rfl, rfl, rfl, rfl, rfl, rfl, rfl, rfl, rfl, rfl, rfl, rfl, rfl, rfl, rfl, rfl, rfl, rfl,
    rfl, rfl, rfl, rfl, rfl, rfl, rfl, rfl, rfl, rfl, rfl, rfl, rfl, rfl, fun _ => rfl, fun _ => rfl, fun _ => rfl, fun _ => rfl,
    fun _ => rfl, fun _ => rfl, fun _ => rfl, fun _ => rfl⟩

@[simp] theorem State.setCal_frame (g : Nat) (l : List PeakWin) (s : State) :
    (s.setCal g l).now = s.now ∧ (s.setCal g l).pending = s.pending ∧ (s.setCal g l).regs = s.regs ∧ (s.setCal g l).staged =
    s.staged ∧ (s.setCal g l).flagAt = s.flagAt ∧ (s.setCal g l).rate = s.rate ∧ (s.setCal g l).params = s.params ∧ (s.setCal g
    l).blobs = s.blobs ∧ (s.setCal g l).mem = s.mem ∧ (s.setCal g l).fenced = s.fenced ∧ (s.setCal g l).fenceEv = s.fenceEv ∧
    (s.setCal g l).bus = s.bus ∧ (s.setCal g l).free = s.free ∧ (s.setCal g l).mgr = s.mgr ∧ (s.setCal g l).sd = s.sd ∧ (s.setCal
    g l).leases = s.leases ∧ (s.setCal g l).evr = s.evr ∧ (s.setCal g l).tsv = s.tsv ∧ (s.setCal g l).sigs = s.sigs ∧ (s.setCal g
    l).tbs = s.tbs ∧ (s.setCal g l).car = s.car ∧ (s.setCal g l).hsn = s.hsn ∧ (s.setCal g l).vis = s.vis ∧ (s.setCal g l).cen =
    s.cen ∧ (s.setCal g l).lsw = s.lsw ∧ (s.setCal g l).gns = s.gns ∧ (s.setCal g l).ret = s.ret ∧ (s.setCal g l).rtc0 = s.rtc0 ∧
    (s.setCal g l).banks = s.banks ∧ (s.setCal g l).io = s.io ∧ (s.setCal g l).fus = s.fus ∧ (s.setCal g l).sec = s.sec ∧
    (s.setCal g l).can = s.can ∧ (s.setCal g l).eth = s.eth ∧ (s.setCal g l).flt = s.flt ∧ (s.setCal g l).dsp = s.dsp ∧ (s.setCal
    g l).yul = s.yul ∧ (s.setCal g l).pds = s.pds ∧ (s.setCal g l).thm = s.thm ∧ (∀ h, (s.setCal g l).rd h = s.rd h) ∧ (∀ h,
    (s.setCal g l).on h = s.on h) ∧ (∀ h, (s.setCal g l).rdS h = s.rdS h) ∧ (∀ d, (s.setCal g l).domOn d = s.domOn d) ∧ (∀ k,
    (s.setCal g l).blockOn k = s.blockOn k) ∧ (∀ k, (s.setCal g l).live k = s.live k) ∧ (∀ k, (s.setCal g l).isFenced k =
    s.isFenced k) ∧ (∀ o, (s.setCal g l).ldb o = s.ldb o) :=
  ⟨rfl, rfl, rfl, rfl, rfl, rfl, rfl, rfl, rfl, rfl, rfl, rfl, rfl, rfl, rfl, rfl, rfl, rfl, rfl, rfl, rfl, rfl, rfl, rfl, rfl,
    rfl, rfl, rfl, rfl, rfl, rfl, rfl, rfl, rfl, rfl, rfl, rfl, rfl, rfl, fun _ => rfl, fun _ => rfl, fun _ => rfl, fun _ => rfl,
    fun _ => rfl, fun _ => rfl, fun _ => rfl, fun _ => rfl⟩

@[simp] theorem State.setTb_frame (n : Nat) (b : TbBase) (s : State) :
    (s.setTb n b).now = s.now ∧ (s.setTb n b).pending = s.pending ∧ (s.setTb n b).regs = s.regs ∧ (s.setTb n b).staged = s.staged
    ∧ (s.setTb n b).flagAt = s.flagAt ∧ (s.setTb n b).rate = s.rate ∧ (s.setTb n b).params = s.params ∧ (s.setTb n b).blobs =
    s.blobs ∧ (s.setTb n b).mem = s.mem ∧ (s.setTb n b).fenced = s.fenced ∧ (s.setTb n b).fenceEv = s.fenceEv ∧ (s.setTb n b).bus
    = s.bus ∧ (s.setTb n b).free = s.free ∧ (s.setTb n b).mgr = s.mgr ∧ (s.setTb n b).sd = s.sd ∧ (s.setTb n b).leases = s.leases
    ∧ (s.setTb n b).evr = s.evr ∧ (s.setTb n b).tsv = s.tsv ∧ (s.setTb n b).sigs = s.sigs ∧ (s.setTb n b).car = s.car ∧ (s.setTb n
    b).hsn = s.hsn ∧ (s.setTb n b).vis = s.vis ∧ (s.setTb n b).cen = s.cen ∧ (s.setTb n b).sol = s.sol ∧ (s.setTb n b).lsw = s.lsw
    ∧ (s.setTb n b).gns = s.gns ∧ (s.setTb n b).ret = s.ret ∧ (s.setTb n b).rtc0 = s.rtc0 ∧ (s.setTb n b).banks = s.banks ∧
    (s.setTb n b).io = s.io ∧ (s.setTb n b).fus = s.fus ∧ (s.setTb n b).sec = s.sec ∧ (s.setTb n b).can = s.can ∧ (s.setTb n
    b).eth = s.eth ∧ (s.setTb n b).flt = s.flt ∧ (s.setTb n b).dsp = s.dsp ∧ (s.setTb n b).yul = s.yul ∧ (s.setTb n b).pds = s.pds
    ∧ (s.setTb n b).thm = s.thm ∧ (∀ h, (s.setTb n b).rd h = s.rd h) ∧ (∀ h, (s.setTb n b).on h = s.on h) ∧ (∀ h, (s.setTb n
    b).rdS h = s.rdS h) ∧ (∀ d, (s.setTb n b).domOn d = s.domOn d) ∧ (∀ k, (s.setTb n b).blockOn k = s.blockOn k) ∧ (∀ k, (s.setTb
    n b).live k = s.live k) ∧ (∀ k, (s.setTb n b).isFenced k = s.isFenced k) ∧ (∀ o, (s.setTb n b).ldb o = s.ldb o) :=
  ⟨rfl, rfl, rfl, rfl, rfl, rfl, rfl, rfl, rfl, rfl, rfl, rfl, rfl, rfl, rfl, rfl, rfl, rfl, rfl, rfl, rfl, rfl, rfl, rfl, rfl,
    rfl, rfl, rfl, rfl, rfl, rfl, rfl, rfl, rfl, rfl, rfl, rfl, rfl, rfl, fun _ => rfl, fun _ => rfl, fun _ => rfl, fun _ => rfl,
    fun _ => rfl, fun _ => rfl, fun _ => rfl, fun _ => rfl⟩

@[simp] theorem State.setSlot_frame (k : Nat) (x : CarSlot) (s : State) :
    (s.setSlot k x).now = s.now ∧ (s.setSlot k x).pending = s.pending ∧ (s.setSlot k x).regs = s.regs ∧ (s.setSlot k x).staged =
    s.staged ∧ (s.setSlot k x).flagAt = s.flagAt ∧ (s.setSlot k x).rate = s.rate ∧ (s.setSlot k x).params = s.params ∧ (s.setSlot
    k x).blobs = s.blobs ∧ (s.setSlot k x).mem = s.mem ∧ (s.setSlot k x).fenced = s.fenced ∧ (s.setSlot k x).fenceEv = s.fenceEv ∧
    (s.setSlot k x).bus = s.bus ∧ (s.setSlot k x).free = s.free ∧ (s.setSlot k x).mgr = s.mgr ∧ (s.setSlot k x).sd = s.sd ∧
    (s.setSlot k x).leases = s.leases ∧ (s.setSlot k x).evr = s.evr ∧ (s.setSlot k x).tsv = s.tsv ∧ (s.setSlot k x).sigs = s.sigs
    ∧ (s.setSlot k x).tbs = s.tbs ∧ (s.setSlot k x).hsn = s.hsn ∧ (s.setSlot k x).vis = s.vis ∧ (s.setSlot k x).cen = s.cen ∧
    (s.setSlot k x).sol = s.sol ∧ (s.setSlot k x).lsw = s.lsw ∧ (s.setSlot k x).gns = s.gns ∧ (s.setSlot k x).ret = s.ret ∧
    (s.setSlot k x).rtc0 = s.rtc0 ∧ (s.setSlot k x).banks = s.banks ∧ (s.setSlot k x).io = s.io ∧ (s.setSlot k x).fus = s.fus ∧
    (s.setSlot k x).sec = s.sec ∧ (s.setSlot k x).can = s.can ∧ (s.setSlot k x).eth = s.eth ∧ (s.setSlot k x).flt = s.flt ∧
    (s.setSlot k x).dsp = s.dsp ∧ (s.setSlot k x).yul = s.yul ∧ (s.setSlot k x).pds = s.pds ∧ (s.setSlot k x).thm = s.thm ∧ (∀ h,
    (s.setSlot k x).rd h = s.rd h) ∧ (∀ h, (s.setSlot k x).on h = s.on h) ∧ (∀ h, (s.setSlot k x).rdS h = s.rdS h) ∧ (∀ d,
    (s.setSlot k x).domOn d = s.domOn d) ∧ (∀ k, (s.setSlot k x).blockOn k = s.blockOn k) ∧ (∀ k, (s.setSlot k x).live k = s.live
    k) ∧ (∀ k, (s.setSlot k x).isFenced k = s.isFenced k) ∧ (∀ o, (s.setSlot k x).ldb o = s.ldb o) :=
  ⟨rfl, rfl, rfl, rfl, rfl, rfl, rfl, rfl, rfl, rfl, rfl, rfl, rfl, rfl, rfl, rfl, rfl, rfl, rfl, rfl, rfl, rfl, rfl, rfl, rfl,
    rfl, rfl, rfl, rfl, rfl, rfl, rfl, rfl, rfl, rfl, rfl, rfl, rfl, rfl, fun _ => rfl, fun _ => rfl, fun _ => rfl, fun _ => rfl,
    fun _ => rfl, fun _ => rfl, fun _ => rfl, fun _ => rfl⟩

@[simp] theorem State.setHsnWin_frame (n : Nat) (w : HsnWin) (s : State) :
    (s.setHsnWin n w).now = s.now ∧ (s.setHsnWin n w).pending = s.pending ∧ (s.setHsnWin n w).regs = s.regs ∧ (s.setHsnWin n
    w).staged = s.staged ∧ (s.setHsnWin n w).flagAt = s.flagAt ∧ (s.setHsnWin n w).rate = s.rate ∧ (s.setHsnWin n w).params =
    s.params ∧ (s.setHsnWin n w).blobs = s.blobs ∧ (s.setHsnWin n w).mem = s.mem ∧ (s.setHsnWin n w).fenced = s.fenced ∧
    (s.setHsnWin n w).fenceEv = s.fenceEv ∧ (s.setHsnWin n w).bus = s.bus ∧ (s.setHsnWin n w).free = s.free ∧ (s.setHsnWin n
    w).mgr = s.mgr ∧ (s.setHsnWin n w).sd = s.sd ∧ (s.setHsnWin n w).leases = s.leases ∧ (s.setHsnWin n w).evr = s.evr ∧
    (s.setHsnWin n w).tsv = s.tsv ∧ (s.setHsnWin n w).sigs = s.sigs ∧ (s.setHsnWin n w).tbs = s.tbs ∧ (s.setHsnWin n w).car =
    s.car ∧ (s.setHsnWin n w).vis = s.vis ∧ (s.setHsnWin n w).cen = s.cen ∧ (s.setHsnWin n w).sol = s.sol ∧ (s.setHsnWin n w).lsw
    = s.lsw ∧ (s.setHsnWin n w).gns = s.gns ∧ (s.setHsnWin n w).ret = s.ret ∧ (s.setHsnWin n w).rtc0 = s.rtc0 ∧ (s.setHsnWin n
    w).banks = s.banks ∧ (s.setHsnWin n w).io = s.io ∧ (s.setHsnWin n w).fus = s.fus ∧ (s.setHsnWin n w).sec = s.sec ∧
    (s.setHsnWin n w).can = s.can ∧ (s.setHsnWin n w).eth = s.eth ∧ (s.setHsnWin n w).flt = s.flt ∧ (s.setHsnWin n w).dsp = s.dsp
    ∧ (s.setHsnWin n w).yul = s.yul ∧ (s.setHsnWin n w).pds = s.pds ∧ (s.setHsnWin n w).thm = s.thm ∧ (∀ h, (s.setHsnWin n w).rd h
    = s.rd h) ∧ (∀ h, (s.setHsnWin n w).on h = s.on h) ∧ (∀ h, (s.setHsnWin n w).rdS h = s.rdS h) ∧ (∀ d, (s.setHsnWin n w).domOn
    d = s.domOn d) ∧ (∀ k, (s.setHsnWin n w).blockOn k = s.blockOn k) ∧ (∀ k, (s.setHsnWin n w).live k = s.live k) ∧ (∀ k,
    (s.setHsnWin n w).isFenced k = s.isFenced k) ∧ (∀ o, (s.setHsnWin n w).ldb o = s.ldb o) :=
  ⟨rfl, rfl, rfl, rfl, rfl, rfl, rfl, rfl, rfl, rfl, rfl, rfl, rfl, rfl, rfl, rfl, rfl, rfl, rfl, rfl, rfl, rfl, rfl, rfl, rfl,
    rfl, rfl, rfl, rfl, rfl, rfl, rfl, rfl, rfl, rfl, rfl, rfl, rfl, rfl, fun _ => rfl, fun _ => rfl, fun _ => rfl, fun _ => rfl,
    fun _ => rfl, fun _ => rfl, fun _ => rfl, fun _ => rfl⟩

@[simp] theorem State.setHsnCh_frame (c : Nat) (x : HsnCh) (s : State) :
    (s.setHsnCh c x).now = s.now ∧ (s.setHsnCh c x).pending = s.pending ∧ (s.setHsnCh c x).regs = s.regs ∧ (s.setHsnCh c x).staged
    = s.staged ∧ (s.setHsnCh c x).flagAt = s.flagAt ∧ (s.setHsnCh c x).rate = s.rate ∧ (s.setHsnCh c x).params = s.params ∧
    (s.setHsnCh c x).blobs = s.blobs ∧ (s.setHsnCh c x).mem = s.mem ∧ (s.setHsnCh c x).fenced = s.fenced ∧ (s.setHsnCh c
    x).fenceEv = s.fenceEv ∧ (s.setHsnCh c x).bus = s.bus ∧ (s.setHsnCh c x).free = s.free ∧ (s.setHsnCh c x).mgr = s.mgr ∧
    (s.setHsnCh c x).sd = s.sd ∧ (s.setHsnCh c x).leases = s.leases ∧ (s.setHsnCh c x).evr = s.evr ∧ (s.setHsnCh c x).tsv = s.tsv
    ∧ (s.setHsnCh c x).sigs = s.sigs ∧ (s.setHsnCh c x).tbs = s.tbs ∧ (s.setHsnCh c x).car = s.car ∧ (s.setHsnCh c x).vis = s.vis
    ∧ (s.setHsnCh c x).cen = s.cen ∧ (s.setHsnCh c x).sol = s.sol ∧ (s.setHsnCh c x).lsw = s.lsw ∧ (s.setHsnCh c x).gns = s.gns ∧
    (s.setHsnCh c x).ret = s.ret ∧ (s.setHsnCh c x).rtc0 = s.rtc0 ∧ (s.setHsnCh c x).banks = s.banks ∧ (s.setHsnCh c x).io = s.io
    ∧ (s.setHsnCh c x).fus = s.fus ∧ (s.setHsnCh c x).sec = s.sec ∧ (s.setHsnCh c x).can = s.can ∧ (s.setHsnCh c x).eth = s.eth ∧
    (s.setHsnCh c x).flt = s.flt ∧ (s.setHsnCh c x).dsp = s.dsp ∧ (s.setHsnCh c x).yul = s.yul ∧ (s.setHsnCh c x).pds = s.pds ∧
    (s.setHsnCh c x).thm = s.thm ∧ (∀ h, (s.setHsnCh c x).rd h = s.rd h) ∧ (∀ h, (s.setHsnCh c x).on h = s.on h) ∧ (∀ h,
    (s.setHsnCh c x).rdS h = s.rdS h) ∧ (∀ d, (s.setHsnCh c x).domOn d = s.domOn d) ∧ (∀ k, (s.setHsnCh c x).blockOn k = s.blockOn
    k) ∧ (∀ k, (s.setHsnCh c x).live k = s.live k) ∧ (∀ k, (s.setHsnCh c x).isFenced k = s.isFenced k) ∧ (∀ o, (s.setHsnCh c
    x).ldb o = s.ldb o) :=
  ⟨rfl, rfl, rfl, rfl, rfl, rfl, rfl, rfl, rfl, rfl, rfl, rfl, rfl, rfl, rfl, rfl, rfl, rfl, rfl, rfl, rfl, rfl, rfl, rfl, rfl,
    rfl, rfl, rfl, rfl, rfl, rfl, rfl, rfl, rfl, rfl, rfl, rfl, rfl, rfl, fun _ => rfl, fun _ => rfl, fun _ => rfl, fun _ => rfl,
    fun _ => rfl, fun _ => rfl, fun _ => rfl, fun _ => rfl⟩

@[simp] theorem State.setCslot_frame (n : Nat) (x : CenSlot) (s : State) :
    (s.setCslot n x).now = s.now ∧ (s.setCslot n x).pending = s.pending ∧ (s.setCslot n x).regs = s.regs ∧ (s.setCslot n x).staged
    = s.staged ∧ (s.setCslot n x).flagAt = s.flagAt ∧ (s.setCslot n x).rate = s.rate ∧ (s.setCslot n x).params = s.params ∧
    (s.setCslot n x).blobs = s.blobs ∧ (s.setCslot n x).mem = s.mem ∧ (s.setCslot n x).fenced = s.fenced ∧ (s.setCslot n
    x).fenceEv = s.fenceEv ∧ (s.setCslot n x).bus = s.bus ∧ (s.setCslot n x).free = s.free ∧ (s.setCslot n x).mgr = s.mgr ∧
    (s.setCslot n x).sd = s.sd ∧ (s.setCslot n x).leases = s.leases ∧ (s.setCslot n x).evr = s.evr ∧ (s.setCslot n x).tsv = s.tsv
    ∧ (s.setCslot n x).sigs = s.sigs ∧ (s.setCslot n x).tbs = s.tbs ∧ (s.setCslot n x).car = s.car ∧ (s.setCslot n x).hsn = s.hsn
    ∧ (s.setCslot n x).vis = s.vis ∧ (s.setCslot n x).sol = s.sol ∧ (s.setCslot n x).lsw = s.lsw ∧ (s.setCslot n x).gns = s.gns ∧
    (s.setCslot n x).ret = s.ret ∧ (s.setCslot n x).rtc0 = s.rtc0 ∧ (s.setCslot n x).banks = s.banks ∧ (s.setCslot n x).io = s.io
    ∧ (s.setCslot n x).fus = s.fus ∧ (s.setCslot n x).sec = s.sec ∧ (s.setCslot n x).can = s.can ∧ (s.setCslot n x).eth = s.eth ∧
    (s.setCslot n x).flt = s.flt ∧ (s.setCslot n x).dsp = s.dsp ∧ (s.setCslot n x).yul = s.yul ∧ (s.setCslot n x).pds = s.pds ∧
    (s.setCslot n x).thm = s.thm ∧ (∀ h, (s.setCslot n x).rd h = s.rd h) ∧ (∀ h, (s.setCslot n x).on h = s.on h) ∧ (∀ h,
    (s.setCslot n x).rdS h = s.rdS h) ∧ (∀ d, (s.setCslot n x).domOn d = s.domOn d) ∧ (∀ k, (s.setCslot n x).blockOn k = s.blockOn
    k) ∧ (∀ k, (s.setCslot n x).live k = s.live k) ∧ (∀ k, (s.setCslot n x).isFenced k = s.isFenced k) ∧ (∀ o, (s.setCslot n
    x).ldb o = s.ldb o) :=
  ⟨rfl, rfl, rfl, rfl, rfl, rfl, rfl, rfl, rfl, rfl, rfl, rfl, rfl, rfl, rfl, rfl, rfl, rfl, rfl, rfl, rfl, rfl, rfl, rfl, rfl,
    rfl, rfl, rfl, rfl, rfl, rfl, rfl, rfl, rfl, rfl, rfl, rfl, rfl, rfl, fun _ => rfl, fun _ => rfl, fun _ => rfl, fun _ => rfl,
    fun _ => rfl, fun _ => rfl, fun _ => rfl, fun _ => rfl⟩

@[simp] theorem State.setCchan_frame (k : Nat) (x : CenChan) (s : State) :
    (s.setCchan k x).now = s.now ∧ (s.setCchan k x).pending = s.pending ∧ (s.setCchan k x).regs = s.regs ∧ (s.setCchan k x).staged
    = s.staged ∧ (s.setCchan k x).flagAt = s.flagAt ∧ (s.setCchan k x).rate = s.rate ∧ (s.setCchan k x).params = s.params ∧
    (s.setCchan k x).blobs = s.blobs ∧ (s.setCchan k x).mem = s.mem ∧ (s.setCchan k x).fenced = s.fenced ∧ (s.setCchan k
    x).fenceEv = s.fenceEv ∧ (s.setCchan k x).bus = s.bus ∧ (s.setCchan k x).free = s.free ∧ (s.setCchan k x).mgr = s.mgr ∧
    (s.setCchan k x).sd = s.sd ∧ (s.setCchan k x).leases = s.leases ∧ (s.setCchan k x).evr = s.evr ∧ (s.setCchan k x).tsv = s.tsv
    ∧ (s.setCchan k x).sigs = s.sigs ∧ (s.setCchan k x).tbs = s.tbs ∧ (s.setCchan k x).car = s.car ∧ (s.setCchan k x).hsn = s.hsn
    ∧ (s.setCchan k x).vis = s.vis ∧ (s.setCchan k x).sol = s.sol ∧ (s.setCchan k x).lsw = s.lsw ∧ (s.setCchan k x).gns = s.gns ∧
    (s.setCchan k x).ret = s.ret ∧ (s.setCchan k x).rtc0 = s.rtc0 ∧ (s.setCchan k x).banks = s.banks ∧ (s.setCchan k x).io = s.io
    ∧ (s.setCchan k x).fus = s.fus ∧ (s.setCchan k x).sec = s.sec ∧ (s.setCchan k x).can = s.can ∧ (s.setCchan k x).eth = s.eth ∧
    (s.setCchan k x).flt = s.flt ∧ (s.setCchan k x).dsp = s.dsp ∧ (s.setCchan k x).yul = s.yul ∧ (s.setCchan k x).pds = s.pds ∧
    (s.setCchan k x).thm = s.thm ∧ (∀ h, (s.setCchan k x).rd h = s.rd h) ∧ (∀ h, (s.setCchan k x).on h = s.on h) ∧ (∀ h,
    (s.setCchan k x).rdS h = s.rdS h) ∧ (∀ d, (s.setCchan k x).domOn d = s.domOn d) ∧ (∀ k, (s.setCchan k x).blockOn k = s.blockOn
    k) ∧ (∀ k, (s.setCchan k x).live k = s.live k) ∧ (∀ k, (s.setCchan k x).isFenced k = s.isFenced k) ∧ (∀ o, (s.setCchan k
    x).ldb o = s.ldb o) :=
  ⟨rfl, rfl, rfl, rfl, rfl, rfl, rfl, rfl, rfl, rfl, rfl, rfl, rfl, rfl, rfl, rfl, rfl, rfl, rfl, rfl, rfl, rfl, rfl, rfl, rfl,
    rfl, rfl, rfl, rfl, rfl, rfl, rfl, rfl, rfl, rfl, rfl, rfl, rfl, rfl, fun _ => rfl, fun _ => rfl, fun _ => rfl, fun _ => rfl,
    fun _ => rfl, fun _ => rfl, fun _ => rfl, fun _ => rfl⟩

@[simp] theorem State.setGch_frame (c : Nat) (x : GnsCh) (s : State) :
    (s.setGch c x).now = s.now ∧ (s.setGch c x).pending = s.pending ∧ (s.setGch c x).regs = s.regs ∧ (s.setGch c x).staged =
    s.staged ∧ (s.setGch c x).flagAt = s.flagAt ∧ (s.setGch c x).rate = s.rate ∧ (s.setGch c x).params = s.params ∧ (s.setGch c
    x).blobs = s.blobs ∧ (s.setGch c x).mem = s.mem ∧ (s.setGch c x).fenced = s.fenced ∧ (s.setGch c x).fenceEv = s.fenceEv ∧
    (s.setGch c x).bus = s.bus ∧ (s.setGch c x).free = s.free ∧ (s.setGch c x).mgr = s.mgr ∧ (s.setGch c x).sd = s.sd ∧ (s.setGch
    c x).leases = s.leases ∧ (s.setGch c x).evr = s.evr ∧ (s.setGch c x).tsv = s.tsv ∧ (s.setGch c x).sigs = s.sigs ∧ (s.setGch c
    x).tbs = s.tbs ∧ (s.setGch c x).car = s.car ∧ (s.setGch c x).hsn = s.hsn ∧ (s.setGch c x).vis = s.vis ∧ (s.setGch c x).cen =
    s.cen ∧ (s.setGch c x).sol = s.sol ∧ (s.setGch c x).lsw = s.lsw ∧ (s.setGch c x).ret = s.ret ∧ (s.setGch c x).rtc0 = s.rtc0 ∧
    (s.setGch c x).banks = s.banks ∧ (s.setGch c x).io = s.io ∧ (s.setGch c x).fus = s.fus ∧ (s.setGch c x).sec = s.sec ∧
    (s.setGch c x).can = s.can ∧ (s.setGch c x).eth = s.eth ∧ (s.setGch c x).flt = s.flt ∧ (s.setGch c x).dsp = s.dsp ∧ (s.setGch
    c x).yul = s.yul ∧ (s.setGch c x).pds = s.pds ∧ (s.setGch c x).thm = s.thm ∧ (∀ h, (s.setGch c x).rd h = s.rd h) ∧ (∀ h,
    (s.setGch c x).on h = s.on h) ∧ (∀ h, (s.setGch c x).rdS h = s.rdS h) ∧ (∀ d, (s.setGch c x).domOn d = s.domOn d) ∧ (∀ k,
    (s.setGch c x).blockOn k = s.blockOn k) ∧ (∀ k, (s.setGch c x).live k = s.live k) ∧ (∀ k, (s.setGch c x).isFenced k =
    s.isFenced k) ∧ (∀ o, (s.setGch c x).ldb o = s.ldb o) :=
  ⟨rfl, rfl, rfl, rfl, rfl, rfl, rfl, rfl, rfl, rfl, rfl, rfl, rfl, rfl, rfl, rfl, rfl, rfl, rfl, rfl, rfl, rfl, rfl, rfl, rfl,
    rfl, rfl, rfl, rfl, rfl, rfl, rfl, rfl, rfl, rfl, rfl, rfl, rfl, rfl, fun _ => rfl, fun _ => rfl, fun _ => rfl, fun _ => rfl,
    fun _ => rfl, fun _ => rfl, fun _ => rfl, fun _ => rfl⟩

@[simp] theorem State.setFstr_frame (k : Nat) (x : FusStr) (s : State) :
    (s.setFstr k x).now = s.now ∧ (s.setFstr k x).pending = s.pending ∧ (s.setFstr k x).regs = s.regs ∧ (s.setFstr k x).staged =
    s.staged ∧ (s.setFstr k x).flagAt = s.flagAt ∧ (s.setFstr k x).rate = s.rate ∧ (s.setFstr k x).params = s.params ∧ (s.setFstr
    k x).blobs = s.blobs ∧ (s.setFstr k x).mem = s.mem ∧ (s.setFstr k x).fenced = s.fenced ∧ (s.setFstr k x).fenceEv = s.fenceEv ∧
    (s.setFstr k x).bus = s.bus ∧ (s.setFstr k x).free = s.free ∧ (s.setFstr k x).mgr = s.mgr ∧ (s.setFstr k x).sd = s.sd ∧
    (s.setFstr k x).leases = s.leases ∧ (s.setFstr k x).evr = s.evr ∧ (s.setFstr k x).tsv = s.tsv ∧ (s.setFstr k x).sigs = s.sigs
    ∧ (s.setFstr k x).tbs = s.tbs ∧ (s.setFstr k x).car = s.car ∧ (s.setFstr k x).hsn = s.hsn ∧ (s.setFstr k x).vis = s.vis ∧
    (s.setFstr k x).cen = s.cen ∧ (s.setFstr k x).sol = s.sol ∧ (s.setFstr k x).lsw = s.lsw ∧ (s.setFstr k x).gns = s.gns ∧
    (s.setFstr k x).ret = s.ret ∧ (s.setFstr k x).rtc0 = s.rtc0 ∧ (s.setFstr k x).banks = s.banks ∧ (s.setFstr k x).io = s.io ∧
    (s.setFstr k x).sec = s.sec ∧ (s.setFstr k x).can = s.can ∧ (s.setFstr k x).eth = s.eth ∧ (s.setFstr k x).flt = s.flt ∧
    (s.setFstr k x).dsp = s.dsp ∧ (s.setFstr k x).yul = s.yul ∧ (s.setFstr k x).pds = s.pds ∧ (s.setFstr k x).thm = s.thm ∧ (∀ h,
    (s.setFstr k x).rd h = s.rd h) ∧ (∀ h, (s.setFstr k x).on h = s.on h) ∧ (∀ h, (s.setFstr k x).rdS h = s.rdS h) ∧ (∀ d,
    (s.setFstr k x).domOn d = s.domOn d) ∧ (∀ k, (s.setFstr k x).blockOn k = s.blockOn k) ∧ (∀ k, (s.setFstr k x).live k = s.live
    k) ∧ (∀ k, (s.setFstr k x).isFenced k = s.isFenced k) ∧ (∀ o, (s.setFstr k x).ldb o = s.ldb o) :=
  ⟨rfl, rfl, rfl, rfl, rfl, rfl, rfl, rfl, rfl, rfl, rfl, rfl, rfl, rfl, rfl, rfl, rfl, rfl, rfl, rfl, rfl, rfl, rfl, rfl, rfl,
    rfl, rfl, rfl, rfl, rfl, rfl, rfl, rfl, rfl, rfl, rfl, rfl, rfl, rfl, fun _ => rfl, fun _ => rfl, fun _ => rfl, fun _ => rfl,
    fun _ => rfl, fun _ => rfl, fun _ => rfl, fun _ => rfl⟩

@[simp] theorem State.setCanBuf_frame (n b : Nat) (x : CanBuf) (s : State) :
    (s.setCanBuf n b x).now = s.now ∧ (s.setCanBuf n b x).pending = s.pending ∧ (s.setCanBuf n b x).regs = s.regs ∧ (s.setCanBuf n
    b x).staged = s.staged ∧ (s.setCanBuf n b x).flagAt = s.flagAt ∧ (s.setCanBuf n b x).rate = s.rate ∧ (s.setCanBuf n b
    x).params = s.params ∧ (s.setCanBuf n b x).blobs = s.blobs ∧ (s.setCanBuf n b x).mem = s.mem ∧ (s.setCanBuf n b x).fenced =
    s.fenced ∧ (s.setCanBuf n b x).fenceEv = s.fenceEv ∧ (s.setCanBuf n b x).bus = s.bus ∧ (s.setCanBuf n b x).free = s.free ∧
    (s.setCanBuf n b x).mgr = s.mgr ∧ (s.setCanBuf n b x).sd = s.sd ∧ (s.setCanBuf n b x).leases = s.leases ∧ (s.setCanBuf n b
    x).evr = s.evr ∧ (s.setCanBuf n b x).tsv = s.tsv ∧ (s.setCanBuf n b x).sigs = s.sigs ∧ (s.setCanBuf n b x).tbs = s.tbs ∧
    (s.setCanBuf n b x).car = s.car ∧ (s.setCanBuf n b x).hsn = s.hsn ∧ (s.setCanBuf n b x).vis = s.vis ∧ (s.setCanBuf n b x).cen
    = s.cen ∧ (s.setCanBuf n b x).sol = s.sol ∧ (s.setCanBuf n b x).lsw = s.lsw ∧ (s.setCanBuf n b x).gns = s.gns ∧ (s.setCanBuf n
    b x).ret = s.ret ∧ (s.setCanBuf n b x).rtc0 = s.rtc0 ∧ (s.setCanBuf n b x).banks = s.banks ∧ (s.setCanBuf n b x).io = s.io ∧
    (s.setCanBuf n b x).fus = s.fus ∧ (s.setCanBuf n b x).sec = s.sec ∧ (s.setCanBuf n b x).eth = s.eth ∧ (s.setCanBuf n b x).flt
    = s.flt ∧ (s.setCanBuf n b x).dsp = s.dsp ∧ (s.setCanBuf n b x).yul = s.yul ∧ (s.setCanBuf n b x).pds = s.pds ∧ (s.setCanBuf n
    b x).thm = s.thm ∧ (∀ h, (s.setCanBuf n b x).rd h = s.rd h) ∧ (∀ h, (s.setCanBuf n b x).on h = s.on h) ∧ (∀ h, (s.setCanBuf n
    b x).rdS h = s.rdS h) ∧ (∀ d, (s.setCanBuf n b x).domOn d = s.domOn d) ∧ (∀ k, (s.setCanBuf n b x).blockOn k = s.blockOn k) ∧
    (∀ k, (s.setCanBuf n b x).live k = s.live k) ∧ (∀ k, (s.setCanBuf n b x).isFenced k = s.isFenced k) ∧ (∀ o, (s.setCanBuf n b
    x).ldb o = s.ldb o) :=
  ⟨rfl, rfl, rfl, rfl, rfl, rfl, rfl, rfl, rfl, rfl, rfl, rfl, rfl, rfl, rfl, rfl, rfl, rfl, rfl, rfl, rfl, rfl, rfl, rfl, rfl,
    rfl, rfl, rfl, rfl, rfl, rfl, rfl, rfl, rfl, rfl, rfl, rfl, rfl, rfl, fun _ => rfl, fun _ => rfl, fun _ => rfl, fun _ => rfl,
    fun _ => rfl, fun _ => rfl, fun _ => rfl, fun _ => rfl⟩

@[simp] theorem State.setCanFifo_frame (n q : Nat) (l : List CanRx) (s : State) :
    (s.setCanFifo n q l).now = s.now ∧ (s.setCanFifo n q l).pending = s.pending ∧ (s.setCanFifo n q l).regs = s.regs ∧
    (s.setCanFifo n q l).staged = s.staged ∧ (s.setCanFifo n q l).flagAt = s.flagAt ∧ (s.setCanFifo n q l).rate = s.rate ∧
    (s.setCanFifo n q l).params = s.params ∧ (s.setCanFifo n q l).blobs = s.blobs ∧ (s.setCanFifo n q l).mem = s.mem ∧
    (s.setCanFifo n q l).fenced = s.fenced ∧ (s.setCanFifo n q l).fenceEv = s.fenceEv ∧ (s.setCanFifo n q l).bus = s.bus ∧
    (s.setCanFifo n q l).free = s.free ∧ (s.setCanFifo n q l).mgr = s.mgr ∧ (s.setCanFifo n q l).sd = s.sd ∧ (s.setCanFifo n q
    l).leases = s.leases ∧ (s.setCanFifo n q l).evr = s.evr ∧ (s.setCanFifo n q l).tsv = s.tsv ∧ (s.setCanFifo n q l).sigs =
    s.sigs ∧ (s.setCanFifo n q l).tbs = s.tbs ∧ (s.setCanFifo n q l).car = s.car ∧ (s.setCanFifo n q l).hsn = s.hsn ∧
    (s.setCanFifo n q l).vis = s.vis ∧ (s.setCanFifo n q l).cen = s.cen ∧ (s.setCanFifo n q l).sol = s.sol ∧ (s.setCanFifo n q
    l).lsw = s.lsw ∧ (s.setCanFifo n q l).gns = s.gns ∧ (s.setCanFifo n q l).ret = s.ret ∧ (s.setCanFifo n q l).rtc0 = s.rtc0 ∧
    (s.setCanFifo n q l).banks = s.banks ∧ (s.setCanFifo n q l).io = s.io ∧ (s.setCanFifo n q l).fus = s.fus ∧ (s.setCanFifo n q
    l).sec = s.sec ∧ (s.setCanFifo n q l).eth = s.eth ∧ (s.setCanFifo n q l).flt = s.flt ∧ (s.setCanFifo n q l).dsp = s.dsp ∧
    (s.setCanFifo n q l).yul = s.yul ∧ (s.setCanFifo n q l).pds = s.pds ∧ (s.setCanFifo n q l).thm = s.thm ∧ (∀ h, (s.setCanFifo n
    q l).rd h = s.rd h) ∧ (∀ h, (s.setCanFifo n q l).on h = s.on h) ∧ (∀ h, (s.setCanFifo n q l).rdS h = s.rdS h) ∧ (∀ d,
    (s.setCanFifo n q l).domOn d = s.domOn d) ∧ (∀ k, (s.setCanFifo n q l).blockOn k = s.blockOn k) ∧ (∀ k, (s.setCanFifo n q
    l).live k = s.live k) ∧ (∀ k, (s.setCanFifo n q l).isFenced k = s.isFenced k) ∧ (∀ o, (s.setCanFifo n q l).ldb o = s.ldb o) :=
  ⟨rfl, rfl, rfl, rfl, rfl, rfl, rfl, rfl, rfl, rfl, rfl, rfl, rfl, rfl, rfl, rfl, rfl, rfl, rfl, rfl, rfl, rfl, rfl, rfl, rfl,
    rfl, rfl, rfl, rfl, rfl, rfl, rfl, rfl, rfl, rfl, rfl, rfl, rfl, rfl, fun _ => rfl, fun _ => rfl, fun _ => rfl, fun _ => rfl,
    fun _ => rfl, fun _ => rfl, fun _ => rfl, fun _ => rfl⟩

@[simp] theorem State.setBpe_frame (n : Nat) (x : CanBpe) (s : State) :
    (s.setBpe n x).now = s.now ∧ (s.setBpe n x).pending = s.pending ∧ (s.setBpe n x).regs = s.regs ∧ (s.setBpe n x).staged =
    s.staged ∧ (s.setBpe n x).flagAt = s.flagAt ∧ (s.setBpe n x).rate = s.rate ∧ (s.setBpe n x).params = s.params ∧ (s.setBpe n
    x).blobs = s.blobs ∧ (s.setBpe n x).mem = s.mem ∧ (s.setBpe n x).fenced = s.fenced ∧ (s.setBpe n x).fenceEv = s.fenceEv ∧
    (s.setBpe n x).bus = s.bus ∧ (s.setBpe n x).free = s.free ∧ (s.setBpe n x).mgr = s.mgr ∧ (s.setBpe n x).sd = s.sd ∧ (s.setBpe
    n x).leases = s.leases ∧ (s.setBpe n x).evr = s.evr ∧ (s.setBpe n x).tsv = s.tsv ∧ (s.setBpe n x).sigs = s.sigs ∧ (s.setBpe n
    x).tbs = s.tbs ∧ (s.setBpe n x).car = s.car ∧ (s.setBpe n x).hsn = s.hsn ∧ (s.setBpe n x).vis = s.vis ∧ (s.setBpe n x).cen =
    s.cen ∧ (s.setBpe n x).sol = s.sol ∧ (s.setBpe n x).lsw = s.lsw ∧ (s.setBpe n x).gns = s.gns ∧ (s.setBpe n x).ret = s.ret ∧
    (s.setBpe n x).rtc0 = s.rtc0 ∧ (s.setBpe n x).banks = s.banks ∧ (s.setBpe n x).io = s.io ∧ (s.setBpe n x).fus = s.fus ∧
    (s.setBpe n x).sec = s.sec ∧ (s.setBpe n x).eth = s.eth ∧ (s.setBpe n x).flt = s.flt ∧ (s.setBpe n x).dsp = s.dsp ∧ (s.setBpe
    n x).yul = s.yul ∧ (s.setBpe n x).pds = s.pds ∧ (s.setBpe n x).thm = s.thm ∧ (∀ h, (s.setBpe n x).rd h = s.rd h) ∧ (∀ h,
    (s.setBpe n x).on h = s.on h) ∧ (∀ h, (s.setBpe n x).rdS h = s.rdS h) ∧ (∀ d, (s.setBpe n x).domOn d = s.domOn d) ∧ (∀ k,
    (s.setBpe n x).blockOn k = s.blockOn k) ∧ (∀ k, (s.setBpe n x).live k = s.live k) ∧ (∀ k, (s.setBpe n x).isFenced k =
    s.isFenced k) ∧ (∀ o, (s.setBpe n x).ldb o = s.ldb o) :=
  ⟨rfl, rfl, rfl, rfl, rfl, rfl, rfl, rfl, rfl, rfl, rfl, rfl, rfl, rfl, rfl, rfl, rfl, rfl, rfl, rfl, rfl, rfl, rfl, rfl, rfl,
    rfl, rfl, rfl, rfl, rfl, rfl, rfl, rfl, rfl, rfl, rfl, rfl, rfl, rfl, fun _ => rfl, fun _ => rfl, fun _ => rfl, fun _ => rfl,
    fun _ => rfl, fun _ => rfl, fun _ => rfl, fun _ => rfl⟩

@[simp] theorem State.setFls_frame (k : Nat) (x : FltSess) (s : State) :
    (s.setFls k x).now = s.now ∧ (s.setFls k x).pending = s.pending ∧ (s.setFls k x).regs = s.regs ∧ (s.setFls k x).staged =
    s.staged ∧ (s.setFls k x).flagAt = s.flagAt ∧ (s.setFls k x).rate = s.rate ∧ (s.setFls k x).params = s.params ∧ (s.setFls k
    x).blobs = s.blobs ∧ (s.setFls k x).mem = s.mem ∧ (s.setFls k x).fenced = s.fenced ∧ (s.setFls k x).fenceEv = s.fenceEv ∧
    (s.setFls k x).bus = s.bus ∧ (s.setFls k x).free = s.free ∧ (s.setFls k x).mgr = s.mgr ∧ (s.setFls k x).sd = s.sd ∧ (s.setFls
    k x).leases = s.leases ∧ (s.setFls k x).evr = s.evr ∧ (s.setFls k x).tsv = s.tsv ∧ (s.setFls k x).sigs = s.sigs ∧ (s.setFls k
    x).tbs = s.tbs ∧ (s.setFls k x).car = s.car ∧ (s.setFls k x).hsn = s.hsn ∧ (s.setFls k x).vis = s.vis ∧ (s.setFls k x).cen =
    s.cen ∧ (s.setFls k x).sol = s.sol ∧ (s.setFls k x).lsw = s.lsw ∧ (s.setFls k x).gns = s.gns ∧ (s.setFls k x).ret = s.ret ∧
    (s.setFls k x).rtc0 = s.rtc0 ∧ (s.setFls k x).banks = s.banks ∧ (s.setFls k x).io = s.io ∧ (s.setFls k x).fus = s.fus ∧
    (s.setFls k x).sec = s.sec ∧ (s.setFls k x).can = s.can ∧ (s.setFls k x).eth = s.eth ∧ (s.setFls k x).dsp = s.dsp ∧ (s.setFls
    k x).yul = s.yul ∧ (s.setFls k x).pds = s.pds ∧ (s.setFls k x).thm = s.thm ∧ (∀ h, (s.setFls k x).rd h = s.rd h) ∧ (∀ h,
    (s.setFls k x).on h = s.on h) ∧ (∀ h, (s.setFls k x).rdS h = s.rdS h) ∧ (∀ d, (s.setFls k x).domOn d = s.domOn d) ∧ (∀ k,
    (s.setFls k x).blockOn k = s.blockOn k) ∧ (∀ k, (s.setFls k x).live k = s.live k) ∧ (∀ k, (s.setFls k x).isFenced k =
    s.isFenced k) ∧ (∀ o, (s.setFls k x).ldb o = s.ldb o) :=
  ⟨rfl, rfl, rfl, rfl, rfl, rfl, rfl, rfl, rfl, rfl, rfl, rfl, rfl, rfl, rfl, rfl, rfl, rfl, rfl, rfl, rfl, rfl, rfl, rfl, rfl,
    rfl, rfl, rfl, rfl, rfl, rfl, rfl, rfl, rfl, rfl, rfl, rfl, rfl, rfl, fun _ => rfl, fun _ => rfl, fun _ => rfl, fun _ => rfl,
    fun _ => rfl, fun _ => rfl, fun _ => rfl, fun _ => rfl⟩

end Sys2Proof.Machine
end

