-- ==== Sys2Proof/Laws/Store.lean ====
section
/-!
SUPPORT. The laws of the sparse table: what a key reads as after a write, and that every operation keeps the canonical form.
-/
namespace Sys2Proof.Machine

variable {α : Type}

theorem tabFind_tabPut_same (t : Tab α) (k : Nat) (v : α) : tabFind (tabPut t k v) k = some v := by
  induction t with
  | nil => simp [tabPut, tabFind]
  | cons e r ih =>
    obtain ⟨k', v'⟩ := e
    by_cases h1 : k < k'
    · simp [tabPut, tabFind, h1]
    · by_cases h2 : k = k'
      · simp [tabPut, tabFind, h2]
      · simp [tabPut, tabFind, h1, h2, ih]

theorem tabFind_tabPut_other (t : Tab α) {k j : Nat} (v : α) (h : k ≠ j) : tabFind (tabPut t k v) j = tabFind t j := by
  induction t with
  | nil => simp [tabPut, tabFind, h.symm]
  | cons e r ih =>
    obtain ⟨k', v'⟩ := e
    by_cases h1 : k < k'
    · simp [tabPut, tabFind, h1, h.symm]
    · by_cases h2 : k = k'
      · subst h2; simp [tabPut, tabFind, h.symm]
      · simp only [tabPut, h1, h2, if_false, tabFind, ih]

theorem tabFind_tabDel_same (t : Tab α) (k : Nat) : tabFind (tabDel t k) k = none := by
  induction t with
  | nil => rfl
  | cons e r ih =>
    obtain ⟨k', v'⟩ := e
    by_cases h : k = k'
    · simp [tabDel, h]; rw [← h]; exact ih
    · simp [tabDel, tabFind, h, ih]

theorem tabFind_tabDel_other (t : Tab α) {k j : Nat} (h : k ≠ j) : tabFind (tabDel t k) j = tabFind t j := by
  induction t with
  | nil => rfl
  | cons e r ih =>
    obtain ⟨k', v'⟩ := e
    by_cases h1 : k = k'
    · subst h1; simp [tabDel, tabFind, h.symm, ih]
    · simp only [tabDel, h1, if_false, tabFind, ih]

@[simp] theorem tabGet_tabSet_same [DecidableEq α] (d : α) (t : Tab α) (k : Nat) (v : α) : tabGet d (tabSet d t k v) k = v := by
  by_cases h : v = d
  · simp [tabGet, tabSet, h, tabFind_tabDel_same]
  · simp [tabGet, tabSet, h, tabFind_tabPut_same]

theorem tabGet_tabSet_other [DecidableEq α] (c d : α) (t : Tab α) {k j : Nat} (v : α) (h : k ≠ j) :
    tabGet c (tabSet d t k v) j = tabGet c t j := by
  by_cases hv : v = d
  · simp [tabGet, tabSet, hv, tabFind_tabDel_other t h]
  · simp [tabGet, tabSet, hv, tabFind_tabPut_other t v h]

/-! ## The canonical form -/

theorem tabRising_weaken {t : Tab α} {a b : Nat} (h : b ≤ a) (ht : tabRising a t = true) : tabRising b t = true := by
  cases t with
  | nil => rfl
  | cons e r => simp [tabRising] at ht ⊢; exact ⟨by omega, ht.2⟩

theorem tabRising_tabPut {t : Tab α} {a k : Nat} (v : α) (h : a ≤ k) (ht : tabRising a t = true) :
    tabRising a (tabPut t k v) = true := by
  induction t generalizing a with
  | nil => simp [tabPut, tabRising, h]
  | cons e r ih =>
    obtain ⟨k', v'⟩ := e
    simp [tabRising] at ht
    by_cases h1 : k < k'
    · simp [tabPut, h1, tabRising, h, ht.2]
    · by_cases h2 : k = k'
      · subst h2; simp [tabPut, tabRising, ht.1, ht.2]
      · simp only [tabPut, h1, h2, if_false, tabRising, Bool.and_eq_true, decide_eq_true_eq]
        exact ⟨ht.1, ih (by omega) ht.2⟩

theorem tabRising_tabDel {t : Tab α} {a : Nat} (k : Nat) (ht : tabRising a t = true) : tabRising a (tabDel t k) = true := by
  induction t generalizing a with
  | nil => rfl
  | cons e r ih =>
    obtain ⟨k', v'⟩ := e
    simp [tabRising] at ht
    by_cases h : k = k'
    · simp only [tabDel, h, if_true]
      subst h
      exact ih (tabRising_weaken (by omega : a ≤ k + 1) ht.2)
    · simp only [tabDel, h, if_false, tabRising, Bool.and_eq_true, decide_eq_true_eq]
      exact ⟨ht.1, ih ht.2⟩

theorem mem_tabPut {t : Tab α} {k : Nat} {v : α} {e : Nat × α} (h : e ∈ tabPut t k v) : e = (k, v) ∨ e ∈ t := by
  induction t with
  | nil => simp [tabPut] at h; exact Or.inl h
  | cons x r ih =>
    obtain ⟨k', v'⟩ := x
    by_cases h1 : k < k'
    · simpa [tabPut, h1] using h
    · by_cases h2 : k = k'
      · simp [tabPut, h2] at h; rcases h with h | h
        · left; simp [h, h2]
        · right; simp [h]
      · simp [tabPut, h1, h2] at h; rcases h with h | h
        · right; simp [h]
        · rcases ih h with h | h
          · exact Or.inl h
          · right; simp [h]

theorem mem_tabDel {t : Tab α} {k : Nat} {e : Nat × α} (h : e ∈ tabDel t k) : e ∈ t := by
  induction t with
  | nil => exact h
  | cons x r ih =>
    obtain ⟨k', v'⟩ := x
    by_cases h1 : k = k'
    · simp [tabDel, h1] at h; exact List.mem_cons_of_mem _ (ih (by rw [h1]; exact h))
    · simp [tabDel, h1] at h; rcases h with h | h
      · simp [h]
      · exact List.mem_cons_of_mem _ (ih h)

/-- Every write keeps a table's canonical form. -/
theorem tabWf_tabSet [DecidableEq α] {d : α} {t : Tab α} (k : Nat) (v : α) (h : tabWf d t = true) : tabWf d (tabSet d t k v) = true := by
  simp only [tabWf, Bool.and_eq_true, List.all_eq_true, decide_eq_true_eq] at h ⊢
  by_cases hv : v = d
  · simp only [tabSet, hv, if_true]
    exact ⟨tabRising_tabDel k h.1, fun e he => h.2 e (mem_tabDel he)⟩
  · simp only [tabSet, hv, if_false]
    refine ⟨tabRising_tabPut v (Nat.zero_le k) h.1, fun e he => ?_⟩
    rcases mem_tabPut he with rfl | he
    · exact hv
    · exact h.2 e he

theorem tabRising_filter {t : Tab α} {a : Nat} (p : Nat × α → Bool) (ht : tabRising a t = true) :
    tabRising a (t.filter p) = true := by
  induction t generalizing a with
  | nil => rfl
  | cons e r ih =>
    obtain ⟨k', v'⟩ := e
    simp [tabRising] at ht
    by_cases h : p (k', v') = true
    · simp only [List.filter_cons, h, if_true, tabRising, Bool.and_eq_true, decide_eq_true_eq]
      exact ⟨ht.1, ih ht.2⟩
    · simp only [List.filter_cons, h]
      exact ih (tabRising_weaken (by omega) ht.2)

/-- Dropping a range keeps a table's canonical form. -/
theorem tabWf_tabDrop [DecidableEq α] {d : α} {t : Tab α} (lo hi : Nat) (h : tabWf d t = true) : tabWf d (tabDrop t lo hi) = true := by
  simp only [tabWf, tabDrop, Bool.and_eq_true, List.all_eq_true, decide_eq_true_eq] at h ⊢
  exact ⟨tabRising_filter _ h.1, fun e he => h.2 e (List.mem_of_mem_filter he)⟩

theorem tabFind_lt {t : Tab α} {a k : Nat} (h : tabRising a t = true) (hk : k < a) : tabFind t k = none := by
  induction t generalizing a with
  | nil => rfl
  | cons e r ih =>
    obtain ⟨k', v'⟩ := e
    simp [tabRising] at h
    have : k ≠ k' := by omega
    simp [tabFind, this, ih h.2 (by omega)]

theorem tab_ext_from {d : α} {t u : Tab α} {a : Nat} (hr : tabRising a t = true) (hd : ∀ e ∈ t, e.2 ≠ d)
    (hr' : tabRising a u = true) (hd' : ∀ e ∈ u, e.2 ≠ d) (h : ∀ k, tabGet d t k = tabGet d u k) : t = u := by
  induction t generalizing a u with
  | nil =>
    cases u with
    | nil => rfl
    | cons e r =>
      obtain ⟨k, v⟩ := e
      have := h k
      simp [tabGet, tabFind] at this
      exact absurd this.symm (hd' (k, v) (by simp))
  | cons e r ih =>
    obtain ⟨k, v⟩ := e
    simp [tabRising] at hr
    have hv : v ≠ d := hd (k, v) (by simp)
    cases u with
    | nil =>
      have := h k
      simp [tabGet, tabFind] at this
      exact absurd this hv
    | cons e' r' =>
      obtain ⟨k', v'⟩ := e'
      simp [tabRising] at hr'
      have hv' : v' ≠ d := hd' (k', v') (by simp)
      have hk : k = k' := by
        rcases Nat.lt_trichotomy k k' with hlt | heq | hgt
        · have := h k
          have hne : k ≠ k' := by omega
          simp [tabGet, tabFind, hne, tabFind_lt hr'.2 (show k < k' + 1 by omega)] at this
          exact absurd this hv
        · exact heq
        · have := h k'
          have hne : k' ≠ k := by omega
          simp [tabGet, tabFind, hne, tabFind_lt hr.2 (show k' < k + 1 by omega)] at this
          exact absurd this.symm hv'
      subst hk
      have hvv : v = v' := by simpa [tabGet, tabFind] using h k
      subst hvv
      have := ih hr.2 (fun e he => hd e (by simp [he])) hr'.2 (fun e he => hd' e (by simp [he])) (fun j => by
        by_cases hj : j = k
        · subst hj
          simp [tabGet, tabFind_lt hr.2 (Nat.lt_succ_self j), tabFind_lt hr'.2 (Nat.lt_succ_self j)]
        · simpa [tabGet, tabFind, hj] using h j)
      rw [this]

/-- Two tables in canonical form that read the same under every key are the same table. -/
theorem tab_ext [DecidableEq α] {d : α} {t u : Tab α} (ht : tabWf d t = true) (hu : tabWf d u = true)
    (h : ∀ k, tabGet d t k = tabGet d u k) : t = u := by
  simp only [tabWf, Bool.and_eq_true, List.all_eq_true, decide_eq_true_eq] at ht hu
  exact tab_ext_from ht.1 ht.2 hu.1 hu.2 h

end Sys2Proof.Machine
end

