-- ==== Sys2Proof/Laws/Ops.lean ====
section
/-!
SUPPORT. For each shared operation, what it can do: reads after writes of fields and memory, conditional steps, emitted events,
host accesses, and what follows a command's own effect in a quiet state.
-/
namespace Sys2Proof.Machine

/-! ## Register fields -/

@[simp] theorem State.rd_wr_same (f : Fld) (v : Nat) (s : State) : (s.wr f v).rd f = v % 2 ^ f.wid := by
  simp [State.rd, State.wr]

theorem State.rd_wr_other {f g : Fld} (h : f.key ≠ g.key) (v : Nat) (s : State) : (s.wr f v).rd g = s.rd g := by
  simp [State.rd, State.wr, tabGet_tabSet_other _ _ _ _ h]

/-- Fields of registers at different addresses have different numbers. -/
theorem Fld.key_ne {f g : Fld} (hf : f.lo < 32) (hg : g.lo < 32) (h : f.addr ≠ g.addr) : f.key ≠ g.key := by
  simp only [Fld.key]; omega

theorem State.rd_setFlag_same (f : Fld) (s : State) : (s.setFlag f).rd f = 1 % 2 ^ f.wid := State.rd_wr_same f 1 s

theorem State.rd_setFlag_other {f g : Fld} (h : f.key ≠ g.key) (s : State) : (s.setFlag f).rd g = s.rd g :=
  State.rd_wr_other h 1 s

theorem State.rd_setFlagBit_same (f : Fld) (i : Nat) (s : State) : (s.setFlagBit f i).rd f = setBit (s.rd f) i % 2 ^ f.wid :=
  State.rd_wr_same f _ s

theorem State.rd_setFlagBit_other {f g : Fld} (h : f.key ≠ g.key) (i : Nat) (s : State) : (s.setFlagBit f i).rd g = s.rd g :=
  State.rd_wr_other h _ s

/-! ## Memory -/

@[simp] theorem State.ldb_stb_same (a v : Nat) (s : State) : (s.stb a v).ldb a = v % 256 := by
  simp [State.ldb, State.stb]

theorem State.ldb_stb_other {a b : Nat} (h : a ≠ b) (v : Nat) (s : State) : (s.stb a v).ldb b = s.ldb b := by
  simp [State.ldb, State.stb, tabGet_tabSet_other _ _ _ _ h]

theorem State.stb_wf (a v : Nat) (s : State) (h : Memory.wf s.mem = true) : Memory.wf (s.stb a v).mem = true :=
  tabWf_tabSet _ _ h

/-- Stores of any length keep the canonical form. -/
theorem State.stBytes_wf (l : List Nat) (a : Nat) (s : State) (h : Memory.wf s.mem = true) :
    Memory.wf (s.stBytes a l).mem = true := by
  induction l generalizing a s with
  | nil => exact h
  | cons b r ih => exact ih _ _ (s.stb_wf a b h)

theorem State.stw_wf (a v : Nat) (s : State) (h : Memory.wf s.mem = true) : Memory.wf (s.stw a v).mem = true := s.stBytes_wf _ _ h

theorem State.stWords_wf (a : Nat) (l : List Nat) (s : State) (h : Memory.wf s.mem = true) :
    Memory.wf (s.stWords a l).mem = true := s.stBytes_wf _ _ h

/-- A store of bytes leaves every byte outside them. -/
theorem State.ldb_stBytes_other (l : List Nat) {a b : Nat} (s : State) (h : b < a ∨ a + l.length ≤ b) :
    (s.stBytes a l).ldb b = s.ldb b := by
  induction l generalizing a s with
  | nil => rfl
  | cons x r ih =>
    simp only [List.length_cons] at h
    rw [State.stBytes, ih _ (by omega), State.ldb_stb_other (by omega)]

/-- A store of bytes puts each at its place. -/
theorem State.ldb_stBytes_in (l : List Nat) {a i : Nat} (s : State) (h : i < l.length) :
    (s.stBytes a l).ldb (a + i) = l[i] % 256 := by
  induction l generalizing a i s with
  | nil => exact absurd h (Nat.not_lt_zero _)
  | cons x r ih =>
    cases i with
    | zero => rw [State.stBytes, State.ldb_stBytes_other _ _ (by omega)]; simp
    | succ j =>
      have := ih (a := a + 1) (i := j) (s.stb a x) (by simpa using h)
      rw [State.stBytes, show a + (j + 1) = a + 1 + j by omega, this]; simp

/-! ## Steps under a condition, and repeated ones -/

@[simp] theorem State.when_true (f : State → State) (s : State) : s.when true f = f s := if_pos rfl
@[simp] theorem State.when_false (f : State → State) (s : State) : s.when false f = s := if_neg Bool.false_ne_true
@[simp] theorem State.each_nil {α : Type} (f : α → State → State) (s : State) : s.each [] f = s := rfl
@[simp] theorem State.each_cons {α : Type} (x : α) (l : List α) (f : α → State → State) (s : State) :
    s.each (x :: l) f = (f x s).each l f := rfl

theorem State.when_of {c : Bool} (h : c = true) (f : State → State) (s : State) : s.when c f = f s := by simp [h]
theorem State.when_not {c : Bool} (h : c = false) (f : State → State) (s : State) : s.when c f = s := by simp [h]

/-! ## Host accesses (R20, R28) -/

theorem State.hostWrite_open {a : Nat} {s : State} (h : s.open a = true) (f : State → State) : s.hostWrite a f = f s := by
  simp only [State.open, Bool.and_eq_true, Bool.not_eq_true'] at h
  simp [State.hostWrite, h.1, h.2]

theorem State.hostWrite_off {a : Nat} {s : State} (h : s.windowOn a = false) (f : State → State) :
    s.hostWrite a f = s.emit 0x0010 [addrBlock a, addrOff a, 1] := by simp [State.hostWrite, h]

theorem State.hostWrite_fenced {a : Nat} {s : State} (h : s.windowOn a = true) (hf : s.fencing (addrBlock a) = true)
    (ht : s.bus.tsv = false) (f : State → State) : s.hostWrite a f = s.fencedWrite (addrBlock a) (addrOff a) := by
  simp [State.hostWrite, h, hf, ht]

theorem State.hostRead_open {a : Nat} {s : State} (h : s.windowOn a = true) (f : State → Nat × State) :
    s.hostRead a f = { (f s).2 with bus := { done := true, data := (f s).1 } } := by simp [State.hostRead, h]

/-! ## Events (R457–R464) -/

/-- What emitting an event can change: the recorder and its lease, its flags and its registers. -/
structure EvrOnly (s t : State) : Prop where
  same : t = { s with regs := t.regs, flagAt := t.flagAt, evr := t.evr, leases := t.leases }
  rd   : ∀ f : Fld, f.lo < 32 → addrBlock f.addr ≠ 0x11 → t.rd f = s.rd f

theorem EvrOnly.refl (s : State) : EvrOnly s s := ⟨rfl, fun _ _ _ => rfl⟩

theorem EvrOnly.trans {s t u : State} (h : EvrOnly s t) (k : EvrOnly t u) : EvrOnly s u :=
  ⟨by rw [k.same, h.same], fun f a b => (k.rd f a b).trans (h.rd f a b)⟩

theorem EvrOnly.wr {s : State} (g : Fld) (v : Nat) (hl : g.lo < 32) (ha : addrBlock g.addr = 0x11) : EvrOnly s (s.wr g v) :=
  ⟨rfl, fun _ a b => State.rd_wr_other (Fld.key_ne hl a (fun e => b (e ▸ ha))) v s⟩

theorem EvrOnly.setFlagBit {s : State} (g : Fld) (i : Nat) (hl : g.lo < 32) (ha : addrBlock g.addr = 0x11) :
    EvrOnly s (s.setFlagBit g i) :=
  ⟨rfl, fun _ a b => State.rd_setFlagBit_other (Fld.key_ne hl a (fun e => b (e ▸ ha))) i s⟩

theorem EvrOnly.requestLease (s : State) (r h : Nat) : EvrOnly s (s.requestLease r h) := by
  have hs : ∀ (u : State) (l : Lease), EvrOnly u (u.setLease r l) := fun u l => ⟨rfl, fun _ _ _ => rfl⟩
  have hv : ∀ u : State, EvrOnly u (u.serveLease r) := by
    intro u
    simp only [State.serveLease]
    split
    · split
      · exact hs _ _
      · exact EvrOnly.refl u
    · exact EvrOnly.refl u
  simp only [State.requestLease]
  split
  · exact EvrOnly.refl s
  · split
    · exact hs _ _
    · split
      · exact EvrOnly.refl s
      · exact (hs _ _).trans (hv _)

theorem EvrOnly.evr (s : State) (e : Evr) : EvrOnly s { s with evr := e } := ⟨rfl, fun _ _ _ => rfl⟩

theorem EvrOnly.loseEvent (s : State) (r : EvRec) : EvrOnly s (s.loseEvent r) := by
  exact ((EvrOnly.evr _ _).trans (EvrOnly.wr _ _ (by decide) (by decide))).trans (EvrOnly.setFlagBit _ _ (by decide) (by decide))

theorem EvrOnly.crowdOut (s : State) (r : EvRec) : EvrOnly s (s.crowdOut r) := by
  unfold State.crowdOut
  split
  · split
    · exact (EvrOnly.evr _ _).trans (EvrOnly.loseEvent _ _)
    · exact EvrOnly.loseEvent _ _
  · exact EvrOnly.loseEvent _ _

theorem EvrOnly.stageEvent (s : State) (r : EvRec) : EvrOnly s (s.stageEvent r) := by
  have hq : ∀ u : State, EvrOnly u (if u.on EVR_STAT_CLEARING then u else u.requestLease 0 0x11) := by
    intro u; split
    · exact EvrOnly.refl u
    · exact EvrOnly.requestLease u _ _
  unfold State.stageEvent
  split
  · exact EvrOnly.refl s
  · split
    · exact EvrOnly.wr _ _ (by decide) (by decide)
    · split
      · exact EvrOnly.wr _ _ (by decide) (by decide)
      · split
        · exact EvrOnly.loseEvent _ _
        · split
          · exact EvrOnly.crowdOut _ _
          · exact (EvrOnly.evr _ _).trans (hq _)

theorem EvrOnly.emit (s : State) (code : Nat) (ps : List Nat) : EvrOnly s (s.emit code ps) := EvrOnly.stageEvent s _

theorem State.rd_emit {f : Fld} (hl : f.lo < 32) (ha : addrBlock f.addr ≠ 0x11) (code : Nat) (ps : List Nat) (s : State) :
    (s.emit code ps).rd f = s.rd f := (EvrOnly.emit s code ps).rd f hl ha

/-! ## What follows in the same step -/

theorem State.quiet_iff (s : State) : s.quiet = true ↔ s.sigs = [] ∧ s.pds.txns = [] ∧ 48 ≤ s.rd TSV_MPAR6_FCA ∧
    48 ≤ s.rd TSV_MPAR6_FCB ∧ s.rd SEC_STAT_STATE ≠ 3 := by
  simp [State.quiet, and_assoc]

/-- A state stays quiet through what leaves signals, transactions and the three registers as they were. -/
theorem State.quiet_of {s t : State} (h : s.quiet = true) (h1 : t.sigs = s.sigs) (h2 : t.pds = s.pds)
    (h3 : t.rd TSV_MPAR6_FCA = s.rd TSV_MPAR6_FCA) (h4 : t.rd TSV_MPAR6_FCB = s.rd TSV_MPAR6_FCB)
    (h5 : t.rd SEC_STAT_STATE = s.rd SEC_STAT_STATE) : t.quiet = true := by
  rw [State.quiet_iff] at *; rw [h1, h2, h3, h4, h5]; exact h

theorem State.settle_quiet {t : State} (h : t.quiet = true) (o : State) : State.settle o t = t := by
  obtain ⟨h1, h2, h3, h4, h5⟩ := (State.quiet_iff t).mp h
  have hd : ∀ k, State.drain (k + 1) t = t := by intro k; simp [State.drain, h1]
  have hs : t.sweep = t := by simp [State.sweep, State.handed, State.endTxns, h2]
  have hn : t.hsnWaits = false := by simp [State.hsnWaits, State.handed, h2]
  have hq : t.when t.hsnWaits State.hsnSync = t := by simp [hn, State.when]
  have hw : State.watchSteering o t = t := by
    have : t.steerChans = [] := by
      simp only [State.steerChans, List.filter_eq_nil_iff]
      intro a ha
      simp only [List.mem_cons, List.not_mem_nil, or_false] at ha
      rcases ha with rfl | rfl <;> simp <;> omega
    simp [State.watchSteering, this]
  simp only [State.settle, hd, hq, hs, hw, State.watchSec]
  simp [State.secSt, h5]

theorem State.after_quiet {t : State} (h : t.quiet = true) (s : State) : s.after t = s.fin t := by
  simp [State.after, State.settle_quiet h]

theorem State.afterMgr_quiet {t : State} (h : t.quiet = true) (s : State) : s.afterMgr t = s.finMgr t := by
  simp [State.afterMgr, State.settle_quiet h]

@[simp] theorem State.fin_rd (s t : State) (f : Fld) : (s.fin t).rd f = t.rd f := rfl
@[simp] theorem State.fin_ldb (s t : State) (a : Nat) : (s.fin t).ldb a = t.ldb a := rfl

theorem State.ok_eq (s t : State) : s.ok t = .next (s.after t) := rfl
theorem State.okMgr_eq (s t : State) : s.okMgr t = .next (s.afterMgr t) := rfl

end Sys2Proof.Machine
end

