-- ==== Sys2Proof/Laws/Frames.lean ====
section
/-!
SUPPORT. What the shared operations leave as it was: each keeps everything outside the blocks that it concerns.
-/
namespace Sys2Proof.Machine

/-- Setting one bit leaves the others. -/
theorem bit_setBit_other {i j : Nat} (x : Nat) (h : i ≠ j) : bit (setBit x j) i = bit x i := by
  have h' : ¬ j = i := fun e => h e.symm
  simp [bit, setBit, Nat.one_shiftLeft, h']

theorem State.only.refl (bs : List Nat) (s : State) : s.only bs s := by
  constructor <;> simp [State.regsKept, State.memKept]

theorem State.only.trans {bs : List Nat} {s t u : State} (h : s.only bs t) (k : t.only bs u) : s.only bs u where
  regs := fun f a b => (k.regs f a b).trans (h.regs f a b)
  staged := fun f a b => (k.staged f a b).trans (h.staged f a b)
  mem := fun a => (k.mem a).trans (h.mem a)
  now := k.now.trans h.now
  pending := k.pending.trans h.pending
  sigs := k.sigs.trans h.sigs
  mgr := k.mgr.trans h.mgr
  sd := k.sd.trans h.sd
  fenced := k.fenced.trans h.fenced
  fenceEv := fun b hb => (k.fenceEv b hb).trans (h.fenceEv b hb)
  params := ⟨k.params.1.trans h.params.1, k.params.2.1.trans h.params.2.1, k.params.2.2.trans h.params.2.2⟩
  ka := ⟨k.ka.1.trans h.ka.1, k.ka.2.trans h.ka.2⟩
  io := k.io.trans h.io
  leases := fun r hr => (k.leases r hr).trans (h.leases r hr)
  tsv := h.tsv.elim .inl fun e => k.tsv.elim .inl fun e' => .inr (e'.trans e)
  car := h.car.elim .inl fun e => k.car.elim .inl fun e' => .inr (e'.trans e)
  tbs := h.tbs.elim .inl fun e => k.tbs.elim .inl fun e' => .inr (e'.trans e)
  cen := h.cen.elim .inl fun e => k.cen.elim .inl fun e' => .inr (e'.trans e)
  hsn := h.hsn.elim .inl fun e => k.hsn.elim .inl fun e' => .inr (e'.trans e)
  vis := h.vis.elim .inl fun e => k.vis.elim .inl fun e' => .inr (e'.trans e)
  gns := h.gns.elim .inl fun e => k.gns.elim .inl fun e' => .inr (e'.trans e)
  fus := h.fus.elim .inl fun e => k.fus.elim .inl fun e' => .inr (e'.trans e)
  sec := h.sec.elim .inl fun e => k.sec.elim .inl fun e' => .inr (e'.trans e)
  sol := h.sol.elim .inl fun e => k.sol.elim .inl fun e' => .inr (e'.trans e)
  lsw := h.lsw.elim .inl fun e => k.lsw.elim .inl fun e' => .inr (e'.trans e)
  can := h.can.elim .inl fun e => k.can.elim .inl fun e' => .inr (e'.trans e)
  eth := h.eth.elim .inl fun e => k.eth.elim .inl fun e' => .inr (e'.trans e)
  flt := h.flt.elim .inl fun e => k.flt.elim .inl fun e' => .inr (e'.trans e)
  thm := h.thm.elim .inl fun e => k.thm.elim .inl fun e' => .inr (e'.trans e)
  dsp := h.dsp.elim .inl fun e => k.dsp.elim .inl fun e' => .inr (e'.trans e)
  evr := h.evr.elim .inl fun e => k.evr.elim .inl fun e' => .inr (e'.trans e)
  pds := h.pds.elim .inl fun e => k.pds.elim .inl fun e' => .inr (e'.trans e)
  yul := h.yul.elim .inl fun e => k.yul.elim .inl fun e' => .inr (e'.trans e)

/-- A write of a field keeps everything outside its block. -/
theorem State.only.wr {bs : List Nat} (f : Fld) (v : Nat) (s : State) (hl : f.lo < 32) (hb : addrBlock f.addr ∈ bs) :
    s.only bs (s.wr f v) where
  regs := fun _ a b => State.rd_wr_other (Fld.key_ne hl a (fun e => b (e ▸ hb))) v s
  staged := fun _ _ _ => rfl
  mem := fun _ => rfl
  now := rfl
  pending := rfl
  sigs := rfl
  mgr := rfl
  sd := rfl
  fenced := rfl
  fenceEv := fun _ _ => rfl
  params := ⟨rfl, rfl, rfl⟩
  ka := ⟨rfl, rfl⟩
  io := rfl
  leases := fun _ _ => rfl
  tsv := .inr rfl
  car := .inr rfl
  tbs := .inr rfl
  cen := .inr rfl
  hsn := .inr rfl
  vis := .inr rfl
  gns := .inr rfl
  fus := .inr rfl
  sec := .inr rfl
  sol := .inr rfl
  lsw := .inr rfl
  can := .inr rfl
  eth := .inr rfl
  flt := .inr rfl
  thm := .inr rfl
  dsp := .inr rfl
  evr := .inr rfl
  pds := .inr rfl
  yul := .inr rfl

/-- The notes of when flags were set are no part of what is kept. -/
theorem State.only.flagAt {bs : List Nat} {s t : State} (h : s.only bs t) (x : Tab Nat) : s.only bs { t with flagAt := x } :=
  { h with }

/-- The notes of when events were emitted are no part of what is kept. -/
theorem State.only.rate {bs : List Nat} {s t : State} (h : s.only bs t) (x : Tab (Nat × Nat)) : s.only bs { t with rate := x } :=
  { h with }

/-- The count of free values taken is no part of what is kept. -/
theorem State.only.takeFree {bs : List Nat} (w : Nat) (s : State) : s.only bs (s.takeFree w).2 :=
  { State.only.refl bs s with }

theorem State.only.setFlag {bs : List Nat} (f : Fld) (s : State) (hl : f.lo < 32) (hb : addrBlock f.addr ∈ bs) :
    s.only bs (s.setFlag f) := (State.only.wr f 1 s hl hb).flagAt _

theorem State.only.setFlagBit {bs : List Nat} (f : Fld) (i : Nat) (s : State) (hl : f.lo < 32) (hb : addrBlock f.addr ∈ bs) :
    s.only bs (s.setFlagBit f i) := (State.only.wr f _ s hl hb).flagAt _

theorem State.only.inc {bs : List Nat} (f : Fld) (s : State) (hl : f.lo < 32) (hb : addrBlock f.addr ∈ bs) :
    s.only bs (s.inc f) := State.only.wr f _ s hl hb

theorem State.only.stage {bs : List Nat} (f : Fld) (v : Nat) (s : State) (hl : f.lo < 32) (hb : addrBlock f.addr ∈ bs) :
    s.only bs (s.stage f v) :=
  { State.only.refl bs s with
    staged := fun g a b => by
      have := Fld.key_ne hl a (fun e : f.addr = g.addr => b (e ▸ hb))
      simp [State.stage, tabFind_tabPut_other _ _ this] }

theorem State.only.unstage {bs : List Nat} (f : Fld) (s : State) (hl : f.lo < 32) (hb : addrBlock f.addr ∈ bs) :
    s.only bs (s.unstage f) :=
  { State.only.refl bs s with
    staged := fun g a b => by
      have := Fld.key_ne hl a (fun e : f.addr = g.addr => b (e ▸ hb))
      simp [State.unstage, tabFind_tabDel_other _ this] }

/-- A change of one lease keeps everything outside the blocks that may request it. -/
theorem State.only.setLease {bs : List Nat} (r : Nat) (l : Lease) (s : State) (hb : ∃ h ∈ leaseHolders r, h ∈ bs) :
    s.only bs (s.setLease r l) :=
  { State.only.refl bs s with
    leases := fun q hq => by
      have : r ≠ q := fun e => by obtain ⟨h, h1, h2⟩ := hb; exact hq h (e ▸ h1) h2
      simp [State.lease, State.setLease, tabGet_tabSet_other _ _ _ _ this] }

theorem State.only.serveLease {bs : List Nat} (r : Nat) (s : State) (hb : ∃ h ∈ leaseHolders r, h ∈ bs) :
    s.only bs (s.serveLease r) := by
  simp only [State.serveLease]
  split
  · split
    · exact State.only.setLease r _ s hb
    · exact State.only.refl bs s
  · exact State.only.refl bs s

theorem State.only.requestLease {bs : List Nat} (r h : Nat) (s : State) (hb : ∃ h ∈ leaseHolders r, h ∈ bs) :
    s.only bs (s.requestLease r h) := by
  simp only [State.requestLease]
  split
  · exact State.only.refl bs s
  · split
    · exact State.only.setLease r _ s hb
    · split
      · exact State.only.refl bs s
      · exact (State.only.setLease r _ s hb).trans (State.only.serveLease r _ hb)

theorem State.only.returnLease {bs : List Nat} (r h : Nat) (s : State) (hb : ∃ h ∈ leaseHolders r, h ∈ bs) :
    s.only bs (s.returnLease r h) := by
  simp only [State.returnLease]
  split
  · exact (State.only.setLease r _ s hb).trans (State.only.serveLease r _ hb)
  · exact State.only.setLease r _ s hb

theorem State.only.setEvr {bs : List Nat} (s : State) (e : Evr) (hb : 0x11 ∈ bs) : s.only bs { s with evr := e } :=
  { State.only.refl bs s with evr := .inl hb }

theorem State.only.loseEvent {bs : List Nat} (r : EvRec) (s : State) (hb : 0x11 ∈ bs) : s.only bs (s.loseEvent r) :=
  ((State.only.setEvr _ _ hb).trans (State.only.inc EVR_CNT_LOSTEV _ (by decide) hb)).trans
    (State.only.setFlagBit EVR_INTSTAT_FLAGS _ _ (by decide) hb)

theorem State.only.crowdOut {bs : List Nat} (r : EvRec) (s : State) (hb : 0x11 ∈ bs) : s.only bs (s.crowdOut r) := by
  unfold State.crowdOut
  split
  · split
    · exact (State.only.setEvr _ _ hb).trans (State.only.loseEvent _ _ hb)
    · exact State.only.loseEvent _ _ hb
  · exact State.only.loseEvent _ _ hb

/-- A staged event concerns the recorder alone. -/
theorem State.only.stageEvent {bs : List Nat} (r : EvRec) (s : State) (hb : 0x11 ∈ bs) : s.only bs (s.stageEvent r) := by
  have hl : ∃ h ∈ leaseHolders 0, h ∈ bs := ⟨0x11, by decide, hb⟩
  have hq : ∀ u : State, u.only bs (if u.on EVR_STAT_CLEARING then u else u.requestLease 0 0x11) := by
    intro u; split
    · exact State.only.refl bs u
    · exact State.only.requestLease _ _ u hl
  unfold State.stageEvent
  split
  · exact State.only.refl bs s
  · split
    · exact State.only.wr _ _ s (by decide) hb
    · split
      · exact State.only.wr _ _ s (by decide) hb
      · split
        · exact State.only.loseEvent _ _ hb
        · split
          · exact State.only.crowdOut _ _ hb
          · exact (State.only.setEvr _ _ hb).trans (hq _)

theorem State.only.emit {bs : List Nat} (code : Nat) (ps : List Nat) (s : State) (hb : 0x11 ∈ bs) : s.only bs (s.emit code ps) :=
  State.only.stageEvent _ s hb

theorem State.only.emitRate {bs : List Nat} (code inst per : Nat) (mk : Nat → List Nat) (s : State) (hb : 0x11 ∈ bs) :
    s.only bs (s.emitRate code inst per mk) := by
  simp only [State.emitRate, State.emitRateN]
  split
  · exact ((State.only.refl bs s).rate _).trans (State.only.emit _ _ _ hb)
  · exact (State.only.refl bs s).rate _

/-! ## Steps under a condition, repeated steps, host accesses -/

theorem State.only.when {bs : List Nat} {f : State → State} (c : Bool) (s : State) (h : c = true → s.only bs (f s)) :
    s.only bs (s.when c f) := by
  cases c
  · exact State.only.refl bs s
  · exact h rfl

theorem State.only.foldl {bs : List Nat} {α : Type} (l : List α) {f : State → α → State} (s : State)
    (h : ∀ u a, a ∈ l → s.only bs u → u.only bs (f u a)) : s.only bs (l.foldl f s) := by
  suffices ∀ u, s.only bs u → s.only bs (l.foldl f u) from this s (State.only.refl bs s)
  induction l with
  | nil => exact fun _ h => h
  | cons a r ih =>
    intro u hu
    exact ih (fun v b hb => h v b (List.mem_cons_of_mem _ hb)) _ (hu.trans (h u a List.mem_cons_self hu))

theorem State.only.each {bs : List Nat} {α : Type} (l : List α) {f : α → State → State} (s : State)
    (h : ∀ u a, a ∈ l → s.only bs u → u.only bs (f a u)) : s.only bs (s.each l f) := State.only.foldl l s h

/-- A host write keeps everything outside the recorder and its register's block, if its effect does. -/
theorem State.only.hostWrite {bs : List Nat} {a : Nat} {f : State → State} (s : State) (he : 0x11 ∈ bs) (hb : addrBlock a ∈ bs)
    (h : s.windowOn a = true → s.only bs (f s)) : s.only bs (s.hostWrite a f) := by
  unfold State.hostWrite
  split
  · exact State.only.emit _ _ s he
  · split
    · simp only [State.fencedWrite]
      split
      · exact State.only.refl bs s
      · refine State.only.trans ?_ (State.only.emit _ _ _ he)
        exact { State.only.refl bs s with
          fenceEv := fun b hb' => by
            have hne : b ≠ addrBlock a := fun e => hb' (e ▸ hb)
            exact bit_setBit_other _ hne }
    · exact h (by simp_all)

/-! ## The whole command -/

/-- A command whose own effect in a quiet state keeps everything outside some blocks leaves a state that does. -/
theorem State.only.after {bs : List Nat} {s t : State} (h : s.only bs t) (hq : s.quiet = true) (h1 : 0x01 ∉ bs) (h9 : 0x09 ∉ bs)
    (hp : 0x12 ∉ bs) : s.only bs (s.after t) := by
  have hs : s.sigs = [] := ((State.quiet_iff s).mp hq).1
  rw [State.after_quiet (State.quiet_of hq h.sigs (h.pds.resolve_left hp) (h.regs TSV_MPAR6_FCA (by decide) h1)
    (h.regs TSV_MPAR6_FCB (by decide) h1) (h.regs SEC_STAT_STATE (by decide) h9))]
  exact { h with now := rfl, pending := rfl, mgr := rfl, sigs := hs.symm }

end Sys2Proof.Machine
end

