-- ==== Sys2Proof/Laws/Answers.lean ====
section
/-!
SUPPORT. How each command is answered: what its own effect gives is followed by what other blocks do in the same step.
-/
namespace Sys2Proof.Machine

theorem execBlockFaultDetected_ok (b inst : Nat) (row : Option Nat) (groups : Nat) (res : Option Nat) (s : State) : ∃ u, execBlockFaultDetected b inst row groups res s = s.ok u := ⟨_, rfl⟩
theorem execFence_ok (b : Nat) (s : State) : ∃ u, execFence b s = s.ok u := ⟨_, rfl⟩
theorem execBlockHealthy_ok (b : Nat) (s : State) : ∃ u, execBlockHealthy b s = s.ok u := ⟨_, rfl⟩
theorem execPowerGoodLost_okMgr (d : Nat) (s : State) : ∃ u, execPowerGoodLost d s = s.okMgr u := ⟨_, rfl⟩
theorem execDomainPowerGood_okMgr (d : Nat) (s : State) : ∃ u, execDomainPowerGood d s = s.okMgr u := ⟨_, rfl⟩
theorem execDomainPowerFail_okMgr (d : Nat) (s : State) : ∃ u, execDomainPowerFail d s = s.okMgr u := ⟨_, rfl⟩
theorem execEdgeAccepted_ok (n pin : Nat) (high : Bool) (s : State) : ∃ u, execEdgeAccepted n pin high s = s.ok u := ⟨_, rfl⟩
theorem execEdgeDeadline_ok (n : Nat) (s : State) : ∃ u, execEdgeDeadline n s = s.ok u := ⟨_, rfl⟩
theorem execFailoverReturn_ok (n : Nat) (s : State) : ∃ u, execFailoverReturn n s = s.ok u := ⟨_, rfl⟩
theorem execTbiWireBreak_ok (pin : Nat) (short : Bool) (ms : Nat) (s : State) : ∃ u, execTbiWireBreak pin short ms s = s.ok u := ⟨_, rfl⟩
theorem execGnssRecordMissing_ok (n : Nat) (s : State) : ∃ u, execGnssRecordMissing n s = s.ok u := ⟨_, rfl⟩
theorem execYulisUpdateMissing_ok (n : Nat) (s : State) : ∃ u, execYulisUpdateMissing n s = s.ok u := ⟨_, rfl⟩
theorem execPreset_ok (n v : Nat) (s : State) : ∃ u, execPreset n v s = s.ok u := ⟨_, rfl⟩
theorem execSnap_ok (_v : Nat) (s : State) : ∃ u, execSnap _v s = s.ok u := ⟨_, rfl⟩
theorem execPhaseRead_ok (n : Nat) (s : State) : ∃ u, execPhaseRead n s = s.ok u := ⟨_, rfl⟩
theorem execPlausibilityWindow_ok (n : Nat) (s : State) : ∃ u, execPlausibilityWindow n s = s.ok u := ⟨_, rfl⟩
theorem execPost_ok (p : Nat) (s : State) : ∃ u, execPost p s = s.ok u := ⟨_, rfl⟩
theorem execRetime_ok (p : Nat) (s : State) : ∃ u, execRetime p s = s.ok u := ⟨_, rfl⟩
theorem execRevoke_ok (p : Nat) (s : State) : ∃ u, execRevoke p s = s.ok u := ⟨_, rfl⟩
theorem execFlush_ok (p : Nat) (s : State) : ∃ u, execFlush p s = s.ok u := ⟨_, rfl⟩
theorem execPredictionRound_ok (s : State) : ∃ u, execPredictionRound s = s.ok u := ⟨_, rfl⟩
theorem execEventFire_ok (bad : List Nat) (s : State) : ∃ u, execEventFire bad s = s.ok u := ⟨_, rfl⟩
theorem execRetirementWrite_ok (s : State) : ∃ u, execRetirementWrite s = s.ok u := ⟨_, rfl⟩
theorem execCarRetrdWrite_ok (v : Nat) (s : State) : ∃ u, execCarRetrdWrite v s = s.ok u := ⟨_, rfl⟩
theorem execWindowMaxlen_ok (n : Nat) (s : State) : ∃ u, execWindowMaxlen n s = s.ok u := ⟨_, rfl⟩
theorem execTimeDomainSlot_ok (s : State) : ∃ u, execTimeDomainSlot s = s.ok u := ⟨_, rfl⟩
theorem execTare_ok (s : State) : ∃ u, execTare s = s.ok u := ⟨_, rfl⟩
theorem execCalstart_ok (s : State) : ∃ u, execCalstart s = s.ok u := ⟨_, rfl⟩
theorem execCalstop_ok (s : State) : ∃ u, execCalstop s = s.ok u := ⟨_, rfl⟩
theorem execNlreset_ok (mask : Nat) (s : State) : ∃ u, execNlreset mask s = s.ok u := ⟨_, rfl⟩
theorem execNlsnap_ok (s : State) : ∃ u, execNlsnap s = s.ok u := ⟨_, rfl⟩
theorem execMoistureAverage_ok (cap : Nat) (tg : Int) (s : State) : ∃ u, execMoistureAverage cap tg s = s.ok u := ⟨_, rfl⟩
theorem execMoistureStale_ok (s : State) : ∃ u, execMoistureStale s = s.ok u := ⟨_, rfl⟩
theorem execHistoryStep_ok (s : State) : ∃ u, execHistoryStep s = s.ok u := ⟨_, rfl⟩
theorem execYieldRecord_ok (s : State) : ∃ u, execYieldRecord s = s.ok u := ⟨_, rfl⟩
theorem execLossSensorFault_ok (c mv : Nat) (s : State) : ∃ u, execLossSensorFault c mv s = s.ok u := ⟨_, rfl⟩
theorem execPlateBridgeFault_ok (kind : Nat) (s : State) : ∃ u, execPlateBridgeFault kind s = s.ok u := ⟨_, rfl⟩
theorem execHsnRingReadWrite_ok (ring v : Nat) (s : State) : ∃ u, execHsnRingReadWrite ring v s = s.ok u := ⟨_, rfl⟩
theorem execPortSynchronised_ok (p : Nat) (s : State) : ∃ u, execPortSynchronised p s = s.ok u := ⟨_, rfl⟩
theorem execFrameStart_ok (p : Nat) (s : State) : ∃ u, execFrameStart p s = s.ok u := ⟨_, rfl⟩
theorem execFrameEnd_ok (p : Nat) (lines : List (List Nat)) (s : State) : ∃ u, execFrameEnd p lines s = s.ok u := ⟨_, rfl⟩
theorem execFrameTimeout_ok (p : Nat) (lines : List (List Nat)) (s : State) : ∃ u, execFrameTimeout p lines s = s.ok u := ⟨_, rfl⟩
theorem execPixelClockLost_ok (p : Nat) (lines : List (List Nat)) (s : State) : ∃ u, execPixelClockLost p lines s = s.ok u := ⟨_, rfl⟩
theorem execPixelClockReturn_ok (p : Nat) (s : State) : ∃ u, execPixelClockReturn p s = s.ok u := ⟨_, rfl⟩
theorem execTriggerMissed_ok (p : Nat) (s : State) : ∃ u, execTriggerMissed p s = s.ok u := ⟨_, rfl⟩
theorem execFrameQueued_ok (s : State) : ∃ u, execFrameQueued s = s.ok u := ⟨_, rfl⟩
theorem execProcessingStart_ok (s : State) : ∃ u, execProcessingStart s = s.ok u := ⟨_, rfl⟩
theorem execProcessingEnd_ok (s : State) : ∃ u, execProcessingEnd s = s.ok u := ⟨_, rfl⟩
theorem execQuietSlotEnd_ok (s : State) : ∃ u, execQuietSlotEnd s = s.ok u := ⟨_, rfl⟩
theorem execResultWrite_ok (s : State) : ∃ u, execResultWrite s = s.ok u := ⟨_, rfl⟩
theorem execRply_ok (s : State) : ∃ u, execRply s = s.ok u := ⟨_, rfl⟩
theorem execFrameMemoryError_ok (s : State) : ∃ u, execFrameMemoryError s = s.ok u := ⟨_, rfl⟩
theorem execVisRingReadWrite_ok (v : Nat) (s : State) : ∃ u, execVisRingReadWrite v s = s.ok u := ⟨_, rfl⟩
theorem execTimerTrigger_ok (n : Nat) (s : State) : ∃ u, execTimerTrigger n s = s.ok u := ⟨_, rfl⟩
theorem execSwtrig_ok (n : Nat) (s : State) : ∃ u, execSwtrig n s = s.ok u := ⟨_, rfl⟩
theorem execEvaluationIssue_ok (s : State) : ∃ u, execEvaluationIssue s = s.ok u := ⟨_, rfl⟩
theorem execEvaluationOutput_ok (s : State) : ∃ u, execEvaluationOutput s = s.ok u := ⟨_, rfl⟩
theorem execSampleTimeout_ok (n : Nat) (s : State) : ∃ u, execSampleTimeout n s = s.ok u := ⟨_, rfl⟩
theorem execInterlockScan_ok (s : State) : ∃ u, execInterlockScan s = s.ok u := ⟨_, rfl⟩
theorem execArm_ok (k : Nat) (s : State) : ∃ u, execArm k s = s.ok u := ⟨_, rfl⟩
theorem execDisarm_ok (k : Nat) (s : State) : ∃ u, execDisarm k s = s.ok u := ⟨_, rfl⟩
theorem execSlotOff_ok (n : Nat) (s : State) : ∃ u, execSlotOff n s = s.ok u := ⟨_, rfl⟩
theorem execSlotMan_ok (n : Nat) (s : State) : ∃ u, execSlotMan n s = s.ok u := ⟨_, rfl⟩
theorem execSlotAuto_ok (n : Nat) (s : State) : ∃ u, execSlotAuto n s = s.ok u := ⟨_, rfl⟩
theorem execResetIntegrator_ok (n : Nat) (s : State) : ∃ u, execResetIntegrator n s = s.ok u := ⟨_, rfl⟩
theorem execRelease_ok (n : Nat) (s : State) : ∃ u, execRelease n s = s.ok u := ⟨_, rfl⟩
theorem execXfbWrite_ok (n v : Nat) (s : State) : ∃ u, execXfbWrite n v s = s.ok u := ⟨_, rfl⟩
theorem execActuatorFault_ok (lsw : Bool) (ch code : Nat) (s : State) : ∃ u, execActuatorFault lsw ch code s = s.ok u := ⟨_, rfl⟩
theorem execCenRingReadWrite_ok (v : Nat) (s : State) : ∃ u, execCenRingReadWrite v s = s.ok u := ⟨_, rfl⟩
theorem execPlan_ok (s : State) : ∃ u, execPlan s = s.ok u := ⟨_, rfl⟩
theorem execCutWidthUpdate_ok (s : State) : ∃ u, execCutWidthUpdate s = s.ok u := ⟨_, rfl⟩
theorem execHoldEnter_ok (s : State) : ∃ u, execHoldEnter s = s.ok u := ⟨_, rfl⟩
theorem execHoldRelease_ok (s : State) : ∃ u, execHoldRelease s = s.ok u := ⟨_, rfl⟩
theorem execReplan_ok (s : State) : ∃ u, execReplan s = s.ok u := ⟨_, rfl⟩
theorem execAlloff_ok (s : State) : ∃ u, execAlloff s = s.ok u := ⟨_, rfl⟩
theorem execClrcov_ok (s : State) : ∃ u, execClrcov s = s.ok u := ⟨_, rfl⟩
theorem execRowclr_ok (row : Nat) (s : State) : ∃ u, execRowclr row s = s.ok u := ⟨_, rfl⟩
theorem execSolOn_ok (n : Nat) (s : State) : ∃ u, execSolOn n s = s.ok u := ⟨_, rfl⟩
theorem execSolOff_ok (n : Nat) (s : State) : ∃ u, execSolOff n s = s.ok u := ⟨_, rfl⟩
theorem execSolClr_ok (n : Nat) (cool supply : Bool) (s : State) : ∃ u, execSolClr n cool supply s = s.ok u := ⟨_, rfl⟩
theorem execGroupClr_ok (g : Nat) (s : State) : ∃ u, execGroupClr g s = s.ok u := ⟨_, rfl⟩
theorem execBoostClr_ok (s : State) : ∃ u, execBoostClr s = s.ok u := ⟨_, rfl⟩
theorem execIsetWrite_ok (n v : Nat) (s : State) : ∃ u, execIsetWrite n v s = s.ok u := ⟨_, rfl⟩
theorem execSolDutyWrite_ok (n duty : Nat) (s : State) : ∃ u, execSolDutyWrite n duty s = s.ok u := ⟨_, rfl⟩
theorem execPeakStart_ok (n : Nat) (s : State) : ∃ u, execPeakStart n s = s.ok u := ⟨_, rfl⟩
theorem execPeakEnd_ok (n : Nat) (s : State) : ∃ u, execPeakEnd n s = s.ok u := ⟨_, rfl⟩
theorem execPeakNotReached_ok (n i : Nat) (s : State) : ∃ u, execPeakNotReached n i s = s.ok u := ⟨_, rfl⟩
theorem execNozzleCycleStart_ok (n : Nat) (s : State) : ∃ u, execNozzleCycleStart n s = s.ok u := ⟨_, rfl⟩
theorem execNozzleOnEnd_ok (n : Nat) (s : State) : ∃ u, execNozzleOnEnd n s = s.ok u := ⟨_, rfl⟩
theorem execDecayEnd_ok (n : Nat) (s : State) : ∃ u, execDecayEnd n s = s.ok u := ⟨_, rfl⟩
theorem execBoostLeaseGrant_ok (s : State) : ∃ u, execBoostLeaseGrant s = s.ok u := ⟨_, rfl⟩
theorem execBoostReady_ok (v : Nat) (s : State) : ∃ u, execBoostReady v s = s.ok u := ⟨_, rfl⟩
theorem execBoostLow_ok (v : Nat) (s : State) : ∃ u, execBoostLow v s = s.ok u := ⟨_, rfl⟩
theorem execBoostTimeout_ok (s : State) : ∃ u, execBoostTimeout s = s.ok u := ⟨_, rfl⟩
theorem execBoostFault_ok (ov : Bool) (s : State) : ∃ u, execBoostFault ov s = s.ok u := ⟨_, rfl⟩
theorem execBoostLeaseRevoked_ok (s : State) : ∃ u, execBoostLeaseRevoked s = s.ok u := ⟨_, rfl⟩
theorem execSolShort_ok (n i : Nat) (s : State) : ∃ u, execSolShort n i s = s.ok u := ⟨_, rfl⟩
theorem execGroupShort_ok (g i : Nat) (s : State) : ∃ u, execGroupShort g i s = s.ok u := ⟨_, rfl⟩
theorem execSolOpenLoad_ok (n i : Nat) (s : State) : ∃ u, execSolOpenLoad n i s = s.ok u := ⟨_, rfl⟩
theorem execSolOpenLoadOff_ok (n : Nat) (s : State) : ∃ u, execSolOpenLoadOff n s = s.ok u := ⟨_, rfl⟩
theorem execSolDriverOvertemp_ok (n : Nat) (t : Int) (s : State) : ∃ u, execSolDriverOvertemp n t s = s.ok u := ⟨_, rfl⟩
theorem execOutbUndervoltage_ok (v : Nat) (s : State) : ∃ u, execOutbUndervoltage v s = s.ok u := ⟨_, rfl⟩
theorem execLswOn_ok (n : Nat) (s : State) : ∃ u, execLswOn n s = s.ok u := ⟨_, rfl⟩
theorem execLswOff_ok (n : Nat) (s : State) : ∃ u, execLswOff n s = s.ok u := ⟨_, rfl⟩
theorem execLswClr_ok (n : Nat) (below plausible : Bool) (s : State) : ∃ u, execLswClr n below plausible s = s.ok u := ⟨_, rfl⟩
theorem execLswDutyWrite_ok (n duty : Nat) (s : State) : ∃ u, execLswDutyWrite n duty s = s.ok u := ⟨_, rfl⟩
theorem execPwmPeriodStart_ok (n : Nat) (s : State) : ∃ u, execPwmPeriodStart n s = s.ok u := ⟨_, rfl⟩
theorem execI2tTrip_ok (n i : Nat) (s : State) : ∃ u, execI2tTrip n i s = s.ok u := ⟨_, rfl⟩
theorem execShortTrip_ok (n i : Nat) (s : State) : ∃ u, execShortTrip n i s = s.ok u := ⟨_, rfl⟩
theorem execInrushEnd_ok (n : Nat) (s : State) : ∃ u, execInrushEnd n s = s.ok u := ⟨_, rfl⟩
theorem execLimitTrip_ok (n : Nat) (s : State) : ∃ u, execLimitTrip n s = s.ok u := ⟨_, rfl⟩
theorem execBankUndervoltage_ok (b v : Nat) (s : State) : ∃ u, execBankUndervoltage b v s = s.ok u := ⟨_, rfl⟩
theorem execBankRecovered_ok (b v : Nat) (s : State) : ∃ u, execBankRecovered b v s = s.ok u := ⟨_, rfl⟩
theorem execBankCurrentHigh_ok (b i : Nat) (s : State) : ∃ u, execBankCurrentHigh b i s = s.ok u := ⟨_, rfl⟩
theorem execJunctionOvertemp_ok (n : Nat) (tj : Int) (s : State) : ∃ u, execJunctionOvertemp n tj s = s.ok u := ⟨_, rfl⟩
theorem execJunctionSensorFail_ok (n : Nat) (s : State) : ∃ u, execJunctionSensorFail n s = s.ok u := ⟨_, rfl⟩
theorem execLswOpenLoad_ok (n i : Nat) (s : State) : ∃ u, execLswOpenLoad n i s = s.ok u := ⟨_, rfl⟩
theorem execLswOpenLoadOff_ok (n v : Nat) (s : State) : ∃ u, execLswOpenLoadOff n v s = s.ok u := ⟨_, rfl⟩
theorem execStuck_ok (n v : Nat) (s : State) : ∃ u, execStuck n v s = s.ok u := ⟨_, rfl⟩
theorem execNoton_ok (n v : Nat) (s : State) : ∃ u, execNoton n v s = s.ok u := ⟨_, rfl⟩
theorem execMeasurementEpoch_ok (sats : List GnsSat) (meas : List GnsMeas) (e : GnsEpoch) (s : State) : ∃ u, execMeasurementEpoch sats meas e s = s.ok u := ⟨_, rfl⟩
theorem execSignalDetected_ok (c : Nat) (s : State) : ∃ u, execSignalDetected c s = s.ok u := ⟨_, rfl⟩
theorem execPhaseLock_ok (c : Nat) (s : State) : ∃ u, execPhaseLock c s = s.ok u := ⟨_, rfl⟩
theorem execPullinTimeout_ok (c : Nat) (s : State) : ∃ u, execPullinTimeout c s = s.ok u := ⟨_, rfl⟩
theorem execTrackLoss_ok (c cn0 ms : Nat) (s : State) : ∃ u, execTrackLoss c cn0 ms s = s.ok u := ⟨_, rfl⟩
theorem execReacqTimeout_ok (c : Nat) (s : State) : ∃ u, execReacqTimeout c s = s.ok u := ⟨_, rfl⟩
theorem execTp0Pulse_ok (s : State) : ∃ u, execTp0Pulse s = s.ok u := ⟨_, rfl⟩
theorem execTp1Pulse_ok (t : Nat) (s : State) : ∃ u, execTp1Pulse t s = s.ok u := ⟨_, rfl⟩
theorem execTimeqWrite_ok (qerr : Int) (s : State) : ∃ u, execTimeqWrite qerr s = s.ok u := ⟨_, rfl⟩
theorem execTqwkRead_ok (s : State) : ∃ u, execTqwkRead s = s.ok u := ⟨_, rfl⟩
theorem execTimeSolution_ok (nsat pdop errsol : Nat) (off : Int) (week tow ns : Nat) (rate leap : Int) (leapWeek leapTow : Nat) (s : State) : ∃ u, execTimeSolution nsat pdop errsol off week tow ns rate leap leapWeek leapTow s = s.ok u := ⟨_, rfl⟩
theorem execDoldrumsEntry_ok (s : State) : ∃ u, execDoldrumsEntry s = s.ok u := ⟨_, rfl⟩
theorem execRetentionSave_ok (s : State) : ∃ u, execRetentionSave s = s.ok u := ⟨_, rfl⟩
theorem execSave_ok (s : State) : ∃ u, execSave s = s.ok u := ⟨_, rfl⟩
theorem execClearRetention_ok (s : State) : ∃ u, execClearRetention s = s.ok u := ⟨_, rfl⟩
theorem execColdRestart_ok (s : State) : ∃ u, execColdRestart s = s.ok u := ⟨_, rfl⟩
theorem execAntennaOpen_ok (a i : Nat) (s : State) : ∃ u, execAntennaOpen a i s = s.ok u := ⟨_, rfl⟩
theorem execAntennaShort_ok (a i : Nat) (s : State) : ∃ u, execAntennaShort a i s = s.ok u := ⟨_, rfl⟩
theorem execAntennaRetry_ok (a i : Nat) (s : State) : ∃ u, execAntennaRetry a i s = s.ok u := ⟨_, rfl⟩
theorem execInterference_ok (band : Nat) (out : Bool) (s : State) : ∃ u, execInterference band out s = s.ok u := ⟨_, rfl⟩
theorem execTcxoFault_ok (dev : Int) (s : State) : ∃ u, execTcxoFault dev s = s.ok u := ⟨_, rfl⟩
theorem execGnsRingReadWrite_ok (v : Nat) (s : State) : ∃ u, execGnsRingReadWrite v s = s.ok u := ⟨_, rfl⟩
theorem execImuSample_ok (k : Nat) (sat : Bool) (w : List Nat) (s : State) : ∃ u, execImuSample k sat w s = s.ok u := ⟨_, rfl⟩
theorem execInternalSample_ok (k : Nat) (s : State) : ∃ u, execInternalSample k s = s.ok u := ⟨_, rfl⟩
theorem execPush_ok (p : Nat) (s : State) : ∃ u, execPush p s = s.ok u := ⟨_, rfl⟩
theorem execMeasurementUpdate_ok (s : State) : ∃ u, execMeasurementUpdate s = s.ok u := ⟨_, rfl⟩
theorem execResultIssue_ok (s : State) : ∃ u, execResultIssue s = s.ok u := ⟨_, rfl⟩
theorem execReplayEnd_ok (s : State) : ∃ u, execReplayEnd s = s.ok u := ⟨_, rfl⟩
theorem execStreamStale_ok (k : Nat) (s : State) : ∃ u, execStreamStale k s = s.ok u := ⟨_, rfl⟩
theorem execPositionTimeout_ok (s : State) : ∃ u, execPositionTimeout s = s.ok u := ⟨_, rfl⟩
theorem execCalibrationFocus_ok (s : State) : ∃ u, execCalibrationFocus s = s.ok u := ⟨_, rfl⟩
theorem execRestart_ok (s : State) : ∃ u, execRestart s = s.ok u := ⟨_, rfl⟩
theorem execCalsnap_ok (mask : Nat) (s : State) : ∃ u, execCalsnap mask s = s.ok u := ⟨_, rfl⟩
theorem execCalreset_ok (mask : Nat) (s : State) : ∃ u, execCalreset mask s = s.ok u := ⟨_, rfl⟩
theorem execEstimatorFault_ok (cause : Nat) (s : State) : ∃ u, execEstimatorFault cause s = s.ok u := ⟨_, rfl⟩
theorem execFusLastRead_ok (s : State) : ∃ u, execFusLastRead s = s.ok u := ⟨_, rfl⟩
theorem execFusRingReadWrite_ok (v : Nat) (s : State) : ∃ u, execFusRingReadWrite v s = s.ok u := ⟨_, rfl⟩
theorem execCanTxReq_ok (n b : Nat) (s : State) : ∃ u, execCanTxReq n b s = s.ok u := ⟨_, rfl⟩
theorem execCanTxCancel_ok (n b : Nat) (s : State) : ∃ u, execCanTxCancel n b s = s.ok u := ⟨_, rfl⟩
theorem execCanTxArbitration_ok (n : Nat) (s : State) : ∃ u, execCanTxArbitration n s = s.ok u := ⟨_, rfl⟩
theorem execCanTxDone_ok (n : Nat) (s : State) : ∃ u, execCanTxDone n s = s.ok u := ⟨_, rfl⟩
theorem execCanTxError_ok (n lec : Nat) (dom arb : Bool) (more : Nat) (s : State) : ∃ u, execCanTxError n lec dom arb more s = s.ok u := ⟨_, rfl⟩
theorem execBusOffRecovered_ok (n : Nat) (s : State) : ∃ u, execBusOffRecovered n s = s.ok u := ⟨_, rfl⟩
theorem execRecover_ok (n : Nat) (s : State) : ∃ u, execRecover n s = s.ok u := ⟨_, rfl⟩
theorem execCanRxFrame_ok (n : Nat) (f : CanFrame) (esi : Bool) (age : Nat) (s : State) : ∃ u, execCanRxFrame n f esi age s = s.ok u := ⟨_, rfl⟩
theorem execRxpop_ok (n q : Nat) (s : State) : ∃ u, execRxpop n q s = s.ok u := ⟨_, rfl⟩
theorem execMessageTimeout_ok (n f : Nat) (s : State) : ∃ u, execMessageTimeout n f s = s.ok u := ⟨_, rfl⟩
theorem execAddressClaim_ok (n : Nat) (s : State) : ∃ u, execAddressClaim n s = s.ok u := ⟨_, rfl⟩
theorem execLmtxgo_ok (n : Nat) (s : State) : ∃ u, execLmtxgo n s = s.ok u := ⟨_, rfl⟩
theorem execLongMessageEnd_ok (n : Nat) (done : Bool) (reason : Nat) (s : State) : ∃ u, execLongMessageEnd n done reason s = s.ok u := ⟨_, rfl⟩
theorem execLongMessageRx_ok (n : Nat) (m : CanLong) (s : State) : ∃ u, execLongMessageRx n m s = s.ok u := ⟨_, rfl⟩
theorem execCanRingReadWrite_ok (n v : Nat) (s : State) : ∃ u, execCanRingReadWrite n v s = s.ok u := ⟨_, rfl⟩
theorem execEthFrameRx_ok (p : Nat) (bytes : List Nat) (err : Bool) (s : State) : ∃ u, execEthFrameRx p bytes err s = s.ok u := ⟨_, rfl⟩
theorem execHostTxFrame_ok (s : State) : ∃ u, execHostTxFrame s = s.ok u := ⟨_, rfl⟩
theorem execLinkChange_ok (p : Nat) (up : Bool) (sqi : Nat) (s : State) : ∃ u, execLinkChange p up sqi s = s.ok u := ⟨_, rfl⟩
theorem execPtpSync_ok (gm : Option EthGm) (delays : List (Nat × Nat)) (s : State) : ∃ u, execPtpSync gm delays s = s.ok u := ⟨_, rfl⟩
theorem execEthRingIndexWrite_ok (tx : Bool) (v : Nat) (s : State) : ∃ u, execEthRingIndexWrite tx v s = s.ok u := ⟨_, rfl⟩
theorem execSubgo_ok (s : State) : ∃ u, execSubgo s = s.ok u := ⟨_, rfl⟩
theorem execHandshakeComplete_ok (k : Nat) (o : DtlsOffer) (s : State) : ∃ u, execHandshakeComplete k o s = s.ok u := ⟨_, rfl⟩
theorem execAuthenticationFailed_ok (k alert : Nat) (s : State) : ∃ u, execAuthenticationFailed k alert s = s.ok u := ⟨_, rfl⟩
theorem execConnectTimeout_ok (k : Nat) (s : State) : ∃ u, execConnectTimeout k s = s.ok u := ⟨_, rfl⟩
theorem execSessionTimeout_ok (k : Nat) (s : State) : ∃ u, execSessionTimeout k s = s.ok u := ⟨_, rfl⟩
theorem execBackoffEnd_ok (k : Nat) (s : State) : ∃ u, execBackoffEnd k s = s.ok u := ⟨_, rfl⟩
theorem execPing_ok (k : Nat) (s : State) : ∃ u, execPing k s = s.ok u := ⟨_, rfl⟩
theorem execFleetMessageRx_ok (k typ prio seq : Nat) (payload : List Nat) (s : State) : ∃ u, execFleetMessageRx k typ prio seq payload s = s.ok u := ⟨_, rfl⟩
theorem execFltRingReadWrite_ok (v : Nat) (s : State) : ∃ u, execFltRingReadWrite v s = s.ok u := ⟨_, rfl⟩
theorem execGenkey_ok (slot role : Nat) (s : State) : ∃ u, execGenkey slot role s = s.ok u := ⟨_, rfl⟩
theorem execCsr_ok (slot role : Nat) (s : State) : ∃ u, execCsr slot role s = s.ok u := ⟨_, rfl⟩
theorem execErase_ok (slot role : Nat) (s : State) : ∃ u, execErase slot role s = s.ok u := ⟨_, rfl⟩
theorem execReadParam_ok (path k client : Nat) (node : Option Nat) (m : DictMsg) (s : State) : ∃ u, execReadParam path k client node m s = s.ok u := ⟨_, rfl⟩
theorem execReadeff_ok (path k client : Nat) (node : Option Nat) (m : DictMsg) (s : State) : ∃ u, execReadeff path k client node m s = s.ok u := ⟨_, rfl⟩
theorem execWriteParam_ok (path k client : Nat) (node : Option Nat) (m : DictMsg) (s : State) : ∃ u, execWriteParam path k client node m s = s.ok u := ⟨_, rfl⟩
theorem execCommit_ok (path k client : Nat) (node : Option Nat) (m : DictMsg) (s : State) : ∃ u, execCommit path k client node m s = s.ok u := ⟨_, rfl⟩
theorem execAbortGroup_ok (path k client : Nat) (node : Option Nat) (m : DictMsg) (s : State) : ∃ u, execAbortGroup path k client node m s = s.ok u := ⟨_, rfl⟩
theorem execStoreParams_ok (path k client : Nat) (node : Option Nat) (m : DictMsg) (s : State) : ∃ u, execStoreParams path k client node m s = s.ok u := ⟨_, rfl⟩
theorem execInfo_ok (path k client : Nat) (node : Option Nat) (m : DictMsg) (s : State) : ∃ u, execInfo path k client node m s = s.ok u := ⟨_, rfl⟩
theorem execRestoreDefaults_ok (path k client : Nat) (node : Option Nat) (m : DictMsg) (s : State) : ∃ u, execRestoreDefaults path k client node m s = s.ok u := ⟨_, rfl⟩
theorem execSavedef_ok (path k client : Nat) (node : Option Nat) (m : DictMsg) (s : State) : ∃ u, execSavedef path k client node m s = s.ok u := ⟨_, rfl⟩
theorem execLogin_ok (path k client : Nat) (node : Option Nat) (m : DictMsg) (s : State) : ∃ u, execLogin path k client node m s = s.ok u := ⟨_, rfl⟩
theorem execLogout_ok (path k client : Nat) (node : Option Nat) (m : DictMsg) (s : State) : ∃ u, execLogout path k client node m s = s.ok u := ⟨_, rfl⟩
theorem execListParams_ok (path k client : Nat) (node : Option Nat) (m : DictMsg) (s : State) : ∃ u, execListParams path k client node m s = s.ok u := ⟨_, rfl⟩
theorem execUnknownOp_ok (path k client : Nat) (node : Option Nat) (m : DictMsg) (s : State) : ∃ u, execUnknownOp path k client node m s = s.ok u := ⟨_, rfl⟩
theorem execGroupHandover_ok (s : State) : ∃ u, execGroupHandover s = s.ok u := ⟨_, rfl⟩
theorem execGroupApply_ok (s : State) : ∃ u, execGroupApply s = s.ok u := ⟨_, rfl⟩
theorem execTransactionWithdraw_ok (s : State) : ∃ u, execTransactionWithdraw s = s.ok u := ⟨_, rfl⟩
theorem execLockExpiry_ok (s : State) : ∃ u, execLockExpiry s = s.ok u := ⟨_, rfl⟩
theorem execSessionExpiry_ok (s : State) : ∃ u, execSessionExpiry s = s.ok u := ⟨_, rfl⟩
theorem execLoginBlockEnd_ok (s : State) : ∃ u, execLoginBlockEnd s = s.ok u := ⟨_, rfl⟩
theorem execBankCopyDone_ok (s : State) : ∃ u, execBankCopyDone s = s.ok u := ⟨_, rfl⟩
theorem execStoreLeaseGrant_ok (s : State) : ∃ u, execStoreLeaseGrant s = s.ok u := ⟨_, rfl⟩
theorem execStoreLeaseTimeout_ok (s : State) : ∃ u, execStoreLeaseTimeout s = s.ok u := ⟨_, rfl⟩
theorem execStoreWriteDone_ok (s : State) : ∃ u, execStoreWriteDone s = s.ok u := ⟨_, rfl⟩
theorem execStoreVerifyDone_ok (good : Bool) (s : State) : ∃ u, execStoreVerifyDone good s = s.ok u := ⟨_, rfl⟩
theorem execStoreLeaseRevoked_ok (s : State) : ∃ u, execStoreLeaseRevoked s = s.ok u := ⟨_, rfl⟩
theorem execParameterLoad_okMgr (s : State) : ∃ u, execParameterLoad s = s.okMgr u := ⟨_, rfl⟩
theorem execClockFault_ok (c : Nat) (s : State) : ∃ u, execClockFault c s = s.ok u := ⟨_, rfl⟩
theorem execLockstepMismatch_ok (s : State) : ∃ u, execLockstepMismatch s = s.ok u := ⟨_, rfl⟩
theorem execHeartbeatLost_ok (s : State) : ∃ u, execHeartbeatLost s = s.ok u := ⟨_, rfl⟩
theorem execEccError_ok (who mem addr : Nat) (unc : Bool) (s : State) : ∃ u, execEccError who mem addr unc s = s.ok u := ⟨_, rfl⟩
theorem execMemoryScrub_ok (dram : Bool) (s : State) : ∃ u, execMemoryScrub dram s = s.ok u := ⟨_, rfl⟩
theorem execWdkick_ok (k v : Nat) (s : State) : ∃ u, execWdkick k v s = s.ok u := ⟨_, rfl⟩
theorem execWatchdogExpiry_ok (k : Nat) (s : State) : ∃ u, execWatchdogExpiry k s = s.ok u := ⟨_, rfl⟩
theorem execBootWatchdogExpiry_ok (s : State) : ∃ u, execBootWatchdogExpiry s = s.ok u := ⟨_, rfl⟩
theorem execStuckCheck_ok (s : State) : ∃ u, execStuckCheck s = s.ok u := ⟨_, rfl⟩
theorem execSteeringCheck_ok (s : State) : ∃ u, execSteeringCheck s = s.ok u := ⟨_, rfl⟩
theorem execGroundSpeedCheck_ok (s : State) : ∃ u, execGroundSpeedCheck s = s.ok u := ⟨_, rfl⟩
theorem execSelfTestDone_ok (fail : Option Nat) (s : State) : ∃ u, execSelfTestDone fail s = s.ok u := ⟨_, rfl⟩
theorem execAttach_ok (v : Nat) (s : State) : ∃ u, execAttach v s = s.ok u := ⟨_, rfl⟩
theorem execSsreq_ok (v : Nat) (s : State) : ∃ u, execSsreq v s = s.ok u := ⟨_, rfl⟩
theorem execRstreq_ok (v : Nat) (s : State) : ∃ u, execRstreq v s = s.ok u := ⟨_, rfl⟩
theorem execReset_okMgr (own : Option (Nat × Nat × Nat)) (s : State) : ∃ u, execReset own s = s.okMgr u := ⟨_, rfl⟩
theorem execSupervisorResetCommand_ok (v role : Nat) (s : State) : ∃ u, execSupervisorResetCommand v role s = s.ok u := ⟨_, rfl⟩
theorem execColdStartCommand_ok (v role : Nat) (s : State) : ∃ u, execColdStartCommand v role s = s.ok u := ⟨_, rfl⟩
theorem execOrphanExpiry_ok (g : Nat) (s : State) : ∃ u, execOrphanExpiry g s = s.ok u := ⟨_, rfl⟩
theorem execTsvUnavailable_ok (s : State) : ∃ u, execTsvUnavailable s = s.ok u := ⟨_, rfl⟩
theorem execLeaseRequest_ok (r h : Nat) (s : State) : ∃ u, execLeaseRequest r h s = s.ok u := ⟨_, rfl⟩
theorem execLeaseReturn_ok (r h : Nat) (renew : Bool) (s : State) : ∃ u, execLeaseReturn r h renew s = s.ok u := ⟨_, rfl⟩
theorem execLeaseExpiry_ok (r : Nat) (s : State) : ∃ u, execLeaseExpiry r s = s.ok u := ⟨_, rfl⟩
theorem execLeaseRevoke_ok (r cause : Nat) (party : Option Nat) (s : State) : ∃ u, execLeaseRevoke r cause party s = s.ok u := ⟨_, rfl⟩
theorem execRollbackComplete_okMgr (r : Nat) (s : State) : ∃ u, execRollbackComplete r s = s.okMgr u := ⟨_, rfl⟩
theorem execSupplyLow_okMgr (v : Nat) (s : State) : ∃ u, execSupplyLow v s = s.okMgr u := ⟨_, rfl⟩
theorem execSupplyHigh_okMgr (v : Nat) (s : State) : ∃ u, execSupplyHigh v s = s.okMgr u := ⟨_, rfl⟩
theorem execPowerFail_okMgr (v : Nat) (s : State) : ∃ u, execPowerFail v s = s.okMgr u := ⟨_, rfl⟩
theorem execHoldupEnd_okMgr (v : Nat) (s : State) : ∃ u, execHoldupEnd v s = s.okMgr u := ⟨_, rfl⟩
theorem execIgnWake_okMgr (dur v : Nat) (s : State) : ∃ u, execIgnWake dur v s = s.okMgr u := ⟨_, rfl⟩
theorem execRtcAlarm_okMgr (dur v : Nat) (s : State) : ∃ u, execRtcAlarm dur v s = s.okMgr u := ⟨_, rfl⟩
theorem execStartStep_okMgr (s : State) : ∃ u, execStartStep s = s.okMgr u := ⟨_, rfl⟩
theorem execBootok_okMgr (key : Nat) (s : State) : ∃ u, execBootok key s = s.okMgr u := ⟨_, rfl⟩
theorem execIgnOff_okMgr (s : State) : ∃ u, execIgnOff s = s.okMgr u := ⟨_, rfl⟩
theorem execSleep_okMgr (key : Nat) (s : State) : ∃ u, execSleep key s = s.okMgr u := ⟨_, rfl⟩
theorem execRunOnEnd_okMgr (s : State) : ∃ u, execRunOnEnd s = s.okMgr u := ⟨_, rfl⟩
theorem execShutdownStep_okMgr (v : Nat) (s : State) : ∃ u, execShutdownStep v s = s.okMgr u := ⟨_, rfl⟩
theorem execShutdownCancel_okMgr (s : State) : ∃ u, execShutdownCancel s = s.okMgr u := ⟨_, rfl⟩
theorem execHousekeepingRound_okMgr (r : ThmRound) (s : State) : ∃ u, execHousekeepingRound r s = s.okMgr u := ⟨_, rfl⟩
theorem execGraceExpiry_ok (s : State) : ∃ u, execGraceExpiry s = s.ok u := ⟨_, rfl⟩
theorem execHack_ok (v : Nat) (s : State) : ∃ u, execHack v s = s.ok u := ⟨_, rfl⟩
theorem execKickTimeout_ok (f cur : Nat) (s : State) : ∃ u, execKickTimeout f cur s = s.ok u := ⟨_, rfl⟩
theorem execFanRunning_ok (f rpm : Nat) (s : State) : ∃ u, execFanRunning f rpm s = s.ok u := ⟨_, rfl⟩
theorem execTachSilence_ok (f cur : Nat) (s : State) : ∃ u, execTachSilence f cur s = s.ok u := ⟨_, rfl⟩
theorem execTachlossCurrent_ok (f cur ms : Nat) (s : State) : ∃ u, execTachlossCurrent f cur ms s = s.ok u := ⟨_, rfl⟩
theorem execRetryWaitEnd_ok (f : Nat) (s : State) : ∃ u, execRetryWaitEnd f s = s.ok u := ⟨_, rfl⟩
theorem execFanShort_ok (f cur : Nat) (s : State) : ∃ u, execFanShort f cur s = s.ok u := ⟨_, rfl⟩
theorem execFanClr_ok (f : Nat) (s : State) : ∃ u, execFanClr f s = s.ok u := ⟨_, rfl⟩
theorem execPanelOn_ok (s : State) : ∃ u, execPanelOn s = s.ok u := ⟨_, rfl⟩
theorem execPanelOff_ok (s : State) : ∃ u, execPanelOff s = s.ok u := ⟨_, rfl⟩
theorem execFlip_ok (s : State) : ∃ u, execFlip s = s.ok u := ⟨_, rfl⟩
theorem execPanelClr_ok (s : State) : ∃ u, execPanelClr s = s.ok u := ⟨_, rfl⟩
theorem execPanelFrameStart_ok (vpan ipan : Nat) (s : State) : ∃ u, execPanelFrameStart vpan ipan s = s.ok u := ⟨_, rfl⟩
theorem execPrechargeDone_ok (vpan : Nat) (s : State) : ∃ u, execPrechargeDone vpan s = s.ok u := ⟨_, rfl⟩
theorem execDischargeDone_ok (s : State) : ∃ u, execDischargeDone s = s.ok u := ⟨_, rfl⟩
theorem execPanelFault_ok (cause ipan : Nat) (s : State) : ∃ u, execPanelFault cause ipan s = s.ok u := ⟨_, rfl⟩
theorem execUpdate_ok (mask : Nat) (s : State) : ∃ u, execUpdate mask s = s.ok u := ⟨_, rfl⟩
theorem execClean_ok (mask : Nat) (s : State) : ∃ u, execClean mask s = s.ok u := ⟨_, rfl⟩
theorem execCancel_ok (mask : Nat) (s : State) : ∃ u, execCancel mask s = s.ok u := ⟨_, rfl⟩
theorem execLabelFrameBoundary_ok (s : State) : ∃ u, execLabelFrameBoundary s = s.ok u := ⟨_, rfl⟩
theorem execLabelTempRead_ok (t : Int) (s : State) : ∃ u, execLabelTempRead t s = s.ok u := ⟨_, rfl⟩
theorem execEventEmit_ok (code : Nat) (ps : List Nat) (s : State) : ∃ u, execEventEmit code ps s = s.ok u := ⟨_, rfl⟩
theorem execRecordWritten_ok (s : State) : ∃ u, execRecordWritten s = s.ok u := ⟨_, rfl⟩
theorem execRecordWriteRevoked_ok (cause : Nat) (s : State) : ∃ u, execRecordWriteRevoked cause s = s.ok u := ⟨_, rfl⟩
theorem execLogSearch_ok (s : State) : ∃ u, execLogSearch s = s.ok u := ⟨_, rfl⟩
theorem execRdidx_ok (i : Nat) (s : State) : ∃ u, execRdidx i s = s.ok u := ⟨_, rfl⟩
theorem execLogClear_ok (key role : Nat) (s : State) : ∃ u, execLogClear key role s = s.ok u := ⟨_, rfl⟩
theorem execSectorErased_ok (s : State) : ∃ u, execSectorErased s = s.ok u := ⟨_, rfl⟩
theorem execHevgo_ok (_v : Nat) (s : State) : ∃ u, execHevgo _v s = s.ok u := ⟨_, rfl⟩
theorem execOptimeSave_ok (s : State) : ∃ u, execOptimeSave s = s.ok u := ⟨_, rfl⟩
theorem execCycleStart_ok (s : State) : ∃ u, execCycleStart s = s.ok u := ⟨_, rfl⟩
theorem execFrameArrival_ok (frame : List Nat) (s : State) : ∃ u, execFrameArrival frame s = s.ok u := ⟨_, rfl⟩
theorem execMasterEntryReceived_ok (s : State) : ∃ u, execMasterEntryReceived s = s.ok u := ⟨_, rfl⟩
theorem execFrameReturn_ok (frame : List Nat) (s : State) : ∃ u, execFrameReturn frame s = s.ok u := ⟨_, rfl⟩
theorem execNodeFrameEnd_ok (s : State) : ∃ u, execNodeFrameEnd s = s.ok u := ⟨_, rfl⟩
theorem execSlaveMiss_ok (s : State) : ∃ u, execSlaveMiss s = s.ok u := ⟨_, rfl⟩
theorem execReturnMiss_ok (s : State) : ∃ u, execReturnMiss s = s.ok u := ⟨_, rfl⟩
theorem execTxswap_ok (_v : Nat) (s : State) : ∃ u, execTxswap _v s = s.ok u := ⟨_, rfl⟩
theorem execLinkTrained_ok (s : State) : ∃ u, execLinkTrained s = s.ok u := ⟨_, rfl⟩
theorem execStrapChange_ok (v : Nat) (s : State) : ∃ u, execStrapChange v s = s.ok u := ⟨_, rfl⟩
theorem execDqset_ok (v : Nat) (s : State) : ∃ u, execDqset v s = s.ok u := ⟨_, rfl⟩
theorem execDqclr_ok (v : Nat) (s : State) : ∃ u, execDqclr v s = s.ok u := ⟨_, rfl⟩
theorem execDqTrip_ok (n i : Nat) (s : State) : ∃ u, execDqTrip n i s = s.ok u := ⟨_, rfl⟩
theorem execSupplyLimit_ok (b i ms : Nat) (s : State) : ∃ u, execSupplyLimit b i ms s = s.ok u := ⟨_, rfl⟩
theorem execSupplyRetry_ok (b i ms : Nat) (s : State) : ∃ u, execSupplyRetry b i ms s = s.ok u := ⟨_, rfl⟩
theorem execAnalogFlag_ok (n : Nat) (val : Int) (s : State) : ∃ u, execAnalogFlag n val s = s.ok u := ⟨_, rfl⟩
theorem execDiLevelChange_ok (n : Nat) (high : Bool) (held : Nat) (s : State) : ∃ u, execDiLevelChange n high held s = s.ok u := ⟨_, rfl⟩
theorem execSampleConversion_ok (c : Nat) (x : Int) (s : State) : ∃ u, execSampleConversion c x s = s.ok u := ⟨_, rfl⟩
theorem execSyncError_ok (p n : Nat) (s : State) : ∃ u, execSyncError p n s = s.ok u := ⟨_, rfl⟩
theorem execTriggerPulseEnd_ok (p : Nat) (s : State) : ∃ u, execTriggerPulseEnd p s = s.ok u := ⟨_, rfl⟩
theorem execTimePulseEnd_ok (p : Nat) (s : State) : ∃ u, execTimePulseEnd p s = s.ok u := ⟨_, rfl⟩
theorem execDbaseSample_ok (s : State) : ∃ u, execDbaseSample s = s.ok u := ⟨_, rfl⟩
theorem execPwmOnTimeEnd_ok (n : Nat) (s : State) : ∃ u, execPwmOnTimeEnd n s = s.ok u := ⟨_, rfl⟩
theorem execRevisionIssue_ok (s : State) : ∃ u, execRevisionIssue s = s.ok u := ⟨_, rfl⟩
theorem execCanRxError_ok (n lec : Nat) (eight : Bool) (s : State) : ∃ u, execCanRxError n lec eight s = s.ok u := ⟨_, rfl⟩
theorem execAddressAgeing_ok (mac vid : Nat) (s : State) : ∃ u, execAddressAgeing mac vid s = s.ok u := ⟨_, rfl⟩
theorem execKaSupplyLoss_okMgr (s : State) : ∃ u, execKaSupplyLoss s = s.okMgr u := ⟨_, rfl⟩
theorem execLogpwrRecheck_okMgr (v : Nat) (s : State) : ∃ u, execLogpwrRecheck v s = s.okMgr u := ⟨_, rfl⟩
theorem execSupplyNormal_okMgr (s : State) : ∃ u, execSupplyNormal s = s.okMgr u := ⟨_, rfl⟩

end Sys2Proof.Machine
end

