-- ==== Sys2Proof/Laws/PerInstr.lean ====
section
/-!
SUPPORT. Statements made once per command.
-/
namespace Sys2Proof.Laws.Ranges

/-- What a well-formed command's operands are: the instance named exists (Tables 0.3, 0.6, 1.2 and the block chapters), a written
value is a word, a byte a byte. -/
def Statement (i : Instr) : Prop :=
  i.wf = true → match i with
    | .registerWrite _ _ addr size v => addr < 2 ^ 32 ∧ v < 2 ^ 32 ∧ size ≤ 4
    | .blockFaultDetected b inst row groups res => b ≤ 19 ∧ inst < 256 ∧ row.all (fun x => decide (x < 11)) = true ∧ groups <
      256 ∧ res.all (fun x => decide (x < 5)) = true
    | .fence b => b ≤ 19
    | .blockHealthy b => b ≤ 19
    | .powerGoodLost d => d < 14
    | .domainPowerGood d => d < 14
    | .domainPowerFail d => d < 14
    | .edgeAccepted n pin _ => n < 8 ∧ pin < 16
    | .edgeDeadline n => n < 8
    | .failoverReturn n => n < 8
    | .tbiWireBreak pin _ _ => pin < 16
    | .gnssRecordMissing n => n < 8
    | .yulisUpdateMissing n => n < 8
    | .preset n v => n < 8 ∧ v < 2 ^ 32
    | .snap v => v < 2 ^ 32
    | .phaseRead n => n < 8
    | .plausibilityWindow n => n < 8
    | .post p => p < 4
    | .retime p => p < 4
    | .revoke p => p < 4
    | .flush p => p < 4
    | .eventFire bad => bad.all (fun x => decide (x < 256)) = true
    | .carRetrdWrite v => v < 2 ^ 32
    | .windowMaxlen n => n < 16
    | .nlreset mask => mask < 2 ^ 32
    | .moistureAverage cap tg => cap < 2 ^ 16 ∧ s16 tg = true
    | .lossSensorFault c _ => c < 8
    | .plateBridgeFault kind => kind < 4
    | .hsnRingReadWrite ring v => ring < 2 ∧ v < 2 ^ 32
    | .portSynchronised p => p < 3
    | .frameStart p => p < 3
    | .frameEnd p lines => p < 3 ∧ lines.all (fun x => x.all (fun y => decide (y < 4096))) = true
    | .frameTimeout p lines => p < 3 ∧ lines.all (fun x => x.all (fun y => decide (y < 4096))) = true
    | .pixelClockLost p lines => p < 3 ∧ lines.all (fun x => x.all (fun y => decide (y < 4096))) = true
    | .pixelClockReturn p => p < 3
    | .triggerMissed p => p < 3
    | .visRingReadWrite v => v < 2 ^ 32
    | .timerTrigger n => n < 96
    | .swtrig n => n < 96
    | .sampleTimeout n => n < 96
    | .arm k => k < 48
    | .disarm k => k < 48
    | .slotOff n => n < 96
    | .slotMan n => n < 96
    | .slotAuto n => n < 96
    | .resetIntegrator n => n < 96
    | .release n => n < 96
    | .xfbWrite n v => n < 96 ∧ v < 2 ^ 32
    | .actuatorFault _ ch code => ch < 48 ∧ code < 16
    | .cenRingReadWrite v => v < 2 ^ 32
    | .rowclr row => row < 512
    | .solOn n => n < 24
    | .solOff n => n < 24
    | .solClr n _ _ => n < 24
    | .groupClr g => g < 6
    | .isetWrite n v => n < 24 ∧ v < 2 ^ 32
    | .solDutyWrite n duty => n < 24 ∧ duty < 2 ^ 32
    | .peakStart n => n < 24
    | .peakEnd n => n < 24
    | .peakNotReached n _ => n < 24
    | .nozzleCycleStart n => n < 24
    | .nozzleOnEnd n => n < 24
    | .decayEnd n => n < 24
    | .solShort n _ => n < 24
    | .groupShort g _ => g < 6
    | .solOpenLoad n _ => n < 24
    | .solOpenLoadOff n => n < 24
    | .solDriverOvertemp n t => n < 24 ∧ s16 t = true
    | .lswOn n => n < 48
    | .lswOff n => n < 48
    | .lswClr n _ _ => n < 48
    | .lswDutyWrite n duty => n < 48 ∧ duty < 2 ^ 32
    | .pwmPeriodStart n => n < 48
    | .i2tTrip n _ => n < 48
    | .shortTrip n _ => n < 48
    | .inrushEnd n => n < 48
    | .limitTrip n => n < 48
    | .bankUndervoltage b _ => b < 2
    | .bankRecovered b _ => b < 2
    | .bankCurrentHigh b _ => b < 2
    | .junctionOvertemp n tj => n < 48 ∧ s16 tj = true
    | .junctionSensorFail n => n < 48
    | .lswOpenLoad n _ => n < 48
    | .lswOpenLoadOff n _ => n < 48
    | .stuck n _ => n < 48
    | .noton n _ => n < 48
    | .measurementEpoch sats meas _ => sats.all (fun x => decide (x.con < 8)) = true ∧ meas.all (fun x => decide (x.ch <
      184)) = true
    | .signalDetected c => c < 184
    | .phaseLock c => c < 184
    | .pullinTimeout c => c < 184
    | .trackLoss c _ _ => c < 184
    | .reacqTimeout c => c < 184
    | .timeSolution _ _ _ _ week tow ns _ _ _ _ => week < 65536 ∧ tow < 604800 ∧ ns ≤ 1000000000
    | .antennaOpen a _ => a < 2
    | .antennaShort a _ => a < 2
    | .antennaRetry a _ => a < 2
    | .interference band _ => band < 4
    | .gnsRingReadWrite v => v < 2 ^ 32
    | .imuSample k _ w => k < 16 ∧ w.all (fun x => decide (x < 4294967296)) = true
    | .internalSample k => k < 16
    | .push p => p < 4
    | .streamStale k => k < 16
    | .calsnap mask => mask < 2 ^ 32
    | .calreset mask => mask < 2 ^ 32
    | .fusRingReadWrite v => v < 2 ^ 32
    | .canTxReq n b => n < 6 ∧ b < 3
    | .canTxCancel n b => n < 6 ∧ b < 3
    | .canTxArbitration n => n < 6
    | .canTxDone n => n < 6
    | .canTxError n lec _ _ _ => n < 6 ∧ lec < 8
    | .busOffRecovered n => n < 6
    | .recover n => n < 6
    | .canRxFrame n f _ _ => n < 6 ∧ f.wf = true
    | .rxpop n q => n < 6 ∧ q < 2
    | .messageTimeout n f => n < 6 ∧ f < 128
    | .addressClaim n => n < 6
    | .lmtxgo n => n < 6
    | .longMessageEnd n _ _ => n < 6
    | .longMessageRx n _ => n < 6
    | .canRingReadWrite n v => n < 6 ∧ v < 2 ^ 32
    | .ethFrameRx p bytes _ => p < 7 ∧ bytes.all byte = true
    | .linkChange p _ sqi => p < 6 ∧ sqi < 256
    | .ptpSync gm _ => gm.all (fun x => decide (x.port < 7)) = true
    | .ethRingIndexWrite _ v => v < 2 ^ 32
    | .handshakeComplete s _ => s < 64
    | .authenticationFailed s _ => s < 64
    | .connectTimeout s => s < 64
    | .sessionTimeout s => s < 64
    | .backoffEnd s => s < 64
    | .ping s => s < 64
    | .fleetMessageRx s _ _ _ payload => s < 64 ∧ payload.all byte = true
    | .fltRingReadWrite v => v < 2 ^ 32
    | .genkey slot role => slot < 8 ∧ role < 4
    | .csr slot role => slot < 8 ∧ role < 4
    | .erase slot role => slot < 8 ∧ role < 4
    | .readParam path k _ node m => path < 8 ∧ k < 65536 ∧ node.all (fun x => decide (x < 8)) = true ∧ m.data.all byte = true
    | .readeff path k _ node m => path < 8 ∧ k < 65536 ∧ node.all (fun x => decide (x < 8)) = true ∧ m.data.all byte = true
    | .writeParam path k _ node m => path < 8 ∧ k < 65536 ∧ node.all (fun x => decide (x < 8)) = true ∧ m.data.all byte =
      true
    | .commit path k _ node m => path < 8 ∧ k < 65536 ∧ node.all (fun x => decide (x < 8)) = true ∧ m.data.all byte = true
    | .abortGroup path k _ node m => path < 8 ∧ k < 65536 ∧ node.all (fun x => decide (x < 8)) = true ∧ m.data.all byte =
      true
    | .storeParams path k _ node m => path < 8 ∧ k < 65536 ∧ node.all (fun x => decide (x < 8)) = true ∧ m.data.all byte =
      true
    | .info path k _ node m => path < 8 ∧ k < 65536 ∧ node.all (fun x => decide (x < 8)) = true ∧ m.data.all byte = true
    | .restoreDefaults path k _ node m => path < 8 ∧ k < 65536 ∧ node.all (fun x => decide (x < 8)) = true ∧ m.data.all byte
      = true
    | .savedef path k _ node m => path < 8 ∧ k < 65536 ∧ node.all (fun x => decide (x < 8)) = true ∧ m.data.all byte = true
    | .login path k _ node m => path < 8 ∧ k < 65536 ∧ node.all (fun x => decide (x < 8)) = true ∧ m.data.all byte = true
    | .logout path k _ node m => path < 8 ∧ k < 65536 ∧ node.all (fun x => decide (x < 8)) = true ∧ m.data.all byte = true
    | .listParams path k _ node m => path < 8 ∧ k < 65536 ∧ node.all (fun x => decide (x < 8)) = true ∧ m.data.all byte =
      true
    | .unknownOp path k _ node m => path < 8 ∧ k < 65536 ∧ node.all (fun x => decide (x < 8)) = true ∧ m.data.all byte = true
    | .clockFault c => c < 16
    | .eccError who _ addr _ => who < 64 ∧ addr < 2 ^ 32
    | .wdkick k v => k < 4 ∧ v < 2 ^ 32
    | .watchdogExpiry k => k < 4
    | .attach v => v < 2 ^ 32
    | .ssreq v => v < 2 ^ 32
    | .rstreq v => v < 2 ^ 32
    | .supervisorResetCommand v role => v < 2 ^ 32 ∧ role < 4
    | .coldStartCommand v role => v < 2 ^ 32 ∧ role < 4
    | .orphanExpiry g => g < 8
    | .leaseRequest r h => r < 5 ∧ h ≤ 19
    | .leaseReturn r h _ => r < 5 ∧ h ≤ 19
    | .leaseExpiry r => r < 5
    | .leaseRevoke r cause party => r < 5 ∧ cause < 6 ∧ party.all (fun x => decide (x ≤ 19)) = true
    | .rollbackComplete r => r < 5
    | .bootok key => key < 2 ^ 32
    | .sleep key => key < 2 ^ 32
    | .housekeepingRound r => r.temps.length = 23 ∧ r.fans.length = 4
    | .hack v => v < 2 ^ 32
    | .kickTimeout f _ => f < 4
    | .fanRunning f _ => f < 4
    | .tachSilence f _ => f < 4
    | .tachlossCurrent f _ _ => f < 4
    | .retryWaitEnd f => f < 4
    | .fanShort f _ => f < 4
    | .fanClr f => f < 4
    | .update mask => mask < 2 ^ 32
    | .clean mask => mask < 2 ^ 32
    | .cancel mask => mask < 2 ^ 32
    | .eventEmit code ps => code < 2 ^ 16 ∧ ps.all w32 = true
    | .rdidx i => i < 2 ^ 32
    | .logClear key role => key < 2 ^ 32 ∧ role < 4
    | .hevgo v => v < 2 ^ 32
    | .frameArrival frame => frame.all byte = true
    | .frameReturn frame => frame.all byte = true
    | .txswap v => v < 2 ^ 32
    | .strapChange v => v < 16
    | .dqset v => v < 2 ^ 32
    | .dqclr v => v < 2 ^ 32
    | .dqTrip n _ => n < 16
    | .supplyLimit b _ _ => b < 10
    | .supplyRetry b _ _ => b < 10
    | .analogFlag n _ => n < 16
    | .diLevelChange n _ _ => n < 32
    | .sampleConversion c x => c < 9 ∧ s16 x = true
    | .syncError p _ => p < 3
    | .triggerPulseEnd p => p < 3
    | .timePulseEnd p => p < 2
    | .pwmOnTimeEnd n => n < 48
    | .canRxError n lec _ => n < 6 ∧ lec < 8
    | _ => True

theorem registerWrite (agent : Agent) (acc : Access) (addr size v : Nat) : Statement (.registerWrite agent acc addr size v)
    := fun hw =>
  show addr < 2 ^ 32 ∧ v < 2 ^ 32 ∧ size ≤ 4 by
  have hw : (decide (addr < 2 ^ 32) && w32 v && decide (size ≤ 4)) = true := hw
  simpa [w32, byte, s16, and_assoc] using hw
theorem blockFaultDetected (b inst : Nat) (row : Option Nat) (groups : Nat) (res : Option Nat) : Statement
    (.blockFaultDetected b inst row groups res) := fun hw =>
  show b ≤ 19 ∧ inst < 256 ∧ row.all (fun x => decide (x < 11)) = true ∧ groups < 256 ∧ res.all (fun x => decide (x < 5)) =
    true by
  have hw : (decide (b ≤ 19) && decide (inst < 256) && row.all (fun x => decide (x < 11)) && byte groups && res.all (fun x =>
    decide (x < 5))) = true := hw
  simpa [w32, byte, s16, and_assoc] using hw
theorem fence (b : Nat) : Statement (.fence b) := fun hw =>
  show b ≤ 19 by
  have hw : (decide (b ≤ 19)) = true := hw
  simpa [w32, byte, s16, and_assoc] using hw
theorem blockHealthy (b : Nat) : Statement (.blockHealthy b) := fun hw =>
  show b ≤ 19 by
  have hw : (decide (b ≤ 19)) = true := hw
  simpa [w32, byte, s16, and_assoc] using hw
theorem powerGoodLost (d : Nat) : Statement (.powerGoodLost d) := fun hw =>
  show d < 14 by
  have hw : (decide (d < 14)) = true := hw
  simpa [w32, byte, s16, and_assoc] using hw
theorem domainPowerGood (d : Nat) : Statement (.domainPowerGood d) := fun hw =>
  show d < 14 by
  have hw : (decide (d < 14)) = true := hw
  simpa [w32, byte, s16, and_assoc] using hw
theorem domainPowerFail (d : Nat) : Statement (.domainPowerFail d) := fun hw =>
  show d < 14 by
  have hw : (decide (d < 14)) = true := hw
  simpa [w32, byte, s16, and_assoc] using hw
theorem edgeAccepted (n pin : Nat) (high : Bool) : Statement (.edgeAccepted n pin high) := fun hw =>
  show n < 8 ∧ pin < 16 by
  have hw : (decide (n < 8) && decide (pin < 16)) = true := hw
  simpa [w32, byte, s16, and_assoc] using hw
theorem edgeDeadline (n : Nat) : Statement (.edgeDeadline n) := fun hw =>
  show n < 8 by
  have hw : (decide (n < 8)) = true := hw
  simpa [w32, byte, s16, and_assoc] using hw
theorem failoverReturn (n : Nat) : Statement (.failoverReturn n) := fun hw =>
  show n < 8 by
  have hw : (decide (n < 8)) = true := hw
  simpa [w32, byte, s16, and_assoc] using hw
theorem tbiWireBreak (pin : Nat) (short : Bool) (ms : Nat) : Statement (.tbiWireBreak pin short ms) := fun hw =>
  show pin < 16 by
  have hw : (decide (pin < 16)) = true := hw
  simpa [w32, byte, s16, and_assoc] using hw
theorem gnssRecordMissing (n : Nat) : Statement (.gnssRecordMissing n) := fun hw =>
  show n < 8 by
  have hw : (decide (n < 8)) = true := hw
  simpa [w32, byte, s16, and_assoc] using hw
theorem yulisUpdateMissing (n : Nat) : Statement (.yulisUpdateMissing n) := fun hw =>
  show n < 8 by
  have hw : (decide (n < 8)) = true := hw
  simpa [w32, byte, s16, and_assoc] using hw
theorem preset (n v : Nat) : Statement (.preset n v) := fun hw =>
  show n < 8 ∧ v < 2 ^ 32 by
  have hw : (decide (n < 8) && w32 v) = true := hw
  simpa [w32, byte, s16, and_assoc] using hw
theorem snap (v : Nat) : Statement (.snap v) := fun hw =>
  show v < 2 ^ 32 by
  have hw : (w32 v) = true := hw
  simpa [w32, byte, s16, and_assoc] using hw
theorem phaseRead (n : Nat) : Statement (.phaseRead n) := fun hw =>
  show n < 8 by
  have hw : (decide (n < 8)) = true := hw
  simpa [w32, byte, s16, and_assoc] using hw
theorem plausibilityWindow (n : Nat) : Statement (.plausibilityWindow n) := fun hw =>
  show n < 8 by
  have hw : (decide (n < 8)) = true := hw
  simpa [w32, byte, s16, and_assoc] using hw
theorem post (p : Nat) : Statement (.post p) := fun hw =>
  show p < 4 by
  have hw : (decide (p < 4)) = true := hw
  simpa [w32, byte, s16, and_assoc] using hw
theorem retime (p : Nat) : Statement (.retime p) := fun hw =>
  show p < 4 by
  have hw : (decide (p < 4)) = true := hw
  simpa [w32, byte, s16, and_assoc] using hw
theorem revoke (p : Nat) : Statement (.revoke p) := fun hw =>
  show p < 4 by
  have hw : (decide (p < 4)) = true := hw
  simpa [w32, byte, s16, and_assoc] using hw
theorem flush (p : Nat) : Statement (.flush p) := fun hw =>
  show p < 4 by
  have hw : (decide (p < 4)) = true := hw
  simpa [w32, byte, s16, and_assoc] using hw
theorem predictionRound : Statement (.predictionRound) := by intro; trivial
theorem eventFire (bad : List Nat) : Statement (.eventFire bad) := fun hw =>
  show bad.all (fun x => decide (x < 256)) = true by
  have hw : (bad.all (fun x => decide (x < 256))) = true := hw
  simpa [w32, byte, s16, and_assoc] using hw
theorem retirementWrite : Statement (.retirementWrite) := by intro; trivial
theorem carRetrdWrite (v : Nat) : Statement (.carRetrdWrite v) := fun hw =>
  show v < 2 ^ 32 by
  have hw : (w32 v) = true := hw
  simpa [w32, byte, s16, and_assoc] using hw
theorem windowMaxlen (n : Nat) : Statement (.windowMaxlen n) := fun hw =>
  show n < 16 by
  have hw : (decide (n < 16)) = true := hw
  simpa [w32, byte, s16, and_assoc] using hw
theorem timeDomainSlot : Statement (.timeDomainSlot) := by intro; trivial
theorem tare : Statement (.tare) := by intro; trivial
theorem calstart : Statement (.calstart) := by intro; trivial
theorem calstop : Statement (.calstop) := by intro; trivial
theorem nlreset (mask : Nat) : Statement (.nlreset mask) := fun hw =>
  show mask < 2 ^ 32 by
  have hw : (w32 mask) = true := hw
  simpa [w32, byte, s16, and_assoc] using hw
theorem nlsnap : Statement (.nlsnap) := by intro; trivial
theorem moistureAverage (cap : Nat) (tg : Int) : Statement (.moistureAverage cap tg) := fun hw =>
  show cap < 2 ^ 16 ∧ s16 tg = true by
  have hw : (decide (cap < 2 ^ 16) && s16 tg) = true := hw
  simpa [w32, byte, s16, and_assoc] using hw
theorem moistureStale : Statement (.moistureStale) := by intro; trivial
theorem historyStep : Statement (.historyStep) := by intro; trivial
theorem yieldRecord : Statement (.yieldRecord) := by intro; trivial
theorem lossSensorFault (c mv : Nat) : Statement (.lossSensorFault c mv) := fun hw =>
  show c < 8 by
  have hw : (decide (c < 8)) = true := hw
  simpa [w32, byte, s16, and_assoc] using hw
theorem plateBridgeFault (kind : Nat) : Statement (.plateBridgeFault kind) := fun hw =>
  show kind < 4 by
  have hw : (decide (kind < 4)) = true := hw
  simpa [w32, byte, s16, and_assoc] using hw
theorem hsnRingReadWrite (ring v : Nat) : Statement (.hsnRingReadWrite ring v) := fun hw =>
  show ring < 2 ∧ v < 2 ^ 32 by
  have hw : (decide (ring < 2) && w32 v) = true := hw
  simpa [w32, byte, s16, and_assoc] using hw
theorem portSynchronised (p : Nat) : Statement (.portSynchronised p) := fun hw =>
  show p < 3 by
  have hw : (decide (p < 3)) = true := hw
  simpa [w32, byte, s16, and_assoc] using hw
theorem frameStart (p : Nat) : Statement (.frameStart p) := fun hw =>
  show p < 3 by
  have hw : (decide (p < 3)) = true := hw
  simpa [w32, byte, s16, and_assoc] using hw
theorem frameEnd (p : Nat) (lines : List (List Nat)) : Statement (.frameEnd p lines) := fun hw =>
  show p < 3 ∧ lines.all (fun x => x.all (fun y => decide (y < 4096))) = true by
  have hw : (decide (p < 3) && lines.all (fun x => x.all (fun y => decide (y < 4096)))) = true := hw
  simpa [w32, byte, s16, and_assoc] using hw
theorem frameTimeout (p : Nat) (lines : List (List Nat)) : Statement (.frameTimeout p lines) := fun hw =>
  show p < 3 ∧ lines.all (fun x => x.all (fun y => decide (y < 4096))) = true by
  have hw : (decide (p < 3) && lines.all (fun x => x.all (fun y => decide (y < 4096)))) = true := hw
  simpa [w32, byte, s16, and_assoc] using hw
theorem pixelClockLost (p : Nat) (lines : List (List Nat)) : Statement (.pixelClockLost p lines) := fun hw =>
  show p < 3 ∧ lines.all (fun x => x.all (fun y => decide (y < 4096))) = true by
  have hw : (decide (p < 3) && lines.all (fun x => x.all (fun y => decide (y < 4096)))) = true := hw
  simpa [w32, byte, s16, and_assoc] using hw
theorem pixelClockReturn (p : Nat) : Statement (.pixelClockReturn p) := fun hw =>
  show p < 3 by
  have hw : (decide (p < 3)) = true := hw
  simpa [w32, byte, s16, and_assoc] using hw
theorem triggerMissed (p : Nat) : Statement (.triggerMissed p) := fun hw =>
  show p < 3 by
  have hw : (decide (p < 3)) = true := hw
  simpa [w32, byte, s16, and_assoc] using hw
theorem frameQueued : Statement (.frameQueued) := by intro; trivial
theorem processingStart : Statement (.processingStart) := by intro; trivial
theorem processingEnd : Statement (.processingEnd) := by intro; trivial
theorem quietSlotEnd : Statement (.quietSlotEnd) := by intro; trivial
theorem resultWrite : Statement (.resultWrite) := by intro; trivial
theorem rply : Statement (.rply) := by intro; trivial
theorem frameMemoryError : Statement (.frameMemoryError) := by intro; trivial
theorem visRingReadWrite (v : Nat) : Statement (.visRingReadWrite v) := fun hw =>
  show v < 2 ^ 32 by
  have hw : (w32 v) = true := hw
  simpa [w32, byte, s16, and_assoc] using hw
theorem timerTrigger (n : Nat) : Statement (.timerTrigger n) := fun hw =>
  show n < 96 by
  have hw : (decide (n < 96)) = true := hw
  simpa [w32, byte, s16, and_assoc] using hw
theorem swtrig (n : Nat) : Statement (.swtrig n) := fun hw =>
  show n < 96 by
  have hw : (decide (n < 96)) = true := hw
  simpa [w32, byte, s16, and_assoc] using hw
theorem evaluationIssue : Statement (.evaluationIssue) := by intro; trivial
theorem evaluationOutput : Statement (.evaluationOutput) := by intro; trivial
theorem sampleTimeout (n : Nat) : Statement (.sampleTimeout n) := fun hw =>
  show n < 96 by
  have hw : (decide (n < 96)) = true := hw
  simpa [w32, byte, s16, and_assoc] using hw
theorem interlockScan : Statement (.interlockScan) := by intro; trivial
theorem arm (k : Nat) : Statement (.arm k) := fun hw =>
  show k < 48 by
  have hw : (decide (k < 48)) = true := hw
  simpa [w32, byte, s16, and_assoc] using hw
theorem disarm (k : Nat) : Statement (.disarm k) := fun hw =>
  show k < 48 by
  have hw : (decide (k < 48)) = true := hw
  simpa [w32, byte, s16, and_assoc] using hw
theorem slotOff (n : Nat) : Statement (.slotOff n) := fun hw =>
  show n < 96 by
  have hw : (decide (n < 96)) = true := hw
  simpa [w32, byte, s16, and_assoc] using hw
theorem slotMan (n : Nat) : Statement (.slotMan n) := fun hw =>
  show n < 96 by
  have hw : (decide (n < 96)) = true := hw
  simpa [w32, byte, s16, and_assoc] using hw
theorem slotAuto (n : Nat) : Statement (.slotAuto n) := fun hw =>
  show n < 96 by
  have hw : (decide (n < 96)) = true := hw
  simpa [w32, byte, s16, and_assoc] using hw
theorem resetIntegrator (n : Nat) : Statement (.resetIntegrator n) := fun hw =>
  show n < 96 by
  have hw : (decide (n < 96)) = true := hw
  simpa [w32, byte, s16, and_assoc] using hw
theorem release (n : Nat) : Statement (.release n) := fun hw =>
  show n < 96 by
  have hw : (decide (n < 96)) = true := hw
  simpa [w32, byte, s16, and_assoc] using hw
theorem xfbWrite (n v : Nat) : Statement (.xfbWrite n v) := fun hw =>
  show n < 96 ∧ v < 2 ^ 32 by
  have hw : (decide (n < 96) && w32 v) = true := hw
  simpa [w32, byte, s16, and_assoc] using hw
theorem actuatorFault (lsw : Bool) (ch code : Nat) : Statement (.actuatorFault lsw ch code) := fun hw =>
  show ch < 48 ∧ code < 16 by
  have hw : (decide (ch < 48) && decide (code < 16)) = true := hw
  simpa [w32, byte, s16, and_assoc] using hw
theorem cenRingReadWrite (v : Nat) : Statement (.cenRingReadWrite v) := fun hw =>
  show v < 2 ^ 32 by
  have hw : (w32 v) = true := hw
  simpa [w32, byte, s16, and_assoc] using hw
theorem plan : Statement (.plan) := by intro; trivial
theorem cutWidthUpdate : Statement (.cutWidthUpdate) := by intro; trivial
theorem holdEnter : Statement (.holdEnter) := by intro; trivial
theorem holdRelease : Statement (.holdRelease) := by intro; trivial
theorem replan : Statement (.replan) := by intro; trivial
theorem alloff : Statement (.alloff) := by intro; trivial
theorem clrcov : Statement (.clrcov) := by intro; trivial
theorem rowclr (row : Nat) : Statement (.rowclr row) := fun hw =>
  show row < 512 by
  have hw : (decide (row < 512)) = true := hw
  simpa [w32, byte, s16, and_assoc] using hw
theorem solOn (n : Nat) : Statement (.solOn n) := fun hw =>
  show n < 24 by
  have hw : (decide (n < 24)) = true := hw
  simpa [w32, byte, s16, and_assoc] using hw
theorem solOff (n : Nat) : Statement (.solOff n) := fun hw =>
  show n < 24 by
  have hw : (decide (n < 24)) = true := hw
  simpa [w32, byte, s16, and_assoc] using hw
theorem solClr (n : Nat) (cool supply : Bool) : Statement (.solClr n cool supply) := fun hw =>
  show n < 24 by
  have hw : (decide (n < 24)) = true := hw
  simpa [w32, byte, s16, and_assoc] using hw
theorem groupClr (g : Nat) : Statement (.groupClr g) := fun hw =>
  show g < 6 by
  have hw : (decide (g < 6)) = true := hw
  simpa [w32, byte, s16, and_assoc] using hw
theorem boostClr : Statement (.boostClr) := by intro; trivial
theorem isetWrite (n v : Nat) : Statement (.isetWrite n v) := fun hw =>
  show n < 24 ∧ v < 2 ^ 32 by
  have hw : (decide (n < 24) && w32 v) = true := hw
  simpa [w32, byte, s16, and_assoc] using hw
theorem solDutyWrite (n duty : Nat) : Statement (.solDutyWrite n duty) := fun hw =>
  show n < 24 ∧ duty < 2 ^ 32 by
  have hw : (decide (n < 24) && w32 duty) = true := hw
  simpa [w32, byte, s16, and_assoc] using hw
theorem peakStart (n : Nat) : Statement (.peakStart n) := fun hw =>
  show n < 24 by
  have hw : (decide (n < 24)) = true := hw
  simpa [w32, byte, s16, and_assoc] using hw
theorem peakEnd (n : Nat) : Statement (.peakEnd n) := fun hw =>
  show n < 24 by
  have hw : (decide (n < 24)) = true := hw
  simpa [w32, byte, s16, and_assoc] using hw
theorem peakNotReached (n i : Nat) : Statement (.peakNotReached n i) := fun hw =>
  show n < 24 by
  have hw : (decide (n < 24)) = true := hw
  simpa [w32, byte, s16, and_assoc] using hw
theorem nozzleCycleStart (n : Nat) : Statement (.nozzleCycleStart n) := fun hw =>
  show n < 24 by
  have hw : (decide (n < 24)) = true := hw
  simpa [w32, byte, s16, and_assoc] using hw
theorem nozzleOnEnd (n : Nat) : Statement (.nozzleOnEnd n) := fun hw =>
  show n < 24 by
  have hw : (decide (n < 24)) = true := hw
  simpa [w32, byte, s16, and_assoc] using hw
theorem decayEnd (n : Nat) : Statement (.decayEnd n) := fun hw =>
  show n < 24 by
  have hw : (decide (n < 24)) = true := hw
  simpa [w32, byte, s16, and_assoc] using hw
theorem boostLeaseGrant : Statement (.boostLeaseGrant) := by intro; trivial
theorem boostReady (v : Nat) : Statement (.boostReady v) := by intro; trivial
theorem boostLow (v : Nat) : Statement (.boostLow v) := by intro; trivial
theorem boostTimeout : Statement (.boostTimeout) := by intro; trivial
theorem boostFault (ov : Bool) : Statement (.boostFault ov) := by intro; trivial
theorem boostLeaseRevoked : Statement (.boostLeaseRevoked) := by intro; trivial
theorem solShort (n i : Nat) : Statement (.solShort n i) := fun hw =>
  show n < 24 by
  have hw : (decide (n < 24)) = true := hw
  simpa [w32, byte, s16, and_assoc] using hw
theorem groupShort (g i : Nat) : Statement (.groupShort g i) := fun hw =>
  show g < 6 by
  have hw : (decide (g < 6)) = true := hw
  simpa [w32, byte, s16, and_assoc] using hw
theorem solOpenLoad (n i : Nat) : Statement (.solOpenLoad n i) := fun hw =>
  show n < 24 by
  have hw : (decide (n < 24)) = true := hw
  simpa [w32, byte, s16, and_assoc] using hw
theorem solOpenLoadOff (n : Nat) : Statement (.solOpenLoadOff n) := fun hw =>
  show n < 24 by
  have hw : (decide (n < 24)) = true := hw
  simpa [w32, byte, s16, and_assoc] using hw
theorem solDriverOvertemp (n : Nat) (t : Int) : Statement (.solDriverOvertemp n t) := fun hw =>
  show n < 24 ∧ s16 t = true by
  have hw : (decide (n < 24) && s16 t) = true := hw
  simpa [w32, byte, s16, and_assoc] using hw
theorem outbUndervoltage (v : Nat) : Statement (.outbUndervoltage v) := by intro; trivial
theorem lswOn (n : Nat) : Statement (.lswOn n) := fun hw =>
  show n < 48 by
  have hw : (decide (n < 48)) = true := hw
  simpa [w32, byte, s16, and_assoc] using hw
theorem lswOff (n : Nat) : Statement (.lswOff n) := fun hw =>
  show n < 48 by
  have hw : (decide (n < 48)) = true := hw
  simpa [w32, byte, s16, and_assoc] using hw
theorem lswClr (n : Nat) (below plausible : Bool) : Statement (.lswClr n below plausible) := fun hw =>
  show n < 48 by
  have hw : (decide (n < 48)) = true := hw
  simpa [w32, byte, s16, and_assoc] using hw
theorem lswDutyWrite (n duty : Nat) : Statement (.lswDutyWrite n duty) := fun hw =>
  show n < 48 ∧ duty < 2 ^ 32 by
  have hw : (decide (n < 48) && w32 duty) = true := hw
  simpa [w32, byte, s16, and_assoc] using hw
theorem pwmPeriodStart (n : Nat) : Statement (.pwmPeriodStart n) := fun hw =>
  show n < 48 by
  have hw : (decide (n < 48)) = true := hw
  simpa [w32, byte, s16, and_assoc] using hw
theorem i2tTrip (n i : Nat) : Statement (.i2tTrip n i) := fun hw =>
  show n < 48 by
  have hw : (decide (n < 48)) = true := hw
  simpa [w32, byte, s16, and_assoc] using hw
theorem shortTrip (n i : Nat) : Statement (.shortTrip n i) := fun hw =>
  show n < 48 by
  have hw : (decide (n < 48)) = true := hw
  simpa [w32, byte, s16, and_assoc] using hw
theorem inrushEnd (n : Nat) : Statement (.inrushEnd n) := fun hw =>
  show n < 48 by
  have hw : (decide (n < 48)) = true := hw
  simpa [w32, byte, s16, and_assoc] using hw
theorem limitTrip (n : Nat) : Statement (.limitTrip n) := fun hw =>
  show n < 48 by
  have hw : (decide (n < 48)) = true := hw
  simpa [w32, byte, s16, and_assoc] using hw
theorem bankUndervoltage (b v : Nat) : Statement (.bankUndervoltage b v) := fun hw =>
  show b < 2 by
  have hw : (decide (b < 2)) = true := hw
  simpa [w32, byte, s16, and_assoc] using hw
theorem bankRecovered (b v : Nat) : Statement (.bankRecovered b v) := fun hw =>
  show b < 2 by
  have hw : (decide (b < 2)) = true := hw
  simpa [w32, byte, s16, and_assoc] using hw
theorem bankCurrentHigh (b i : Nat) : Statement (.bankCurrentHigh b i) := fun hw =>
  show b < 2 by
  have hw : (decide (b < 2)) = true := hw
  simpa [w32, byte, s16, and_assoc] using hw
theorem junctionOvertemp (n : Nat) (tj : Int) : Statement (.junctionOvertemp n tj) := fun hw =>
  show n < 48 ∧ s16 tj = true by
  have hw : (decide (n < 48) && s16 tj) = true := hw
  simpa [w32, byte, s16, and_assoc] using hw
theorem junctionSensorFail (n : Nat) : Statement (.junctionSensorFail n) := fun hw =>
  show n < 48 by
  have hw : (decide (n < 48)) = true := hw
  simpa [w32, byte, s16, and_assoc] using hw
theorem lswOpenLoad (n i : Nat) : Statement (.lswOpenLoad n i) := fun hw =>
  show n < 48 by
  have hw : (decide (n < 48)) = true := hw
  simpa [w32, byte, s16, and_assoc] using hw
theorem lswOpenLoadOff (n v : Nat) : Statement (.lswOpenLoadOff n v) := fun hw =>
  show n < 48 by
  have hw : (decide (n < 48)) = true := hw
  simpa [w32, byte, s16, and_assoc] using hw
theorem stuck (n v : Nat) : Statement (.stuck n v) := fun hw =>
  show n < 48 by
  have hw : (decide (n < 48)) = true := hw
  simpa [w32, byte, s16, and_assoc] using hw
theorem noton (n v : Nat) : Statement (.noton n v) := fun hw =>
  show n < 48 by
  have hw : (decide (n < 48)) = true := hw
  simpa [w32, byte, s16, and_assoc] using hw
theorem measurementEpoch (sats : List GnsSat) (meas : List GnsMeas) (e : GnsEpoch) : Statement (.measurementEpoch sats meas
    e) := fun hw =>
  show sats.all (fun x => decide (x.con < 8)) = true ∧ meas.all (fun x => decide (x.ch < 184)) = true by
  have hw : (sats.all (fun x => decide (x.con < 8)) && meas.all (fun x => decide (x.ch < 184))) = true := hw
  simpa [w32, byte, s16, and_assoc] using hw
theorem signalDetected (c : Nat) : Statement (.signalDetected c) := fun hw =>
  show c < 184 by
  have hw : (decide (c < 184)) = true := hw
  simpa [w32, byte, s16, and_assoc] using hw
theorem phaseLock (c : Nat) : Statement (.phaseLock c) := fun hw =>
  show c < 184 by
  have hw : (decide (c < 184)) = true := hw
  simpa [w32, byte, s16, and_assoc] using hw
theorem pullinTimeout (c : Nat) : Statement (.pullinTimeout c) := fun hw =>
  show c < 184 by
  have hw : (decide (c < 184)) = true := hw
  simpa [w32, byte, s16, and_assoc] using hw
theorem trackLoss (c cn0 ms : Nat) : Statement (.trackLoss c cn0 ms) := fun hw =>
  show c < 184 by
  have hw : (decide (c < 184)) = true := hw
  simpa [w32, byte, s16, and_assoc] using hw
theorem reacqTimeout (c : Nat) : Statement (.reacqTimeout c) := fun hw =>
  show c < 184 by
  have hw : (decide (c < 184)) = true := hw
  simpa [w32, byte, s16, and_assoc] using hw
theorem tp0Pulse : Statement (.tp0Pulse) := by intro; trivial
theorem tp1Pulse (t : Nat) : Statement (.tp1Pulse t) := by intro; trivial
theorem timeqWrite (qerr : Int) : Statement (.timeqWrite qerr) := by intro; trivial
theorem tqwkRead : Statement (.tqwkRead) := by intro; trivial
theorem timeSolution (nsat pdop errsol : Nat) (off : Int) (week tow ns : Nat) (rate leap : Int) (leapWeek leapTow : Nat) :
    Statement (.timeSolution nsat pdop errsol off week tow ns rate leap leapWeek leapTow) := fun hw =>
  show week < 65536 ∧ tow < 604800 ∧ ns ≤ 1000000000 by
  have hw : (decide (week < 65536) && decide (tow < 604800) && decide (ns ≤ 1000000000)) = true := hw
  simpa [w32, byte, s16, and_assoc] using hw
theorem doldrumsEntry : Statement (.doldrumsEntry) := by intro; trivial
theorem retentionSave : Statement (.retentionSave) := by intro; trivial
theorem save : Statement (.save) := by intro; trivial
theorem clearRetention : Statement (.clearRetention) := by intro; trivial
theorem coldRestart : Statement (.coldRestart) := by intro; trivial
theorem antennaOpen (a i : Nat) : Statement (.antennaOpen a i) := fun hw =>
  show a < 2 by
  have hw : (decide (a < 2)) = true := hw
  simpa [w32, byte, s16, and_assoc] using hw
theorem antennaShort (a i : Nat) : Statement (.antennaShort a i) := fun hw =>
  show a < 2 by
  have hw : (decide (a < 2)) = true := hw
  simpa [w32, byte, s16, and_assoc] using hw
theorem antennaRetry (a i : Nat) : Statement (.antennaRetry a i) := fun hw =>
  show a < 2 by
  have hw : (decide (a < 2)) = true := hw
  simpa [w32, byte, s16, and_assoc] using hw
theorem interference (band : Nat) (out : Bool) : Statement (.interference band out) := fun hw =>
  show band < 4 by
  have hw : (decide (band < 4)) = true := hw
  simpa [w32, byte, s16, and_assoc] using hw
theorem tcxoFault (dev : Int) : Statement (.tcxoFault dev) := by intro; trivial
theorem gnsRingReadWrite (v : Nat) : Statement (.gnsRingReadWrite v) := fun hw =>
  show v < 2 ^ 32 by
  have hw : (w32 v) = true := hw
  simpa [w32, byte, s16, and_assoc] using hw
theorem imuSample (k : Nat) (sat : Bool) (w : List Nat) : Statement (.imuSample k sat w) := fun hw =>
  show k < 16 ∧ w.all (fun x => decide (x < 4294967296)) = true by
  have hw : (decide (k < 16) && w.all (fun x => decide (x < 4294967296))) = true := hw
  simpa [w32, byte, s16, and_assoc] using hw
theorem internalSample (k : Nat) : Statement (.internalSample k) := fun hw =>
  show k < 16 by
  have hw : (decide (k < 16)) = true := hw
  simpa [w32, byte, s16, and_assoc] using hw
theorem push (p : Nat) : Statement (.push p) := fun hw =>
  show p < 4 by
  have hw : (decide (p < 4)) = true := hw
  simpa [w32, byte, s16, and_assoc] using hw
theorem measurementUpdate : Statement (.measurementUpdate) := by intro; trivial
theorem resultIssue : Statement (.resultIssue) := by intro; trivial
theorem replayEnd : Statement (.replayEnd) := by intro; trivial
theorem streamStale (k : Nat) : Statement (.streamStale k) := fun hw =>
  show k < 16 by
  have hw : (decide (k < 16)) = true := hw
  simpa [w32, byte, s16, and_assoc] using hw
theorem positionTimeout : Statement (.positionTimeout) := by intro; trivial
theorem calibrationFocus : Statement (.calibrationFocus) := by intro; trivial
theorem restart : Statement (.restart) := by intro; trivial
theorem calsnap (mask : Nat) : Statement (.calsnap mask) := fun hw =>
  show mask < 2 ^ 32 by
  have hw : (w32 mask) = true := hw
  simpa [w32, byte, s16, and_assoc] using hw
theorem calreset (mask : Nat) : Statement (.calreset mask) := fun hw =>
  show mask < 2 ^ 32 by
  have hw : (w32 mask) = true := hw
  simpa [w32, byte, s16, and_assoc] using hw
theorem estimatorFault (cause : Nat) : Statement (.estimatorFault cause) := by intro; trivial
theorem fusLastRead : Statement (.fusLastRead) := by intro; trivial
theorem fusRingReadWrite (v : Nat) : Statement (.fusRingReadWrite v) := fun hw =>
  show v < 2 ^ 32 by
  have hw : (w32 v) = true := hw
  simpa [w32, byte, s16, and_assoc] using hw
theorem canTxReq (n b : Nat) : Statement (.canTxReq n b) := fun hw =>
  show n < 6 ∧ b < 3 by
  have hw : (decide (n < 6) && decide (b < 3)) = true := hw
  simpa [w32, byte, s16, and_assoc] using hw
theorem canTxCancel (n b : Nat) : Statement (.canTxCancel n b) := fun hw =>
  show n < 6 ∧ b < 3 by
  have hw : (decide (n < 6) && decide (b < 3)) = true := hw
  simpa [w32, byte, s16, and_assoc] using hw
theorem canTxArbitration (n : Nat) : Statement (.canTxArbitration n) := fun hw =>
  show n < 6 by
  have hw : (decide (n < 6)) = true := hw
  simpa [w32, byte, s16, and_assoc] using hw
theorem canTxDone (n : Nat) : Statement (.canTxDone n) := fun hw =>
  show n < 6 by
  have hw : (decide (n < 6)) = true := hw
  simpa [w32, byte, s16, and_assoc] using hw
theorem canTxError (n lec : Nat) (dom arb : Bool) (more : Nat) : Statement (.canTxError n lec dom arb more) := fun hw =>
  show n < 6 ∧ lec < 8 by
  have hw : (decide (n < 6) && decide (lec < 8)) = true := hw
  simpa [w32, byte, s16, and_assoc] using hw
theorem busOffRecovered (n : Nat) : Statement (.busOffRecovered n) := fun hw =>
  show n < 6 by
  have hw : (decide (n < 6)) = true := hw
  simpa [w32, byte, s16, and_assoc] using hw
theorem recover (n : Nat) : Statement (.recover n) := fun hw =>
  show n < 6 by
  have hw : (decide (n < 6)) = true := hw
  simpa [w32, byte, s16, and_assoc] using hw
theorem canRxFrame (n : Nat) (f : CanFrame) (esi : Bool) (age : Nat) : Statement (.canRxFrame n f esi age) := fun hw =>
  show n < 6 ∧ f.wf = true by
  have hw : (decide (n < 6) && f.wf) = true := hw
  simpa [w32, byte, s16, and_assoc] using hw
theorem rxpop (n q : Nat) : Statement (.rxpop n q) := fun hw =>
  show n < 6 ∧ q < 2 by
  have hw : (decide (n < 6) && decide (q < 2)) = true := hw
  simpa [w32, byte, s16, and_assoc] using hw
theorem messageTimeout (n f : Nat) : Statement (.messageTimeout n f) := fun hw =>
  show n < 6 ∧ f < 128 by
  have hw : (decide (n < 6) && decide (f < 128)) = true := hw
  simpa [w32, byte, s16, and_assoc] using hw
theorem addressClaim (n : Nat) : Statement (.addressClaim n) := fun hw =>
  show n < 6 by
  have hw : (decide (n < 6)) = true := hw
  simpa [w32, byte, s16, and_assoc] using hw
theorem lmtxgo (n : Nat) : Statement (.lmtxgo n) := fun hw =>
  show n < 6 by
  have hw : (decide (n < 6)) = true := hw
  simpa [w32, byte, s16, and_assoc] using hw
theorem longMessageEnd (n : Nat) (done : Bool) (reason : Nat) : Statement (.longMessageEnd n done reason) := fun hw =>
  show n < 6 by
  have hw : (decide (n < 6)) = true := hw
  simpa [w32, byte, s16, and_assoc] using hw
theorem longMessageRx (n : Nat) (m : CanLong) : Statement (.longMessageRx n m) := fun hw =>
  show n < 6 by
  have hw : (decide (n < 6)) = true := hw
  simpa [w32, byte, s16, and_assoc] using hw
theorem canRingReadWrite (n v : Nat) : Statement (.canRingReadWrite n v) := fun hw =>
  show n < 6 ∧ v < 2 ^ 32 by
  have hw : (decide (n < 6) && w32 v) = true := hw
  simpa [w32, byte, s16, and_assoc] using hw
theorem ethFrameRx (p : Nat) (bytes : List Nat) (err : Bool) : Statement (.ethFrameRx p bytes err) := fun hw =>
  show p < 7 ∧ bytes.all byte = true by
  have hw : (decide (p < 7) && bytes.all byte) = true := hw
  simpa [w32, byte, s16, and_assoc] using hw
theorem hostTxFrame : Statement (.hostTxFrame) := by intro; trivial
theorem linkChange (p : Nat) (up : Bool) (sqi : Nat) : Statement (.linkChange p up sqi) := fun hw =>
  show p < 6 ∧ sqi < 256 by
  have hw : (decide (p < 6) && byte sqi) = true := hw
  simpa [w32, byte, s16, and_assoc] using hw
theorem ptpSync (gm : Option EthGm) (delays : List (Nat × Nat)) : Statement (.ptpSync gm delays) := fun hw =>
  show gm.all (fun x => decide (x.port < 7)) = true by
  have hw : (gm.all (fun x => decide (x.port < 7))) = true := hw
  simpa [w32, byte, s16, and_assoc] using hw
theorem ethRingIndexWrite (tx : Bool) (v : Nat) : Statement (.ethRingIndexWrite tx v) := fun hw =>
  show v < 2 ^ 32 by
  have hw : (w32 v) = true := hw
  simpa [w32, byte, s16, and_assoc] using hw
theorem subgo : Statement (.subgo) := by intro; trivial
theorem handshakeComplete (s : Nat) (o : DtlsOffer) : Statement (.handshakeComplete s o) := fun hw =>
  show s < 64 by
  have hw : (decide (s < 64)) = true := hw
  simpa [w32, byte, s16, and_assoc] using hw
theorem authenticationFailed (s alert : Nat) : Statement (.authenticationFailed s alert) := fun hw =>
  show s < 64 by
  have hw : (decide (s < 64)) = true := hw
  simpa [w32, byte, s16, and_assoc] using hw
theorem connectTimeout (s : Nat) : Statement (.connectTimeout s) := fun hw =>
  show s < 64 by
  have hw : (decide (s < 64)) = true := hw
  simpa [w32, byte, s16, and_assoc] using hw
theorem sessionTimeout (s : Nat) : Statement (.sessionTimeout s) := fun hw =>
  show s < 64 by
  have hw : (decide (s < 64)) = true := hw
  simpa [w32, byte, s16, and_assoc] using hw
theorem backoffEnd (s : Nat) : Statement (.backoffEnd s) := fun hw =>
  show s < 64 by
  have hw : (decide (s < 64)) = true := hw
  simpa [w32, byte, s16, and_assoc] using hw
theorem ping (s : Nat) : Statement (.ping s) := fun hw =>
  show s < 64 by
  have hw : (decide (s < 64)) = true := hw
  simpa [w32, byte, s16, and_assoc] using hw
theorem fleetMessageRx (s typ prio seq : Nat) (payload : List Nat) : Statement (.fleetMessageRx s typ prio seq payload) :=
    fun hw =>
  show s < 64 ∧ payload.all byte = true by
  have hw : (decide (s < 64) && payload.all byte) = true := hw
  simpa [w32, byte, s16, and_assoc] using hw
theorem fltRingReadWrite (v : Nat) : Statement (.fltRingReadWrite v) := fun hw =>
  show v < 2 ^ 32 by
  have hw : (w32 v) = true := hw
  simpa [w32, byte, s16, and_assoc] using hw
theorem genkey (slot role : Nat) : Statement (.genkey slot role) := fun hw =>
  show slot < 8 ∧ role < 4 by
  have hw : (decide (slot < 8) && decide (role < 4)) = true := hw
  simpa [w32, byte, s16, and_assoc] using hw
theorem csr (slot role : Nat) : Statement (.csr slot role) := fun hw =>
  show slot < 8 ∧ role < 4 by
  have hw : (decide (slot < 8) && decide (role < 4)) = true := hw
  simpa [w32, byte, s16, and_assoc] using hw
theorem erase (slot role : Nat) : Statement (.erase slot role) := fun hw =>
  show slot < 8 ∧ role < 4 by
  have hw : (decide (slot < 8) && decide (role < 4)) = true := hw
  simpa [w32, byte, s16, and_assoc] using hw
theorem readParam (path k client : Nat) (node : Option Nat) (m : DictMsg) : Statement (.readParam path k client node m) :=
    fun hw =>
  show path < 8 ∧ k < 65536 ∧ node.all (fun x => decide (x < 8)) = true ∧ m.data.all byte = true by
  have hw : (decide (path < 8) && decide (k < 65536) && node.all (fun x => decide (x < 8)) && m.data.all byte) = true := hw
  simpa [w32, byte, s16, and_assoc] using hw
theorem readeff (path k client : Nat) (node : Option Nat) (m : DictMsg) : Statement (.readeff path k client node m) := fun hw
    =>
  show path < 8 ∧ k < 65536 ∧ node.all (fun x => decide (x < 8)) = true ∧ m.data.all byte = true by
  have hw : (decide (path < 8) && decide (k < 65536) && node.all (fun x => decide (x < 8)) && m.data.all byte) = true := hw
  simpa [w32, byte, s16, and_assoc] using hw
theorem writeParam (path k client : Nat) (node : Option Nat) (m : DictMsg) : Statement (.writeParam path k client node m) :=
    fun hw =>
  show path < 8 ∧ k < 65536 ∧ node.all (fun x => decide (x < 8)) = true ∧ m.data.all byte = true by
  have hw : (decide (path < 8) && decide (k < 65536) && node.all (fun x => decide (x < 8)) && m.data.all byte) = true := hw
  simpa [w32, byte, s16, and_assoc] using hw
theorem commit (path k client : Nat) (node : Option Nat) (m : DictMsg) : Statement (.commit path k client node m) := fun hw
    =>
  show path < 8 ∧ k < 65536 ∧ node.all (fun x => decide (x < 8)) = true ∧ m.data.all byte = true by
  have hw : (decide (path < 8) && decide (k < 65536) && node.all (fun x => decide (x < 8)) && m.data.all byte) = true := hw
  simpa [w32, byte, s16, and_assoc] using hw
theorem abortGroup (path k client : Nat) (node : Option Nat) (m : DictMsg) : Statement (.abortGroup path k client node m) :=
    fun hw =>
  show path < 8 ∧ k < 65536 ∧ node.all (fun x => decide (x < 8)) = true ∧ m.data.all byte = true by
  have hw : (decide (path < 8) && decide (k < 65536) && node.all (fun x => decide (x < 8)) && m.data.all byte) = true := hw
  simpa [w32, byte, s16, and_assoc] using hw
theorem storeParams (path k client : Nat) (node : Option Nat) (m : DictMsg) : Statement (.storeParams path k client node m)
    := fun hw =>
  show path < 8 ∧ k < 65536 ∧ node.all (fun x => decide (x < 8)) = true ∧ m.data.all byte = true by
  have hw : (decide (path < 8) && decide (k < 65536) && node.all (fun x => decide (x < 8)) && m.data.all byte) = true := hw
  simpa [w32, byte, s16, and_assoc] using hw
theorem info (path k client : Nat) (node : Option Nat) (m : DictMsg) : Statement (.info path k client node m) := fun hw =>
  show path < 8 ∧ k < 65536 ∧ node.all (fun x => decide (x < 8)) = true ∧ m.data.all byte = true by
  have hw : (decide (path < 8) && decide (k < 65536) && node.all (fun x => decide (x < 8)) && m.data.all byte) = true := hw
  simpa [w32, byte, s16, and_assoc] using hw
theorem restoreDefaults (path k client : Nat) (node : Option Nat) (m : DictMsg) : Statement (.restoreDefaults path k client
    node m) := fun hw =>
  show path < 8 ∧ k < 65536 ∧ node.all (fun x => decide (x < 8)) = true ∧ m.data.all byte = true by
  have hw : (decide (path < 8) && decide (k < 65536) && node.all (fun x => decide (x < 8)) && m.data.all byte) = true := hw
  simpa [w32, byte, s16, and_assoc] using hw
theorem savedef (path k client : Nat) (node : Option Nat) (m : DictMsg) : Statement (.savedef path k client node m) := fun hw
    =>
  show path < 8 ∧ k < 65536 ∧ node.all (fun x => decide (x < 8)) = true ∧ m.data.all byte = true by
  have hw : (decide (path < 8) && decide (k < 65536) && node.all (fun x => decide (x < 8)) && m.data.all byte) = true := hw
  simpa [w32, byte, s16, and_assoc] using hw
theorem login (path k client : Nat) (node : Option Nat) (m : DictMsg) : Statement (.login path k client node m) := fun hw =>
  show path < 8 ∧ k < 65536 ∧ node.all (fun x => decide (x < 8)) = true ∧ m.data.all byte = true by
  have hw : (decide (path < 8) && decide (k < 65536) && node.all (fun x => decide (x < 8)) && m.data.all byte) = true := hw
  simpa [w32, byte, s16, and_assoc] using hw
theorem logout (path k client : Nat) (node : Option Nat) (m : DictMsg) : Statement (.logout path k client node m) := fun hw
    =>
  show path < 8 ∧ k < 65536 ∧ node.all (fun x => decide (x < 8)) = true ∧ m.data.all byte = true by
  have hw : (decide (path < 8) && decide (k < 65536) && node.all (fun x => decide (x < 8)) && m.data.all byte) = true := hw
  simpa [w32, byte, s16, and_assoc] using hw
theorem listParams (path k client : Nat) (node : Option Nat) (m : DictMsg) : Statement (.listParams path k client node m) :=
    fun hw =>
  show path < 8 ∧ k < 65536 ∧ node.all (fun x => decide (x < 8)) = true ∧ m.data.all byte = true by
  have hw : (decide (path < 8) && decide (k < 65536) && node.all (fun x => decide (x < 8)) && m.data.all byte) = true := hw
  simpa [w32, byte, s16, and_assoc] using hw
theorem unknownOp (path k client : Nat) (node : Option Nat) (m : DictMsg) : Statement (.unknownOp path k client node m) :=
    fun hw =>
  show path < 8 ∧ k < 65536 ∧ node.all (fun x => decide (x < 8)) = true ∧ m.data.all byte = true by
  have hw : (decide (path < 8) && decide (k < 65536) && node.all (fun x => decide (x < 8)) && m.data.all byte) = true := hw
  simpa [w32, byte, s16, and_assoc] using hw
theorem groupHandover : Statement (.groupHandover) := by intro; trivial
theorem groupApply : Statement (.groupApply) := by intro; trivial
theorem transactionWithdraw : Statement (.transactionWithdraw) := by intro; trivial
theorem lockExpiry : Statement (.lockExpiry) := by intro; trivial
theorem sessionExpiry : Statement (.sessionExpiry) := by intro; trivial
theorem loginBlockEnd : Statement (.loginBlockEnd) := by intro; trivial
theorem bankCopyDone : Statement (.bankCopyDone) := by intro; trivial
theorem storeLeaseGrant : Statement (.storeLeaseGrant) := by intro; trivial
theorem storeLeaseTimeout : Statement (.storeLeaseTimeout) := by intro; trivial
theorem storeWriteDone : Statement (.storeWriteDone) := by intro; trivial
theorem storeVerifyDone (good : Bool) : Statement (.storeVerifyDone good) := by intro; trivial
theorem storeLeaseRevoked : Statement (.storeLeaseRevoked) := by intro; trivial
theorem parameterLoad : Statement (.parameterLoad) := by intro; trivial
theorem clockFault (c : Nat) : Statement (.clockFault c) := fun hw =>
  show c < 16 by
  have hw : (decide (c < 16)) = true := hw
  simpa [w32, byte, s16, and_assoc] using hw
theorem lockstepMismatch : Statement (.lockstepMismatch) := by intro; trivial
theorem heartbeatLost : Statement (.heartbeatLost) := by intro; trivial
theorem eccError (who mem addr : Nat) (unc : Bool) : Statement (.eccError who mem addr unc) := fun hw =>
  show who < 64 ∧ addr < 2 ^ 32 by
  have hw : (decide (who < 64) && w32 addr) = true := hw
  simpa [w32, byte, s16, and_assoc] using hw
theorem memoryScrub (dram : Bool) : Statement (.memoryScrub dram) := by intro; trivial
theorem wdkick (k v : Nat) : Statement (.wdkick k v) := fun hw =>
  show k < 4 ∧ v < 2 ^ 32 by
  have hw : (decide (k < 4) && w32 v) = true := hw
  simpa [w32, byte, s16, and_assoc] using hw
theorem watchdogExpiry (k : Nat) : Statement (.watchdogExpiry k) := fun hw =>
  show k < 4 by
  have hw : (decide (k < 4)) = true := hw
  simpa [w32, byte, s16, and_assoc] using hw
theorem bootWatchdogExpiry : Statement (.bootWatchdogExpiry) := by intro; trivial
theorem stuckCheck : Statement (.stuckCheck) := by intro; trivial
theorem steeringCheck : Statement (.steeringCheck) := by intro; trivial
theorem groundSpeedCheck : Statement (.groundSpeedCheck) := by intro; trivial
theorem selfTestDone (fail : Option Nat) : Statement (.selfTestDone fail) := by intro; trivial
theorem attach (v : Nat) : Statement (.attach v) := fun hw =>
  show v < 2 ^ 32 by
  have hw : (w32 v) = true := hw
  simpa [w32, byte, s16, and_assoc] using hw
theorem ssreq (v : Nat) : Statement (.ssreq v) := fun hw =>
  show v < 2 ^ 32 by
  have hw : (w32 v) = true := hw
  simpa [w32, byte, s16, and_assoc] using hw
theorem rstreq (v : Nat) : Statement (.rstreq v) := fun hw =>
  show v < 2 ^ 32 by
  have hw : (w32 v) = true := hw
  simpa [w32, byte, s16, and_assoc] using hw
theorem reset (own : Option (Nat × Nat × Nat)) : Statement (.reset own) := by intro; trivial
theorem supervisorResetCommand (v role : Nat) : Statement (.supervisorResetCommand v role) := fun hw =>
  show v < 2 ^ 32 ∧ role < 4 by
  have hw : (w32 v && decide (role < 4)) = true := hw
  simpa [w32, byte, s16, and_assoc] using hw
theorem coldStartCommand (v role : Nat) : Statement (.coldStartCommand v role) := fun hw =>
  show v < 2 ^ 32 ∧ role < 4 by
  have hw : (w32 v && decide (role < 4)) = true := hw
  simpa [w32, byte, s16, and_assoc] using hw
theorem orphanExpiry (g : Nat) : Statement (.orphanExpiry g) := fun hw =>
  show g < 8 by
  have hw : (decide (g < 8)) = true := hw
  simpa [w32, byte, s16, and_assoc] using hw
theorem tsvUnavailable : Statement (.tsvUnavailable) := by intro; trivial
theorem leaseRequest (r h : Nat) : Statement (.leaseRequest r h) := fun hw =>
  show r < 5 ∧ h ≤ 19 by
  have hw : (decide (r < 5) && decide (h ≤ 19)) = true := hw
  simpa [w32, byte, s16, and_assoc] using hw
theorem leaseReturn (r h : Nat) (renew : Bool) : Statement (.leaseReturn r h renew) := fun hw =>
  show r < 5 ∧ h ≤ 19 by
  have hw : (decide (r < 5) && decide (h ≤ 19)) = true := hw
  simpa [w32, byte, s16, and_assoc] using hw
theorem leaseExpiry (r : Nat) : Statement (.leaseExpiry r) := fun hw =>
  show r < 5 by
  have hw : (decide (r < 5)) = true := hw
  simpa [w32, byte, s16, and_assoc] using hw
theorem leaseRevoke (r cause : Nat) (party : Option Nat) : Statement (.leaseRevoke r cause party) := fun hw =>
  show r < 5 ∧ cause < 6 ∧ party.all (fun x => decide (x ≤ 19)) = true by
  have hw : (decide (r < 5) && decide (cause < 6) && party.all (fun x => decide (x ≤ 19))) = true := hw
  simpa [w32, byte, s16, and_assoc] using hw
theorem rollbackComplete (r : Nat) : Statement (.rollbackComplete r) := fun hw =>
  show r < 5 by
  have hw : (decide (r < 5)) = true := hw
  simpa [w32, byte, s16, and_assoc] using hw
theorem supplyLow (v : Nat) : Statement (.supplyLow v) := by intro; trivial
theorem supplyHigh (v : Nat) : Statement (.supplyHigh v) := by intro; trivial
theorem powerFail (v : Nat) : Statement (.powerFail v) := by intro; trivial
theorem holdupEnd (v : Nat) : Statement (.holdupEnd v) := by intro; trivial
theorem ignWake (dur v : Nat) : Statement (.ignWake dur v) := by intro; trivial
theorem rtcAlarm (dur v : Nat) : Statement (.rtcAlarm dur v) := by intro; trivial
theorem startStep : Statement (.startStep) := by intro; trivial
theorem bootok (key : Nat) : Statement (.bootok key) := fun hw =>
  show key < 2 ^ 32 by
  have hw : (w32 key) = true := hw
  simpa [w32, byte, s16, and_assoc] using hw
theorem ignOff : Statement (.ignOff) := by intro; trivial
theorem sleep (key : Nat) : Statement (.sleep key) := fun hw =>
  show key < 2 ^ 32 by
  have hw : (w32 key) = true := hw
  simpa [w32, byte, s16, and_assoc] using hw
theorem runOnEnd : Statement (.runOnEnd) := by intro; trivial
theorem shutdownStep (v : Nat) : Statement (.shutdownStep v) := by intro; trivial
theorem shutdownCancel : Statement (.shutdownCancel) := by intro; trivial
theorem housekeepingRound (r : ThmRound) : Statement (.housekeepingRound r) := fun hw =>
  show r.temps.length = 23 ∧ r.fans.length = 4 by
  have hw : (decide (r.temps.length = 23) && decide (r.fans.length = 4)) = true := hw
  simpa [w32, byte, s16, and_assoc] using hw
theorem graceExpiry : Statement (.graceExpiry) := by intro; trivial
theorem hack (v : Nat) : Statement (.hack v) := fun hw =>
  show v < 2 ^ 32 by
  have hw : (w32 v) = true := hw
  simpa [w32, byte, s16, and_assoc] using hw
theorem kickTimeout (f cur : Nat) : Statement (.kickTimeout f cur) := fun hw =>
  show f < 4 by
  have hw : (decide (f < 4)) = true := hw
  simpa [w32, byte, s16, and_assoc] using hw
theorem fanRunning (f rpm : Nat) : Statement (.fanRunning f rpm) := fun hw =>
  show f < 4 by
  have hw : (decide (f < 4)) = true := hw
  simpa [w32, byte, s16, and_assoc] using hw
theorem tachSilence (f cur : Nat) : Statement (.tachSilence f cur) := fun hw =>
  show f < 4 by
  have hw : (decide (f < 4)) = true := hw
  simpa [w32, byte, s16, and_assoc] using hw
theorem tachlossCurrent (f cur ms : Nat) : Statement (.tachlossCurrent f cur ms) := fun hw =>
  show f < 4 by
  have hw : (decide (f < 4)) = true := hw
  simpa [w32, byte, s16, and_assoc] using hw
theorem retryWaitEnd (f : Nat) : Statement (.retryWaitEnd f) := fun hw =>
  show f < 4 by
  have hw : (decide (f < 4)) = true := hw
  simpa [w32, byte, s16, and_assoc] using hw
theorem fanShort (f cur : Nat) : Statement (.fanShort f cur) := fun hw =>
  show f < 4 by
  have hw : (decide (f < 4)) = true := hw
  simpa [w32, byte, s16, and_assoc] using hw
theorem fanClr (f : Nat) : Statement (.fanClr f) := fun hw =>
  show f < 4 by
  have hw : (decide (f < 4)) = true := hw
  simpa [w32, byte, s16, and_assoc] using hw
theorem panelOn : Statement (.panelOn) := by intro; trivial
theorem panelOff : Statement (.panelOff) := by intro; trivial
theorem flip : Statement (.flip) := by intro; trivial
theorem panelClr : Statement (.panelClr) := by intro; trivial
theorem panelFrameStart (vpan ipan : Nat) : Statement (.panelFrameStart vpan ipan) := by intro; trivial
theorem prechargeDone (vpan : Nat) : Statement (.prechargeDone vpan) := by intro; trivial
theorem dischargeDone : Statement (.dischargeDone) := by intro; trivial
theorem panelFault (cause ipan : Nat) : Statement (.panelFault cause ipan) := by intro; trivial
theorem update (mask : Nat) : Statement (.update mask) := fun hw =>
  show mask < 2 ^ 32 by
  have hw : (w32 mask) = true := hw
  simpa [w32, byte, s16, and_assoc] using hw
theorem clean (mask : Nat) : Statement (.clean mask) := fun hw =>
  show mask < 2 ^ 32 by
  have hw : (w32 mask) = true := hw
  simpa [w32, byte, s16, and_assoc] using hw
theorem cancel (mask : Nat) : Statement (.cancel mask) := fun hw =>
  show mask < 2 ^ 32 by
  have hw : (w32 mask) = true := hw
  simpa [w32, byte, s16, and_assoc] using hw
theorem labelFrameBoundary : Statement (.labelFrameBoundary) := by intro; trivial
theorem labelTempRead (t : Int) : Statement (.labelTempRead t) := by intro; trivial
theorem eventEmit (code : Nat) (ps : List Nat) : Statement (.eventEmit code ps) := fun hw =>
  show code < 2 ^ 16 ∧ ps.all w32 = true by
  have hw : (decide (code < 2 ^ 16) && ps.all w32) = true := hw
  simpa [w32, byte, s16, and_assoc] using hw
theorem recordWritten : Statement (.recordWritten) := by intro; trivial
theorem recordWriteRevoked (cause : Nat) : Statement (.recordWriteRevoked cause) := by intro; trivial
theorem logSearch : Statement (.logSearch) := by intro; trivial
theorem rdidx (i : Nat) : Statement (.rdidx i) := fun hw =>
  show i < 2 ^ 32 by
  have hw : (w32 i) = true := hw
  simpa [w32, byte, s16, and_assoc] using hw
theorem logClear (key role : Nat) : Statement (.logClear key role) := fun hw =>
  show key < 2 ^ 32 ∧ role < 4 by
  have hw : (w32 key && decide (role < 4)) = true := hw
  simpa [w32, byte, s16, and_assoc] using hw
theorem sectorErased : Statement (.sectorErased) := by intro; trivial
theorem hevgo (v : Nat) : Statement (.hevgo v) := fun hw =>
  show v < 2 ^ 32 by
  have hw : (w32 v) = true := hw
  simpa [w32, byte, s16, and_assoc] using hw
theorem optimeSave : Statement (.optimeSave) := by intro; trivial
theorem cycleStart : Statement (.cycleStart) := by intro; trivial
theorem frameArrival (frame : List Nat) : Statement (.frameArrival frame) := fun hw =>
  show frame.all byte = true by
  have hw : (frame.all byte) = true := hw
  simpa [w32, byte, s16, and_assoc] using hw
theorem masterEntryReceived : Statement (.masterEntryReceived) := by intro; trivial
theorem frameReturn (frame : List Nat) : Statement (.frameReturn frame) := fun hw =>
  show frame.all byte = true by
  have hw : (frame.all byte) = true := hw
  simpa [w32, byte, s16, and_assoc] using hw
theorem nodeFrameEnd : Statement (.nodeFrameEnd) := by intro; trivial
theorem slaveMiss : Statement (.slaveMiss) := by intro; trivial
theorem returnMiss : Statement (.returnMiss) := by intro; trivial
theorem txswap (v : Nat) : Statement (.txswap v) := fun hw =>
  show v < 2 ^ 32 by
  have hw : (w32 v) = true := hw
  simpa [w32, byte, s16, and_assoc] using hw
theorem linkTrained : Statement (.linkTrained) := by intro; trivial
theorem strapChange (v : Nat) : Statement (.strapChange v) := fun hw =>
  show v < 16 by
  have hw : (decide (v < 16)) = true := hw
  simpa [w32, byte, s16, and_assoc] using hw
theorem dqset (v : Nat) : Statement (.dqset v) := fun hw =>
  show v < 2 ^ 32 by
  have hw : (w32 v) = true := hw
  simpa [w32, byte, s16, and_assoc] using hw
theorem dqclr (v : Nat) : Statement (.dqclr v) := fun hw =>
  show v < 2 ^ 32 by
  have hw : (w32 v) = true := hw
  simpa [w32, byte, s16, and_assoc] using hw
theorem dqTrip (n i : Nat) : Statement (.dqTrip n i) := fun hw =>
  show n < 16 by
  have hw : (decide (n < 16)) = true := hw
  simpa [w32, byte, s16, and_assoc] using hw
theorem supplyLimit (b i ms : Nat) : Statement (.supplyLimit b i ms) := fun hw =>
  show b < 10 by
  have hw : (decide (b < 10)) = true := hw
  simpa [w32, byte, s16, and_assoc] using hw
theorem supplyRetry (b i ms : Nat) : Statement (.supplyRetry b i ms) := fun hw =>
  show b < 10 by
  have hw : (decide (b < 10)) = true := hw
  simpa [w32, byte, s16, and_assoc] using hw
theorem analogFlag (n : Nat) (val : Int) : Statement (.analogFlag n val) := fun hw =>
  show n < 16 by
  have hw : (decide (n < 16)) = true := hw
  simpa [w32, byte, s16, and_assoc] using hw
theorem diLevelChange (n : Nat) (high : Bool) (held : Nat) : Statement (.diLevelChange n high held) := fun hw =>
  show n < 32 by
  have hw : (decide (n < 32)) = true := hw
  simpa [w32, byte, s16, and_assoc] using hw
theorem sampleConversion (c : Nat) (x : Int) : Statement (.sampleConversion c x) := fun hw =>
  show c < 9 ∧ s16 x = true by
  have hw : (decide (c < 9) && s16 x) = true := hw
  simpa [w32, byte, s16, and_assoc] using hw
theorem syncError (p n : Nat) : Statement (.syncError p n) := fun hw =>
  show p < 3 by
  have hw : (decide (p < 3)) = true := hw
  simpa [w32, byte, s16, and_assoc] using hw
theorem triggerPulseEnd (p : Nat) : Statement (.triggerPulseEnd p) := fun hw =>
  show p < 3 by
  have hw : (decide (p < 3)) = true := hw
  simpa [w32, byte, s16, and_assoc] using hw
theorem timePulseEnd (p : Nat) : Statement (.timePulseEnd p) := fun hw =>
  show p < 2 by
  have hw : (decide (p < 2)) = true := hw
  simpa [w32, byte, s16, and_assoc] using hw
theorem dbaseSample : Statement (.dbaseSample) := by intro; trivial
theorem pwmOnTimeEnd (n : Nat) : Statement (.pwmOnTimeEnd n) := fun hw =>
  show n < 48 by
  have hw : (decide (n < 48)) = true := hw
  simpa [w32, byte, s16, and_assoc] using hw
theorem revisionIssue : Statement (.revisionIssue) := by intro; trivial
theorem canRxError (n lec : Nat) (eight : Bool) : Statement (.canRxError n lec eight) := fun hw =>
  show n < 6 ∧ lec < 8 by
  have hw : (decide (n < 6) && decide (lec < 8)) = true := hw
  simpa [w32, byte, s16, and_assoc] using hw
theorem addressAgeing (mac vid : Nat) : Statement (.addressAgeing mac vid) := by intro; trivial
theorem kaSupplyLoss : Statement (.kaSupplyLoss) := by intro; trivial
theorem logpwrRecheck (v : Nat) : Statement (.logpwrRecheck v) := by intro; trivial
theorem supplyNormal : Statement (.supplyNormal) := by intro; trivial

end Sys2Proof.Laws.Ranges
end

