-- ==== Sys2Proof/Laws/Rows.lean ====
section
/-!
SUPPORT. Register writes that are commands of their own.
-/
namespace Sys2Proof.Machine

/-- A write of YUL_TXSWAP is TXSWAP. -/
theorem State.rowWrite_txswap (v : Nat) (s : State) :
    s.rowWrite 0x40130030 v = some (.next (s.after (s.hostWrite YUL_TXSWAP_GO.addr State.yulTxSwap))) := by
  have h : addrBlock 0x40130030 = 0x13 := by decide
  have h2 : addrOff 0x40130030 = 0x30 := by decide
  simp [State.rowWrite, h, h2, execTxswap, State.ok_eq]

end Sys2Proof.Machine
end

