-- ==== Sys2Proof/Tests/Slice0.lean ====
section
/-!
SUPPORT. Tests. The expected results come from the spec: the rule or the worked example is named at each. First the smoke test of
well-formedness, then single commands and operations, then for each statement of Certificates/Slice0/Obligations.lean states and
operands that meet its hypotheses.
-/
open Sys2Proof Sys2Proof.Machine
set_option maxRecDepth 10000

/-- A state with every domain on, one second after AON came up, in which some fields have the given values. -/
def wOn (l : List (Fld × Nat)) : State :=
  l.foldl (fun (s : State) e => s.wr e.1 e.2) <| State.wr TSV_STAT_SLEVEL 0 <| State.wr TSV_STAT_GRPSS 0 { State.reset with now := 1000000000, mgr := { State.reset.mgr with on := 16383 } }

/-- The state that a command answers. -/
def Sys2Proof.Machine.State.outOf (s : State) (c : Instr) : State := match exec c s with | .next t => t | _ => s

theorem Sys2Proof.Machine.State.exec_outOf (s : State) (c : Instr) (h : ∃ t, exec c s = .next t) : exec c s = .next (s.outOf c) := by
  obtain ⟨t, h⟩ := h
  simp [State.outOf, h]

/-! ## Ill-formed commands, one for each check of WellFormed.lean -/

theorem test_ill_formed_0 : ([
    .registerWrite .host .read (2 ^ 32) 0 0, .registerWrite .host .read 0 0 (2 ^ 32), .registerWrite .host .read 0 5 0,
    .blockFaultDetected 20 0 none 0 none, .blockFaultDetected 0 256 none 0 none, .blockFaultDetected 0 0 (some 11) 0 none,
    .blockFaultDetected 0 0 none 256 none, .blockFaultDetected 0 0 none 0 (some 5), .fence 20, .blockHealthy 20,
    .powerGoodLost 14, .domainPowerGood 14, .domainPowerFail 14, .edgeAccepted 8 0 false, .edgeAccepted 0 16 false,
    .edgeDeadline 8, .failoverReturn 8, .tbiWireBreak 16 false 0, .gnssRecordMissing 8, .yulisUpdateMissing 8, .preset 8 0,
    .preset 0 (2 ^ 32), .snap (2 ^ 32), .phaseRead 8] : List Instr).all (fun i => !i.wf) = true := by decide

theorem test_ill_formed_1 : ([
    .plausibilityWindow 8, .post 4, .retime 4, .revoke 4, .flush 4, .eventFire [256], .carRetrdWrite (2 ^ 32),
    .windowMaxlen 16, .nlreset (2 ^ 32), .moistureAverage (2 ^ 16) 0, .moistureAverage 0 32768, .lossSensorFault 8 0,
    .plateBridgeFault 4, .hsnRingReadWrite 2 0, .hsnRingReadWrite 0 (2 ^ 32), .portSynchronised 3, .frameStart 3,
    .frameEnd 3 [], .frameEnd 0 [[4096]], .frameTimeout 3 [], .frameTimeout 0 [[4096]], .pixelClockLost 3 [],
    .pixelClockLost 0 [[4096]], .pixelClockReturn 3] : List Instr).all (fun i => !i.wf) = true := by decide

theorem test_ill_formed_2 : ([
    .triggerMissed 3, .visRingReadWrite (2 ^ 32), .timerTrigger 96, .swtrig 96, .sampleTimeout 96, .arm 48, .disarm 48,
    .slotOff 96, .slotMan 96, .slotAuto 96, .resetIntegrator 96, .release 96, .xfbWrite 96 0, .xfbWrite 0 (2 ^ 32),
    .actuatorFault false 48 0, .actuatorFault false 0 16, .cenRingReadWrite (2 ^ 32), .rowclr 512, .solOn 24, .solOff 24,
    .solClr 24 false false, .groupClr 6, .isetWrite 24 0, .isetWrite 0 (2 ^ 32)] : List Instr).all (fun i => !i.wf) = true := by decide

theorem test_ill_formed_3 : ([
    .solDutyWrite 24 0, .solDutyWrite 0 (2 ^ 32), .peakStart 24, .peakEnd 24, .peakNotReached 24 0, .nozzleCycleStart 24,
    .nozzleOnEnd 24, .decayEnd 24, .solShort 24 0, .groupShort 6 0, .solOpenLoad 24 0, .solOpenLoadOff 24,
    .solDriverOvertemp 24 0, .solDriverOvertemp 0 32768, .lswOn 48, .lswOff 48, .lswClr 48 false false, .lswDutyWrite 48 0,
    .lswDutyWrite 0 (2 ^ 32), .pwmPeriodStart 48, .i2tTrip 48 0, .shortTrip 48 0, .inrushEnd 48, .limitTrip 48] : List Instr).all (fun i => !i.wf) = true := by decide

theorem test_ill_formed_4 : ([
    .bankUndervoltage 2 0, .bankRecovered 2 0, .bankCurrentHigh 2 0, .junctionOvertemp 48 0, .junctionOvertemp 0 32768,
    .junctionSensorFail 48, .lswOpenLoad 48 0, .lswOpenLoadOff 48 0, .stuck 48 0, .noton 48 0, .signalDetected 184,
    .phaseLock 184, .pullinTimeout 184, .trackLoss 184 0 0, .reacqTimeout 184, .timeSolution 0 0 0 0 65536 0 0 0 0 0 0,
    .timeSolution 0 0 0 0 0 604800 0 0 0 0 0, .timeSolution 0 0 0 0 0 0 1000000001 0 0 0 0, .antennaOpen 2 0,
    .antennaShort 2 0, .antennaRetry 2 0, .interference 4 false, .gnsRingReadWrite (2 ^ 32), .imuSample 16 false []] : List Instr).all (fun i => !i.wf) = true := by decide

theorem test_ill_formed_5 : ([
    .imuSample 0 false [4294967296], .internalSample 16, .push 4, .streamStale 16, .calsnap (2 ^ 32), .calreset (2 ^ 32),
    .fusRingReadWrite (2 ^ 32), .canTxReq 6 0, .canTxReq 0 3, .canTxCancel 6 0, .canTxCancel 0 3, .canTxArbitration 6,
    .canTxDone 6, .canTxError 6 0 false false 0, .canTxError 0 8 false false 0, .busOffRecovered 6, .recover 6,
    .canRxFrame 6 {} false 0, .rxpop 6 0, .rxpop 0 2, .messageTimeout 6 0, .messageTimeout 0 128, .addressClaim 6, .lmtxgo 6] : List Instr).all (fun i => !i.wf) = true := by decide

theorem test_ill_formed_6 : ([
    .longMessageEnd 6 false 0, .longMessageRx 6 (.aborted 0 0 0), .canRingReadWrite 6 0, .canRingReadWrite 0 (2 ^ 32),
    .ethFrameRx 7 [] false, .ethFrameRx 0 [256] false, .linkChange 6 false 0, .linkChange 0 false 256,
    .ethRingIndexWrite false (2 ^ 32), .handshakeComplete 64 ⟨0, 0, 0, 0, 0, false, false, false⟩,
    .authenticationFailed 64 0, .connectTimeout 64, .sessionTimeout 64, .backoffEnd 64, .ping 64,
    .fleetMessageRx 64 0 0 0 [], .fleetMessageRx 0 0 0 0 [256], .fltRingReadWrite (2 ^ 32), .genkey 8 0, .genkey 0 4,
    .csr 8 0, .csr 0 4, .erase 8 0, .erase 0 4] : List Instr).all (fun i => !i.wf) = true := by decide

theorem test_ill_formed_7 : ([
    .readParam 8 0 0 none {}, .readParam 0 65536 0 none {}, .readParam 0 0 0 (some 8) {},
    .readParam 0 0 0 none { data := [256] }, .readeff 8 0 0 none {}, .readeff 0 65536 0 none {}, .readeff 0 0 0 (some 8) {},
    .readeff 0 0 0 none { data := [256] }, .writeParam 8 0 0 none {}, .writeParam 0 65536 0 none {},
    .writeParam 0 0 0 (some 8) {}, .writeParam 0 0 0 none { data := [256] }, .commit 8 0 0 none {},
    .commit 0 65536 0 none {}, .commit 0 0 0 (some 8) {}, .commit 0 0 0 none { data := [256] }, .abortGroup 8 0 0 none {},
    .abortGroup 0 65536 0 none {}, .abortGroup 0 0 0 (some 8) {}, .abortGroup 0 0 0 none { data := [256] },
    .storeParams 8 0 0 none {}, .storeParams 0 65536 0 none {}, .storeParams 0 0 0 (some 8) {},
    .storeParams 0 0 0 none { data := [256] }] : List Instr).all (fun i => !i.wf) = true := by decide

theorem test_ill_formed_8 : ([
    .info 8 0 0 none {}, .info 0 65536 0 none {}, .info 0 0 0 (some 8) {}, .info 0 0 0 none { data := [256] },
    .restoreDefaults 8 0 0 none {}, .restoreDefaults 0 65536 0 none {}, .restoreDefaults 0 0 0 (some 8) {},
    .restoreDefaults 0 0 0 none { data := [256] }, .savedef 8 0 0 none {}, .savedef 0 65536 0 none {},
    .savedef 0 0 0 (some 8) {}, .savedef 0 0 0 none { data := [256] }, .login 8 0 0 none {}, .login 0 65536 0 none {},
    .login 0 0 0 (some 8) {}, .login 0 0 0 none { data := [256] }, .logout 8 0 0 none {}, .logout 0 65536 0 none {},
    .logout 0 0 0 (some 8) {}, .logout 0 0 0 none { data := [256] }, .listParams 8 0 0 none {},
    .listParams 0 65536 0 none {}, .listParams 0 0 0 (some 8) {}, .listParams 0 0 0 none { data := [256] }] : List Instr).all (fun i => !i.wf) = true := by decide

theorem test_ill_formed_9 : ([
    .unknownOp 8 0 0 none {}, .unknownOp 0 65536 0 none {}, .unknownOp 0 0 0 (some 8) {},
    .unknownOp 0 0 0 none { data := [256] }, .clockFault 16, .eccError 64 0 0 false, .eccError 0 0 (2 ^ 32) false,
    .wdkick 4 0, .wdkick 0 (2 ^ 32), .watchdogExpiry 4, .attach (2 ^ 32), .ssreq (2 ^ 32), .rstreq (2 ^ 32),
    .supervisorResetCommand (2 ^ 32) 0, .supervisorResetCommand 0 4, .coldStartCommand (2 ^ 32) 0, .coldStartCommand 0 4,
    .orphanExpiry 8, .leaseRequest 5 0, .leaseRequest 0 20, .leaseReturn 5 0 false, .leaseReturn 0 20 false, .leaseExpiry 5,
    .leaseRevoke 5 0 none] : List Instr).all (fun i => !i.wf) = true := by decide

theorem test_ill_formed_10 : ([
    .leaseRevoke 0 6 none, .rollbackComplete 5, .bootok (2 ^ 32), .sleep (2 ^ 32), .hack (2 ^ 32), .kickTimeout 4 0,
    .fanRunning 4 0, .tachSilence 4 0, .tachlossCurrent 4 0 0, .retryWaitEnd 4, .fanShort 4 0, .fanClr 4, .update (2 ^ 32),
    .clean (2 ^ 32), .cancel (2 ^ 32), .eventEmit (2 ^ 16) [], .rdidx (2 ^ 32), .logClear (2 ^ 32) 0, .logClear 0 4,
    .hevgo (2 ^ 32), .frameArrival [256], .frameReturn [256], .txswap (2 ^ 32), .strapChange 16] : List Instr).all (fun i => !i.wf) = true := by decide

theorem test_ill_formed_11 : ([
    .dqset (2 ^ 32), .dqclr (2 ^ 32), .dqTrip 16 0, .supplyLimit 10 0 0, .supplyRetry 10 0 0, .analogFlag 16 0,
    .diLevelChange 32 false 0, .sampleConversion 9 0, .sampleConversion 0 32768, .syncError 3 0, .triggerPulseEnd 3,
    .timePulseEnd 2, .pwmOnTimeEnd 48, .canRxError 6 0 false, .canRxError 0 8 false,
    .measurementEpoch [⟨8, 0, 0⟩] [] ⟨0, 0, false, 0, 0, 0, 0, 0, false, 0, 0, 0, 0⟩,
    .measurementEpoch [] [⟨184, 0, 0, 0, 0, 0, false, false, 0, 0, 0⟩] ⟨0, 0, false, 0, 0, 0, 0, 0, false, 0, 0, 0, 0⟩,
    .canRxFrame 0 { id := 2048 } false 0, .canRxFrame 0 { ide := true, id := 536870912 } false 0,
    .canRxFrame 0 { dlc := 16 } false 0, .canRxFrame 0 { data := List.replicate 65 0 } false 0,
    .canRxFrame 0 { data := [256] } false 0, .ptpSync (some ⟨0, 0, 0, false, 0, 7, 0⟩) [], .leaseRevoke 0 1 (some 20)] : List Instr).all (fun i => !i.wf) = true := by decide

theorem test_ill_formed_12 : ([
    .housekeepingRound ⟨[], 0, 0, 0, 0, 0, 0, false, [(0, 0), (0, 0), (0, 0), (0, 0)]⟩,
    .housekeepingRound ⟨List.replicate 23 0, 0, 0, 0, 0, 0, 0, false, []⟩, .eventEmit 0 [4294967296]] : List Instr).all (fun i => !i.wf) = true := by decide

/-! ## Operations and single commands -/

/-- Chapter 00, SYS_IDENT: an HRT-960-X of hardware revision 1.0 reads 0x9601_1000. -/
theorem test_ident_extended : (State.reset.wr SYS_IDENT_GRADE 1).regWord 0x40000000 = 0x96011000 := by decide

/-- R4: an 8-bit access, and R5: an access above the windows, are answered with a bus error. -/
theorem test_bus_errors :
    ((wOn []).outOf (.registerWrite .host .read 0x40030000 1 0)).bus = { done := true, error := true } ∧
    ((wOn []).outOf (.registerWrite .host .write 0x40140000 4 0)).bus = { done := true, error := true } := by decide

/-- R5: a read of an offset that no chapter assigns returns 0 without a bus error. -/
theorem test_unassigned_reads_zero : ((wOn []).outOf (.registerWrite .host .read 0x4003FFF0 4 0)).bus = { done := true, data := 0 } := by
  decide

/-- R28: a read of a block whose domain is off returns 0 and emits EV 0x0010. -/
theorem test_domain_off_read :
    let t := State.reset.outOf (.registerWrite .host .read 0x40030000 4 0)
    t.bus = { done := true, data := 0 } ∧ t.evr.queue.map (fun e => e.ent.code) = [0x0010] := by decide

/-- R9: with nothing waiting, module time advances by 5 ns. -/
theorem test_tick : step State.reset = .next { State.reset with now := 5 } := rfl

/-- R13: shortly after the wrap a phase compares above one shortly before it. -/
theorem test_phase_wraps : phaseDiff 3 0xFFFFFFFE = 5 ∧ phaseDiff 0xFFFFFFFE 3 = -5 := by decide

/-- R458, its example: EV 0x0204 is stored as P0 base, P1 shifted and kept, P2 skipped and fired late; 16-bit values saturate. -/
theorem test_event_parameters_packed : packParams [3, 1, 2, 4, 70000] = [3, 0x00010002, 0x0004FFFF, 0] := by decide

/-- The check value of CRC-32 (R456) over the characters 1 to 9. -/
theorem test_crc32 : crc32 [0x31, 0x32, 0x33, 0x34, 0x35, 0x36, 0x37, 0x38, 0x39] = 0xCBF43926 := by decide

/-- R394: SAF is no domain that the host may reset; SOL is. -/
theorem test_reset_requests : resetRequest 0x2002A77A = none ∧ resetRequest 0x200DA77A = some ⟨3, 13, 1, 0xF, false⟩ := by decide

/-- R397: Tocsin is served before PDS and EVR, which asked earlier. -/
theorem test_tocsin_first :
    let s := (((wOn []).requestLease 0 0x12).requestLease 0 0x11).requestLease 0 0x01
    s.holds 0 0x12 = true ∧ (s.returnLease 0 0x12).holds 0 0x01 = true ∧
    ((s.returnLease 0 0x12).returnLease 0 0x01).holds 0 0x11 = true := by decide

/-- R250: a channel with TWIN other than 0 goes from OFF to INRUSH. -/
theorem test_ls_inrush :
    ((wOn [(LSW_CHCFG_MODE 3, 1), (LSW_CHCFG_PROF 3, 2), (LSW_PTIM_TWIN 2, 50)]).outOf (.lswOn 3)).rd (LSW_CHSTAT_STATE 3) = 1 := by
  decide

/-- R248: at ISC of class L, 16 A, the channel trips: FAULT with cause 1. -/
theorem test_ls_short :
    let t := (wOn [(LSW_CHSTAT_STATE 47, 2)]).outOf (.shortTrip 47 1600)
    t.rd (LSW_CHSTAT_STATE 47) = 3 ∧ t.rd (LSW_CHSTAT_CAUSE 47) = 1 := by decide

/-- Table 0.4, W1C: a flag that is set in the cycle of the clearing write stays set; one set earlier is cleared. -/
theorem test_w1c_same_cycle :
    let s := (wOn []).setFlag LSW_INTSTAT_TRIP
    (s.clearFlags LSW_INTSTAT_TRIP (2 ^ LSW_INTSTAT_TRIP.lo)).rd LSW_INTSTAT_TRIP = 1 ∧
    (State.clearFlags LSW_INTSTAT_TRIP (2 ^ LSW_INTSTAT_TRIP.lo) { s with now := s.now + 5 }).rd LSW_INTSTAT_TRIP = 0 := by decide

/-- Table 1.2: with SAF on nothing is left on that requires RT once RT is off. -/
theorem test_domains_close : closeOn 0x3FEF = 0x1F0F := by decide


/-! ## The hypotheses of the statements can be met -/

/-- The hypotheses of EmptyQueueIsATick can be met. -/
theorem test_witness_EmptyQueueIsATick :
    (∃ (s : State), s.pending = [] ∧ s.domOn 1 = true ∧ s.tbs.seek = [] ∧ s.tsv.attaches = [] ∧ s.thm.due = false) ∧
    (∃ (s : State), s.pending = [] ∧ s.domOn 1 = true ∧ s.tbs.seek ≠ [] ∧ s.tsv.attaches = [] ∧ s.thm.due = false) ∧
    (∃ (s : State) (u : State), s.pending = [] ∧ s.domOn 1 = true ∧ (s.tsv.attaches ≠ [] ∨ s.thm.due = true) ∧
      u = s.after s.lastly) ∧
    (∃ (s : State), s.pending = [] ∧ s.domOn 1 = false) :=
  ⟨⟨wOn [], by decide, by decide, by decide, by decide, by decide⟩,
    ⟨{ wOn [] with tbs := { State.reset.tbs with seek := [3] } }, by decide, by decide, by decide, by decide, by decide⟩,
    ⟨{ wOn [] with thm := { (wOn []).thm with due := true } }, State.after { wOn [] with thm := { (wOn []).thm with due := true } } (State.lastly { wOn [] with thm := { (wOn []).thm with due := true } }), rfl, by decide, by decide, rfl⟩,
    ⟨{ State.reset with mgr := { State.reset.mgr with on := 1 } }, by decide, by decide⟩⟩

/-- The hypotheses of EveryStepKeepsInvariant can be met. -/
theorem test_witness_EveryStepKeepsInvariant :
    (∃ (s : State) (t : State), s.inv ∧ step s = .next t) :=
  ⟨State.reset, { State.reset with now := 5 }, ⟨by decide, by decide, rfl⟩, rfl⟩

/-- The hypotheses of OnlyManagersSwitchDomains can be met. -/
theorem test_witness_OnlyManagersSwitchDomains :
    (∃ (s : State) (c : Instr), switchesDomains c = false) :=
  ⟨wOn [], .lswOn 3, by decide⟩

/-- The hypotheses of LeasesAreGrantedInOrder can be met. -/
theorem test_witness_LeasesAreGrantedInOrder :
    (∃ (s : State) (r h : Nat), ((leaseHolders r).contains h = false ∨ (s.lease r).barred.contains h = true)) ∧
    (∃ (s : State) (r h : Nat), (leaseHolders r).contains h = true ∧ (s.lease r).barred.contains h = false ∧
      s.holds r h = true) ∧
    (∃ (s : State) (r h : Nat), (leaseHolders r).contains h = true ∧ (s.lease r).barred.contains h = false ∧
      (s.lease r).state = 0 ∧ (s.lease r).waiting = [] ∧ (s.lease r).recover = none ∧ (r = 4 → s.rd TSV_STAT_SLEVEL ≠ 3)) ∧
    (∃ (s : State) (h : Nat), (leaseHolders 4).contains h = true ∧ (s.lease 4).state = 0 ∧ s.rd TSV_STAT_SLEVEL = 3) ∧
    (∃ (s : State) (r h : Nat), (leaseHolders r).contains h = true ∧ (s.lease r).barred.contains h = false ∧
      (s.lease r).state = 1 ∧ (s.lease r).owner ≠ h ∧ (s.lease r).waiting.contains h = false) ∧
    (∃ (s : State) (r h : Nat), s.holds r h = true ∧ (s.lease r).waiting = [] ∧ (s.lease r).recover = none) ∧
    (∃ (s : State) (r h : Nat), s.holds r h = true ∧ (r = 4 → s.rd TSV_STAT_SLEVEL ≠ 3) ∧ (s.lease r).recover = none ∧
      (s.lease r).waiting.contains 1 = true) ∧
    (∃ (s : State) (r h k : Nat) (q : List Nat), s.holds r h = true ∧ (r = 4 → s.rd TSV_STAT_SLEVEL ≠ 3) ∧
      (s.lease r).recover = none ∧ (s.lease r).waiting = k :: q ∧ (s.lease r).waiting.contains 1 = false) :=
  ⟨⟨wOn [], 4, 1, by decide⟩,
    ⟨(wOn []).setLease 0 { state := 1, owner := 18, expiry := 5 }, 0, 18, by decide⟩,
    ⟨wOn [], 4, 10, by decide⟩,
    ⟨wOn [(TSV_STAT_SLEVEL, 3)], 10, by decide⟩,
    ⟨(wOn []).setLease 0 { state := 1, owner := 18, expiry := 5, waiting := [1] }, 0, 17, by decide⟩,
    ⟨(wOn []).setLease 3 { state := 1, owner := 19 }, 3, 19, by decide⟩,
    ⟨(wOn []).setLease 0 { state := 1, owner := 18, waiting := [17, 1] }, 0, 18, by decide⟩,
    ⟨(wOn []).setLease 0 { state := 1, owner := 18, waiting := [17] }, 0, 18, 17, [], by decide⟩⟩

/-- The hypotheses of ResetRequestsAreKeyedAndLimited can be met. -/
theorem test_witness_ResetRequestsAreKeyedAndLimited :
    (∃ (s : State) (v : Nat), s.open TSV_RSTREQ_KEY.addr = true ∧ v % 65536 = 0xA77A ∧ v / 2 ^ 28 % 16 = 1 ∧
      v / 2 ^ 16 % 256 < 20 ∧ v / 2 ^ 16 % 256 ∉ [0x00, 0x01, 0x0F, 0x12, 0x11]) ∧
    (∃ (s : State) (v : Nat), s.open TSV_RSTREQ_KEY.addr = true ∧ v % 65536 = 0xA77A ∧ v / 2 ^ 28 % 16 = 2 ∧
      v / 2 ^ 16 % 256 ∈ [4, 5, 6, 7, 8, 9, 10, 13]) ∧
    (∃ (s : State) (v : Nat), s.open TSV_RSTREQ_KEY.addr = true ∧ v % 65536 = 0xA77A ∧ v / 2 ^ 28 % 16 = 3) ∧
    (∃ (s : State) (v : Nat), s.open TSV_RSTREQ_KEY.addr = true ∧
      (¬ (v % 65536 = 0xA77A ∧ (v / 2 ^ 28 % 16 = 1 ∧ v / 2 ^ 16 % 256 < 20 ∧ v / 2 ^ 16 % 256 ∉ [0x00, 0x01, 0x0F, 0x12,
      0x11] ∨ v / 2 ^ 28 % 16 = 2 ∧ v / 2 ^ 16 % 256 ∈ [4, 5, 6, 7, 8, 9, 10, 13] ∨ v / 2 ^ 28 % 16 = 3)))) ∧
    (∃ (s : State) (o : ResetOrder), s.tsv.orders.contains o = false) ∧
    (∃ (v : Nat) (o : ResetOrder), resetRequest v = some o ∧ o.kind = 3) :=
  ⟨⟨wOn [], 0x1013A77A, by decide⟩,
    ⟨wOn [], 0x200DA77A, by decide⟩,
    ⟨wOn [], 0x3000A77A, by decide⟩,
    ⟨wOn [], 0x2000A77A, by decide⟩,
    ⟨wOn [], ⟨3, 3, 1, 0xF, false⟩, by decide⟩,
    ⟨0x3000A77A, ⟨3, 3, 1, 0xF, false⟩, by decide⟩⟩

/-- The hypotheses of AccessCodesRule can be met. -/
theorem test_witness_AccessCodesRule :
    (∃ (s : State) (f : Fld) (w : Nat), f.acc = .rw) ∧
    (∃ (s : State) (f : Fld) (w : Nat), (f.acc = .ro ∨ f.acc = .wo ∨ f.acc = .ws)) ∧
    (∃ (s : State) (f : Fld) (w : Nat), f.acc = .w1c ∧ f.wid ≤ 32) ∧
    (∃ (s : State) (f : Fld) (v : Nat), f.acc = .rws) ∧
    (∃ (s : State) (f : Fld), (f.acc = .wo ∨ f.acc = .ws)) ∧
    (∃ (s : State) (f : Fld), (f.acc = .ro ∨ f.acc = .w1c)) ∧
    (∃ (s : State) (f g : Fld) (w : Nat), f.key ≠ g.key) :=
  ⟨⟨wOn [], TBS_INTEN_IEN, 255, by decide⟩,
    ⟨wOn [], TBS_GSTAT_STATE, 255, by decide⟩,
    ⟨(wOn []).setFlag LSW_INTSTAT_TRIP, LSW_INTSTAT_TRIP, 255, by decide⟩,
    ⟨wOn [], TBS_CFG_SRC 0, 3, by decide⟩,
    ⟨wOn [], TBS_SNAP_SNAP, by decide⟩,
    ⟨wOn [], TBS_GSTAT_STATE, by decide⟩,
    ⟨wOn [], TBS_CFG_SRC 0, TBS_CFG_SRC 1, 3, by decide⟩⟩

/-- The hypotheses of LoadSwitchCommandsStayInTheirBlock can be met. -/
theorem test_witness_LoadSwitchCommandsStayInTheirBlock :
    (∃ (s : State) (n : Nat) (t : State), s.quiet = true ∧ exec (.lswOn n) s = .next t) ∧
    (∃ (s : State) (n : Nat) (t : State), s.quiet = true ∧ exec (.lswOff n) s = .next t) ∧
    (∃ (s : State) (n duty : Nat) (t : State), s.quiet = true ∧ exec (.lswDutyWrite n duty) s = .next t) ∧
    (∃ (s : State) (n : Nat) (t : State), s.quiet = true ∧ exec (.pwmPeriodStart n) s = .next t) ∧
    (∃ (s : State) (n : Nat) (t : State), s.quiet = true ∧ exec (.pwmOnTimeEnd n) s = .next t) ∧
    (∃ (s : State) (n : Nat) (t : State), s.quiet = true ∧ exec (.inrushEnd n) s = .next t) ∧
    (∃ (s : State) (b v : Nat) (t : State), s.quiet = true ∧ exec (.bankRecovered b v) s = .next t) ∧
    (∃ (s : State) (b i : Nat) (t : State), s.quiet = true ∧ exec (.bankCurrentHigh b i) s = .next t) ∧
    (∃ (s : State) (n v : Nat) (t : State), s.quiet = true ∧ exec (.lswOpenLoadOff n v) s = .next t) ∧
    (∃ (s : State) (n : Nat) (t : State), s.quiet = true ∧ s.on (LSW_CHSTAT_CLAIM n) = false ∧
      exec (.limitTrip n) s = .next t) ∧
    (∃ (s : State) (n i : Nat) (t : State), s.quiet = true ∧ s.on (LSW_CHSTAT_CLAIM n) = false ∧
      exec (.i2tTrip n i) s = .next t) ∧
    (∃ (s : State) (n i : Nat) (t : State), s.quiet = true ∧ s.on (LSW_CHSTAT_CLAIM n) = false ∧
      exec (.shortTrip n i) s = .next t) ∧
    (∃ (s : State) (n : Nat) (tj : Int) (t : State), s.quiet = true ∧ s.on (LSW_CHSTAT_CLAIM n) = false ∧
      exec (.junctionOvertemp n tj) s = .next t) ∧
    (∃ (s : State) (n : Nat) (t : State), s.quiet = true ∧ s.on (LSW_CHSTAT_CLAIM n) = false ∧
      exec (.junctionSensorFail n) s = .next t) ∧
    (∃ (s : State) (n i : Nat) (t : State), s.quiet = true ∧ s.on (LSW_CHSTAT_CLAIM n) = false ∧
      exec (.lswOpenLoad n i) s = .next t) ∧
    (∃ (s : State) (n v : Nat) (t : State), s.quiet = true ∧ s.on (LSW_CHSTAT_CLAIM n) = false ∧
      exec (.noton n v) s = .next t) ∧
    (∃ (s : State) (n : Nat) (below plausible : Bool) (t : State), s.quiet = true ∧
      exec (.lswClr n below plausible) s = .next t) :=
  ⟨⟨wOn [(LSW_CHCFG_MODE 3, 1)], 3, (wOn [(LSW_CHCFG_MODE 3, 1)]).outOf (.lswOn 3), by decide, State.exec_outOf _ _ ⟨_, rfl⟩⟩,
    ⟨wOn [(LSW_CHCFG_MODE 3, 1)], 3, (wOn [(LSW_CHCFG_MODE 3, 1)]).outOf (.lswOff 3), by decide, State.exec_outOf _ _ ⟨_, rfl⟩⟩,
    ⟨wOn [], 3, 9, (wOn []).outOf (.lswDutyWrite 3 9), by decide, State.exec_outOf _ _ ⟨_, rfl⟩⟩,
    ⟨wOn [(LSW_CHSTAT_STATE 3, 1)], 3, (wOn [(LSW_CHSTAT_STATE 3, 1)]).outOf (.pwmPeriodStart 3), by decide, State.exec_outOf _ _ ⟨_, rfl⟩⟩,
    ⟨wOn [(LSW_CHSTAT_STATE 3, 1)], 3, (wOn [(LSW_CHSTAT_STATE 3, 1)]).outOf (.pwmOnTimeEnd 3), by decide, State.exec_outOf _ _ ⟨_, rfl⟩⟩,
    ⟨wOn [(LSW_CHSTAT_STATE 3, 1)], 3, (wOn [(LSW_CHSTAT_STATE 3, 1)]).outOf (.inrushEnd 3), by decide, State.exec_outOf _ _ ⟨_, rfl⟩⟩,
    ⟨wOn [(LSW_BSTAT_UV 1, 1)], 1, 701, (wOn [(LSW_BSTAT_UV 1, 1)]).outOf (.bankRecovered 1 701), by decide, State.exec_outOf _ _ ⟨_, rfl⟩⟩,
    ⟨wOn [], 1, 99999, (wOn []).outOf (.bankCurrentHigh 1 99999), by decide, State.exec_outOf _ _ ⟨_, rfl⟩⟩,
    ⟨wOn [(LSW_CHCFG_DIAGEN 3, 1)], 3, 351, (wOn [(LSW_CHCFG_DIAGEN 3, 1)]).outOf (.lswOpenLoadOff 3 351), by decide, State.exec_outOf _ _ ⟨_, rfl⟩⟩,
    ⟨wOn [(LSW_CHSTAT_STATE 3, 1)], 3, (wOn [(LSW_CHSTAT_STATE 3, 1)]).outOf (.limitTrip 3), by decide, by decide, State.exec_outOf _ _ ⟨_, rfl⟩⟩,
    ⟨wOn [(LSW_CHSTAT_STATE 3, 2)], 3, 25000, (wOn [(LSW_CHSTAT_STATE 3, 2)]).outOf (.i2tTrip 3 25000), by decide, by decide, State.exec_outOf _ _ ⟨_, rfl⟩⟩,
    ⟨wOn [(LSW_CHSTAT_STATE 47, 2)], 47, 1600, (wOn [(LSW_CHSTAT_STATE 47, 2)]).outOf (.shortTrip 47 1600), by decide, by decide, State.exec_outOf _ _ ⟨_, rfl⟩⟩,
    ⟨wOn [], 3, 1500, (wOn []).outOf (.junctionOvertemp 3 1500), by decide, by decide, State.exec_outOf _ _ ⟨_, rfl⟩⟩,
    ⟨wOn [], 3, (wOn []).outOf (.junctionSensorFail 3), by decide, by decide, State.exec_outOf _ _ ⟨_, rfl⟩⟩,
    ⟨wOn [(LSW_CHSTAT_STATE 3, 2), (LSW_CHOL_OLTHR 3, 100), (LSW_CHCFG_OLACT 3, 1)], 3, 5, (wOn [(LSW_CHSTAT_STATE 3, 2), (LSW_CHOL_OLTHR 3, 100), (LSW_CHCFG_OLACT 3, 1)]).outOf (.lswOpenLoad 3 5), by decide, by decide, State.exec_outOf _ _ ⟨_, rfl⟩⟩,
    ⟨wOn [(LSW_CHSTAT_STATE 3, 2)], 3, 599, (wOn [(LSW_CHSTAT_STATE 3, 2)]).outOf (.noton 3 599), by decide, by decide, State.exec_outOf _ _ ⟨_, rfl⟩⟩,
    ⟨wOn [(LSW_CHSTAT_STATE 3, 3), (LSW_CHSTAT_CAUSE 3, 8)], 3, true, true, (wOn [(LSW_CHSTAT_STATE 3, 3), (LSW_CHSTAT_CAUSE 3, 8)]).outOf (.lswClr 3 (true) (true)), by decide, State.exec_outOf _ _ ⟨_, rfl⟩⟩⟩

/-- The hypotheses of SolenoidCommandsStayInTheirBlock can be met. -/
theorem test_witness_SolenoidCommandsStayInTheirBlock :
    (∃ (s : State) (n : Nat) (t : State), s.quiet = true ∧ exec (.solOn n) s = .next t) ∧
    (∃ (s : State) (n : Nat) (t : State), s.quiet = true ∧ exec (.solOff n) s = .next t) ∧
    (∃ (s : State) (n : Nat) (t : State), s.quiet = true ∧ exec (.peakStart n) s = .next t) ∧
    (∃ (s : State) (n : Nat) (t : State), s.quiet = true ∧ exec (.peakEnd n) s = .next t) ∧
    (∃ (s : State) (n : Nat) (t : State), s.quiet = true ∧ exec (.nozzleCycleStart n) s = .next t) ∧
    (∃ (s : State) (n : Nat) (t : State), s.quiet = true ∧ exec (.nozzleOnEnd n) s = .next t) ∧
    (∃ (s : State) (n : Nat) (t : State), s.quiet = true ∧ exec (.decayEnd n) s = .next t) ∧
    (∃ (s : State) (n v : Nat) (t : State), s.quiet = true ∧ exec (.isetWrite n v) s = .next t) ∧
    (∃ (s : State) (n duty : Nat) (t : State), s.quiet = true ∧ exec (.solDutyWrite n duty) s = .next t) :=
  ⟨⟨wOn [(SOL_CHCFG_MODE 3, 1)], 3, (wOn [(SOL_CHCFG_MODE 3, 1)]).outOf (.solOn 3), by decide, State.exec_outOf _ _ ⟨_, rfl⟩⟩,
    ⟨wOn [(SOL_CHCFG_MODE 3, 1)], 3, (wOn [(SOL_CHCFG_MODE 3, 1)]).outOf (.solOff 3), by decide, State.exec_outOf _ _ ⟨_, rfl⟩⟩,
    ⟨wOn [(SOL_CHCFG_MODE 3, 1)], 3, (wOn [(SOL_CHCFG_MODE 3, 1)]).outOf (.peakStart 3), by decide, State.exec_outOf _ _ ⟨_, rfl⟩⟩,
    ⟨wOn [(SOL_CHCFG_MODE 3, 1)], 3, (wOn [(SOL_CHCFG_MODE 3, 1)]).outOf (.peakEnd 3), by decide, State.exec_outOf _ _ ⟨_, rfl⟩⟩,
    ⟨wOn [(SOL_CHCFG_MODE 3, 1)], 3, (wOn [(SOL_CHCFG_MODE 3, 1)]).outOf (.nozzleCycleStart 3), by decide, State.exec_outOf _ _ ⟨_, rfl⟩⟩,
    ⟨wOn [(SOL_CHCFG_MODE 3, 1)], 3, (wOn [(SOL_CHCFG_MODE 3, 1)]).outOf (.nozzleOnEnd 3), by decide, State.exec_outOf _ _ ⟨_, rfl⟩⟩,
    ⟨wOn [(SOL_CHCFG_MODE 3, 1)], 3, (wOn [(SOL_CHCFG_MODE 3, 1)]).outOf (.decayEnd 3), by decide, State.exec_outOf _ _ ⟨_, rfl⟩⟩,
    ⟨wOn [], 3, 9, (wOn []).outOf (.isetWrite 3 9), by decide, State.exec_outOf _ _ ⟨_, rfl⟩⟩,
    ⟨wOn [], 3, 9, (wOn []).outOf (.solDutyWrite 3 9), by decide, State.exec_outOf _ _ ⟨_, rfl⟩⟩⟩

/-- The hypotheses of NetworkCommandsStayInTheirBlock can be met. -/
theorem test_witness_NetworkCommandsStayInTheirBlock :
    (∃ (s : State) (n b : Nat) (t : State), s.quiet = true ∧ exec (.canTxReq n b) s = .next t) ∧
    (∃ (s : State) (n b : Nat) (t : State), s.quiet = true ∧ exec (.canTxCancel n b) s = .next t) ∧
    (∃ (s : State) (n : Nat) (t : State), s.quiet = true ∧ exec (.canTxArbitration n) s = .next t) ∧
    (∃ (s : State) (n : Nat) (t : State), s.quiet = true ∧ exec (.canTxDone n) s = .next t) ∧
    (∃ (s : State) (n : Nat) (t : State), s.quiet = true ∧ exec (.busOffRecovered n) s = .next t) ∧
    (∃ (s : State) (n : Nat) (t : State), s.quiet = true ∧ exec (.recover n) s = .next t) ∧
    (∃ (s : State) (n : Nat) (t : State), s.quiet = true ∧ exec (.addressClaim n) s = .next t) ∧
    (∃ (s : State) (n : Nat) (t : State), s.quiet = true ∧ exec (.lmtxgo n) s = .next t) ∧
    (∃ (s : State) (n lec : Nat) (dom arb : Bool) (more : Nat) (t : State), s.quiet = true ∧
      exec (.canTxError n lec dom arb more) s = .next t) ∧
    (∃ (s : State) (n q : Nat) (t : State), s.quiet = true ∧ exec (.rxpop n q) s = .next t) ∧
    (∃ (s : State) (n : Nat) (done : Bool) (reason : Nat) (t : State), s.quiet = true ∧
      exec (.longMessageEnd n done reason) s = .next t) ∧
    (∃ (s : State) (n v : Nat) (t : State), s.quiet = true ∧ exec (.canRingReadWrite n v) s = .next t) ∧
    (∃ (s : State) (n lec : Nat) (eight : Bool) (t : State), s.quiet = true ∧ exec (.canRxError n lec eight) s = .next t) ∧
    (∃ (s : State) (p : Nat) (up : Bool) (sqi : Nat) (t : State), s.quiet = true ∧ exec (.linkChange p up sqi) s = .next t) ∧
    (∃ (s : State) (t : State), s.quiet = true ∧ exec .subgo s = .next t) ∧
    (∃ (s : State) (k : Nat) (o : DtlsOffer) (t : State), s.quiet = true ∧ exec (.handshakeComplete k o) s = .next t) ∧
    (∃ (s : State) (k : Nat) (t : State), s.quiet = true ∧ exec (.connectTimeout k) s = .next t) ∧
    (∃ (s : State) (k : Nat) (t : State), s.quiet = true ∧ exec (.sessionTimeout k) s = .next t) ∧
    (∃ (s : State) (k : Nat) (t : State), s.quiet = true ∧ exec (.backoffEnd k) s = .next t) ∧
    (∃ (s : State) (k : Nat) (t : State), s.quiet = true ∧ exec (.ping k) s = .next t) ∧
    (∃ (s : State) (k alert : Nat) (t : State), s.quiet = true ∧ exec (.authenticationFailed k alert) s = .next t) ∧
    (∃ (s : State) (v : Nat) (t : State), s.quiet = true ∧ exec (.fltRingReadWrite v) s = .next t) ∧
    (∃ (s : State) (slot role : Nat) (t : State), s.quiet = true ∧ exec (.erase slot role) s = .next t) :=
  ⟨⟨wOn [(CAN_CTL_EN 2, 1)], 2, 1, (wOn [(CAN_CTL_EN 2, 1)]).outOf (.canTxReq 2 1), by decide, State.exec_outOf _ _ ⟨_, rfl⟩⟩,
    ⟨wOn [], 2, 1, (wOn []).outOf (.canTxCancel 2 1), by decide, State.exec_outOf _ _ ⟨_, rfl⟩⟩,
    ⟨wOn [(CAN_STAT_ESTATE 2, 2), (CAN_CTL_EN 2, 1)], 2, (wOn [(CAN_STAT_ESTATE 2, 2), (CAN_CTL_EN 2, 1)]).outOf (.canTxArbitration 2), by decide, State.exec_outOf _ _ ⟨_, rfl⟩⟩,
    ⟨wOn [(CAN_STAT_ESTATE 2, 2), (CAN_CTL_EN 2, 1)], 2, (wOn [(CAN_STAT_ESTATE 2, 2), (CAN_CTL_EN 2, 1)]).outOf (.canTxDone 2), by decide, State.exec_outOf _ _ ⟨_, rfl⟩⟩,
    ⟨wOn [(CAN_STAT_ESTATE 2, 2), (CAN_CTL_EN 2, 1)], 2, (wOn [(CAN_STAT_ESTATE 2, 2), (CAN_CTL_EN 2, 1)]).outOf (.busOffRecovered 2), by decide, State.exec_outOf _ _ ⟨_, rfl⟩⟩,
    ⟨wOn [(CAN_STAT_ESTATE 2, 2), (CAN_CTL_EN 2, 1)], 2, (wOn [(CAN_STAT_ESTATE 2, 2), (CAN_CTL_EN 2, 1)]).outOf (.recover 2), by decide, State.exec_outOf _ _ ⟨_, rfl⟩⟩,
    ⟨wOn [(CAN_STAT_ESTATE 2, 2), (CAN_CTL_EN 2, 1)], 2, (wOn [(CAN_STAT_ESTATE 2, 2), (CAN_CTL_EN 2, 1)]).outOf (.addressClaim 2), by decide, State.exec_outOf _ _ ⟨_, rfl⟩⟩,
    ⟨wOn [(CAN_STAT_ESTATE 2, 2), (CAN_CTL_EN 2, 1)], 2, (wOn [(CAN_STAT_ESTATE 2, 2), (CAN_CTL_EN 2, 1)]).outOf (.lmtxgo 2), by decide, State.exec_outOf _ _ ⟨_, rfl⟩⟩,
    ⟨wOn [(CAN_TXSTAT_FROZEN 2 1, 1)], 2, 3, true, false, 1, (wOn [(CAN_TXSTAT_FROZEN 2 1, 1)]).outOf (.canTxError 2 3 (true) (false) 1), by decide, State.exec_outOf _ _ ⟨_, rfl⟩⟩,
    ⟨wOn [], 2, 1, (wOn []).outOf (.rxpop 2 1), by decide, State.exec_outOf _ _ ⟨_, rfl⟩⟩,
    ⟨wOn [(CAN_LMTXS_BUSY 2, 1)], 2, false, 3, (wOn [(CAN_LMTXS_BUSY 2, 1)]).outOf (.longMessageEnd 2 (false) 3), by decide, State.exec_outOf _ _ ⟨_, rfl⟩⟩,
    ⟨wOn [], 2, 7, (wOn []).outOf (.canRingReadWrite 2 7), by decide, State.exec_outOf _ _ ⟨_, rfl⟩⟩,
    ⟨wOn [(CAN_CTL_EN 2, 1)], 2, 3, true, (wOn [(CAN_CTL_EN 2, 1)]).outOf (.canRxError 2 3 (true)), by decide, State.exec_outOf _ _ ⟨_, rfl⟩⟩,
    ⟨wOn [(ETH_PCTL_EN 2, 1)], 2, true, 5, (wOn [(ETH_PCTL_EN 2, 1)]).outOf (.linkChange 2 (true) 5), by decide, State.exec_outOf _ _ ⟨_, rfl⟩⟩,
    ⟨wOn [(FLT_SCFG_EN 0, 1), (FLT_SUBC_LEN, 4)], (wOn [(FLT_SCFG_EN 0, 1), (FLT_SUBC_LEN, 4)]).outOf .subgo, by decide, State.exec_outOf _ _ ⟨_, rfl⟩⟩,
    ⟨wOn [(FLT_SSTAT_STATE 5, 1)], 5, ⟨0x1301, 0x17, 0x0403, 3, 0, true, true, true⟩, (wOn [(FLT_SSTAT_STATE 5, 1)]).outOf (.handshakeComplete 5 (⟨0x1301, 0x17, 0x0403, 3, 0, true, true, true⟩)), by decide, State.exec_outOf _ _ ⟨_, rfl⟩⟩,
    ⟨wOn [(FLT_SSTAT_STATE 5, 1)], 5, (wOn [(FLT_SSTAT_STATE 5, 1)]).outOf (.connectTimeout 5), by decide, State.exec_outOf _ _ ⟨_, rfl⟩⟩,
    ⟨wOn [(FLT_SSTAT_STATE 5, 1)], 5, (wOn [(FLT_SSTAT_STATE 5, 1)]).outOf (.sessionTimeout 5), by decide, State.exec_outOf _ _ ⟨_, rfl⟩⟩,
    ⟨wOn [(FLT_SSTAT_STATE 5, 1)], 5, (wOn [(FLT_SSTAT_STATE 5, 1)]).outOf (.backoffEnd 5), by decide, State.exec_outOf _ _ ⟨_, rfl⟩⟩,
    ⟨wOn [(FLT_SSTAT_STATE 5, 1)], 5, (wOn [(FLT_SSTAT_STATE 5, 1)]).outOf (.ping 5), by decide, State.exec_outOf _ _ ⟨_, rfl⟩⟩,
    ⟨wOn [(FLT_SSTAT_STATE 5, 1)], 5, 42, (wOn [(FLT_SSTAT_STATE 5, 1)]).outOf (.authenticationFailed 5 42), by decide, State.exec_outOf _ _ ⟨_, rfl⟩⟩,
    ⟨wOn [], 7, (wOn []).outOf (.fltRingReadWrite 7), by decide, State.exec_outOf _ _ ⟨_, rfl⟩⟩,
    ⟨wOn [], 3, 1, (wOn []).outOf (.erase 3 1), by decide, State.exec_outOf _ _ ⟨_, rfl⟩⟩⟩

/-- The hypotheses of FleetMessagesStoreTheirBytes can be met. -/
theorem test_witness_FleetMessagesStoreTheirBytes :
    (∃ (s : State) (k prio seq : Nat) (payload : List Nat), s.quiet = true ∧ k < 64 ∧ s.live 0x0E = true ∧ s.flSt k = 2 ∧
      seq = (s.fls k).last + 1 ∧ s.fltUnread < 256 ∧ payload ≠ [] ∧ payload.length ≤ 1200) ∧
    (∃ (s : State) (k typ prio seq : Nat) (payload : List Nat) (t : State), s.quiet = true ∧
      ¬ (typ = 1 ∧ k < 64 ∧ s.live 0x0E = true ∧ s.flSt k = 2 ∧ seq = (s.fls k).last + 1 ∧ s.fltUnread < 256 ∧ payload ≠ [] ∧
      payload.length ≤ 1200) ∧ exec (.fleetMessageRx k typ prio seq payload) s = .next t) :=
  ⟨⟨wOn [(FLT_SSTAT_STATE 5, 2)], 5, 1, 1, [1, 2], by decide, by decide, by decide, by decide, by decide, by decide, by decide, by decide⟩,
    ⟨wOn [(FLT_SSTAT_STATE 5, 2)], 5, 2, 1, 1, [1, 2], (wOn [(FLT_SSTAT_STATE 5, 2)]).outOf (.fleetMessageRx 5 2 1 1 [1, 2]), by decide, by decide, State.exec_outOf _ _ ⟨_, rfl⟩⟩⟩

/-- The hypotheses of ReceiverAndRecorderCommandsStayInTheirBlock can be met. -/
theorem test_witness_ReceiverAndRecorderCommandsStayInTheirBlock :
    (∃ (s : State) (c : Nat) (t : State), s.quiet = true ∧ exec (.signalDetected c) s = .next t) ∧
    (∃ (s : State) (c : Nat) (t : State), s.quiet = true ∧ exec (.phaseLock c) s = .next t) ∧
    (∃ (s : State) (c : Nat) (t : State), s.quiet = true ∧ exec (.pullinTimeout c) s = .next t) ∧
    (∃ (s : State) (c : Nat) (t : State), s.quiet = true ∧ exec (.reacqTimeout c) s = .next t) ∧
    (∃ (s : State) (c cn0 ms : Nat) (t : State), s.quiet = true ∧ exec (.trackLoss c cn0 ms) s = .next t) ∧
    (∃ (s : State) (p : Nat) (t : State), s.quiet = true ∧ exec (.tp1Pulse p) s = .next t) ∧
    (∃ (s : State) (a i : Nat) (t : State), s.quiet = true ∧ exec (.antennaOpen a i) s = .next t) ∧
    (∃ (s : State) (a i : Nat) (t : State), s.quiet = true ∧ exec (.antennaShort a i) s = .next t) ∧
    (∃ (s : State) (a i : Nat) (t : State), s.quiet = true ∧ exec (.antennaRetry a i) s = .next t) ∧
    (∃ (s : State) (band : Nat) (out : Bool) (t : State), s.quiet = true ∧ exec (.interference band out) s = .next t) ∧
    (∃ (s : State) (v : Nat) (t : State), s.quiet = true ∧ exec (.gnsRingReadWrite v) s = .next t) ∧
    (∃ (s : State) (p : Nat) (t : State), s.quiet = true ∧ exec (.timePulseEnd p) s = .next t) ∧
    (∃ (s : State) (code : Nat) (ps : List Nat) (t : State), s.quiet = true ∧ exec (.eventEmit code ps) s = .next t) ∧
    (∃ (s : State) (t : State), s.quiet = true ∧ exec .recordWritten s = .next t) ∧
    (∃ (s : State) (t : State), s.quiet = true ∧ exec .logSearch s = .next t) ∧
    (∃ (s : State) (t : State), s.quiet = true ∧ exec .sectorErased s = .next t) ∧
    (∃ (s : State) (t : State), s.quiet = true ∧ exec .optimeSave s = .next t) ∧
    (∃ (s : State) (i : Nat) (t : State), s.quiet = true ∧ exec (.rdidx i) s = .next t) ∧
    (∃ (s : State) (v : Nat) (t : State), s.quiet = true ∧ exec (.hevgo v) s = .next t) ∧
    (∃ (s : State) (key role : Nat) (t : State), s.quiet = true ∧ exec (.logClear key role) s = .next t) :=
  ⟨⟨wOn [(GNS_CHSTAT_STATE 5, 1)], 5, (wOn [(GNS_CHSTAT_STATE 5, 1)]).outOf (.signalDetected 5), by decide, State.exec_outOf _ _ ⟨_, rfl⟩⟩,
    ⟨wOn [(GNS_CHSTAT_STATE 5, 1)], 5, (wOn [(GNS_CHSTAT_STATE 5, 1)]).outOf (.phaseLock 5), by decide, State.exec_outOf _ _ ⟨_, rfl⟩⟩,
    ⟨wOn [(GNS_CHSTAT_STATE 5, 1)], 5, (wOn [(GNS_CHSTAT_STATE 5, 1)]).outOf (.pullinTimeout 5), by decide, State.exec_outOf _ _ ⟨_, rfl⟩⟩,
    ⟨wOn [(GNS_CHSTAT_STATE 5, 1)], 5, (wOn [(GNS_CHSTAT_STATE 5, 1)]).outOf (.reacqTimeout 5), by decide, State.exec_outOf _ _ ⟨_, rfl⟩⟩,
    ⟨wOn [(GNS_CHSTAT_STATE 5, 3)], 5, 3, 1, (wOn [(GNS_CHSTAT_STATE 5, 3)]).outOf (.trackLoss 5 3 1), by decide, State.exec_outOf _ _ ⟨_, rfl⟩⟩,
    ⟨wOn [], 5, (wOn []).outOf (.tp1Pulse 5), by decide, State.exec_outOf _ _ ⟨_, rfl⟩⟩,
    ⟨wOn [], 1, 5, (wOn []).outOf (.antennaOpen 1 5), by decide, State.exec_outOf _ _ ⟨_, rfl⟩⟩,
    ⟨wOn [], 1, 5, (wOn []).outOf (.antennaShort 1 5), by decide, State.exec_outOf _ _ ⟨_, rfl⟩⟩,
    ⟨wOn [], 1, 5, (wOn []).outOf (.antennaRetry 1 5), by decide, State.exec_outOf _ _ ⟨_, rfl⟩⟩,
    ⟨wOn [], 1, true, (wOn []).outOf (.interference 1 (true)), by decide, State.exec_outOf _ _ ⟨_, rfl⟩⟩,
    ⟨wOn [], 5, (wOn []).outOf (.gnsRingReadWrite 5), by decide, State.exec_outOf _ _ ⟨_, rfl⟩⟩,
    ⟨wOn [], 1, (wOn []).outOf (.timePulseEnd 1), by decide, State.exec_outOf _ _ ⟨_, rfl⟩⟩,
    ⟨wOn [], 0x0B06, [1], (wOn []).outOf (.eventEmit (0x0B06) ([1])), by decide, State.exec_outOf _ _ ⟨_, rfl⟩⟩,
    ⟨wOn [], (wOn []).outOf .recordWritten, by decide, State.exec_outOf _ _ ⟨_, rfl⟩⟩,
    ⟨wOn [], (wOn []).outOf .logSearch, by decide, State.exec_outOf _ _ ⟨_, rfl⟩⟩,
    ⟨wOn [], (wOn []).outOf .sectorErased, by decide, State.exec_outOf _ _ ⟨_, rfl⟩⟩,
    ⟨wOn [], (wOn []).outOf .optimeSave, by decide, State.exec_outOf _ _ ⟨_, rfl⟩⟩,
    ⟨wOn [], 5, (wOn []).outOf (.rdidx 5), by decide, State.exec_outOf _ _ ⟨_, rfl⟩⟩,
    ⟨wOn [], 5, (wOn []).outOf (.hevgo 5), by decide, State.exec_outOf _ _ ⟨_, rfl⟩⟩,
    ⟨wOn [], 0xA77A, 2, (wOn []).outOf (.logClear (0xA77A) 2), by decide, State.exec_outOf _ _ ⟨_, rfl⟩⟩⟩

/-- The hypotheses of RegisterAccessesAnswer can be met. -/
theorem test_witness_RegisterAccessesAnswer :
    (∃ (s : State) (agent : Agent) (acc : Access) (a size v : Nat), aboveWindows a = true) ∧
    (∃ (s : State) (agent : Agent) (acc : Access) (a size v : Nat), aboveWindows a = false ∧ inWindows a = true ∧
      aligned32 a size = false) ∧
    (∃ (s : State) (agent : Agent) (a size v : Nat), aboveWindows a = false ∧ inWindows a = true ∧ aligned32 a size = true ∧
      s.windowOn a = false) ∧
    (∃ (s : State) (agent : Agent) (a size v : Nat), aboveWindows a = false ∧ inWindows a = true ∧ aligned32 a size = true ∧
      s.windowOn a = true) ∧
    (∃ (s : State) (a size v : Nat), aboveWindows a = false ∧ inWindows a = true ∧ aligned32 a size = true ∧
      s.windowOn a = false ∧ (s.busOf .host).rowWrite a v = none) ∧
    (∃ (s : State) (a size v : Nat), aboveWindows a = false ∧ inWindows a = true ∧ aligned32 a size = true ∧
      s.windowOn a = true ∧ s.fencing (addrBlock a) = true ∧ s.bus.tsv = false ∧ addrBlock a ≠ 1 ∧
      bit s.fenceEv (addrBlock a) = false ∧ (s.busOf .host).rowWrite a v = none) ∧
    (∃ (s : State) (a size v : Nat), aboveWindows a = false ∧ inWindows a = true ∧ aligned32 a size = true ∧
      s.windowOn a = true ∧ s.fencing (addrBlock a) = true ∧ s.bus.tsv = false ∧ addrBlock a ≠ 1 ∧
      bit s.fenceEv (addrBlock a) = true ∧ (s.busOf .host).rowWrite a v = none) ∧
    (∃ (s : State) (a size v : Nat), aboveWindows a = false ∧ inWindows a = true ∧ aligned32 a size = true ∧
      s.windowOn a = true ∧ addrBlock a = 1 ∧ tsvHostRegs.contains (addrOff a) = false) ∧
    (∃ (s : State) (a size v : Nat), aboveWindows a = false ∧ inWindows a = true ∧ aligned32 a size = true ∧
      s.windowOn a = true ∧ s.fencing (addrBlock a) = false ∧ addrBlock a ≠ 1 ∧ (s.busOf .host).rowWrite a v = none) ∧
    (∃ (s : State) (agent : Agent) (a size v : Nat) (t : State), aboveWindows a = false ∧ inWindows a = true ∧
      aligned32 a size = true ∧ (addrBlock a ≠ 1 ∨ agent = .tsv) ∧ (s.busOf agent).rowWrite a v = some (.next t)) ∧
    (∃ (s : State) (a size v : Nat), aboveWindows a = false ∧ inWindows a = true ∧ aligned32 a size = true ∧
      s.windowOn a = true ∧ (s.busOf .tsv).rowWrite a v = none) :=
  ⟨⟨wOn [], .host, .read, 0x40140000, 4, 0, by decide⟩,
    ⟨wOn [], .host, .write, 0x40030002, 4, 0, by decide⟩,
    ⟨{ wOn [] with mgr := { (wOn []).mgr with on := 3 } }, .host, 0x40030000, 4, 0, by decide⟩,
    ⟨wOn [], .host, 0x40030000, 4, 0, by decide⟩,
    ⟨{ wOn [] with mgr := { (wOn []).mgr with on := 3 } }, 0x40030000, 4, 0, by decide⟩,
    ⟨{ wOn [] with fenced := 8 }, 0x40030000, 4, 0, by decide⟩,
    ⟨{ wOn [] with fenced := 8, fenceEv := 8 }, 0x40030000, 4, 0, by decide⟩,
    ⟨wOn [], 0x40010000, 4, 0, by decide⟩,
    ⟨wOn [], 0x40030000, 4, 0x40000000, by decide⟩,
    ⟨wOn [], .host, 0x40130030, 4, 1, ((wOn []).busOf .host).after (((wOn []).busOf .host).hostWrite YUL_TXSWAP_GO.addr State.yulTxSwap), by decide, by decide, by decide, by decide, State.rowWrite_txswap 1 ((wOn []).busOf .host)⟩,
    ⟨{ wOn [] with fenced := 8 }, 0x40030000, 4, 0x40000000, by decide⟩⟩

/-- The hypotheses of FaultsFencesAndHealthAct can be met. -/
theorem test_witness_FaultsFencesAndHealthAct :
    (∃ (s : State) (b inst groups m : Nat), s.blockOn b = true ∧ b < 20) ∧
    (∃ (s : State) (b inst groups : Nat), s.blockOn b = true ∧ b < 20) ∧
    (∃ (s : State) (b inst groups r : Nat), s.blockOn b = true ∧ b < 20 ∧ r ≠ 4 ∧
      (((s.consequence b inst false).faultRecord b inst).toTocsin).holds r b = true) ∧
    (∃ (s : State) (b : Nat), b < 20 ∧ s.isFenced b = false) ∧
    (∃ (s : State) (b : Nat), s.isFenced b = true) ∧
    (∃ (s : State) (b : Nat), b < 20 ∧ s.blockOn b = true ∧ s.isFenced b = true) ∧
    (∃ (s : State) (b : Nat), b < 20 ∧ s.blockOn b = true ∧ s.isFenced b = false) ∧
    (∃ (s : State) (b : Nat), (20 ≤ b ∨ s.blockOn b = false)) :=
  ⟨⟨wOn [], 3, 7, 255, 2, by decide⟩,
    ⟨wOn [], 3, 7, 255, by decide⟩,
    ⟨(wOn []).setLease 3 { state := 1, owner := 19 }, 19, 0, 0, 3, by decide⟩,
    ⟨wOn [], 19, by decide⟩,
    ⟨{ wOn [] with fenced := 8 }, 3, by decide⟩,
    ⟨{ wOn [] with fenced := 8 }, 3, by decide⟩,
    ⟨wOn [], 3, by decide⟩,
    ⟨wOn [], 20, by decide⟩⟩

/-- The hypotheses of LswSwitchingOperations can be met. -/
theorem test_witness_LswSwitchingOperations :
    (∃ (s : State) (n : Nat), n < 48 ∧ s.pds.txns = []) ∧
    (∃ (s : State) (n : Nat), n < 48) ∧
    (∃ (s : State) (n cause : Nat), n < 48 ∧ cause < 16 ∧ s.rd (LSW_CHSTAT_STATE n) ≠ 3 ∧ s.lsSeen n ≠ 3) ∧
    (∃ (s : State) (n cause : Nat), s.rd (LSW_CHSTAT_STATE n) = 3) :=
  ⟨⟨wOn [(LSW_CHCFG_MODE 3, 1)], 3, by decide⟩,
    ⟨wOn [], 47, by decide⟩,
    ⟨wOn [(LSW_CHSTAT_STATE 20, 2)], 20, 3, by decide⟩,
    ⟨wOn [(LSW_CHSTAT_STATE 20, 3)], 20, 3, by decide⟩⟩

/-- The hypotheses of LswHostCommandsAct can be met. -/
theorem test_witness_LswHostCommandsAct :
    (∃ (s : State) (n : Nat), n < 48 ∧ s.open (LSW_CHCMD_CMD n).addr = true ∧ s.lsHostBarred n = false ∧ s.lsMay n 5 = true ∧
      s.rd (LSW_CHSTAT_STATE n) = 0 ∧ s.rd (LSW_CHCFG_MODE n) ≠ 0) ∧
    (∃ (s : State) (n : Nat), n < 48 ∧ s.open (LSW_CHCMD_CMD n).addr = true ∧ s.lsHostBarred n = false ∧ s.lsMay n 5 = true ∧
      (s.rd (LSW_CHSTAT_STATE n) = 1 ∨ s.rd (LSW_CHSTAT_STATE n) = 2)) ∧
    (∃ (s : State) (n : Nat), n < 48 ∧ s.open (LSW_CHCMD_CMD n).addr = true ∧ s.lsHostBarred n = true) ∧
    (∃ (s : State) (n : Nat), n < 48 ∧ s.open (LSW_CHCMD_CMD n).addr = true ∧ s.lsHostBarred n = true) ∧
    (∃ (s : State) (n duty : Nat), n < 48 ∧ s.open (LSW_CHDUTY_DUTY n).addr = true ∧ s.lsHostBarred n = false ∧
      s.lsMay n 5 = true) ∧
    (∃ (s : State) (n : Nat) (plausible : Bool), n < 48 ∧ s.open (LSW_CHCMD_CMD n).addr = true ∧
      s.rd (LSW_CHSTAT_STATE n) = 3 ∧ (s.lsHeat n 0).lsMay n 5 = true ∧ (s.lsHeat n 0).lsState n = 3 ∧
      (s.lsHeat n 0).lsClrOk n false plausible = true) :=
  ⟨⟨wOn [(LSW_CHCFG_MODE 3, 1)], 3, by decide⟩,
    ⟨wOn [(LSW_CHSTAT_STATE 47, 2)], 47, by decide⟩,
    ⟨wOn [(LSW_CHSTAT_CLAIM 3, 1)], 3, by decide⟩,
    ⟨wOn [(LSW_CHSTAT_CLAIM 3, 1)], 3, by decide⟩,
    ⟨wOn [], 0, 12000, by decide⟩,
    ⟨wOn [(LSW_CHSTAT_STATE 3, 3), (LSW_CHSTAT_CAUSE 3, 6)], 3, true, by decide⟩⟩

/-- The hypotheses of LswChannelEventsAct can be met. -/
theorem test_witness_LswChannelEventsAct :
    (∃ (s : State) (n : Nat), s.lsOn n = true ∧ s.lsIsOn n = true ∧ s.rd (LSW_CHCFG_MODE n) = 2 ∧ (s.ls n).pwmNext ≤ s.now) ∧
    (∃ (s : State) (n : Nat), s.lsOn n = true ∧ s.lsIsOn n = true ∧ s.rd (LSW_CHCFG_MODE n) = 2 ∧ (s.ls n).pwmOff ≠ 0 ∧
      (s.ls n).pwmOff ≤ s.now) ∧
    (∃ (s : State) (n : Nat), s.lsOn n = true ∧ s.rd (LSW_CHSTAT_STATE n) = 1 ∧ (s.ls n).winEnd ≤ s.now) ∧
    (∃ (s : State) (n : Nat), s.lsOn n = true ∧ s.lsSeen n = 1 ∧ (s.ls n).winFrom + (s.ls n).tsc * 1000000 ≤ s.now) ∧
    (∃ (s : State) (n i j : Nat), s.lsOn n = true ∧ j = (if s.lsState n = 1 then min i (s.lsLimit n) else i) ∧
      ((s.lsHeat n j).wr (LSW_CHSTAT_IMEAS n) (min (j / 10) 0xFFFF)).lsSeenOn n = true ∧
      lsTripK n (((s.lsHeat n j).wr (LSW_CHSTAT_IMEAS n) (min (j / 10) 0xFFFF)).rd (LSW_CHCFG_WIRE n)) ≤ (((s.lsHeat n j).wr
      (LSW_CHSTAT_IMEAS n) (min (j / 10) 0xFFFF)).ls n).heat) ∧
    (∃ (s : State) (n i : Nat), s.lsOn n = true ∧ s.lsSeenOn n = true ∧ lsIsc n ≤ i) ∧
    (∃ (s : State) (n : Nat) (tj : Int), s.lsOn n = true ∧ 1500 ≤ tj ∧ s.rd (LSW_CHSTAT_STATE n) ≠ 3) ∧
    (∃ (s : State) (n : Nat), s.lsOn n = true ∧ s.rd (LSW_CHSTAT_STATE n) ≠ 3) ∧
    (∃ (s : State) (n i : Nat), s.lsOn n = true ∧ s.lsSeen n = 2 ∧ i < s.rd (LSW_CHOL_OLTHR n) ∧
      (s.ls n).olFrom + 200000000 ≤ s.now ∧
      (s.rd (LSW_CHCFG_MODE n) ≠ 2 ∨ 1000 ≤ s.rd (LSW_CHDUTY_DUTY n) ∧ (s.ls n).out = true) ∧
      s.on (LSW_CHCFG_OLACT n) = false) ∧
    (∃ (s : State) (n v : Nat), s.lsOn n = true ∧ s.lsSeen n = 0 ∧ s.on (LSW_CHCFG_DIAGEN n) = true ∧ 350 < v) ∧
    (∃ (s : State) (n v : Nat), s.lsOn n = true ∧ (s.lsSeen n = 0 ∨ s.rd (LSW_CHSTAT_STATE n) = 3) ∧
      max (tabGet 0 s.lsw.volt (lsBank n)) 1200 < 2 * v) ∧
    (∃ (s : State) (n v : Nat), s.lsOn n = true ∧ s.lsSeen n = 2 ∧ 2 * v < max (tabGet 0 s.lsw.volt (lsBank n)) 1200) ∧
    (∃ (s : State) (n v : Nat), s.lsOn n = true ∧ s.lsSeen n ≠ 2 ∧ 2 * v < max (tabGet 0 s.lsw.volt (lsBank n)) 1200) ∧
    (∃ (s : State) (b v : Nat), b < 2 ∧ s.domOn (lsBankDom b) = true ∧ v < 500) ∧
    (∃ (s : State) (b v : Nat), b < 2 ∧ s.domOn (lsBankDom b) = true ∧ s.on (LSW_BSTAT_UV b) = true ∧ 700 < v) ∧
    (∃ (s : State) (b i : Nat), b < 2 ∧ s.domOn (lsBankDom b) = true ∧ s.rd (LSW_BCFG_BANKLIM b) * 10 < i) ∧
    (∃ (s : State) (b i : Nat), b < 2 ∧ s.domOn (lsBankDom b) = true ∧ i ≤ s.rd (LSW_BCFG_BANKLIM b) * 10) :=
  ⟨⟨wOn [(LSW_CHSTAT_STATE 3, 2), (LSW_CHCFG_MODE 3, 2)], 3, by decide⟩,
    ⟨(wOn [(LSW_CHSTAT_STATE 3, 2), (LSW_CHCFG_MODE 3, 2)]).setLs 3 { pwmOff := 5 }, 3, by decide⟩,
    ⟨wOn [(LSW_CHSTAT_STATE 3, 1)], 3, by decide⟩,
    ⟨wOn [(LSW_CHSTAT_STATE 3, 1)], 3, by decide⟩,
    ⟨(wOn [(LSW_CHSTAT_STATE 3, 2)]).setLs 3 { heat := 10 ^ 20 }, 3, 25000, 25000, by decide⟩,
    ⟨wOn [(LSW_CHSTAT_STATE 47, 2)], 47, 1600, by decide⟩,
    ⟨wOn [], 3, 1500, by decide⟩,
    ⟨wOn [], 3, by decide⟩,
    ⟨wOn [(LSW_CHSTAT_STATE 3, 2), (LSW_CHOL_OLTHR 3, 100)], 3, 5, by decide⟩,
    ⟨wOn [(LSW_CHCFG_DIAGEN 3, 1)], 3, 351, by decide⟩,
    ⟨wOn [], 3, 601, by decide⟩,
    ⟨wOn [(LSW_CHSTAT_STATE 3, 2)], 3, 599, by decide⟩,
    ⟨{ wOn [(LSW_CHSTAT_STATE 3, 3)] with tsv := { ({} : Tsv) with stuckLs := 8 } }, 3, 599, by decide⟩,
    ⟨wOn [(LSW_CHSTAT_STATE 3, 2)], 0, 499, by decide⟩,
    ⟨wOn [(LSW_BSTAT_UV 1, 1)], 1, 701, by decide⟩,
    ⟨wOn [], 1, 100000, by decide⟩,
    ⟨wOn [], 1, 50, by decide⟩⟩

/-- The hypotheses of SolenoidOperations can be met. -/
theorem test_witness_SolenoidOperations :
    (∃ (s : State) (n : Nat), n < 24 ∧ (s.rd (SOL_CHSTAT_STATE n) = 1 ∨ s.rd (SOL_CHSTAT_STATE n) = 2 ∨ s.rd
        (SOL_CHSTAT_STATE n) = 3 ∨ s.rd (SOL_CHSTAT_STATE n) = 4)) ∧
    (∃ (s : State) (n cause : Nat), n < 24 ∧ cause < 16 ∧ s.rd (SOL_CHSTAT_STATE n) ≠ 6 ∧ s.rd (SOL_CHSTAT_STATE n) ≠ 7) ∧
    (∃ (s : State) (n r src owner : Nat), n < 24 ∧ calFree (s.cal (n / 4)) r (s.peakLen n) = true) ∧
    (∃ (s : State) (n r src owner : Nat), n < 24 ∧ s.peakSlot n r = none) :=
  ⟨⟨wOn [(SOL_CHSTAT_STATE 23, 2)], 23, by decide⟩,
    ⟨wOn [(SOL_CHSTAT_STATE 5, 3)], 5, 1, by decide⟩,
    ⟨wOn [], 5, 2000000000, 2, 0, by decide⟩,
    ⟨(wOn []).setCal 1 [⟨1000000000, 9000000000, 4, 0⟩], 5, 2000000000, 2, 0, by decide⟩⟩

/-- The hypotheses of SolenoidHostCommandsAct can be met. -/
theorem test_witness_SolenoidHostCommandsAct :
    (∃ (s : State) (n : Nat), n < 24 ∧ s.open (SOL_CHCMD_CMD n).addr = true ∧ s.svHostBarred n = false ∧
      s.svInFault n = false ∧ s.svMay n 4 = true ∧ (s.rd (SOL_CHCFG_MODE n) = 1 ∨ s.rd (SOL_CHCFG_MODE n) = 3) ∧
      s.on (SOL_CHSTAT_ON n) = false) ∧
    (∃ (s : State) (n : Nat), n < 24 ∧ s.open (SOL_CHCMD_CMD n).addr = true ∧ s.svHostBarred n = true) ∧
    (∃ (s : State) (n : Nat), n < 24 ∧ s.open (SOL_CHCMD_CMD n).addr = true ∧ s.svHostBarred n = false ∧
      s.svInFault n = false ∧ s.svMay n 4 = true ∧ s.rd (SOL_CHCFG_MODE n) ≠ 2) ∧
    (∃ (s : State) (n : Nat) (cool supply : Bool), n < 24 ∧ s.open (SOL_CHCMD_CMD n).addr = true ∧
      s.rd (SOL_CHSTAT_STATE n) = 6 ∧ s.svMay n 4 = true ∧ s.on (SOL_GSTAT_GFLT (n / 4)) = false ∧
      (cool = true ∨ s.rd (SOL_CHSTAT_CAUSE n) ≠ 1 ∧ s.rd (SOL_CHSTAT_CAUSE n) ≠ 5) ∧ (supply = true ∨ s.sol.low = false)) ∧
    (∃ (s : State) (n : Nat) (cool : Bool), n < 24 ∧ s.open (SOL_CHCMD_CMD n).addr = true ∧ s.rd (SOL_CHSTAT_STATE n) = 6 ∧
      s.svMay n 4 = true ∧ s.sol.low = true) ∧
    (∃ (s : State) (g : Nat), g < 6 ∧ s.open (SOL_GCMD_CMD g).addr = true ∧ s.sol.low = false) ∧
    (∃ (s : State), s.open SOL_BCMD_CMD.addr = true ∧ s.rd SOL_STAT_BSTATE = 5 ∧ s.on SOL_CTL_BEN = true) ∧
    (∃ (s : State), s.open SOL_BCMD_CMD.addr = true ∧ s.rd SOL_STAT_BSTATE = 5 ∧ s.on SOL_CTL_BEN = false) ∧
    (∃ (s : State) (n v : Nat), n < 24 ∧ s.open (SOL_CHSET_ISET n).addr = true ∧ s.svHostBarred n = false ∧
      s.svInFault n = false ∧ s.svMay n 4 = true) ∧
    (∃ (s : State) (n duty : Nat), n < 24 ∧ s.open (SOL_CHDUTY_DUTY n).addr = true ∧ s.svHostBarred n = false ∧
      s.svInFault n = false) :=
  ⟨⟨wOn [(SOL_CHCFG_MODE 5, 1)], 5, by decide⟩,
    ⟨wOn [(SOL_CHSTAT_CLAIM 5, 1)], 5, by decide⟩,
    ⟨wOn [(SOL_CHSTAT_STATE 5, 3), (SOL_CHCFG_MODE 5, 1)], 5, by decide⟩,
    ⟨wOn [(SOL_CHSTAT_STATE 5, 6), (SOL_CHSTAT_CAUSE 5, 3)], 5, false, false, by decide⟩,
    ⟨{ wOn [(SOL_CHSTAT_STATE 5, 6), (SOL_CHSTAT_CAUSE 5, 3)] with sol := { State.reset.sol with low := true } }, 5, true, by decide⟩,
    ⟨wOn [(SOL_GSTAT_GFLT 3, 1)], 3, by decide⟩,
    ⟨wOn [(SOL_STAT_BSTATE, 5), (SOL_CTL_BEN, 1)], by decide⟩,
    ⟨wOn [(SOL_STAT_BSTATE, 5), (SOL_CTL_BEN, 0)], by decide⟩,
    ⟨wOn [(SOL_CHCFG_MODE 5, 2)], 5, 1000, by decide⟩,
    ⟨wOn [(SOL_CHDUTY_DUTY 5, 3)], 5, 1001, by decide⟩⟩

/-- The hypotheses of SolenoidPeaksAndCyclesAct can be met. -/
theorem test_witness_SolenoidPeaksAndCyclesAct :
    (∃ (s : State) (n : Nat), s.blockOn 0x0A = true ∧ n < 24 ∧ s.rd (SOL_CHSTAT_STATE n) = 1 ∧ (s.sv n).book ≤ s.now) ∧
    (∃ (s : State) (n : Nat), s.blockOn 0x0A = true ∧ n < 24 ∧ s.rd (SOL_CHSTAT_STATE n) = 2 ∧ (s.sv n).peakEnd ≤ s.now) ∧
    (∃ (s : State) (n i : Nat), s.blockOn 0x0A = true ∧ n < 24 ∧ s.rd (SOL_CHSTAT_STATE n) = 2 ∧ (s.sv n).peakTo ≤ s.now ∧
      i < s.rd (SOL_CHCUR_IPEAK n) ∧ s.on (SOL_CHCFG_PKACT n) = false) ∧
    (∃ (s : State) (n i : Nat), s.blockOn 0x0A = true ∧ n < 24 ∧ s.rd (SOL_CHSTAT_STATE n) = 2 ∧ (s.sv n).peakTo ≤ s.now ∧
      i < s.rd (SOL_CHCUR_IPEAK n) ∧ s.on (SOL_CHCFG_PKACT n) = true) ∧
    (∃ (s : State) (n : Nat), s.blockOn 0x0A = true ∧ n < 24 ∧ s.on (SOL_CHSTAT_ON n) = true ∧ s.rd (SOL_CHCFG_MODE n) = 3 ∧
      s.svInFault n = false ∧ s.svSlave n = false ∧ s.isCycleStart n (s.now + 100000) = false ∧
      s.isCycleStart n s.now = true ∧ s.svMay n 5 = true ∧ (s.sv n).period = false ∧ (s.sv n).nozzle = 0 ∧
      s.rd (SOL_CHDUTY_DUTY n) ≠ 0) ∧
    (∃ (s : State) (n : Nat), s.blockOn 0x0A = true ∧ n < 24 ∧ s.on (SOL_CHSTAT_ON n) = true ∧ s.rd (SOL_CHCFG_MODE n) = 3 ∧
      s.svInFault n = false ∧ s.svSlave n = false ∧ s.isCycleStart n (s.now + 100000) = false ∧
      s.isCycleStart n s.now = true ∧ s.svMay n 5 = true ∧ (s.sv n).period = true ∧ (s.sv n).endless = false ∧
      s.now ≤ (s.sv n).onEnd ∧ s.rd (SOL_CHDUTY_DUTY n) ≠ 0 ∧ (s.nozzleOnTime n (s.rd (SOL_CHDUTY_DUTY n))).2 = false) ∧
    (∃ (s : State) (n a : Nat), s.blockOn 0x0A = true ∧ n < 24 ∧ s.on (SOL_CHSTAT_ON n) = true ∧
      s.rd (SOL_CHCFG_MODE n) = 3 ∧ s.svInFault n = false ∧ s.svSlave n = false ∧ s.isCycleStart n (s.now + 100000) = true ∧
      s.rd (SOL_CHDUTY_DUTY n) ≠ 0 ∧ (s.sv n).nozzle = 0 ∧ (s.sv n).period = false ∧
      (s.bookPeak n (s.now + 100000) 4 0).1 = some a) ∧
    (∃ (s : State) (n : Nat), s.blockOn 0x0A = true ∧ n < 24 ∧ s.rd (SOL_CHCFG_MODE n) = 3 ∧ (s.sv n).period = true ∧
      (s.sv n).endless = false ∧ (s.sv n).onEnd ≤ s.now ∧ s.rd (SOL_CHSTAT_STATE n) = 3) ∧
    (∃ (s : State) (n : Nat), s.blockOn 0x0A = true ∧ n < 24 ∧ s.rd (SOL_CHSTAT_STATE n) = 5) :=
  ⟨⟨wOn [(SOL_CHSTAT_STATE 5, 1), (SOL_CHCFG_MODE 5, 1)], 5, by decide⟩,
    ⟨wOn [(SOL_CHSTAT_STATE 5, 2)], 5, by decide⟩,
    ⟨wOn [(SOL_CHSTAT_STATE 5, 2), (SOL_CHCUR_IPEAK 5, 10), (SOL_CHCFG_PKACT 5, 0)], 5, 9, by decide⟩,
    ⟨wOn [(SOL_CHSTAT_STATE 5, 2), (SOL_CHCUR_IPEAK 5, 10), (SOL_CHCFG_PKACT 5, 1)], 5, 9, by decide⟩,
    ⟨wOn [(SOL_CHSTAT_ON 0, 1), (SOL_CHCFG_MODE 0, 3), (SOL_CTL_NFREQ, 10), (SOL_CHDUTY_DUTY 0, 500)], 0, by decide⟩,
    ⟨(wOn [(SOL_CHSTAT_ON 0, 1), (SOL_CHCFG_MODE 0, 3), (SOL_CTL_NFREQ, 10), (SOL_CHDUTY_DUTY 0, 500)]).setSv 0 { period := true, onEnd := 2000000000 }, 0, by decide⟩,
    ⟨{ wOn [(SOL_CHSTAT_ON 0, 1), (SOL_CHCFG_MODE 0, 3), (SOL_CTL_NFREQ, 10), (SOL_CHDUTY_DUTY 0, 500)] with now := 999900000 }, 0, 1000000000, by decide⟩,
    ⟨(wOn [(SOL_CHSTAT_STATE 5, 3), (SOL_CHCFG_MODE 5, 3)]).setSv 5 { period := true, onEnd := 5 }, 5, by decide⟩,
    ⟨wOn [(SOL_CHSTAT_STATE 5, 5)], 5, by decide⟩⟩

/-- The hypotheses of BoostConverterActs can be met. -/
theorem test_witness_BoostConverterActs :
    (∃ (s : State), s.live 0x0A = true ∧ s.rd SOL_STAT_BSTATE = 1 ∧ s.holds 4 0x0A = true ∧ s.on SOL_CTL_BEN = true) ∧
    (∃ (s : State) (v : Nat), s.live 0x0A = true ∧ (s.rd SOL_STAT_BSTATE = 2 ∨ s.rd SOL_STAT_BSTATE = 4) ∧
      s.boostSet * 95 ≤ v * 100) ∧
    (∃ (s : State) (v : Nat), s.live 0x0A = true ∧ s.rd SOL_STAT_BSTATE = 3 ∧ v * 100 < s.boostSet * 90) ∧
    (∃ (s : State), s.live 0x0A = true ∧ s.rd SOL_STAT_BSTATE = 2 ∧ s.sol.since + 20000000 ≤ s.now) ∧
    (∃ (s : State), s.live 0x0A = true ∧ s.rd SOL_STAT_BSTATE = 4 ∧ s.sol.since + 5000000 ≤ s.now) ∧
    (∃ (s : State) (ov : Bool), s.live 0x0A = true ∧ s.rd SOL_STAT_BSTATE ≠ 5) ∧
    (∃ (s : State), s.live 0x0A = true ∧ (s.rd SOL_STAT_BSTATE = 2 ∨ s.rd SOL_STAT_BSTATE = 3 ∨ s.rd SOL_STAT_BSTATE = 4) ∧
      s.holds 4 0x0A = false) :=
  ⟨⟨(wOn [(SOL_STAT_BSTATE, 1), (SOL_CTL_BEN, 1)]).setLease 4 { state := 1, owner := 10 }, by decide⟩,
    ⟨wOn [(SOL_STAT_BSTATE, 2)], 700, by decide⟩,
    ⟨wOn [(SOL_STAT_BSTATE, 3)], 100, by decide⟩,
    ⟨wOn [(SOL_STAT_BSTATE, 2)], by decide⟩,
    ⟨wOn [(SOL_STAT_BSTATE, 4)], by decide⟩,
    ⟨wOn [(SOL_STAT_BSTATE, 4)], true, by decide⟩,
    ⟨wOn [(SOL_STAT_BSTATE, 3)], by decide⟩⟩

/-- The hypotheses of SolenoidFaultsAct can be met. -/
theorem test_witness_SolenoidFaultsAct :
    (∃ (s : State) (n i : Nat), s.blockOn 0x0A = true ∧ n < 24 ∧ s.rd (SOL_CHSTAT_STATE n) < 6 ∧
      (if s.svPaired n then 27000 else 15000) < i) ∧
    (∃ (s : State) (n i : Nat), s.blockOn 0x0A = true ∧ n < 24 ∧ s.rd (SOL_CHSTAT_STATE n) ≠ 7 ∧
      i ≤ (if s.svPaired n then 27000 else 15000)) ∧
    (∃ (s : State) (g i : Nat), s.blockOn 0x0A = true ∧ g < 6 ∧ (33000 < i ∨ s.on (SOL_GSTAT_GON g) = true)) ∧
    (∃ (s : State) (n i : Nat), s.blockOn 0x0A = true ∧ n < 24 ∧
      (s.svSeen n = 3 ∨ s.svSeen n = 4 ∧ s.rd (SOL_CHCFG_MODE n) = 2) ∧
      i * 4 < (if s.rd (SOL_CHCFG_MODE n) = 2 then s.rd (SOL_CHSET_ISET n) else s.rd (SOL_CHCUR_IHOLD n))) ∧
    (∃ (s : State) (n : Nat), s.blockOn 0x0A = true ∧ n < 24 ∧ s.svSeen n = 0 ∧ s.on (SOL_CHCFG_DIAGEN n) = true) ∧
    (∃ (s : State) (n : Nat) (td : Int), s.blockOn 0x0A = true ∧ n < 24 ∧ 1500 < td ∧ s.rd (SOL_CHSTAT_STATE n) < 6) ∧
    (∃ (s : State) (v : Nat), s.blockOn 0x0A = true ∧ v < 80 ∧ ((List.range 24).foldl (fun (t : State) n => t.when (t.svSeen
        n != 0 && t.svState n != 6 && t.svState n != 7) (fun t => (t.svFault n 6).setFlag (SOL_CHFLAG_UV n)))
        { (s.supplyIs 1 (v * 10)).wr SOL_STAT_UV 1 with sol := { s.sol with low := true, above := false } }).rd
        SOL_STAT_BSTATE ∉ [2, 3, 4]) ∧
    (∃ (s : State) (v : Nat), s.blockOn 0x0A = true ∧ v < 80 ∧ ((List.range 24).foldl (fun (t : State) n => t.when (t.svSeen
        n != 0 && t.svState n != 6 && t.svState n != 7) (fun t => (t.svFault n 6).setFlag (SOL_CHFLAG_UV n)))
        { (s.supplyIs 1 (v * 10)).wr SOL_STAT_UV 1 with sol := { s.sol with low := true, above := false } }).rd
        SOL_STAT_BSTATE ∈ [2, 3, 4]) :=
  ⟨⟨wOn [], 5, 15001, by decide⟩,
    ⟨wOn [], 5, 15000, by decide⟩,
    ⟨wOn [], 5, 33001, by decide⟩,
    ⟨wOn [(SOL_CHSTAT_STATE 5, 3), (SOL_CHCUR_IHOLD 5, 1000)], 5, 9, by decide⟩,
    ⟨wOn [(SOL_CHCFG_DIAGEN 5, 1)], 5, by decide⟩,
    ⟨wOn [], 5, 1501, by decide⟩,
    ⟨wOn [(SOL_CHSTAT_STATE 5, 3)], 79, by decide⟩,
    ⟨wOn [(SOL_CHSTAT_STATE 5, 3), (SOL_STAT_BSTATE, 3)], 79, by decide⟩⟩

/-- The hypotheses of InterpolatedPhaseStaysBetweenEdges can be met. -/
theorem test_witness_InterpolatedPhaseStaysBetweenEdges :
    (∃ (pe v a l : Int) (te t : Nat), pe + lsb16 ≤ l) ∧
    (∃ (pe v a l : Int) (te t : Nat), l + lsb16 ≤ pe) ∧
    (∃ (s : State) (n t : Nat), (s.tbSt n = 1 ∨ s.tbSt n = 3 ∨ s.tbSt n = 5) ∧ (s.tb n).sub = none) :=
  ⟨⟨0, 5, -3, 700000, 3, 1000, by decide⟩,
    ⟨700000, -5, 3, 0, 3, 1000, by decide⟩,
    ⟨(wOn []).setTb 3 { st := 3, pe := 77 }, 3, 12345, by decide⟩⟩

/-- The hypotheses of TimeBaseEventsAct can be met. -/
theorem test_witness_TimeBaseEventsAct :
    (∃ (s : State) (n pin : Nat) (high : Bool), n < 8 ∧ s.blockOn 0x03 = true ∧ pin < 16) ∧
    (∃ (s : State) (n d : Nat), n < 8 ∧ s.blockOn 0x03 = true ∧ (s.tbPins n).filter (fun p => s.wireBreakWaits p) = [] ∧
      (s.tb n).dueAt = some d ∧ d ≤ s.now ∧ (s.tb n).dueLost = true) ∧
    (∃ (s : State) (n d : Nat), n < 8 ∧ s.blockOn 0x03 = true ∧ (s.tbPins n).filter (fun p => s.wireBreakWaits p) = [] ∧
      (s.tb n).dueAt = some d ∧ d ≤ s.now ∧ (s.tb n).dueLost = false ∧ (s.tb n).st ≠ 4) ∧
    (∃ (s : State) (n d : Nat), n < 8 ∧ s.blockOn 0x03 = true ∧ (s.tbPins n).filter (fun p => s.wireBreakWaits p) = [] ∧
      (s.tb n).dueAt = some d ∧ s.now < d) ∧
    (∃ (s : State) (n u base ratio : Nat) (own ref : Int) (fl : Option Int), n < 8 ∧ s.blockOn 0x03 = true ∧
      (s.tb n).sub = some ⟨own, ref, some u, base, ratio, fl⟩ ∧ u + 1000000000 ≤ s.now) ∧
    (∃ (s : State) (pin ms : Nat) (short : Bool), pin < 16 ∧ 1 ≤ ms ∧ s.blockOn 0x03 = true ∧
      (bits (s.rd SYS_TBIMODE_MODE) (2 * pin) 2 = 2 ∨ bits (s.rd SYS_TBIMODE_MODE) (2 * pin) 2 = 0 ∧ short = false)) ∧
    (∃ (s : State) (n : Nat), n < 8 ∧ s.blockOn 0x03 = true ∧ s.rd (TBS_CFG_SRC n) = 5 ∧
      2 * (s.tb n).updAt + 3 * s.gnsPeriod ≤ 2 * s.now) ∧
    (∃ (s : State) (n : Nat), n < 8 ∧ s.blockOn 0x03 = true ∧ s.rd (TBS_CFG_SRC n) = 6 ∧ (s.tb n).updAt + 62500 ≤ s.now) ∧
    (∃ (s : State) (n : Nat), n < 8 ∧ s.blockOn 0x03 = true ∧ s.on (TBS_PLAUS_PEN n) = true ∧
      ((s.tb n).win = none ∨ s.edgeWaits n = false ∧ s.edgeWaits (s.rd (TBS_PLAUS_REF n)) = false)) ∧
    (∃ (s : State) (n : Nat), (s.tb n).win = none ∧ tbMovingSt (s.tbSt n) = true ∧ s.tbSt (s.rd (TBS_PLAUS_REF n)) = 2) ∧
    (∃ (s : State) (n : Nat) (w : TbWin), (s.tb n).win = some w ∧ w.from_ + 100000000 ≤ s.now ∧
      w.base = s.rd (TBS_PLAUS_REF n) ∧ 200 * ((s.tbPhase16 8 n s.now - w.own) * 65536 - ((s.tbPhase16 8 w.base s.now -
        w.ref) * (s.rd (TBS_RATIO_RATIO n) : Int))).natAbs ≤ s.rd (TBS_PLAUS_TOL n) * ((s.tbPhase16 8 w.base s.now - w.ref) *
        (s.rd (TBS_RATIO_RATIO n) : Int)).natAbs) ∧
    (∃ (s : State) (n : Nat) (w : TbWin), (s.tb n).win = some w ∧ w.from_ + 100000000 ≤ s.now ∧
      w.base = s.rd (TBS_PLAUS_REF n) ∧ s.rd (TBS_PLAUS_TOL n) * ((s.tbPhase16 8 w.base s.now - w.ref) * (s.rd
        (TBS_RATIO_RATIO n) : Int)).natAbs < 200 * ((s.tbPhase16 8 n s.now - w.own) * 65536 - ((s.tbPhase16 8 w.base s.now -
        w.ref) * (s.rd (TBS_RATIO_RATIO n) : Int))).natAbs ∧ (s.tb n).causes.contains 2 = false) :=
  ⟨⟨wOn [], 3, 1, true, by decide⟩,
    ⟨(wOn []).setTb 3 { st := 2, dueAt := some 5, dueLost := true }, 3, 5, by decide⟩,
    ⟨(wOn []).setTb 3 { st := 2, dueAt := some 5, dueLost := false }, 3, 5, by decide⟩,
    ⟨(wOn []).setTb 3 { st := 2, dueAt := some 5000000000 }, 3, 5000000000, by decide⟩,
    ⟨(wOn []).setTb 3 { st := 2, sub := some ⟨4, 5, some 0, 2, 65536, none⟩ }, 3, 0, 2, 65536, 4, 5, none, by decide⟩,
    ⟨wOn [], 15, 1, false, by decide⟩,
    ⟨(wOn [(TBS_CFG_SRC 3, 5)]).setTb 3 { st := 2 }, 3, by decide⟩,
    ⟨(wOn [(TBS_CFG_SRC 3, 6)]).setTb 3 { st := 2 }, 3, by decide⟩,
    ⟨((wOn [(TBS_PLAUS_PEN 3, 1), (TBS_PLAUS_REF 3, 2)]).setTb 3 { st := 2 }).setTb 2 { st := 2 }, 3, by decide⟩,
    ⟨((wOn [(TBS_PLAUS_PEN 3, 1), (TBS_PLAUS_REF 3, 2)]).setTb 3 { st := 2 }).setTb 2 { st := 2 }, 3, by decide⟩,
    ⟨((wOn [(TBS_PLAUS_PEN 3, 1), (TBS_PLAUS_REF 3, 2)]).setTb 3 { st := 2, win := some ⟨5, 2, 0, 0⟩ }).setTb 2 { st := 2 }, 3, ⟨5, 2, 0, 0⟩, by decide⟩,
    ⟨((wOn [(TBS_PLAUS_PEN 3, 1), (TBS_PLAUS_REF 3, 2)]).setTb 3 { st := 2, win := some ⟨5, 2, 9, 0⟩ }).setTb 2 { st := 2 }, 3, ⟨5, 2, 9, 0⟩, by decide⟩⟩

/-- The hypotheses of TimeBaseHostAccessesAct can be met. -/
theorem test_witness_TimeBaseHostAccessesAct :
    (∃ (s : State) (n v : Nat), n < 8 ∧ s.open (TBS_PRESET_PRESET n).addr = true ∧ s.tbKind n ≠ 1 ∧ s.rd (TBS_CFG_SRC n) ≠ 7) ∧
    (∃ (s : State) (n v : Nat) (old d : Int) (t : State), n < 8 ∧ s.open (TBS_PRESET_PRESET n).addr = true ∧
      (s.tbKind n = 1 ∨ s.rd (TBS_CFG_SRC n) = 7) ∧ old = s.tbPhase16 8 n s.now ∧
      d = old / lsb16 * lsb16 + phaseDiff v (tc 32 (old / lsb16)) * lsb16 - old ∧
      t = State.tbJump n (phaseDiff v (tc 32 (old / lsb16)) * lsb16) (s.setTb n
      { s.tb n with pe := old + d, te := s.now, origin := (s.tb n).origin + d, hist := [], sub := (s.tb n).sub.map (fun u => { u with own := u.own + d, floor := u.floor.map (fun x => x + d) }) })) ∧
    (∃ (v : Nat) (old : Int), v < 2 ^ 32) ∧
    (∃ (s : State) (v : Nat), s.open TBS_SNAP_SNAP.addr = true) ∧
    (∃ (s : State) (n : Nat), n < 8 ∧ s.windowOn (TBS_PHASE_PHASE n).addr = true ∧ tabFind s.tbs.snap n = none) ∧
    (∃ (s : State) (n : Nat) (x : TbSnap), n < 8 ∧ s.windowOn (TBS_PHASE_PHASE n).addr = true ∧
      tabFind s.tbs.snap n = some x) :=
  ⟨⟨wOn [(TBS_CFG_SRC 3, 2)], 3, 5, by decide⟩,
    ⟨wOn [(TBS_CFG_SRC 3, 3), (TBS_CFG_KIND 3, 1)], 3, 5, 0, 5 * lsb16, State.tbJump 3 (5 * lsb16) ((wOn [(TBS_CFG_SRC 3, 3), (TBS_CFG_KIND 3, 1)]).setTb 3 { pe := 5 * lsb16, te := 1000000000, origin := 5 * lsb16 }), by decide⟩,
    ⟨4294967295, -7, by decide⟩,
    ⟨wOn [], 1, by decide⟩,
    ⟨wOn [], 3, by decide⟩,
    ⟨{ wOn [] with tbs := { (wOn []).tbs with snap := [(3, ⟨7, 1, 2, 3, 4⟩)] } }, 3, ⟨7, 1, 2, 3, 4⟩, by decide⟩⟩

/-- The hypotheses of InputsOutputsAndSuppliesAct can be met. -/
theorem test_witness_InputsOutputsAndSuppliesAct :
    (∃ (s : State) (v : Nat), s.open SYS_DQSET_BITS.addr = true ∧ s.dqHeld = false) ∧
    (∃ (s : State) (v : Nat), s.open SYS_DQSET_BITS.addr = true ∧ s.dqHeld = true) ∧
    (∃ (s : State) (v : Nat), s.open SYS_DQCLR_BITS.addr = true) ∧
    (∃ (s : State) (n r : Nat) (on : Bool), n < 16 ∧ s.dqMay n r = true) ∧
    (∃ (s : State) (n r : Nat) (on : Bool), s.dqMay n r = false) ∧
    (∃ (s : State) (n i : Nat), n < 16 ∧ 800 < i ∧ (bit (s.rd SYS_DQSTAT_LEVEL) n = true ∨ bit s.dqBefore n = true) ∧
      s.dqFault n = false ∧ s.domOn 1 = true) ∧
    (∃ (s : State) (n : Nat), n < 16 ∧ s.dqMay n 1 = true) ∧
    (∃ (s : State) (b i ms : Nat), b < 10 ∧ s.domOn 1 = true ∧ 125 * vsRated b ≤ 100 * i ∧
      bit (s.rd SYS_VSSTAT_OFF) b = false ∧ ms < 10) ∧
    (∃ (s : State) (b i ms : Nat), b < 10 ∧ s.domOn 1 = true ∧ 125 * vsRated b ≤ 100 * i ∧
      bit (s.rd SYS_VSSTAT_OFF) b = false ∧ 10 ≤ ms) ∧
    (∃ (s : State) (b i ms : Nat), b < 10 ∧ s.domOn 1 = true ∧ bit (s.rd SYS_VSSTAT_OFF) b = true ∧
      tabGet 0 s.io.vsAt b + 1000000000 ≤ s.now ∧ i < vsRated b ∧ 100 ≤ ms) ∧
    (∃ (s : State) (b i ms : Nat), b < 10 ∧ s.domOn 1 = true ∧ bit (s.rd SYS_VSSTAT_OFF) b = true ∧
      tabGet 0 s.io.vsAt b + 1000000000 ≤ s.now ∧ (vsRated b ≤ i ∨ ms < 100)) ∧
    (∃ (s : State) (n : Nat) (val : Int), n < 16 ∧ s.domOn 1 = true) ∧
    (∃ (s : State) (n held : Nat) (high : Bool), n < 32 ∧ s.domOn 1 = true ∧ tabGet 0 s.io.filtAt n = 0 ∧
      s.diFilter n ≤ held) ∧
    (∃ (s : State) (n held : Nat) (high : Bool), n < 32 ∧ s.domOn 1 = true ∧ tabGet 0 s.io.filtAt n ≠ 0 ∧
      s.diFilter n ≤ held ∧ s.diFilter n ≤ s.now + 1 - tabGet 0 s.io.filtAt n) :=
  ⟨⟨wOn [], 5, by decide⟩,
    ⟨wOn [(TSV_STAT_SLEVEL, 2)], 5, by decide⟩,
    ⟨wOn [(SYS_DQSTAT_LEVEL, 5)], 5, by decide⟩,
    ⟨wOn [], 15, 3, true, by decide⟩,
    ⟨{ wOn [] with io := { (wOn []).io with dqTick := [(15, (1000000001, 3))] } }, 15, 1, true, by decide⟩,
    ⟨wOn [(SYS_DQSTAT_LEVEL, 5)], 2, 801, by decide⟩,
    ⟨wOn [(SYS_DQSTAT_LEVEL, 5)], 2, by decide⟩,
    ⟨wOn [], 9, 1250, 9, by decide⟩,
    ⟨wOn [], 9, 1250, 10, by decide⟩,
    ⟨wOn [(SYS_VSSTAT_OFF, 512)], 9, 9, 100, by decide⟩,
    ⟨wOn [(SYS_VSSTAT_OFF, 512)], 9, 1000, 100, by decide⟩,
    ⟨wOn [], 3, 40000, by decide⟩,
    ⟨wOn [], 31, 100000000, true, by decide⟩,
    ⟨{ wOn [] with io := { (wOn []).io with filtAt := [(31, 5)] } }, 31, 100000000, true, by decide⟩⟩

/-- The hypotheses of PostedEventEntersProvOrIsAnswered can be met. -/
theorem test_witness_PostedEventEntersProvOrIsAnswered :
    (∃ (s : State) (p : Nat) (c : CarCmd), p < 4 ∧ s.carPostCheck p c.desc = 0 ∧ (s.slot s.carFree).gen < 256 ∧
      s.isFenced 0x02 = false) ∧
    (∃ (s : State) (p : Nat) (c : CarCmd), p < 4 ∧ s.carPostCheck p c.desc = 0 ∧ s.isFenced 0x02 = true) ∧
    (∃ (s : State) (p : Nat) (c : CarCmd), p < 4 ∧ s.carPostCheck p c.desc ≠ 0) :=
  ⟨⟨wOn [(CAR_QUOTA_QUOTA 1, 5)], 1, ⟨0, { base := 8, tgt := 1500000000, horizon := 100, count := 1, onjump := 0, typ := 1, target := 3 }, 0⟩, by decide⟩,
    ⟨{ wOn [(CAR_QUOTA_QUOTA 1, 5)] with fenced := 4 }, 1, ⟨0, { base := 8, tgt := 1500000000, horizon := 100, count := 1, onjump := 0, typ := 1, target := 3 }, 0⟩, by decide⟩,
    ⟨wOn [], 1, ⟨0, { base := 9 }, 0⟩, by decide⟩⟩

/-- The hypotheses of RetirementKeepsSlotsUntilWritten can be met. -/
theorem test_witness_RetirementKeepsSlotsUntilWritten :
    (∃ (s : State) (r : CarRet) (q : List CarRet), s.car.wait = r :: q ∧ s.carUnread < 512 ∧ s.rd CAR_RETWR_WR < 1024) ∧
    (∃ (s : State), s.carUnread = 512) :=
  ⟨⟨{ wOn [] with car := { wait := [⟨5, 3, true, [1, 2]⟩] } }, ⟨5, 3, true, [1, 2]⟩, [], by decide⟩,
    ⟨wOn [(CAR_RETWR_WR, 512)], by decide⟩⟩

/-- The hypotheses of CarillonCommandsAct can be met. -/
theorem test_witness_CarillonCommandsAct :
    (∃ (s : State) (p : Nat), p < 4 ∧ s.open (CAR_HPPOST_GO p).addr = true ∧ s.on (CAR_HPRES_BUSY p) = false) ∧
    (∃ (s : State) (p : Nat), p < 4 ∧ s.open (CAR_HPRETIME_GO p).addr = true ∧ s.on (CAR_HPRES_BUSY p) = false) ∧
    (∃ (s : State) (p : Nat), p < 4 ∧ s.open (CAR_HPREVOKE_GO p).addr = true ∧ s.on (CAR_HPRES_BUSY p) = false) ∧
    (∃ (s : State) (p : Nat), p < 4 ∧ s.open (CAR_HPFLUSH_GO p).addr = true ∧ s.on (CAR_HPRES_BUSY p) = false) ∧
    (∃ (s : State) (p : Nat), p < 4 ∧ s.open (CAR_HPPOST_GO p).addr = true ∧ s.on (CAR_HPRES_BUSY p) = true) ∧
    (∃ (s : State), s.blockOn 0x02 = true ∧ s.now % 1000 = 0 ∧ s.car.round ≠ s.now + 1) ∧
    (∃ (s : State) (bad : List Nat), s.blockOn 0x02 = true) ∧
    (∃ (s : State), s.blockOn 0x02 = true) ∧
    (∃ (s : State) (v : Nat), s.open CAR_RETRD_RD.addr = true ∧ (v % 1024 + 1024 - s.rd CAR_RETRD_RD) % 1024 ≤ s.carUnread) ∧
    (∃ (s : State) (v : Nat), s.open CAR_RETRD_RD.addr = true ∧ s.carUnread < (v % 1024 + 1024 - s.rd CAR_RETRD_RD) % 1024) :=
  ⟨⟨wOn [], 3, by decide⟩,
    ⟨wOn [], 3, by decide⟩,
    ⟨wOn [], 3, by decide⟩,
    ⟨wOn [], 3, by decide⟩,
    ⟨wOn [(CAR_HPRES_BUSY 3, 1)], 3, by decide⟩,
    ⟨wOn [], by decide⟩,
    ⟨wOn [], [3], by decide⟩,
    ⟨{ wOn [] with car := { wait := [⟨5, 3, true, [1, 2]⟩] } }, by decide⟩,
    ⟨wOn [(CAR_RETRD_RD, 3), (CAR_RETWR_WR, 515)], 4, by decide⟩,
    ⟨wOn [(CAR_RETRD_RD, 3), (CAR_RETWR_WR, 515)], 2, by decide, by decide⟩⟩

/-- The hypotheses of HarvestSensingCommandsAct can be met. -/
theorem test_witness_HarvestSensingCommandsAct :
    (∃ (s : State), s.open HSN_CMD_CMD.addr = true ∧ s.hsnYieldWin = none) ∧
    (∃ (s : State), s.open HSN_CMD_CMD.addr = true) ∧
    (∃ (s : State), s.open HSN_CMD_CMD.addr = true) ∧
    (∃ (s : State) (mask : Nat), s.open HSN_CMD_CMD.addr = true) ∧
    (∃ (s : State), s.open HSN_CMD_CMD.addr = true) ∧
    (∃ (s : State) (cap : Nat) (tg : Int), s.live 0x05 = true ∧ s.now % 100000000 = 0 ∧ s.on HSN_CTL_MOIEN = true) ∧
    (∃ (s : State), s.live 0x05 = true ∧ s.on HSN_MOIST_STALE = false ∧ s.hsn.readAt + 60000000000 ≤ s.now) ∧
    (∃ (s : State), s.live 0x05 = true ∧ s.now % 100000000 = 0) ∧
    (∃ (s : State) (iv : HsnIval), s.live 0x05 = true ∧ s.hsnSync.hsn.due = some iv ∧ iv.te + 1000000 ≤ s.hsnSync.now ∧
      s.hsnSync.on HSN_CTL_RECEN = true) ∧
    (∃ (s : State) (v : Nat), s.open HSN_WRRD_IDX.addr = true ∧ (v % 128 + 128 - s.rd HSN_WRRD_IDX) % 128 ≤ s.hsnUnreadW) ∧
    (∃ (s : State) (v : Nat), s.open HSN_WRRD_IDX.addr = true ∧ s.hsnUnreadW < (v % 128 + 128 - s.rd HSN_WRRD_IDX) % 128) ∧
    (∃ (s : State) (v : Nat), s.open HSN_YRRD_IDX.addr = true ∧ (v % 256 + 256 - s.rd HSN_YRRD_IDX) % 256 ≤ s.hsnUnreadY) :=
  ⟨⟨wOn [], by decide⟩,
    ⟨wOn [], by decide⟩,
    ⟨wOn [], by decide⟩,
    ⟨{ wOn [] with hsn := { told := 3, noise := [(5, { mean := 7 })] } }, 1, by decide⟩,
    ⟨wOn [], by decide⟩,
    ⟨wOn [(HSN_CTL_MOIEN, 1)], 100, 200, by decide⟩,
    ⟨{ wOn [(HSN_MOIST_STALE, 0)] with now := 61000000000 }, by decide⟩,
    ⟨wOn [], by decide⟩,
    ⟨{ wOn [(HSN_CTL_RECEN, 1)] with hsn := { due := some { te := 5 }, ts := 1000000000 } }, { te := 5 }, by decide⟩,
    ⟨wOn [(HSN_WRWR_IDX, 5)], 4, by decide⟩,
    ⟨wOn [(HSN_WRWR_IDX, 5)], 6, by decide⟩,
    ⟨wOn [(HSN_YRWR_IDX, 5)], 4, by decide⟩⟩

/-- The hypotheses of HarvestSensingWindowsAndSensorsAct can be met. -/
theorem test_witness_HarvestSensingWindowsAndSensorsAct :
    (∃ (s : State) (n : Nat), s.live 0x05 = true ∧ n < 16 ∧ (s.hsnWin n).isOpen = true ∧
      s.rd (HSN_WCFG_MAXLEN n) * 50000 ≤ s.hsnOpenFor n) ∧
    (∃ (s : State), s.live 0x05 = true ∧ s.hsn.tdom = true ∧ s.now % 50000000 = 0) ∧
    (∃ (s : State) (c mv : Nat), s.blockOn 0x05 = true ∧ c < 8 ∧ 2000 ≤ mv ∧ mv ≤ 18000 ∧ bit (s.rd HSN_STAT_LFLT) c = true) ∧
    (∃ (s : State) (c mv : Nat), s.blockOn 0x05 = true ∧ c < 8 ∧ mv < 2000 ∧ bit (s.rd HSN_STAT_LFLT) c = false) ∧
    (∃ (s : State) (kind : Nat), s.blockOn 0x05 = true ∧ 1 ≤ kind ∧ kind ≤ 2 ∧ s.on HSN_STAT_PLATEFLT = false) ∧
    (∃ (s : State) (x : Int), s.live 0x05 = true ∧ s.hsnActionDue = false ∧ s.hsnSync.on HSN_CTL_YLDEN = true) ∧
    (∃ (s : State) (c : Nat) (x : Int), s.live 0x05 = true ∧ s.hsnActionDue = false ∧ c < 8 ∧
      s.hsnSync.on HSN_CTL_LOSSEN = true ∧ s.hsnSync.on (HSN_LCFG_EN c) = true) :=
  ⟨⟨(wOn [(HSN_WCFG_MAXLEN 3, 1)]).setHsnWin 3 { isOpen := true }, 3, by decide⟩,
    ⟨{ wOn [] with hsn := { tdom := true } }, by decide⟩,
    ⟨wOn [(HSN_STAT_LFLT, 8)], 3, 2000, by decide⟩,
    ⟨wOn [], 3, 1999, by decide⟩,
    ⟨wOn [], 2, by decide⟩,
    ⟨wOn [(HSN_CTL_YLDEN, 1)], 40000, by decide⟩,
    ⟨wOn [(HSN_CTL_LOSSEN, 1), (HSN_LCFG_EN 3, 1)], 3, 100, by decide⟩⟩

/-- The hypotheses of VisionPortsAct can be met. -/
theorem test_witness_VisionPortsAct :
    (∃ (s : State) (p : Nat), s.live 0x06 = true ∧ p < 3 ∧ s.rd (VIS_PSTAT_STATE p) = 1) ∧
    (∃ (s : State) (p : Nat), s.live 0x06 = true ∧ p < 3 ∧ s.rd (VIS_PSTAT_STATE p) = 2) ∧
    (∃ (s : State) (p : Nat) (lines : List (List Nat)) (f : VisFrame), s.live 0x06 = true ∧ p < 3 ∧
      s.rd (VIS_PSTAT_STATE p) = 3 ∧ tabFind s.vis.cur p = some f) ∧
    (∃ (s : State) (p : Nat) (lines : List (List Nat)) (f : VisFrame), s.live 0x06 = true ∧ p < 3 ∧
      s.rd (VIS_PSTAT_STATE p) = 3 ∧ tabFind s.vis.cur p = some f ∧ f.ts + s.rd (VIS_PTRIG_FTO p) * 100000 ≤ s.now) ∧
    (∃ (s : State) (p : Nat) (lines : List (List Nat)), s.live 0x06 = true ∧ p < 3 ∧
      (s.rd (VIS_PSTAT_STATE p) = 1 ∨ s.rd (VIS_PSTAT_STATE p) = 2)) ∧
    (∃ (s : State) (p : Nat) (lines : List (List Nat)), s.live 0x06 = true ∧ p < 3 ∧ s.rd (VIS_PSTAT_STATE p) = 3) ∧
    (∃ (s : State) (p : Nat), s.live 0x06 = true ∧ p < 3 ∧ s.rd (VIS_PSTAT_STATE p) = 4) ∧
    (∃ (s : State) (p t : Nat), s.live 0x06 = true ∧ tabFind s.vis.trig p = some t ∧
      t + s.rd (VIS_PTRIG_TRIGWIN p) * 1000 < s.now) ∧
    (∃ (s : State) (p n : Nat), s.live 0x06 = true ∧ p < 3 ∧ (s.rd (VIS_PSTAT_STATE p) = 1 ∨ s.rd (VIS_PSTAT_STATE p) = 2) ∧
      0 < n) ∧
    (∃ (s : State) (p t : Nat), s.blockOn 0x06 = true ∧ tabFind s.vis.pulse p = some t ∧ t ≤ s.now) :=
  ⟨⟨wOn [(VIS_PSTAT_STATE 2, 1)], 2, by decide⟩,
    ⟨wOn [(VIS_PSTAT_STATE 2, 2)], 2, by decide⟩,
    ⟨{ wOn [(VIS_PSTAT_STATE 2, 3)] with vis := { cur := [(2, { port := 2 })] } }, 2, [], { port := 2 }, by decide⟩,
    ⟨{ wOn [(VIS_PSTAT_STATE 2, 3)] with vis := { cur := [(2, { port := 2 })] } }, 2, [], { port := 2 }, by decide⟩,
    ⟨wOn [(VIS_PSTAT_STATE 2, 2)], 2, [], by decide⟩,
    ⟨wOn [(VIS_PSTAT_STATE 2, 3)], 2, [], by decide⟩,
    ⟨wOn [(VIS_PSTAT_STATE 2, 4)], 2, by decide⟩,
    ⟨{ wOn [] with vis := { trig := [(2, 5)] } }, 2, 5, by decide⟩,
    ⟨wOn [(VIS_PSTAT_STATE 2, 2)], 2, 7, by decide⟩,
    ⟨{ wOn [] with vis := { pulse := [(2, 5)] } }, 2, 5, by decide⟩⟩

/-- The hypotheses of VisionPipelineActs can be met. -/
theorem test_witness_VisionPipelineActs :
    (∃ (s : State) (f : VisFrame), s.live 0x06 = true ∧ visNextEnded s.vis.ended = some f ∧ f.fe + 50 ≤ s.now) ∧
    (∃ (s : State) (f : VisFrame), s.live 0x06 = true ∧ s.vis.proc = none ∧ s.vis.quiet = none ∧ s.visNext = some f) ∧
    (∃ (s : State) (p : VisProc), s.live 0x06 = true ∧ s.vis.proc = some p ∧ p.ends ≤ s.now) ∧
    (∃ (s : State) (t : Nat), s.live 0x06 = true ∧ s.vis.quiet = some t ∧ t ≤ s.now) ∧
    (∃ (s : State) (r : VisRes) (q : List VisRes), s.blockOn 0x06 = true ∧ s.vis.results = r :: q ∧ r.due ≤ s.now) ∧
    (∃ (s : State), s.open VIS_RPLY_GO.addr = true ∧ s.vis.replay.isSome = true) ∧
    (∃ (s : State), s.open VIS_RPLY_GO.addr = true ∧ s.vis.replay = none ∧ s.vis.proc = none ∧ s.rd VIS_RFMT_CFA ≤ 4 ∧
      visBadDim (s.rd VIS_RFMT_W) = false ∧ visBadDim (s.rd VIS_RFMT_H) = false) ∧
    (∃ (s : State) (p : VisProc), s.live 0x06 = true ∧ s.vis.proc = some p) ∧
    (∃ (s : State) (v : Nat), s.open VIS_RESRD_IDX.addr = true ∧ (v % 128 + 128 - s.rd VIS_RESRD_IDX) % 128 ≤ s.visUnread) :=
  ⟨⟨{ wOn [] with vis := { ended := [{ fe := 5 }] } }, { fe := 5 }, by decide⟩,
    ⟨{ wOn [] with vis := { queue := [{ port := 1 }] } }, { port := 1 }, by decide⟩,
    ⟨{ wOn [] with vis := { proc := some { frame := {}, out := {}, parrev := 0, parchg := false, begun := 0, ends := 5 } } }, { frame := {}, out := {}, parrev := 0, parchg := false, begun := 0, ends := 5 }, by decide⟩,
    ⟨{ wOn [] with vis := { quiet := some 5 } }, 5, by decide⟩,
    ⟨{ wOn [] with vis := { results := [{ due := 5, ctx := 0, words := [] }] } }, { due := 5, ctx := 0, words := [] }, [], by decide⟩,
    ⟨{ wOn [] with vis := { replay := some {} } }, by decide⟩,
    ⟨wOn [(VIS_RFMT_W, 64), (VIS_RFMT_H, 4096)], by decide⟩,
    ⟨{ wOn [] with vis := { proc := some { frame := {}, out := {}, parrev := 0, parchg := false, begun := 0, ends := 5 } } }, { frame := {}, out := {}, parrev := 0, parchg := false, begun := 0, ends := 5 }, by decide⟩,
    ⟨wOn [(VIS_RESWR_IDX, 5)], 4, by decide⟩⟩

/-- The hypotheses of ControlEngineEvaluationActs can be met. -/
theorem test_witness_ControlEngineEvaluationActs :
    (∃ (s : State) (n : Nat), s.live 0x04 = true ∧ n < 96 ∧ s.rd (CEN_LCTL_TRIG n) = 2 ∧
      s.now % (s.rd (CEN_LTIM_PERIOD n) * 1000) = s.rd (CEN_LTIM_OFS n) * 1000) ∧
    (∃ (s : State) (n : Nat), s.open CEN_SWTRIG_SLOT.addr = true ∧ n < 96) ∧
    (∃ (s : State) (p : CenPend) (t : Nat), s.live 0x04 = true ∧ s.cenPick = some (p, t)) ∧
    (∃ (s : State) (f : CenFlight), s.live 0x04 = true ∧ s.cen.flight.filter (fun x => decide (x.out24 ≤ 24 * s.now)) = [f]) ∧
    (∃ (s : State) (n : Nat), s.live 0x04 = true ∧ n < 96 ∧ (s.rd (CEN_LSTAT_STATE n) = 1 ∨ s.rd (CEN_LSTAT_STATE n) = 2) ∧
      s.rd (CEN_LSUP_STO n) ≠ 0 ∧ (s.cslot n).seen + s.rd (CEN_LSUP_STO n) * 1000000 ≤ s.now) ∧
    (∃ (s : State), s.live 0x04 = true ∧ s.now % 10000 = 0) ∧
    (∃ (s : State) (lsw : Bool) (ch code : Nat), code ≠ 0) :=
  ⟨⟨wOn [(CEN_LCTL_TRIG 95, 2), (CEN_LTIM_PERIOD 95, 1000), (CEN_LSTAT_STATE 95, 2)], 95, by decide⟩,
    ⟨wOn [(CEN_LSTAT_STATE 95, 2)], 95, by decide⟩,
    ⟨{ wOn [(CEN_LSTAT_STATE 95, 2)] with cen := { pend := [⟨95, 999999000, []⟩] } }, ⟨95, 999999000, []⟩, 23999976000, by decide⟩,
    ⟨{ wOn [(CEN_LSTAT_STATE 95, 2)] with cen := { flight := [{ slot := 95, tt := 5, out24 := 5, gen := 0 }] } }, { slot := 95, tt := 5, out24 := 5, gen := 0 }, by decide⟩,
    ⟨wOn [(CEN_LSTAT_STATE 95, 2), (CEN_LSUP_STO 95, 1)], 95, by decide⟩,
    ⟨wOn [], by decide⟩,
    ⟨wOn [], true, 5, 1, by decide⟩⟩

/-- The hypotheses of ControlEngineHostCommandsAct can be met. -/
theorem test_witness_ControlEngineHostCommandsAct :
    (∃ (s : State) (k : Nat), k < 48 ∧ s.open (CEN_FCMD_CMD k).addr = true) ∧
    (∃ (s : State) (k : Nat), k < 48 ∧ s.open (CEN_FCMD_CMD k).addr = true) ∧
    (∃ (s : State) (n : Nat), n < 96 ∧ s.open (CEN_LCMD_CMD n).addr = true) ∧
    (∃ (s : State) (n : Nat), n < 96 ∧ s.open (CEN_LCMD_CMD n).addr = true ∧ s.cenTaken n = false ∧
      (s.rd (CEN_LSTAT_STATE n) = 0 ∨ s.rd (CEN_LSTAT_STATE n) = 2)) ∧
    (∃ (s : State) (n : Nat), n < 96 ∧ s.open (CEN_LCMD_CMD n).addr = true ∧ s.cenTaken n = false ∧
      (s.rd (CEN_LSTAT_STATE n) = 0 ∨ s.rd (CEN_LSTAT_STATE n) = 1)) ∧
    (∃ (s : State) (n : Nat), n < 96 ∧ s.open (CEN_LCMD_CMD n).addr = true ∧ s.cenTaken n = true) ∧
    (∃ (s : State) (n : Nat), n < 96 ∧ s.open (CEN_LCMD_CMD n).addr = true) ∧
    (∃ (s : State) (n : Nat), n < 96 ∧ s.open (CEN_LCMD_CMD n).addr = true ∧ s.rd (CEN_LSTAT_STATE n) = 3 ∧
      s.cenChanOf n = none ∧ (s.rd (CEN_LSTAT_CAUSE n) = 2 ∨ s.rd (CEN_LSTAT_CAUSE n) = 5)) ∧
    (∃ (s : State) (n v : Nat), n < 16 ∧ s.open (CEN_XFB_RAW n).addr = true) ∧
    (∃ (s : State) (v : Nat), s.open CEN_TRRD_IDX.addr = true ∧ (v % 512 + 512 - s.rd CEN_TRRD_IDX) % 512 ≤ s.cenUnread) ∧
    (∃ (s : State) (v : Nat), s.open CEN_TRRD_IDX.addr = true ∧ s.cenUnread < (v % 512 + 512 - s.rd CEN_TRRD_IDX) % 512) :=
  ⟨⟨wOn [(CEN_FCFG_APATH 47, 1), (CEN_FCFG_LOOP 47, 96)], 47, by decide⟩,
    ⟨wOn [(CEN_FSTAT_STATE 47, 1)], 47, by decide⟩,
    ⟨wOn [(CEN_LSTAT_STATE 95, 1)], 95, by decide⟩,
    ⟨wOn [], 95, by decide⟩,
    ⟨wOn [], 95, by decide⟩,
    ⟨wOn [(CEN_FCFG_LOOP 3, 95), (CEN_FCFG_APATH 3, 3), (CEN_FSTAT_STATE 3, 1)], 95, by decide⟩,
    ⟨(wOn []).setCslot 95 { i := 5 }, 95, by decide⟩,
    ⟨wOn [(CEN_LSTAT_STATE 95, 3), (CEN_LSTAT_CAUSE 95, 2)], 95, by decide⟩,
    ⟨wOn [], 15, 9, by decide⟩,
    ⟨wOn [(CEN_TRWR_IDX, 5)], 4, by decide⟩,
    ⟨wOn [], 4, by decide⟩⟩

/-- The hypotheses of SectionControlCommandsAct can be met. -/
theorem test_witness_SectionControlCommandsAct :
    (∃ (s : State), s.live 0x09 = true ∧ s.secMayPlan = true ∧ s.secAsked = true ∧ (s.applyDue 0x09 0).secMayStart = true) ∧
    (∃ (s : State), s.blockOn 0x09 = true ∧ s.now % 10000000 = 0) ∧
    (∃ (s : State), s.blockOn 0x09 = true ∧ s.rd SEC_STAT_STATE = 2 ∧ s.secCause ≠ 0) ∧
    (∃ (s : State), s.blockOn 0x09 = true ∧ s.rd SEC_STAT_STATE = 3 ∧ s.secCause = 0 ∧ s.sec.causeAt + 500000000 ≤ s.now) ∧
    (∃ (s : State), s.open SEC_CMD_CMD.addr = true) ∧
    (∃ (s : State), s.open SEC_CMD_CMD.addr = true) ∧
    (∃ (s : State), s.open SEC_CMD_CMD.addr = true ∧ (s.rd SEC_STAT_STATE = 0 ∨ s.rd SEC_STAT_STATE = 1)) ∧
    (∃ (s : State), s.open SEC_CMD_CMD.addr = true ∧ (s.rd SEC_STAT_STATE = 2 ∨ s.rd SEC_STAT_STATE = 3)) ∧
    (∃ (s : State) (row : Nat), s.open SEC_CMD_CMD.addr = true ∧ row < 512 ∧ s.rd (SEC_RCSTAT_STATE row) = 3) ∧
    (∃ (s : State), s.blockOn 0x09 = true ∧ s.now % 100000 = 0) :=
  ⟨⟨{ wOn [(SEC_STAT_STATE, 1)] with sec := { replan := true } }, by decide⟩,
    ⟨wOn [], by decide⟩,
    ⟨wOn [(SEC_STAT_STATE, 2)], by decide⟩,
    ⟨{ (wOn [(SEC_STAT_STATE, 3), (SEC_THR_MINSPD, 0), (SEC_CTL_DBASE, 0)]).setTb 0 { st := 3 } with sec := { res := some { tv := 1000000000, ok := true } } }, by decide⟩,
    ⟨wOn [], by decide⟩,
    ⟨wOn [], by decide⟩,
    ⟨wOn [], by decide⟩,
    ⟨wOn [(SEC_STAT_STATE, 2)], by decide⟩,
    ⟨wOn [(SEC_RCSTAT_STATE 511, 3)], 511, by decide⟩,
    ⟨wOn [], by decide⟩⟩

/-- The hypotheses of ReceiverChannelsAndEpochsAct can be met. -/
theorem test_witness_ReceiverChannelsAndEpochsAct :
    (∃ (s : State) (sats : List GnsSat) (meas : List GnsMeas) (e : GnsEpoch), s.blockOn 0x07 = true ∧
      e.tow % s.gnsPeriod = 0 ∧ e.tow % 1000000000 ≠ 0 ∧ (s.applyDue 0x07 0).on GNS_CTL_EN = true) ∧
    (∃ (s : State) (sats : List GnsSat) (meas : List GnsMeas) (e : GnsEpoch), s.blockOn 0x07 = true ∧
      e.tow % s.gnsPeriod = 0 ∧ e.tow % 1000000000 = 0 ∧ ((s.applyDue 0x07 0).applyDue 0x07 2).on GNS_CTL_EN = true) ∧
    (∃ (s : State) (c : Nat), s.blockOn 0x07 = true ∧ c < 184 ∧
      (s.rd (GNS_CHSTAT_STATE c) = 1 ∨ s.rd (GNS_CHSTAT_STATE c) = 4)) ∧
    (∃ (s : State) (c : Nat), s.blockOn 0x07 = true ∧ c < 184 ∧ s.rd (GNS_CHSTAT_STATE c) = 2) ∧
    (∃ (s : State) (c : Nat), s.blockOn 0x07 = true ∧ c < 184 ∧ s.rd (GNS_CHSTAT_STATE c) = 2 ∧
      (s.gch c).since + 2000000000 ≤ s.now) ∧
    (∃ (s : State) (c cn0 ms : Nat), s.blockOn 0x07 = true ∧ c < 184 ∧ s.rd (GNS_CHSTAT_STATE c) = 3 ∧ (cn0 < 80 ∨ 200 ≤ ms)) ∧
    (∃ (s : State) (c : Nat), s.blockOn 0x07 = true ∧ c < 184 ∧ s.rd (GNS_CHSTAT_STATE c) = 4 ∧
      (s.gch c).since + 10000000000 ≤ s.now) ∧
    (∃ (s : State) (v : Nat), s.open GNS_EPRD_IDX.addr = true ∧
      (v % 16 + 16 - s.rd GNS_EPRD_IDX) % 16 ≤ (s.rd GNS_EPWR_IDX + 16 - s.rd GNS_EPRD_IDX) % 16) ∧
    (∃ (s : State) (v : Nat), s.open GNS_EPRD_IDX.addr = true ∧
      (s.rd GNS_EPWR_IDX + 16 - s.rd GNS_EPRD_IDX) % 16 < (v % 16 + 16 - s.rd GNS_EPRD_IDX) % 16) ∧
    (∃ (s : State), s.blockOn 0x07 = true ∧ s.rd GNS_STAT_TSTATE = 1 ∧ s.gns.savedAt + 600000000000 ≤ s.now) ∧
    (∃ (s : State), s.open GNS_CMD_CMD.addr = true ∧ s.rd GNS_STAT_TSTATE = 1) ∧
    (∃ (s : State), s.open GNS_CMD_CMD.addr = true ∧ s.rd GNS_STAT_TSTATE ≠ 1) ∧
    (∃ (s : State), s.open GNS_CMD_CMD.addr = true) ∧
    (∃ (s : State), s.open GNS_CMD_CMD.addr = true) :=
  ⟨⟨wOn [(GNS_CTL_EN, 1)], [], [], ⟨1, 100000000, false, 0, 0, 0, 0, 0, false, 0, 0, 0, 0⟩, by decide⟩,
    ⟨wOn [(GNS_CTL_EN, 1)], [], [], ⟨1, 1000000000, false, 0, 0, 0, 0, 0, false, 0, 0, 0, 0⟩, by decide⟩,
    ⟨wOn [(GNS_CHSTAT_STATE 183, 4)], 183, by decide⟩,
    ⟨wOn [(GNS_CHSTAT_STATE 183, 2)], 183, by decide⟩,
    ⟨{ wOn [(GNS_CHSTAT_STATE 183, 2)] with now := 2000000000 }, 183, by decide⟩,
    ⟨wOn [(GNS_CHSTAT_STATE 183, 3)], 183, 80, 200, by decide⟩,
    ⟨{ wOn [(GNS_CHSTAT_STATE 183, 4)] with now := 10000000000 }, 183, by decide⟩,
    ⟨wOn [(GNS_EPWR_IDX, 5)], 5, by decide⟩,
    ⟨wOn [(GNS_EPWR_IDX, 5)], 6, by decide⟩,
    ⟨{ wOn [(GNS_STAT_TSTATE, 1)] with now := 600000000000 }, by decide⟩,
    ⟨wOn [(GNS_STAT_TSTATE, 1)], by decide⟩,
    ⟨wOn [(GNS_STAT_TSTATE, 2)], by decide⟩,
    ⟨{ wOn [] with ret := { at_ := 5 } }, by decide⟩,
    ⟨wOn [], by decide⟩⟩

/-- The hypotheses of TimePulseAndAntennasAct can be met. -/
theorem test_witness_TimePulseAndAntennasAct :
    (∃ (s : State) (m : TimeqMsg), s.blockOn 0x07 = true ∧ s.gns.next = some m ∧ m.due s.now = true ∧
      s.on GNS_STAT_TCXOFLT = false) ∧
    (∃ (s : State) (t : Nat), s.blockOn 0x07 = true ∧ s.gnsTp1 = true ∧ s.gnsTp1Now t = true ∧
      ((t : Int) - (s.rd GNS_TP1OFS_OFS : Int)) % (s.rd GNS_TP1PER_PER : Int) = 0) ∧
    (∃ (s : State) (q : Int), s.blockOn 0x07 = true ∧ s.gns.next = none ∧ (s.applyDue 0x07 1).gnsPulses = true ∧
      s.gnsOnTime = true) ∧
    (∃ (s : State) (q : Int), s.blockOn 0x07 = true ∧ s.gns.next = none ∧ (s.applyDue 0x07 1).gnsPulses = false) ∧
    (∃ (s : State), s.windowOn GNS_TQWK_WEEK.addr = true) ∧
    (∃ (s : State) (nsat pdop err : Nat) (off : Int) (week tow ns : Nat) (rate leap : Int) (lweek ltow : Nat), s.blockOn 0x07
      = true ∧ s.on GNS_CTL_EN = true ∧ 4 ≤ nsat ∧ pdop ≤ 100) ∧
    (∃ (s : State) (nsat pdop err : Nat) (off : Int) (week tow ns : Nat) (rate leap : Int) (lweek ltow : Nat), (nsat < 4 ∨
      100 < pdop)) ∧
    (∃ (s : State), s.blockOn 0x07 = true ∧ s.gns.solAt + 1000000000 ≤ s.now) ∧
    (∃ (s : State) (p t : Nat), s.blockOn 0x07 = true ∧ tabFind s.gns.tp p = some t ∧ t ≤ s.now) ∧
    (∃ (s : State) (a i : Nat), s.blockOn 0x07 = true ∧ a < 2 ∧ i < 2000 ∧
      s.rd (if a = 0 then GNS_STAT_ANT0F else GNS_STAT_ANT1F) = 0) ∧
    (∃ (s : State) (a i : Nat), s.blockOn 0x07 = true ∧ a < 2 ∧ 2000 ≤ i ∧
      s.rd (if a = 0 then GNS_STAT_ANT0F else GNS_STAT_ANT1F) = 1) ∧
    (∃ (s : State) (a i : Nat), s.blockOn 0x07 = true ∧ a < 2 ∧ 100000 < i ∧
      s.rd (if a = 0 then GNS_STAT_ANT0F else GNS_STAT_ANT1F) ≠ 2) ∧
    (∃ (s : State) (a i : Nat), s.blockOn 0x07 = true ∧ a < 2 ∧ s.rd (if a = 0 then GNS_STAT_ANT0F else GNS_STAT_ANT1F) = 2 ∧
      tabGet 0 s.gns.shortAt a + 10000000000 ≤ s.now ∧ i ≤ 100000) ∧
    (∃ (s : State) (a i : Nat), s.blockOn 0x07 = true ∧ a < 2 ∧ s.rd (if a = 0 then GNS_STAT_ANT0F else GNS_STAT_ANT1F) = 2 ∧
      tabGet 0 s.gns.shortAt a + 10000000000 ≤ s.now ∧ 100000 < i) ∧
    (∃ (s : State) (band : Nat), s.blockOn 0x07 = true ∧ band < 4 ∧ bit s.gns.bands band = false ∧
      (putBit s.gns.bands band true) ≠ 0) ∧
    (∃ (s : State) (band : Nat), s.blockOn 0x07 = true ∧ band < 4) ∧
    (∃ (s : State) (dev : Int), s.blockOn 0x07 = true ∧ 10000 < dev.natAbs ∧ s.on GNS_STAT_TCXOFLT = false) ∧
    (∃ (s : State) (dev : Int), s.blockOn 0x07 = true ∧ dev.natAbs ≤ 10000) :=
  ⟨⟨{ wOn [(GNS_TPCTL_TP0EN, 1), (GNS_STAT_TSTATE, 1)] with gns := { next := some {} } }, {}, by decide⟩,
    ⟨{ wOn [(GNS_TPCTL_TP1EN, 1), (GNS_STAT_TSTATE, 1), (GNS_TP1PER_PER, 1000), (GNS_TP1OFS_OFS, 3)] with gns := { ({} : Gns) with solAt := 994997000, solSec := 994997000 } }, 5003, by decide⟩,
    ⟨wOn [(GNS_TPCTL_TP0EN, 1), (GNS_STAT_TSTATE, 1)], -5, by decide, by decide, by decide, by decide⟩,
    ⟨wOn [], -5, by decide⟩,
    ⟨{ wOn [] with gns := { msg := { week := 7, tow := 9 } } }, by decide⟩,
    ⟨wOn [(GNS_CTL_EN, 1)], 4, 100, 20, 5, 1, 2, 7, 3, 0, 0, 0, by decide⟩,
    ⟨wOn [(GNS_CTL_EN, 1)], 3, 100, 20, 5, 1, 2, 7, 3, 0, 0, 0, by decide⟩,
    ⟨wOn [(GNS_STAT_TSTATE, 1)], by decide⟩,
    ⟨{ wOn [] with gns := { tp := [(1, 5)] } }, 1, 5, by decide⟩,
    ⟨wOn [], 1, 1999, by decide⟩,
    ⟨wOn [(GNS_STAT_ANT1F, 1)], 1, 2000, by decide⟩,
    ⟨wOn [(GNS_STAT_ANT1F, 1)], 1, 100001, by decide⟩,
    ⟨{ wOn [(GNS_STAT_ANT1F, 2)] with now := 10000000000 }, 1, 100000, by decide⟩,
    ⟨{ wOn [(GNS_STAT_ANT1F, 2)] with now := 10000000000 }, 1, 100001, by decide⟩,
    ⟨wOn [], 3, by decide⟩,
    ⟨{ wOn [] with gns := { bands := 8 } }, 3, by decide⟩,
    ⟨wOn [(GNS_STAT_TSTATE, 1)], -10001, by decide⟩,
    ⟨wOn [(GNS_STAT_TCXOFLT, 1)], 10000, by decide⟩⟩

/-- The hypotheses of FusionSamplesAndResultsAct can be met. -/
theorem test_witness_FusionSamplesAndResultsAct :
    (∃ (s : State) (k : Nat) (sat : Bool) (w : List Nat), s.live 0x08 = true ∧ s.on FUS_CTL_EN = true ∧ k < 16 ∧
      s.on (FUS_SCFG_EN k) = true ∧ s.rd (FUS_SCFG_TYPE k) = 1 ∧ s.now % 1000000 = 0) ∧
    (∃ (s : State) (k : Nat) (sat : Bool) (w : List Nat) (x : FusSamp) (q : List FusSamp), s.live 0x08 = true ∧
      s.on FUS_CTL_EN = true ∧ k < 16 ∧ s.on (FUS_SCFG_EN k) = true ∧ s.rd (FUS_SCFG_TYPE k) = 2 ∧ s.fus.queue = x :: q ∧
      x.strm = k ∧ x.tm ≤ s.now ∧ s.rd FUS_STAT_PRIM = k ∧
      (State.fusDepth { s with fus := { s.fus with queue := q } }).fusOld x.tm = false) ∧
    (∃ (s : State) (k : Nat) (sat : Bool) (w : List Nat) (x : FusSamp) (q : List FusSamp), s.live 0x08 = true ∧
      s.on FUS_CTL_EN = true ∧ k < 16 ∧ s.on (FUS_SCFG_EN k) = true ∧ s.rd (FUS_SCFG_TYPE k) = 2 ∧ s.fus.queue = x :: q ∧
      x.strm = k ∧ x.tm ≤ s.now ∧ s.rd FUS_STAT_PRIM = k ∧
      (State.fusDepth { s with fus := { s.fus with queue := q } }).fusOld x.tm = true) ∧
    (∃ (s : State) (k : Nat) (sat : Bool) (w : List Nat) (x : FusSamp) (q : List FusSamp), s.live 0x08 = true ∧
      s.on FUS_CTL_EN = true ∧ k < 16 ∧ s.on (FUS_SCFG_EN k) = true ∧ s.rd (FUS_SCFG_TYPE k) = 2 ∧ s.fus.queue = x :: q ∧
      x.strm = k ∧ x.tm ≤ s.now ∧ s.rd FUS_STAT_PRIM ≠ k) ∧
    (∃ (s : State) (k : Nat), s.live 0x08 = true ∧ s.on FUS_CTL_EN = true ∧ k < 16 ∧ s.on (FUS_SCFG_EN k) = true ∧
      s.fusInstant k = true) ∧
    (∃ (s : State) (p : Nat), p < 4 ∧ s.open (FUS_PPUSH_GO p).addr = true) ∧
    (∃ (s : State) (x : FusSamp) (q : List FusSamp), s.live 0x08 = true ∧ s.on FUS_CTL_EN = true ∧ s.fus.queue = x :: q ∧
      x.tm ≤ s.now ∧ s.rd FUS_STAT_PRIM ≠ x.strm) ∧
    (∃ (s : State), s.live 0x08 = true ∧ s.on FUS_CTL_EN = true ∧ s.fusReady = true) ∧
    (∃ (s : State) (r : FusReplay) (i : FusInst), s.live 0x08 = true ∧ s.on FUS_CTL_EN = true ∧ s.fus.rp = some r ∧
      s.fusRpNext r = some i ∧ s.fusRpDue r i.tv ≤ s.now * 120) ∧
    (∃ (s : State) (r : FusReplay), s.live 0x08 = true ∧ s.on FUS_CTL_EN = true ∧ s.fus.rp = some r ∧ s.fusRpNext r = none) :=
  ⟨⟨wOn [(FUS_CTL_EN, 1), (FUS_SCFG_EN 15, 1), (FUS_SCFG_TYPE 15, 1)], 15, true, [1, 2, 3, 4, 5, 6], by decide⟩,
    ⟨{ wOn [(FUS_CTL_EN, 1), (FUS_SCFG_EN 15, 1), (FUS_SCFG_TYPE 15, 2), (FUS_STAT_PRIM, 15)] with fus := { queue := [{ strm := 15, tm := 5 }] } }, 15, false, [], { strm := 15, tm := 5 }, [], by decide⟩,
    ⟨{ wOn [(FUS_CTL_EN, 1), (FUS_SCFG_EN 15, 1), (FUS_SCFG_TYPE 15, 2), (FUS_STAT_PRIM, 15)] with fus := { queue := [{ strm := 15, tm := 5 }], hist := [{ tv := 1600000000, oseq := 1, rev := 0 }] } }, 15, false, [], { strm := 15, tm := 5 }, [], by decide⟩,
    ⟨{ wOn [(FUS_CTL_EN, 1), (FUS_SCFG_EN 15, 1), (FUS_SCFG_TYPE 15, 2), (FUS_STAT_PRIM, 3)] with fus := { queue := [{ strm := 15, tm := 5 }] } }, 15, false, [], { strm := 15, tm := 5 }, [], by decide⟩,
    ⟨wOn [(FUS_CTL_EN, 1), (FUS_SCFG_EN 15, 1), (FUS_SCFG_TYPE 15, 6), (FUS_SPER_PERIOD 15, 1000)], 15, by decide⟩,
    ⟨wOn [], 3, by decide⟩,
    ⟨{ wOn [(FUS_CTL_EN, 1), (FUS_STAT_PRIM, 15)] with fus := { queue := [{ strm := 3, tm := 5 }] } }, { strm := 3, tm := 5 }, [], by decide⟩,
    ⟨{ wOn [(FUS_CTL_EN, 1), (FUS_STAT_ESTATE, 3)] with fus := { imuAt := 1000000000 } }, by decide⟩,
    ⟨{ wOn [(FUS_CTL_EN, 1)] with fus := { rp := some { from_ := 5, point := 7, at120 := 8, tm := 6 }, hist := [{ tv := 999, oseq := 1, rev := 0 }] } }, { from_ := 5, point := 7, at120 := 8, tm := 6 }, { tv := 999, oseq := 1, rev := 0 }, by decide⟩,
    ⟨{ wOn [(FUS_CTL_EN, 1)] with fus := { rp := some { from_ := 5, point := 7, at120 := 8, tm := 6 } } }, { from_ := 5, point := 7, at120 := 8, tm := 6 }, by decide⟩⟩

/-- The hypotheses of FusionSupervisionAndCommandsAct can be met. -/
theorem test_witness_FusionSupervisionAndCommandsAct :
    (∃ (s : State) (k : Nat), s.live 0x08 = true ∧ s.on FUS_CTL_EN = true ∧ k < 16 ∧ s.rd (FUS_SSTAT_SSTATE k) = 2 ∧
      (s.fstr k).seen + s.rd (FUS_SPER_STALE k) * 1000000 ≤ s.now) ∧
    (∃ (s : State), s.live 0x08 = true ∧ s.on FUS_CTL_EN = true ∧ s.rd FUS_STAT_ESTATE = 3 ∧
      s.fus.posAt + s.rd FUS_LIM_POSTO * 1000000 ≤ s.now) ∧
    (∃ (s : State), s.live 0x08 = true ∧ s.on FUS_CTL_EN = true ∧ s.fusFocusDue = true) ∧
    (∃ (s : State), s.open FUS_CMD_CMD.addr = true ∧ s.on FUS_CTL_EN = true) ∧
    (∃ (s : State), s.open FUS_CMD_CMD.addr = true ∧ s.on FUS_CTL_EN = false) ∧
    (∃ (s : State) (mask : Nat), s.open FUS_CMD_CMD.addr = true) ∧
    (∃ (s : State) (mask : Nat), s.open FUS_CMD_CMD.addr = true) ∧
    (∃ (s : State) (cause : Nat), s.live 0x08 = true ∧ s.on FUS_CTL_EN = true ∧ cause = 1) ∧
    (∃ (s : State) (cause : Nat), s.live 0x08 = true ∧ s.on FUS_CTL_EN = true ∧ cause = 2) ∧
    (∃ (s : State), s.windowOn (FUS_LAST_WORD 0).addr = true) ∧
    (∃ (s : State) (v : Nat), s.open FUS_RESRD_IDX.addr = true ∧ (v % 1024 + 1024 - s.rd FUS_RESRD_IDX) % 1024 ≤ s.fusUnread) ∧
    (∃ (s : State) (v : Nat), s.open FUS_RESRD_IDX.addr = true ∧ s.fusUnread < (v % 1024 + 1024 - s.rd FUS_RESRD_IDX) % 1024) :=
  ⟨⟨wOn [(FUS_CTL_EN, 1), (FUS_SSTAT_SSTATE 15, 2)], 15, by decide⟩,
    ⟨wOn [(FUS_CTL_EN, 1), (FUS_STAT_ESTATE, 3), (FUS_LIM_POSTO, 1000)], by decide⟩,
    ⟨{ wOn [(FUS_CTL_EN, 1)] with fus := { focus := some 15 } }, by decide⟩,
    ⟨wOn [(FUS_CTL_EN, 1)], by decide⟩,
    ⟨wOn [], by decide⟩,
    ⟨wOn [(FUS_SCFG_TYPE 15, 1)], 0x8000, by decide⟩,
    ⟨wOn [], 0x8000, by decide⟩,
    ⟨wOn [(FUS_CTL_EN, 1)], 1, by decide⟩,
    ⟨wOn [(FUS_CTL_EN, 1)], 2, by decide⟩,
    ⟨{ wOn [] with fus := { last := [1, 2, 3] } }, by decide⟩,
    ⟨wOn [(FUS_RESWR_IDX, 5)], 5, by decide⟩,
    ⟨wOn [(FUS_RESWR_IDX, 5)], 6, by decide⟩⟩

/-- The hypotheses of CanTransmissionActs can be met. -/
theorem test_witness_CanTransmissionActs :
    (∃ (s : State) (n b : Nat), n < 6 ∧ b < 3 ∧ s.open (CAN_TXREQ_GO n b).addr = true ∧ s.canReserved n b = false ∧
      s.rd (CAN_TXSTAT_FROZEN n b) = 0 ∧ s.rd (CAN_TXSTAT_PEND n b) = 0) ∧
    (∃ (s : State) (n b : Nat), n < 6 ∧ b < 3 ∧ s.open (CAN_TXREQ_GO n b).addr = true ∧ s.canReserved n b = false ∧
      s.rd (CAN_TXSTAT_FROZEN n b) = 0 ∧ s.on (CAN_TXSTAT_PEND n b) = true) ∧
    (∃ (s : State) (n b : Nat), n < 6 ∧ b < 3 ∧ s.open (CAN_TXREQ_GO n b).addr = true ∧ s.canReserved n b = false ∧
      s.on (CAN_TXSTAT_FROZEN n b) = true) ∧
    (∃ (s : State) (n b : Nat), n < 6 ∧ b < 3 ∧ s.open (CAN_TXREQ_GO n b).addr = true ∧ s.canReserved n b = true) ∧
    (∃ (s : State) (n b : Nat), n < 6 ∧ b < 3 ∧ s.open (CAN_TXCAN_GO n b).addr = true ∧ s.canReserved n b = false ∧
      s.rd (CAN_TXSTAT_FROZEN n b) = 0 ∧ s.on (CAN_TXSTAT_PEND n b) = true) ∧
    (∃ (s : State) (n b : Nat), n < 6 ∧ b < 3 ∧ s.open (CAN_TXCAN_GO n b).addr = true ∧ s.canReserved n b = false ∧
      s.on (CAN_TXSTAT_FROZEN n b) = true) ∧
    (∃ (s : State) (n b : Nat), n < 6 ∧ s.canMayTx n = true ∧ s.canFrozenBuf n = none ∧ s.canChoose n = some b ∧
      s.each [0, 1, 2] (State.canBefore n) = s) ∧
    (∃ (s : State) (n : Nat), n < 6 ∧ s.canMayTx n = true ∧ s.canFrozenBuf n = none) ∧
    (∃ (s : State) (n b : Nat), n < 6 ∧ s.blockOn 0x0C = true ∧ s.canFrozenBuf n = some b ∧
      (b ≠ 0 ∨ s.on (CAN_CTL_ISOEN n) = false)) ∧
    (∃ (s : State) (n : Nat), n < 6 ∧ s.blockOn 0x0C = true ∧ s.canFrozenBuf n = some 0 ∧ s.on (CAN_CTL_ISOEN n) = true) ∧
    (∃ (s : State) (n : Nat), (s.bpe n).fin = true ∧ (s.bpe n).outq = []) ∧
    (∃ (s : State) (n b lec : Nat) (dom arb : Bool) (more : Nat), n < 6 ∧ s.blockOn 0x0C = true ∧ s.canFrozenBuf n = some b ∧
      lec < 7) ∧
    (∃ (s : State) (n : Nat), n < 6 ∧ s.blockOn 0x0C = true ∧ s.rd (CAN_STAT_ESTATE n) = 3) ∧
    (∃ (s : State) (n : Nat), n < 6 ∧ s.open (CAN_CMD_CMD n).addr = true ∧ s.rd (CAN_STAT_ESTATE n) = 2) ∧
    (∃ (s : State) (n : Nat), n < 6 ∧ s.open (CAN_LMTXGO_GO n).addr = true) ∧
    (∃ (s : State) (n reason : Nat), n < 6 ∧ s.blockOn 0x0C = true ∧ s.on (CAN_LMTXS_BUSY n) = true ∧ (s.bpe n).out = none) ∧
    (∃ (s : State) (n reason : Nat), n < 6 ∧ s.blockOn 0x0C = true ∧ s.on (CAN_LMTXS_BUSY n) = true) :=
  ⟨⟨wOn [], 5, 2, by decide⟩,
    ⟨wOn [(CAN_TXSTAT_PEND 5 2, 1)], 5, 2, by decide⟩,
    ⟨wOn [(CAN_TXSTAT_FROZEN 5 2, 1)], 5, 2, by decide⟩,
    ⟨wOn [(CAN_CTL_ISOEN 5, 1)], 5, 0, by decide⟩,
    ⟨wOn [(CAN_TXSTAT_PEND 5 2, 1)], 5, 2, by decide⟩,
    ⟨wOn [(CAN_TXSTAT_FROZEN 5 2, 1)], 5, 2, by decide⟩,
    ⟨wOn [(CAN_CTL_EN 5, 1), (CAN_TXSTAT_PEND 5 2, 1)], 5, 2, by decide⟩,
    ⟨wOn [(CAN_CTL_EN 5, 1), (CAN_TXSTAT_PEND 5 2, 1)], 5, by decide⟩,
    ⟨wOn [(CAN_TXSTAT_FROZEN 5 2, 1)], 5, 2, by decide⟩,
    ⟨({ wOn [(CAN_TXSTAT_FROZEN 5 0, 1), (CAN_LMTXS_BUSY 5, 1), (CAN_CTL_ISOEN 5, 1)] with can := { ({} : Can) with bpe := [(5, { ({} : CanBpe) with fin := true })] } } : State), 5, by decide⟩,
    ⟨({ wOn [] with can := { ({} : Can) with bpe := [(5, { ({} : CanBpe) with fin := true })] } } : State), 5, by decide⟩,
    ⟨wOn [(CAN_TXSTAT_FROZEN 5 2, 1)], 5, 2, 6, true, false, 0, by decide⟩,
    ⟨wOn [(CAN_STAT_ESTATE 5, 3), (CAN_STAT_TEC 5, 300)], 5, by decide⟩,
    ⟨wOn [(CAN_STAT_ESTATE 5, 2)], 5, by decide⟩,
    ⟨wOn [], 5, by decide⟩,
    ⟨wOn [(CAN_LMTXS_BUSY 5, 1)], 5, 2, by decide⟩,
    ⟨wOn [(CAN_LMTXS_BUSY 5, 1)], 5, 2, by decide⟩⟩

/-- The hypotheses of CanReceptionActs can be met. -/
theorem test_witness_CanReceptionActs :
    (∃ (s : State) (n : Nat) (f : CanFrame) (esi : Bool) (age : Nat), n < 6 ∧ s.blockOn 0x0C = true ∧
      s.on (CAN_CTL_EN n) = true ∧ s.rd (CAN_STAT_ESTATE n) ≠ 2 ∧ s.canJoined n = true ∧
      (f.fdf = false ∨ s.on (CAN_CTL_FDEN n) = true ∧ f.rtr = false) ∧ s.canCounts n = true) ∧
    (∃ (s : State) (n : Nat) (f : CanFrame) (esi : Bool) (age : Nat), n < 6 ∧ s.blockOn 0x0C = true ∧
      s.on (CAN_CTL_EN n) = true ∧ s.rd (CAN_STAT_ESTATE n) ≠ 2 ∧ s.canJoined n = true ∧
      (f.fdf = false ∨ s.on (CAN_CTL_FDEN n) = true ∧ f.rtr = false) ∧ s.canCounts n = false) ∧
    (∃ (s : State) (n lec : Nat) (eight : Bool), n < 6 ∧ s.blockOn 0x0C = true ∧ s.on (CAN_CTL_EN n) = true ∧
      s.canCounts n = true ∧ 0 < lec ∧ lec < 7) ∧
    (∃ (s : State) (n q : Nat), n < 6 ∧ q < 2 ∧ s.open (CAN_RXPOP_GO n q).addr = true) ∧
    (∃ (s : State) (n f : Nat), n < 6 ∧ s.blockOn 0x0C = true ∧ f < 128 ∧ s.canTmoDue n f = true ∧
      s.on (CAN_FCFG_TSUP n f) = false) ∧
    (∃ (s : State) (n f : Nat), n < 6 ∧ s.blockOn 0x0C = true ∧ f < 128 ∧ s.canTmoDue n f = true ∧
      s.on (CAN_FCFG_TSUP n f) = true ∧ bit (s.rd TSV_MPAR9_CF) n = true) ∧
    (∃ (s : State) (n f : Nat), n < 6 ∧ s.blockOn 0x0C = true ∧ f < 128 ∧ s.canTmoDue n f = true ∧
      s.on (CAN_FCFG_TSUP n f) = true ∧ bit (s.rd TSV_MPAR9_CF) n = false) ∧
    (∃ (s : State) (n : Nat), n < 6 ∧ s.blockOn 0x0C = true ∧ s.rd (CAN_ISOADDR_CSTATE n) = 1 ∧
      (s.bpe n).at_ + 250000000 ≤ s.now) ∧
    (∃ (s : State) (n : Nat) (m : CanLong), n < 6 ∧ s.blockOn 0x0C = true ∧ s.on (CAN_CTL_EN n) = true ∧
      s.rd (CAN_STAT_ESTATE n) ≠ 2 ∧ s.canJoined n = true ∧ s.on (CAN_CTL_ISOEN n) = true) ∧
    (∃ (s : State) (n v : Nat), n < 6 ∧ s.open (CAN_LMRXRD_IDX n).addr = true ∧
      (v % 32 + 32 - s.rd (CAN_LMRXRD_IDX n)) % 32 ≤ (s.rd (CAN_LMRXWR_IDX n) + 32 - s.rd (CAN_LMRXRD_IDX n)) % 32) ∧
    (∃ (s : State) (n v : Nat), n < 6 ∧ s.open (CAN_LMRXRD_IDX n).addr = true ∧
      (s.rd (CAN_LMRXWR_IDX n) + 32 - s.rd (CAN_LMRXRD_IDX n)) % 32 < (v % 32 + 32 - s.rd (CAN_LMRXRD_IDX n)) % 32) :=
  ⟨⟨wOn [(CAN_CTL_EN 5, 1)], 5, { id := 5, dlc := 0 }, false, 9000, by decide⟩,
    ⟨wOn [(CAN_CTL_EN 5, 1), (CAN_STAT_ESTATE 5, 3)], 5, { id := 5, dlc := 0 }, false, 9000, by decide⟩,
    ⟨wOn [(CAN_CTL_EN 5, 1), (CAN_STAT_REC 5, 250)], 5, 6, true, by decide⟩,
    ⟨wOn [(CAN_RXFSTAT_OVF 5 1, 1)], 5, 1, by decide⟩,
    ⟨wOn [(CAN_FCFG_EN 5 127, 1), (CAN_FCFG_TMO 5 127, 10)], 5, 127, by decide⟩,
    ⟨wOn [(CAN_FCFG_EN 5 127, 1), (CAN_FCFG_TMO 5 127, 10), (CAN_FCFG_TSUP 5 127, 1), (TSV_MPAR9_CF, 63)], 5, 127, by decide⟩,
    ⟨wOn [(CAN_FCFG_EN 5 127, 1), (CAN_FCFG_TMO 5 127, 10), (CAN_FCFG_TSUP 5 127, 1)], 5, 127, by decide⟩,
    ⟨wOn [(CAN_ISOADDR_CSTATE 5, 1)], 5, by decide⟩,
    ⟨wOn [(CAN_CTL_EN 5, 1), (CAN_CTL_ISOEN 5, 1), (CAN_ISOADDR_CSTATE 5, 2)], 5, .opens 3 255 7 100 true, by decide⟩,
    ⟨wOn [(CAN_LMRXWR_IDX 5, 4)], 5, 4, by decide⟩,
    ⟨wOn [(CAN_LMRXWR_IDX 5, 4)], 5, 5, by decide⟩⟩

/-- The hypotheses of EthernetSwitchActs can be met. -/
theorem test_witness_EthernetSwitchActs :
    (∃ (s : State) (p : Nat) (bytes : List Nat), p < 6 ∧ s.blockOn 0x0D = true ∧ s.on (ETH_PCTL_EN p) = true ∧
      s.ethLink p = true ∧ 64 ≤ bytes.length ∧ bytes.length ≤ 1522) ∧
    (∃ (s : State) (p : Nat) (bytes : List Nat), p < 6 ∧ s.blockOn 0x0D = true ∧ s.on (ETH_PCTL_EN p) = true ∧
      s.ethLink p = true ∧ (bytes.length < 64 ∨ 1522 < bytes.length)) ∧
    (∃ (s : State) (p : Nat) (bytes : List Nat), p < 6 ∧ s.blockOn 0x0D = true ∧ s.on (ETH_PCTL_EN p) = true ∧
      s.ethLink p = true ∧ bytes.length < 64) ∧
    (∃ (s : State) (p : Nat) (bytes : List Nat), p < 6 ∧ s.blockOn 0x0D = true ∧ s.on (ETH_PCTL_EN p) = true ∧
      s.ethLink p = true ∧ 64 ≤ bytes.length ∧ bytes.length ≤ 1522) ∧
    (∃ (s : State) (p : Nat) (bytes : List Nat) (err : Bool), p < 6 ∧ s.blockOn 0x0D = true ∧
      (s.on (ETH_PCTL_EN p) = false ∨ s.ethLink p = false)) ∧
    (∃ (s : State), s.live 0x0D = true) ∧
    (∃ (s : State) (p sqi : Nat), p < 6 ∧ s.blockOn 0x0D = true ∧ s.on (ETH_PCTL_EN p) = true ∧ s.ethLink p = false) ∧
    (∃ (s : State) (p sqi : Nat), p < 6 ∧ s.blockOn 0x0D = true ∧ s.ethLink p = true) ∧
    (∃ (s : State) (gm : Option EthGm) (delays : List (Nat × Nat)), s.blockOn 0x0D = true ∧ s.on ETH_PTPCTL_EN = true ∧
      s.ethElapsed s.eth.syncAt 125000000 = true) ∧
    (∃ (s : State) (v : Nat), s.open ETH_HRXRD_IDX.addr = true ∧ s.ethIdxOk false (v % 2048) = true) ∧
    (∃ (s : State) (v : Nat), s.open ETH_HTXWR_IDX.addr = true ∧ s.ethIdxOk true (v % 2048) = true) ∧
    (∃ (s : State) (v : Nat), s.open ETH_HRXRD_IDX.addr = true ∧ s.ethIdxOk false (v % 2048) = false) ∧
    (∃ (s : State) (mac vid : Nat), s.blockOn 0x0D = true) :=
  ⟨⟨wOn [(ETH_PCTL_EN 5, 1), (ETH_STAT_LINK, 63)], 5, List.replicate 64 0, by decide⟩,
    ⟨wOn [(ETH_PCTL_EN 5, 1), (ETH_STAT_LINK, 63)], 5, List.replicate 63 0, by decide⟩,
    ⟨wOn [(ETH_PCTL_EN 5, 1), (ETH_STAT_LINK, 63)], 5, [], by decide⟩,
    ⟨wOn [(ETH_PCTL_EN 5, 1), (ETH_STAT_LINK, 63)], 5, List.replicate 64 0, by decide⟩,
    ⟨({ wOn [] with eth := { ({} : Eth) with out := [⟨3, 0, true, []⟩], toFlt := true } } : State), 5, [], true, by decide⟩,
    ⟨wOn [(ETH_HTXWR_IDX, 3)], by decide⟩,
    ⟨wOn [(ETH_PCTL_EN 5, 1)], 5, 3, by decide⟩,
    ⟨wOn [(ETH_STAT_LINK, 63)], 5, 3, by decide⟩,
    ⟨wOn [(ETH_PTPCTL_EN, 1), (ETH_PTPCTL_GMCAP, 1)], none, [(5, 400)], by decide⟩,
    ⟨wOn [(ETH_HRXWR_IDX, 3)], 3, by decide⟩,
    ⟨wOn [(ETH_HTXWR_IDX, 3)], 16, by decide⟩,
    ⟨wOn [(ETH_HRXWR_IDX, 3)], 4, by decide⟩,
    ⟨{ wOn [] with now := 300000000005, eth := { macs := [⟨7, 1, 2, 5⟩] } }, 7, 1, by decide⟩⟩

/-- The hypotheses of FleetEngineActs can be met. -/
theorem test_witness_FleetEngineActs :
    (∃ (s : State), s.open FLT_SUBGO_GO.addr = true) ∧
    (∃ (s : State) (k : Nat) (o : DtlsOffer), k < 64 ∧ s.live 0x0E = true ∧ s.rd (FLT_SSTAT_STATE k) = 1 ∧
      s.fltRefuses k o = none) ∧
    (∃ (s : State) (k alert : Nat) (o : DtlsOffer), k < 64 ∧ s.live 0x0E = true ∧ s.rd (FLT_SSTAT_STATE k) = 1 ∧
      s.fltRefuses k o = some alert) ∧
    (∃ (s : State) (k : Nat) (o : DtlsOffer), s.fltRefuses k o = none) ∧
    (∃ (s : State) (k alert : Nat), k < 64 ∧ s.live 0x0E = true ∧ s.rd (FLT_SSTAT_STATE k) = 1) ∧
    (∃ (s : State) (k : Nat), k < 64 ∧ s.live 0x0E = true ∧ s.rd (FLT_SSTAT_STATE k) = 1 ∧
      (s.fls k).at_ + 10000000000 ≤ s.now) ∧
    (∃ (s : State) (k : Nat), k < 64 ∧ s.live 0x0E = true ∧ s.rd (FLT_SSTAT_STATE k) = 2 ∧
      (s.fls k).rx + 45000000000 ≤ s.now) ∧
    (∃ (s : State) (k : Nat), k < 64 ∧ s.live 0x0E = true ∧ s.rd (FLT_SSTAT_STATE k) = 3 ∧
      (s.fls k).at_ + (s.fls k).wait * 1000000000 ≤ s.now) ∧
    (∃ (s : State) (k : Nat), k < 64 ∧ s.live 0x0E = true ∧ s.rd (FLT_SSTAT_STATE k) = 2 ∧ s.domOn 3 = true ∧
      (s.fls k).tx + 15000000000 ≤ s.now) ∧
    (∃ (s : State) (k typ prio seq : Nat) (payload : List Nat), k < 64 ∧ s.live 0x0E = true ∧ s.rd (FLT_SSTAT_STATE k) = 2) ∧
    (∃ (s : State) (v : Nat), s.open FLT_RXRD_IDX.addr = true ∧ (v % 512 + 512 - s.rd FLT_RXRD_IDX) % 512 ≤ s.fltUnread) ∧
    (∃ (s : State) (v : Nat), s.open FLT_RXRD_IDX.addr = true ∧ s.fltUnread < (v % 512 + 512 - s.rd FLT_RXRD_IDX) % 512) ∧
    (∃ (s : State) (slot role : Nat), slot < 8 ∧ 1 ≤ role ∧ s.live 0x0E = true) ∧
    (∃ (s : State) (slot role : Nat), slot < 8 ∧ 1 ≤ role ∧ s.live 0x0E = true ∧ (tabFind s.flt.keys slot).isSome = true) ∧
    (∃ (s : State) (slot role : Nat), slot < 8 ∧ 1 ≤ role ∧ s.live 0x0E = true) :=
  ⟨⟨wOn [], by decide⟩,
    ⟨wOn [(FLT_SSTAT_STATE 63, 1)], 63, ⟨0x1301, 0x17, 0x0403, 3, 0, true, true, true⟩, by decide⟩,
    ⟨wOn [(FLT_SSTAT_STATE 63, 1)], 63, 40, ⟨0x1302, 0x17, 0x0403, 3, 0, true, true, true⟩, by decide⟩,
    ⟨wOn [], 63, ⟨0x1301, 0x17, 0x0403, 3, 0, false, true, true⟩, by decide⟩,
    ⟨wOn [(FLT_SSTAT_STATE 63, 1)], 63, 42, by decide⟩,
    ⟨{ wOn [(FLT_SSTAT_STATE 63, 1)] with now := 10000000000 }, 63, by decide⟩,
    ⟨{ wOn [(FLT_SSTAT_STATE 63, 2)] with now := 45000000000 }, 63, by decide⟩,
    ⟨{ wOn [(FLT_SSTAT_STATE 63, 3)] with now := 300000000000 }, 63, by decide⟩,
    ⟨{ wOn [(FLT_SSTAT_STATE 63, 2)] with now := 15000000000 }, 63, by decide⟩,
    ⟨wOn [(FLT_SSTAT_STATE 63, 2)], 63, 1, 2, 1, [5], by decide⟩,
    ⟨wOn [(FLT_RXWR_IDX, 4)], 4, by decide⟩,
    ⟨wOn [(FLT_RXWR_IDX, 4)], 5, by decide⟩,
    ⟨wOn [], 7, 1, by decide⟩,
    ⟨{ wOn [] with flt := { keys := [(7, 9)] } }, 7, 1, by decide⟩,
    ⟨{ wOn [] with flt := { keys := [(7, 9)] } }, 7, 1, by decide⟩⟩

/-- The hypotheses of DisplaysAct can be met. -/
theorem test_witness_DisplaysAct :
    (∃ (s : State), s.open DSP_PCMD_CMD.addr = true ∧ s.rd DSP_STAT_PSTATE = 0 ∧ s.on DSP_PCFG_EN = true) ∧
    (∃ (s : State), s.open DSP_PCMD_CMD.addr = true ∧ (s.rd DSP_STAT_PSTATE = 1 ∨ s.rd DSP_STAT_PSTATE = 2)) ∧
    (∃ (s : State), s.open DSP_PCMD_CMD.addr = true ∧ s.rd DSP_STAT_PSTATE = 0) ∧
    (∃ (s : State), s.open DSP_PCMD_CMD.addr = true ∧ s.rd DSP_STAT_PSTATE ≠ 0) ∧
    (∃ (s : State), s.open DSP_PCMD_CMD.addr = true ∧ s.rd DSP_STAT_PSTATE = 4 ∧ s.on DSP_STAT_FLIPPEND = false) ∧
    (∃ (s : State) (v i : Nat), s.blockOn 0x10 = true ∧ s.panelScans = true ∧ s.dsp.frame + s.dspFrame ≤ s.now ∧
      s.on DSP_STAT_FLIPPEND = false ∧
      (({ s with dsp := { s.dsp with frame := s.now } }).applyDue 0x10 0).rd DSP_PTIM_VPANEL = s.rd DSP_PTIM_VPANEL) ∧
    (∃ (s : State) (v : Nat), s.blockOn 0x10 = true ∧ s.rd DSP_STAT_PSTATE = 1 ∧
      s.dsp.since + s.rd DSP_PTIM_PCHT * 1000000 + 2 * s.dspFrame ≤ s.now) ∧
    (∃ (s : State), s.blockOn 0x10 = true ∧ s.rd DSP_STAT_PSTATE = 3 ∧ s.dsp.since + 5000000 ≤ s.now ∧ s.dsp.fault = true) ∧
    (∃ (s : State), s.blockOn 0x10 = true ∧ s.rd DSP_STAT_PSTATE = 3 ∧ s.dsp.since + 5000000 ≤ s.now ∧ s.dsp.fault = false ∧
      s.on DSP_STAT_FLIPPEND = false) ∧
    (∃ (s : State) (i : Nat), s.blockOn 0x10 = true ∧ (s.rd DSP_STAT_PSTATE = 1 ∨ s.rd DSP_STAT_PSTATE = 2) ∧ 1300 < i) ∧
    (∃ (s : State) (i : Nat), s.blockOn 0x10 = true ∧ s.rd DSP_STAT_PSTATE = 1 ∧ s.dsp.since + 10000000 ≤ s.now) ∧
    (∃ (s : State) (mask : Nat), s.open DSP_LCMD_CMD.addr = true) ∧
    (∃ (s : State) (mask : Nat), s.open DSP_LCMD_CMD.addr = true) ∧
    (∃ (s : State) (mask : Nat), s.open DSP_LCMD_CMD.addr = true) ∧
    (∃ (s : State), s.blockOn 0x10 = true ∧ s.now % 20000000 = 0 ∧ s.dsp.bound ≠ s.now + 1 ∧
      ({ s with dsp := { s.dsp with bound := s.now + 1 } } : State).labelBoundary.labelIdle = true) ∧
    (∃ (s : State), s.blockOn 0x10 = true ∧ s.now % 20000000 = 0 ∧ s.dsp.bound ≠ s.now + 1 ∧
      ({ s with dsp := { s.dsp with bound := s.now + 1 } } : State).labelBoundary.labelIdle = false) ∧
    (∃ (s : State), s.dsp.bound = s.now + 1) ∧
    (∃ (s : State), (s.now % 20000000 ≠ 0 ∨ s.dsp.bound = s.now + 1)) ∧
    (∃ (s : State) (t : Int), s.live 0x10 = true ∧ (s.dsp.readAt = 0 ∨ s.dsp.readAt + 1000000000 ≤ s.now + 1) ∧
      ({ s with dsp := { s.dsp with readAt := s.now + 1, asked := s.now + 1 } }.requestLease 2 0x10).holds 2 0x10 = true) ∧
    (∃ (s : State) (t : Int), s.live 0x10 = true ∧ (s.dsp.readAt = 0 ∨ s.dsp.readAt + 1000000000 ≤ s.now + 1) ∧
      ({ s with dsp := { s.dsp with readAt := s.now + 1, asked := s.now + 1 } }.requestLease 2 0x10).holds 2 0x10 = false ∧
      (({ s with dsp := { s.dsp with readAt := s.now + 1, asked := s.now + 1 } }.requestLease 2 0x10).lease
      2).waiting.contains 0x10 = true) ∧
    (∃ (s : State) (t : Int), s.live 0x10 = true ∧ s.dsp.readAt ≠ 0 ∧ s.now + 1 < s.dsp.readAt + 1000000000 ∧
      s.dsp.asked ≠ 0 ∧ s.now + 1 ≤ s.dsp.asked + 5000000 ∧ s.holds 2 0x10 = true) ∧
    (∃ (s : State) (t : Int), s.live 0x10 = true ∧ s.dsp.readAt ≠ 0 ∧ s.now + 1 < s.dsp.readAt + 1000000000 ∧
      s.dsp.asked ≠ 0 ∧ s.dsp.asked + 5000000 < s.now + 1) :=
  ⟨⟨wOn [(DSP_PCFG_EN, 1)], by decide⟩,
    ⟨wOn [(DSP_STAT_PSTATE, 2)], by decide⟩,
    ⟨{ wOn [] with dsp := { back := [(3, 7)] } }, by decide⟩,
    ⟨wOn [(DSP_STAT_PSTATE, 2)], by decide⟩,
    ⟨wOn [(DSP_STAT_PSTATE, 4)], by decide⟩,
    ⟨wOn [(DSP_STAT_PSTATE, 2), (DSP_PCFG_FRATE, 60)], 1300, 500, by decide⟩,
    ⟨wOn [(DSP_STAT_PSTATE, 1), (DSP_PCFG_FRATE, 60), (DSP_PTIM_PCHT, 20)], 1300, by decide⟩,
    ⟨{ wOn [(DSP_STAT_PSTATE, 3)] with dsp := { fault := true } }, by decide⟩,
    ⟨wOn [(DSP_STAT_PSTATE, 3)], by decide⟩,
    ⟨wOn [(DSP_STAT_PSTATE, 2)], 1301, by decide⟩,
    ⟨wOn [(DSP_STAT_PSTATE, 1)], 20, by decide⟩,
    ⟨wOn [(DSP_LCFG_LEN, 1), (DSP_UAGEO_EN 7, 1)], 128, by decide⟩,
    ⟨wOn [(DSP_LCFG_LEN, 1), (DSP_UAGEO_EN 7, 1)], 128, by decide⟩,
    ⟨(wOn []).setArea 7 { pend := true }, 128, by decide⟩,
    ⟨wOn [], by decide⟩,
    ⟨(wOn []).setArea 7 { run := some { clean := false, band := 0, n := 9 } }, by decide⟩,
    ⟨{ wOn [] with dsp := { bound := 1000000001 } }, by decide⟩,
    ⟨{ wOn [] with now := 1000000005 }, by decide⟩,
    ⟨wOn [], 215, by decide⟩,
    ⟨(wOn []).setLease 2 { state := 1, owner := 1 }, 215, by decide⟩,
    ⟨({ wOn [] with dsp := { readAt := 999000001, asked := 999000001 } } : State).setLease 2 { state := 1, owner := 0x10 }, 215, by decide⟩,
    ⟨({ wOn [] with dsp := { readAt := 994000000, asked := 994000000 } } : State).setLease 2 { state := 1, owner := 1, waiting := [0x10] }, 215, by decide⟩⟩

/-- The hypotheses of YulisLinkActs can be met. -/
theorem test_witness_YulisLinkActs :
    (∃ (s : State), s.yulSends = true ∧ s.now % 25000 = 0 ∧ s.yul.soc ≠ some s.now ∧ (s.applyDue 0x13 0).yulSends = true) ∧
    (∃ (s : State) (frame : List Nat), s.yulPasses = true ∧ s.yul.id ≠ 0) ∧
    (∃ (s : State) (f : YulIn), s.yulPasses = true ∧ s.yul.id ≠ 0 ∧ s.yul.inc = some f ∧ f.judged = false ∧
      f.at_ + 1408 ≤ s.now) ∧
    (∃ (s : State) (frame : List Nat), s.yulPasses = true ∧ s.yul.id = 0) ∧
    (∃ (s : State), s.yulPasses = true) ∧
    (∃ (s : State) (d : Nat), s.yulPasses = true ∧ s.yul.id ≠ 0 ∧ s.rd YUL_STAT_STATE ≠ 5 ∧ s.yulDue = some d ∧ d ≤ s.now) ∧
    (∃ (s : State) (l : Nat), s.yulSends = true ∧ s.yul.soc = some l ∧ l + s.rd YUL_DLY_DLY + 1256 ≤ s.now ∧
      s.yul.home = false ∧ s.yul.missed = false) ∧
    (∃ (s : State) (v : Nat), s.open YUL_TXSWAP_GO.addr = true ∧ s.on YUL_STAT_TXPEND = false) ∧
    (∃ (s : State) (v : Nat), s.open YUL_TXSWAP_GO.addr = true ∧ s.on YUL_STAT_TXPEND = true) ∧
    (∃ (s : State), s.blockOn 0x13 = true ∧ s.on YUL_CTL_EN = true ∧ s.rd YUL_STAT_STATE = 1) ∧
    (∃ (s : State) (v : Nat), s.blockOn 0x13 = true ∧ v % 8 ≠ s.yul.straps) ∧
    (∃ (s : State) (v : Nat), v % 8 = s.yul.straps) :=
  ⟨⟨wOn [(YUL_CTL_EN, 1), (YUL_STAT_STATE, 3)], by decide⟩,
    ⟨{ wOn [(YUL_CTL_EN, 1), (YUL_STAT_STATE, 3)] with yul := { id := 3 } }, [], by decide⟩,
    ⟨{ wOn [(YUL_CTL_EN, 1), (YUL_STAT_STATE, 3)] with yul := { id := 3, inc := some { at_ := 5, bytes := [], miss := false } } }, { at_ := 5, bytes := [], miss := false }, by decide⟩,
    ⟨{ wOn [(YUL_CTL_EN, 1), (YUL_STAT_STATE, 3)] with yul := { soc := some 999975000 } }, [], by decide⟩,
    ⟨wOn [(YUL_CTL_EN, 1), (YUL_STAT_STATE, 3)], by decide⟩,
    ⟨{ wOn [(YUL_CTL_EN, 1), (YUL_STAT_STATE, 3)] with yul := { id := 3, arr := some 5 } }, 26261, by decide⟩,
    ⟨{ wOn [(YUL_CTL_EN, 1), (YUL_STAT_STATE, 3)] with yul := { soc := some 5 } }, 5, by decide⟩,
    ⟨wOn [], 1, by decide⟩,
    ⟨wOn [(YUL_STAT_TXPEND, 1)], 1, by decide⟩,
    ⟨wOn [(YUL_CTL_EN, 1), (YUL_STAT_STATE, 1)], by decide⟩,
    ⟨wOn [], 7, by decide⟩,
    ⟨wOn [], 8, by decide⟩⟩

/-- The hypotheses of EventsAreStagedFilteredOrLost can be met. -/
theorem test_witness_EventsAreStagedFilteredOrLost :
    (∃ (s : State) (r : EvRec), s.domOn 1 = true ∧ r.sev < s.minSev) ∧
    (∃ (s : State) (r : EvRec), s.domOn 1 = true ∧ s.minSev ≤ r.sev ∧ s.on EVR_STAT_FULL = true ∧
      s.on EVR_STAT_CLEARING = false) ∧
    (∃ (s : State) (r : EvRec), s.domOn 1 = true ∧ s.minSev ≤ r.sev ∧
      (s.on EVR_STAT_FULL = false ∨ s.on EVR_STAT_CLEARING = true) ∧ (s.evr.acc.isSome = true ∨ 64 ≤ s.evr.queue.length) ∧
      (s.evr.queue.getLast?.all (fun e => decide (e.at_ ≠ s.now + 1 ∨ e.ent.code ≤ r.code)) = true)) ∧
    (∃ (s : State) (r : EvRec), s.domOn 1 = true ∧ s.minSev ≤ r.sev ∧
      (s.on EVR_STAT_FULL = false ∨ s.on EVR_STAT_CLEARING = true) ∧ s.evr.acc = none ∧ s.evr.queue.length < 64) ∧
    (∃ (s : State) (r : EvRec) (e : StagedRec), s.domOn 1 = true ∧ s.minSev ≤ r.sev ∧
      (s.on EVR_STAT_FULL = false ∨ s.on EVR_STAT_CLEARING = true) ∧ s.accOld = false ∧
      (s.evr.acc.isSome = true ∨ 64 ≤ s.evr.queue.length) ∧ s.evr.queue.getLast? = some e ∧ e.at_ = s.now + 1 ∧
      r.code < e.ent.code) ∧
    (∃ (s : State) (a : EvAcc), s.evr.acc = some a ∧ a.at_ ≠ s.now + 1 ∧ s.evr.queue.length < 64) :=
  ⟨⟨{ wOn [] with params := [(0x01100001, 2)] }, { code := 0x0701, sev := 1 }, by decide⟩,
    ⟨wOn [(EVR_STAT_FULL, 1)], { code := 0x0701, sev := 3 }, by decide⟩,
    ⟨{ wOn [] with evr := { queue := List.replicate 64 ⟨5, {}⟩ } }, { code := 0x0701, sev := 3 }, by decide⟩,
    ⟨{ wOn [] with evr := { queue := [⟨5, {}⟩] } }, { code := 0x0701, sev := 3 }, by decide⟩,
    ⟨{ wOn [] with evr := { queue := List.replicate 64 ⟨1000000001, { code := 0x0702, sev := 3 }⟩ } }, { code := 0x0701, sev := 3 }, ⟨1000000001, { code := 0x0702, sev := 3 }⟩, by decide⟩,
    ⟨{ wOn [] with evr := { acc := some { count := 1, first := 0x0701, last := 0x0701, firstOp := 0, firstTk := 0, lastOp := 0, lastTk := 0, sev := 1, at_ := 5 }, queue := [⟨5, {}⟩] } }, { count := 1, first := 0x0701, last := 0x0701, firstOp := 0, firstTk := 0, lastOp := 0, lastTk := 0, sev := 1, at_ := 5 }, by decide⟩⟩

/-- The hypotheses of EventRecorderCommandsAct can be met. -/
theorem test_witness_EventRecorderCommandsAct :
    (∃ (s : State) (code : Nat) (ps : List Nat), s.blockOn 0x11 = true ∧ code / 256 ≤ 0x13 ∧ 1 ≤ code % 256 ∧
      code % 256 ≤ 0x3F ∧ code ≠ 0x1101 ∧ code ≠ 0x1102) ∧
    (∃ (s : State) (r : EvRec), s.blockOn 0x11 = true ∧ s.nextRecord = some r ∧ s.evrWrites = true ∧ s.evr.optDue = false) ∧
    (∃ (s : State), s.blockOn 0x11 = true ∧ s.evr.optDue = true ∧ s.holds 0 0x11 = true) ∧
    (∃ (s : State) (cause : Nat), s.blockOn 0x11 = true ∧ s.holds 0 0x11 = true ∧ s.evrWrites = true ∧
      s.nextRecord.isSome = true) ∧
    (∃ (s : State), s.blockOn 0x11 = true) ∧
    (∃ (s : State) (i : Nat), s.open EVR_RDIDX_IDX.addr = true) ∧
    (∃ (s : State) (role : Nat), s.blockOn 0x11 = true ∧ (role = 2 ∨ role = 3) ∧ s.standstill = true) ∧
    (∃ (s : State) (key role : Nat), (key ≠ 0xA77A ∨ s.standstill = false)) ∧
    (∃ (s : State), s.blockOn 0x11 = true) ∧
    (∃ (s : State) (v : Nat), s.open EVR_HEVGO_GO.addr = true ∧ 0x80 ≤ s.rd EVR_HEVCODE_XX ∧ s.rd EVR_HEVCODE_SEV ≠ 3) ∧
    (∃ (s : State) (v : Nat), s.open EVR_HEVGO_GO.addr = true ∧ (s.rd EVR_HEVCODE_XX < 0x80 ∨ s.rd EVR_HEVCODE_SEV = 3)) ∧
    (∃ (s : State), s.blockOn 0x11 = true ∧ s.evr.savedAt + 600000000000 ≤ s.now) ∧
    (∃ (s : State), (s.requestLease 0 0x11).holds 0 0x11 = true) ∧
    (∃ (s : State), (s.requestLease 0 0x11).holds 0 0x11 = false) :=
  ⟨⟨wOn [], 0x0C03, [5, 2], by decide⟩,
    ⟨({ wOn [] with evr := { searched := true, queue := [⟨5, { code := 0x0701 }⟩] } }).setLease 0 { state := 1, owner := 0x11 }, { code := 0x0701 }, by decide⟩,
    ⟨({ wOn [] with evr := { optDue := true } }).setLease 0 { state := 1, owner := 0x11 }, by decide⟩,
    ⟨({ wOn [] with evr := { searched := true, queue := [⟨5, { code := 0x0701 }⟩] } }).setLease 0 { state := 1, owner := 0x11 }, 3, by decide⟩,
    ⟨{ wOn [] with evr := { log := [(0, ⟨[], true⟩)] } }, by decide⟩,
    ⟨wOn [], 65535, by decide⟩,
    ⟨wOn [(PDS_HOSTSS_STANDSTILL, 1)], 2, by decide⟩,
    ⟨wOn [], 5, 2, by decide⟩,
    ⟨(wOn [(EVR_STAT_CLEARING, 1)]).setLease 0 { state := 1, owner := 0x11 }, by decide⟩,
    ⟨wOn [(EVR_HEVCODE_XX, 0x80), (EVR_HEVCODE_SEV, 2)], 1, by decide⟩,
    ⟨wOn [(EVR_HEVCODE_XX, 0x7F)], 1, by decide⟩,
    ⟨{ wOn [] with now := 600000000000 }, by decide⟩,
    ⟨{ wOn [] with now := 600000000000 }, by decide⟩,
    ⟨(wOn []).setLease 0 { state := 1, owner := 0x12 }, by decide⟩⟩

/-- The hypotheses of ThermalBlockAndFansAct can be met. -/
theorem test_witness_ThermalBlockAndFansAct :
    (∃ (s : State) (r : ThmRound), s.domOn 1 = true ∧ s.now % 10000000 = 0 ∧ s.thm.round ≠ s.now + 1) ∧
    (∃ (s : State), s.domOn 1 = true ∧ s.thm.grace ≠ 0 ∧ s.thm.grace ≤ s.now + 1) ∧
    (∃ (s : State), s.tsv.attaches = [] ∧ s.thm.due = true ∧ s.blockOn 0x0F = true) ∧
    (∃ (s : State) (ns : Nat), s.car.dmaLvl < 4) ∧
    (∃ (s : State) (v : Nat), s.open THM_HACK_ACK.addr = true) ∧
    (∃ (s : State) (f c : Nat), f < 4 ∧ s.domOn 1 = true ∧ s.rd (THM_FSTAT_STATE f) = 1 ∧ 800 ≤ s.rd THM_VSUP1_OUTPWRB ∧
      (s.fan f).at_ + 2000000000 ≤ s.now) ∧
    (∃ (s : State) (f c : Nat), f < 4 ∧ s.domOn 1 = true ∧ s.rd (THM_FSTAT_STATE f) = 3 ∧ 800 ≤ s.rd THM_VSUP1_OUTPWRB ∧
      (s.fan f).at_ + 500000000 ≤ s.now) ∧
    (∃ (s : State) (f rpm : Nat), f < 4 ∧ s.domOn 1 = true ∧ 800 ≤ s.rd THM_VSUP1_OUTPWRB ∧ s.rd (THM_FSTAT_STATE f) = 1 ∧
      s.rd (THM_FLIM_RPMMIN f) ≤ 2 * rpm) ∧
    (∃ (s : State) (f rpm : Nat), f < 4 ∧ s.domOn 1 = true ∧ 800 ≤ s.rd THM_VSUP1_OUTPWRB ∧ s.rd (THM_FSTAT_STATE f) = 4) ∧
    (∃ (s : State) (f c ms : Nat), f < 4 ∧ s.domOn 1 = true ∧ s.rd (THM_FSTAT_STATE f) = 4 ∧ 800 ≤ s.rd THM_VSUP1_OUTPWRB ∧
      (s.fan f).at_ + 500000000 ≤ s.now ∧ 500 ≤ ms ∧ s.rd (THM_FCUR_ISTALL f) ≤ c) ∧
    (∃ (s : State) (f c ms : Nat), f < 4 ∧ s.domOn 1 = true ∧ s.rd (THM_FSTAT_STATE f) = 4 ∧ 800 ≤ s.rd THM_VSUP1_OUTPWRB ∧
      (s.fan f).at_ + 500000000 ≤ s.now ∧ 500 ≤ ms ∧ c < s.rd (THM_FCUR_ISTALL f) ∧ c < s.rd (THM_FCUR_IOPEN f)) ∧
    (∃ (s : State) (f : Nat), f < 4 ∧ s.domOn 1 = true ∧ s.rd (THM_FSTAT_STATE f) = 2 ∧ 800 ≤ s.rd THM_VSUP1_OUTPWRB ∧
      (s.fan f).at_ + 3000000000 ≤ s.now) ∧
    (∃ (s : State) (f c : Nat), f < 4 ∧ s.domOn 1 = true ∧ 15000 < c ∧ s.rd (THM_FSTAT_STATE f) ≠ 5) ∧
    (∃ (s : State) (f : Nat), f < 4 ∧ s.open (THM_FCMD_CMD f).addr = true ∧ s.rd (THM_FSTAT_STATE f) = 5) :=
  ⟨⟨wOn [], { temps := [], open_ := 0, logpwr := 1200, ign := 1200, outA := 1200, outB := 1200, vhold := 0, hvok := true, fans := [] }, by decide⟩,
    ⟨{ wOn [(THM_STAT_HREQ, 2)] with thm := { grace := 5 } }, by decide⟩,
    ⟨{ wOn [(THM_STAT_HREQ, 2)] with thm := { due := true } }, by decide⟩,
    ⟨{ wOn [] with car := { ({} : Car) with dmaLvl := 3 } }, 7, by decide⟩,
    ⟨{ wOn [(THM_STAT_HREQ, 2)] with thm := { grace := 5 } }, 2, by decide⟩,
    ⟨{ wOn [(THM_VSUP1_OUTPWRB, 1200), (THM_FSTAT_STATE 3, 1)] with now := 2000000000 }, 3, 700, by decide⟩,
    ⟨wOn [(THM_VSUP1_OUTPWRB, 1200), (THM_FSTAT_STATE 3, 3)], 3, 700, by decide⟩,
    ⟨wOn [(THM_VSUP1_OUTPWRB, 1200), (THM_FSTAT_STATE 3, 1), (THM_FLIM_RPMMIN 3, 1000)], 3, 500, by decide⟩,
    ⟨wOn [(THM_VSUP1_OUTPWRB, 1200), (THM_FSTAT_STATE 3, 4)], 3, 500, by decide⟩,
    ⟨wOn [(THM_VSUP1_OUTPWRB, 1200), (THM_FSTAT_STATE 3, 4), (THM_FCUR_ISTALL 3, 900)], 3, 900, 500, by decide⟩,
    ⟨wOn [(THM_VSUP1_OUTPWRB, 1200), (THM_FSTAT_STATE 3, 4), (THM_FCUR_ISTALL 3, 900), (THM_FCUR_IOPEN 3, 50)], 3, 49, 500, by decide⟩,
    ⟨{ wOn [(THM_VSUP1_OUTPWRB, 1200), (THM_FSTAT_STATE 3, 2)] with now := 3000000000 }, 3, by decide⟩,
    ⟨wOn [(THM_VSUP1_OUTPWRB, 1200), (THM_FSTAT_STATE 3, 3)], 3, 15001, by decide⟩,
    ⟨wOn [(THM_FSTAT_STATE 3, 5), (THM_FSTAT_CAUSE 3, 3)], 3, by decide⟩⟩

/-- The hypotheses of DictionaryOperationsOfTheHostAct can be met. -/
theorem test_witness_DictionaryOperationsOfTheHostAct :
    (∃ (s : State) (k c : Nat) (m : DictMsg), k < 4 ∧ s.domOn 1 = true ∧ s.open (PDS_HGO_OP k).addr = true ∧
      s.on (PDS_HRES_BUSY k) = false) ∧
    (∃ (s : State) (k c : Nat) (m : DictMsg), k < 4 ∧ s.domOn 1 = true ∧ s.open (PDS_HGO_OP k).addr = true ∧
      s.on (PDS_HRES_BUSY k) = false) ∧
    (∃ (s : State) (k c : Nat) (m : DictMsg), k < 4 ∧ s.domOn 1 = true ∧ s.open (PDS_HGO_OP k).addr = true ∧
      s.on (PDS_HRES_BUSY k) = false ∧ (s.rd (PDS_HLEN_LEN k)) ≤ 4) ∧
    (∃ (s : State) (k c : Nat) (m : DictMsg), k < 4 ∧ s.domOn 1 = true ∧ s.open (PDS_HGO_OP k).addr = true ∧
      s.on (PDS_HRES_BUSY k) = false) ∧
    (∃ (s : State) (k c : Nat) (m : DictMsg), k < 4 ∧ s.domOn 1 = true ∧ s.open (PDS_HGO_OP k).addr = true ∧
      s.on (PDS_HRES_BUSY k) = false) ∧
    (∃ (s : State) (k c : Nat) (m : DictMsg), k < 4 ∧ s.domOn 1 = true ∧ s.open (PDS_HGO_OP k).addr = true ∧
      s.on (PDS_HRES_BUSY k) = false) ∧
    (∃ (s : State) (k c : Nat) (m : DictMsg), k < 4 ∧ s.domOn 1 = true ∧ s.open (PDS_HGO_OP k).addr = true ∧
      s.on (PDS_HRES_BUSY k) = false) ∧
    (∃ (s : State) (k c : Nat) (m : DictMsg), k < 4 ∧ s.domOn 1 = true ∧ s.open (PDS_HGO_OP k).addr = true ∧
      s.on (PDS_HRES_BUSY k) = false) ∧
    (∃ (s : State) (k c : Nat) (m : DictMsg), k < 4 ∧ s.domOn 1 = true ∧ s.open (PDS_HGO_OP k).addr = true ∧
      s.on (PDS_HRES_BUSY k) = false) ∧
    (∃ (s : State) (k c : Nat) (m : DictMsg), k < 4 ∧ s.domOn 1 = true ∧ s.open (PDS_HGO_OP k).addr = true ∧
      s.on (PDS_HRES_BUSY k) = false) ∧
    (∃ (s : State) (k c : Nat) (m : DictMsg), k < 4 ∧ s.domOn 1 = true ∧ s.open (PDS_HGO_OP k).addr = true ∧
      s.on (PDS_HRES_BUSY k) = true) :=
  ⟨⟨wOn [(PDS_HPID_PID 3, 0x00300000), (PDS_HLEN_LEN 3, 4)], 3, 0, {}, by decide⟩,
    ⟨wOn [(PDS_HPID_PID 3, 0x00300000), (PDS_HLEN_LEN 3, 4)], 3, 0, {}, by decide⟩,
    ⟨wOn [(PDS_HPID_PID 3, 0x00300000), (PDS_HLEN_LEN 3, 4)], 3, 0, {}, by decide⟩,
    ⟨wOn [(PDS_HLEN_LEN 3, 1)], 3, 0, {}, by decide⟩,
    ⟨wOn [(PDS_HPID_PID 3, 0x00300000), (PDS_HLEN_LEN 3, 4)], 3, 0, {}, by decide⟩,
    ⟨wOn [(PDS_STAT_STSTATE, 1)], 3, 0, {}, by decide⟩,
    ⟨wOn [(PDS_HPID_PID 3, 0x00300000), (PDS_HLEN_LEN 3, 4)], 3, 0, {}, by decide⟩,
    ⟨wOn [(PDS_HOFS_OFS 3, 2)], 3, 0, {}, by decide⟩,
    ⟨wOn [], 3, 0, {}, by decide⟩,
    ⟨wOn [(PDS_HPID_PID 3, 0x00300000), (PDS_HLEN_LEN 3, 4)], 3, 0, {}, by decide⟩,
    ⟨wOn [(PDS_HRES_BUSY 3, 1)], 3, 0, {}, by decide⟩⟩

/-- The hypotheses of DictionaryOperationsOfClientsAct can be met. -/
theorem test_witness_DictionaryOperationsOfClientsAct :
    (∃ (s : State) (path k c : Nat) (m : DictMsg), 1 ≤ path ∧ path ≤ 4 ∧ s.domOn 1 = true ∧ s.pathOpen path k c = true ∧
      (s.touch path c { m with op := 10 }).awaited path c { m with op := 10 } = false ∧
      (s.touch path c { m with op := 10 }).repeated path c { m with op := 10 } = none) ∧
    (∃ (s : State) (path k c : Nat) (m : DictMsg), 1 ≤ path ∧ path ≤ 4 ∧ s.domOn 1 = true ∧ s.pathOpen path k c = true ∧
      (s.touch path c { m with op := 11 }).awaited path c { m with op := 11 } = false ∧
      (s.touch path c { m with op := 11 }).repeated path c { m with op := 11 } = none ∧
      ((s.touch path c { m with op := 11 }).sessOf path c { m with op := 11 }).isSome = true) ∧
    (∃ (s : State) (path k c : Nat) (m : DictMsg), (m.op = 0 ∨ 12 < m.op) ∧ 1 ≤ path ∧ path ≤ 4 ∧ s.domOn 1 = true ∧
      s.pathOpen path k c = true ∧ (s.touch path c { m with op := m.op }).awaited path c { m with op := m.op } = false ∧
      (s.touch path c { m with op := m.op }).repeated path c { m with op := m.op } = none) ∧
    (∃ (s : State) (k c : Nat) (m : DictMsg), (m.op = 0 ∨ 12 < m.op) ∧ k < 4 ∧ s.domOn 1 = true ∧
      s.open (PDS_HGO_OP k).addr = true) ∧
    (∃ (s : State) (path k c : Nat) (m : DictMsg), 1 ≤ path ∧ path ≤ 4 ∧ s.domOn 1 = true ∧ s.pathOpen path k c = true ∧
      (s.touch path c { m with op := 1 }).awaited path c { m with op := 1 } = false ∧
      (s.touch path c { m with op := 1 }).repeated path c { m with op := 1 } = none ∧
      (s.touch path c { m with op := 1 }).partyOf path c { m with op := 1 } = none) ∧
    (∃ (s : State) (path k c : Nat) (m : DictMsg) (who : Party), 1 ≤ path ∧ path ≤ 4 ∧ s.domOn 1 = true ∧
      s.pathOpen path k c = true ∧ (s.touch path c { m with op := 1 }).awaited path c { m with op := 1 } = false ∧
      (s.touch path c { m with op := 1 }).repeated path c { m with op := 1 } = none ∧
      (s.touch path c { m with op := 1 }).partyOf path c { m with op := 1 } = some who ∧ who.path = path) ∧
    (∃ (s : State) (path k c : Nat) (m : DictMsg) (r : PdsReply), 1 ≤ path ∧ path ≤ 4 ∧ s.domOn 1 = true ∧
      s.pathOpen path k c = true ∧ (s.touch path c { m with op := 3 }).awaited path c { m with op := 3 } = false ∧
      (s.touch path c { m with op := 3 }).repeated path c { m with op := 3 } = some r) :=
  ⟨⟨wOn [], 3, 19560, 7, { role := 1, seq := 4 }, by decide⟩,
    ⟨{ wOn [] with pds := { sess := [⟨9, 3, 7, none, 1, [], 5⟩] } }, 3, 19560, 7, { sess := 9, seq := 4 }, by decide⟩,
    ⟨wOn [], 3, 19560, 7, { op := 13, seq := 4 }, by decide⟩,
    ⟨wOn [], 3, 7, { op := 13 }, by decide⟩,
    ⟨wOn [], 3, 19560, 7, { role := 1, seq := 4 }, by decide⟩,
    ⟨{ wOn [] with pds := { sess := [⟨9, 3, 7, some 1, 1, [], 5⟩] } }, 3, 19560, 7, { sess := 9, seq := 4, pid := 0x00300000 }, ⟨9, 3, 1⟩, by decide⟩,
    ⟨{ wOn [] with pds := { replies := [⟨3, 7, { op := 3, seq := 4 }⟩] } }, 3, 19560, 7, { role := 1, seq := 4 }, ⟨3, 7, { op := 3, seq := 4 }⟩, by decide⟩⟩

/-- The hypotheses of TransactionsLocksAndTheStoreAct can be met. -/
theorem test_witness_TransactionsLocksAndTheStoreAct :
    (∃ (s : State), s.blockOn 0x12 = true) ∧
    (∃ (s : State), s.blockOn 0x12 = true) ∧
    (∃ (s : State), s.blockOn 0x12 = true) ∧
    (∃ (s : State), s.blockOn 0x12 = true) ∧
    (∃ (s : State), s.blockOn 0x12 = true) ∧
    (∃ (s : State), s.blockOn 0x12 = true) ∧
    (∃ (s : State), s.blockOn 0x12 = true) ∧
    (∃ (s : State), s.blockOn 0x12 = true ∧ s.rd PDS_STAT_STSTATE = 1 ∧ s.holds 0 0x12 = true ∧ s.pds.started = false) ∧
    (∃ (s : State), s.blockOn 0x12 = true ∧ s.rd PDS_STAT_STSTATE = 1 ∧ s.holds 0 0x12 = true ∧ s.pds.started = true) ∧
    (∃ (s : State), s.blockOn 0x12 = true ∧ s.rd PDS_STAT_STSTATE = 1 ∧ s.holds 0 0x12 = false ∧
      s.pds.leaseAt + 50000000 ≤ s.now) ∧
    (∃ (s : State), s.blockOn 0x12 = true ∧ s.rd PDS_STAT_STSTATE = 2 ∧ s.holds 0 0x12 = true) ∧
    (∃ (s : State), s.blockOn 0x12 = true ∧ s.rd PDS_STAT_STSTATE = 3 ∧ s.holds 0 0x12 = true ∧ s.storeNow.spoilt = false ∧
      s.storeNow.len ≤ 3145728) ∧
    (∃ (s : State) (good : Bool), s.blockOn 0x12 = true ∧ s.rd PDS_STAT_STSTATE = 3 ∧ s.holds 0 0x12 = true ∧
      (good = false ∨ s.storeNow.spoilt = true ∨ 3145728 < s.storeNow.len) ∧ s.pds.rewrote = false) ∧
    (∃ (s : State) (good : Bool), s.blockOn 0x12 = true ∧ s.rd PDS_STAT_STSTATE = 3 ∧ s.holds 0 0x12 = true ∧
      (good = false ∨ s.storeNow.spoilt = true ∨ 3145728 < s.storeNow.len) ∧ s.pds.rewrote = true) ∧
    (∃ (s : State), s.blockOn 0x12 = true ∧ (s.rd PDS_STAT_STSTATE = 2 ∨ s.rd PDS_STAT_STSTATE = 3) ∧
      s.holds 0 0x12 = false ∧ s.pds.revoked = 0) ∧
    (∃ (s : State), s.blockOn 0x12 = true ∧ (s.rd PDS_STAT_STSTATE = 2 ∨ s.rd PDS_STAT_STSTATE = 3) ∧
      s.holds 0 0x12 = false ∧ s.pds.revoked ≠ 0) ∧
    (∃ (s : State), s.blockOn 0x12 = true ∧ s.mayStart = true ∧ s.rd SYS_PWRSTAT_STEP = 6 ∧ s.on SYS_PWRSTAT_BOOTOK = true ∧
      s.pds.loadDone = false) :=
  ⟨⟨wOn [], by decide⟩,
    ⟨wOn [], by decide⟩,
    ⟨{ wOn [] with now := 60000000000, pds := { txns := [⟨1, 0, 0, 5, []⟩] } }, by decide⟩,
    ⟨{ wOn [] with now := 60000000000, pds := { locks := [⟨.quota, 0, 5⟩] } }, by decide⟩,
    ⟨{ wOn [] with now := 60000000000, pds := { sess := [⟨9, 3, 7, some 1, 1, [], 5⟩] } }, by decide⟩,
    ⟨{ wOn [] with pds := { blocked := [(5, 5)] } }, by decide⟩,
    ⟨{ wOn [] with pds := { copying := [(0x00300200, 5)] } }, by decide⟩,
    ⟨(wOn [(PDS_STAT_STSTATE, 1)]).setLease 0 { state := 1, owner := 0x12 }, by decide⟩,
    ⟨({ wOn [(PDS_STAT_STSTATE, 1)] with pds := { started := true, revoked := 1 } }).setLease 0 { state := 1, owner := 0x12 }, by decide⟩,
    ⟨wOn [(PDS_STAT_STSTATE, 1)], by decide⟩,
    ⟨(wOn [(PDS_STAT_STSTATE, 2)]).setLease 0 { state := 1, owner := 0x12 }, by decide⟩,
    ⟨(wOn [(PDS_STAT_STSTATE, 3)]).setLease 0 { state := 1, owner := 0x12 }, by decide⟩,
    ⟨(wOn [(PDS_STAT_STSTATE, 3)]).setLease 0 { state := 1, owner := 0x12 }, false, by decide⟩,
    ⟨({ wOn [(PDS_STAT_STSTATE, 3)] with pds := { rewrote := true } }).setLease 0 { state := 1, owner := 0x12 }, false, by decide⟩,
    ⟨wOn [(PDS_STAT_STSTATE, 2)], by decide⟩,
    ⟨{ wOn [(PDS_STAT_STSTATE, 3)] with pds := { revoked := 1 } }, by decide⟩,
    ⟨wOn [(SYS_PWRSTAT_STEP, 6), (SYS_PWRSTAT_BOOTOK, 1)], by decide⟩⟩

/-- The hypotheses of StagingLeavesWhatIsInEffect can be met. -/
theorem test_witness_StagingLeavesWhatIsInEffect :
    (∃ (s : State) (who : Party) (pid ofs : Nat) (d : List Nat) (p : PDef) (g : Grp), dictFind pid = some p ∧
      p.mayWrite who.role = true ∧ p.wr ≠ 4 ∧ d ≠ [] ∧ p.grp = some g ∧ who.id ≠ 0xFFFF ∧ s.lockedFor g who.id = true) ∧
    (∃ (s : State) (who : Party) (pid ofs : Nat) (d : List Nat) (p : PDef) (g : Grp) (l : List Fld), dictFind pid = some p ∧
      p.grp = some g ∧ p.kind = .flds l) :=
  ⟨⟨{ wOn [] with pds := { locks := [⟨.tbStruct 0, 9, 5⟩] } }, ⟨0, 0, 2⟩, 0x00300001, 0, [4], { item := 1, typ := 1, kind := .flds [TBS_CFG_SRC 0], grp := some (.tbStruct 0) }, .tbStruct 0, by decide⟩,
    ⟨wOn [], ⟨0, 0, 2⟩, 0x00300001, 0, [4], { item := 1, typ := 1, kind := .flds [TBS_CFG_SRC 0], grp := some (.tbStruct 0) }, .tbStruct 0, [TBS_CFG_SRC 0], by decide⟩⟩

/-- The hypotheses of TocsinDetectionActs can be met. -/
theorem test_witness_TocsinDetectionActs :
    (∃ (s : State) (c : Nat), s.blockOn 0x01 = true) ∧
    (∃ (s : State), s.blockOn 0x01 = true ∧
      (s.now :: s.tsv.mismatch.filter (fun t => decide (s.now < t + 10000000000))).length < 3) ∧
    (∃ (s : State), s.blockOn 0x01 = true ∧
      3 ≤ (s.now :: s.tsv.mismatch.filter (fun t => decide (s.now < t + 10000000000))).length) ∧
    (∃ (s : State), s.blockOn 0x01 = true) ∧
    (∃ (s : State) (who mem addr : Nat), s.blockOn 0x01 = true) ∧
    (∃ (s : State) (who mem addr : Nat), s.blockOn 0x01 = true ∧ (who < 0x20 ∨ 0x24 ≤ who) ∧ who ≠ 1 ∧ who ≠ 8) ∧
    (∃ (s : State) (mem addr : Nat), s.blockOn 0x01 = true) ∧
    (∃ (s : State) (mem addr : Nat), s.blockOn 0x01 = true) ∧
    (∃ (s : State) (who mem addr : Nat), s.blockOn 0x01 = true ∧ 0x20 ≤ who ∧ who < 0x24) ∧
    (∃ (s : State), s.blockOn 0x01 = true ∧ s.tsv.scrubSram + 3600000000000 ≤ s.now) ∧
    (∃ (s : State), s.blockOn 0x01 = true ∧ s.domOn 3 = true ∧ s.tsv.scrubDram + 86400000000000 ≤ s.now) ∧
    (∃ (s : State) (k v : Nat), k < 4 ∧ s.open (TSV_WDKICK_KEY k).addr = true) ∧
    (∃ (s : State) (k : Nat), s.blockOn 0x01 = true ∧ k < 4 ∧ (s.wd k).running = true ∧ s.wdDue k = true) ∧
    (∃ (s : State), s.blockOn 0x01 = true ∧ (s.wd 0).running = false ∧ s.wdDue 0 = true) ∧
    (∃ (s : State), s.blockOn 0x01 = true ∧ s.blockOn 0x0A = true ∧ s.now % 10000000 = 0) ∧
    (∃ (s : State) (t : State), s.blockOn 0x01 = true ∧ s.now % 1000000 = 0 ∧
      t =
      ({ s with tsv := { s.tsv with steerAt := s.steerChans.foldl (fun a k => if s.steerOff k then (if tabGet 0 a k = 0 then tabSet 0 a k (s.now + 1) else a) else tabSet 0 a k 0) s.tsv.steerAt } })) ∧
    (∃ (s : State) (t : State), s.blockOn 0x01 = true ∧ s.now % 1000000 = 0 ∧
      t =
      ({ s with tsv := { s.tsv with speedAt := (if s.gsDiffer then (if s.tsv.speedAt = 0 then s.now + 1 else s.tsv.speedAt) else 0), motionAt := (if s.gsMoves then (if s.tsv.motionAt = 0 then s.now + 1 else s.tsv.motionAt) else 0) } })) ∧
    (∃ (s : State), s.blockOn 0x01 = true ∧ s.on TSV_STAT_STDONE = false ∧ s.rd SYS_PWRSTAT_STEP = 2) ∧
    (∃ (s : State) (n : Nat), s.blockOn 0x01 = true ∧ s.on TSV_STAT_STDONE = false ∧ s.rd SYS_PWRSTAT_STEP = 2 ∧
      (s.emit 0x0102 [n]).slevel ≠ 3) :=
  ⟨⟨wOn [], 3, by decide⟩,
    ⟨wOn [], by decide⟩,
    ⟨{ wOn [] with tsv := { mismatch := [7, 5] } }, by decide⟩,
    ⟨wOn [(TSV_MCFG_EN 1, 1)], by decide⟩,
    ⟨wOn [], 2, 1, 64, by decide⟩,
    ⟨wOn [], 0x24, 1, 64, by decide⟩,
    ⟨wOn [], 1, 64, by decide⟩,
    ⟨wOn [], 1, 64, by decide⟩,
    ⟨wOn [], 0x23, 1, 64, by decide⟩,
    ⟨{ wOn [] with now := 3600000000000 }, by decide⟩,
    ⟨{ wOn [] with now := 86400000000000 }, by decide⟩,
    ⟨wOn [(TSV_WDCFG_WDEN, 8)], 3, 0x5A3C, by decide⟩,
    ⟨(wOn [(TSV_WDCFG_WDEN, 8), (TSV_WDCFG_WMAX, 100)]).setWd 3 ⟨true, false, 5⟩, 3, by decide⟩,
    ⟨{ wOn [(TSV_WDCFG_WDEN, 1)] with now := 3000000000, mgr := { (wOn []).mgr with appUpAt := some 5 } }, by decide⟩,
    ⟨wOn [(SOL_CHSTAT_IMEAS 5, 101)], by decide⟩,
    ⟨wOn [(TSV_MPAR6_FCA, 63), (TSV_MPAR6_FCB, 63)], { wOn [(TSV_MPAR6_FCA, 63), (TSV_MPAR6_FCB, 63)] with tsv := {} }, by decide⟩,
    ⟨wOn [(TSV_MPAR8_GSBASE, 15)], wOn [(TSV_MPAR8_GSBASE, 15)], by decide⟩,
    ⟨wOn [(SYS_PWRSTAT_STEP, 2)], by decide⟩,
    ⟨wOn [(SYS_PWRSTAT_STEP, 2)], 4, by decide⟩⟩

/-- The hypotheses of TocsinRequestsAndLeaseCommandsAct can be met. -/
theorem test_witness_TocsinRequestsAndLeaseCommandsAct :
    (∃ (s : State) (v : Nat), s.open TSV_ATTACH_KEY.addr = true ∧ bits v 0 16 = 0xA77A) ∧
    (∃ (s : State) (v : Nat), s.open TSV_ATTACH_KEY.addr = true ∧ bits v 0 16 ≠ 0xA77A) ∧
    (∃ (s : State) (a : Nat), s.tsv.attaches = [a] ∧ s.thm.due = false) ∧
    (∃ (s : State) (v : Nat), s.open TSV_SSREQ_KEY.addr = true ∧ bits v 0 16 = 0xA77A) ∧
    (∃ (s : State) (v : Nat), s.open TSV_SSREQ_KEY.addr = true ∧ bits v 0 16 ≠ 0xA77A) ∧
    (∃ (s : State) (v : Nat) (o : ResetOrder), s.open TSV_RSTREQ_KEY.addr = true ∧ resetRequest v = some o) ∧
    (∃ (s : State) (v : Nat), s.open TSV_RSTREQ_KEY.addr = true ∧ resetRequest v = none) ∧
    (∃ (s : State) (o : ResetOrder) (r : List ResetOrder), s.mayStart = true ∧ s.domOn 1 = true ∧ s.tsv.orders = o :: r) ∧
    (∃ (s : State) (k t src : Nat), s.mayStart = true ∧ s.domOn 1 = true ∧ ownReset k t src = true) ∧
    (∃ (s : State) (o : ResetOrder), (o.kind ≠ 4 ∨ s.blockOn o.target = true) ∧ o.begun = false ∧
      (s.resetBegin o).resetWaits o = false) ∧
    (∃ (s : State) (o : ResetOrder) (u : State), (o.kind ≠ 4 ∨ s.blockOn o.target = true) ∧ o.begun = false ∧
      u = s.resetBegin o ∧ u.resetWaits o = true) ∧
    (∃ (s : State), s.mayStart = true ∧ s.domOn 1 = true ∧ s.tsv.orders = []) ∧
    (∃ (s : State) (v role : Nat), s.blockOn 0x12 = true) ∧
    (∃ (s : State) (v role : Nat), s.blockOn 0x12 = true) ∧
    (∃ (s : State) (g e : Nat), s.domOn 1 = true ∧ g < 8 ∧ tabFind s.tsv.orphan g = some e ∧ e ≤ s.now + 1) ∧
    (∃ (s : State), s.domOn 1 = true ∧ s.domOn 2 = false) ∧
    (∃ (s : State) (r h : Nat), r < 5 ∧ s.live h = true) ∧
    (∃ (s : State) (r h : Nat), r < 5 ∧ s.live h = true ∧ s.holds r h = true) ∧
    (∃ (s : State) (r h : Nat), r < 5 ∧ s.live h = true ∧ s.holds r h = true) ∧
    (∃ (s : State) (r : Nat), r < 5 ∧ s.domOn 1 = true ∧ (s.lease r).state = 1 ∧ (s.lease r).expiry ≠ 0 ∧
      (s.lease r).expiry ≤ s.now) ∧
    (∃ (s : State) (r cause : Nat) (party : Option Nat), r < 5 ∧ s.domOn 1 = true ∧ s.mayRevoke r cause party = true) ∧
    (∃ (s : State) (r : Nat), r < 5 ∧ s.domOn 1 = true ∧ (s.lease r).state = 2) :=
  ⟨⟨wOn [], 0xFFA77A, by decide⟩,
    ⟨wOn [], 0xFFA77B, by decide⟩,
    ⟨{ wOn [] with tsv := { ({} : Tsv) with attaches := [5] } }, 5, by decide⟩,
    ⟨wOn [], 0x8000A77A, by decide⟩,
    ⟨wOn [], 0x04A77B, by decide⟩,
    ⟨wOn [], 0x1009A77A, ⟨4, 9, 1, 0xF, false⟩, by decide⟩,
    ⟨wOn [], 0x1001A77A, by decide⟩,
    ⟨{ wOn [] with tsv := { orders := [⟨4, 9, 1, 0xF, false⟩] } }, ⟨4, 9, 1, 0xF, false⟩, [], by decide⟩,
    ⟨wOn [], 4, 9, 3, by decide⟩,
    ⟨wOn [], ⟨4, 9, 3, 0xF, false⟩, by decide⟩,
    ⟨(wOn []).setLease 4 { state := 1, owner := 10 }, ⟨4, 10, 3, 0xF, false⟩, ((wOn []).setLease 4 { state := 1, owner := 10 }).resetBegin ⟨4, 10, 3, 0xF, false⟩, by decide, by decide, rfl, by decide⟩,
    ⟨wOn [], by decide⟩,
    ⟨wOn [(PDS_HOSTSS_STANDSTILL, 1)], 0xA77A, 2, by decide⟩,
    ⟨wOn [(PDS_HOSTSS_STANDSTILL, 1)], 0xA77A, 2, by decide⟩,
    ⟨{ wOn [] with tsv := { orphan := [(7, 5)] } }, 7, 5, by decide⟩,
    ⟨{ wOn [] with mgr := { (wOn []).mgr with on := 3 } }, by decide⟩,
    ⟨wOn [], 4, 10, by decide⟩,
    ⟨(wOn []).setLease 4 { state := 1, owner := 10 }, 4, 10, by decide⟩,
    ⟨(wOn []).setLease 4 { state := 1, owner := 10 }, 4, 10, by decide⟩,
    ⟨(wOn []).setLease 3 { state := 1, owner := 19, expiry := 5 }, 3, by decide⟩,
    ⟨(wOn []).setLease 4 { state := 1, owner := 10 }, 4, 1, none, by decide⟩,
    ⟨(wOn []).setLease 3 { state := 2, owner := 19, since := 5 }, 3, by decide⟩⟩

/-- The hypotheses of DomainsSupplyAndStartAct can be met. -/
theorem test_witness_DomainsSupplyAndStartAct :
    (∃ (s : State) (d : Nat), 2 ≤ d ∧ d < 14 ∧ s.domOn d = true ∧ s.running = true) ∧
    (∃ (s : State), s.domOn 1 = true ∧ s.running = true) ∧
    (∃ (s : State) (d : Nat), d < 14 ∧ s.comesUp d = true) ∧
    (∃ (s : State) (d : Nat), d < 14 ∧ s.running = true ∧ bit s.mgr.swOn d = true ∧ s.domOn d = false ∧
      tabGet 0 s.mgr.swAt d + 5000000 ≤ s.now) ∧
    (∃ (s : State) (v : Nat), 600 ≤ v ∧ v < 900 ∧ s.running = true ∧ s.domOn 1 = true ∧ s.mgr.failAt = none ∧
      s.rd SYS_PWRSTAT_SUPPLY ≠ 1) ∧
    (∃ (s : State) (v : Nat), 3200 < v ∧ s.running = true ∧ s.domOn 1 = true ∧ s.mgr.failAt = none ∧
      s.rd SYS_PWRSTAT_SUPPLY ≠ 2) ∧
    (∃ (s : State), s.running = true ∧ s.domOn 1 = true ∧ s.mgr.failAt = none ∧ s.rd SYS_PWRSTAT_SUPPLY ≠ 0) ∧
    (∃ (s : State) (v : Nat), s.running = true ∧ s.domOn 1 = true ∧ s.mgr.failAt = none ∧ v < 600) ∧
    (∃ (s : State) (v : Nat), 600 ≤ v) ∧
    (∃ (s : State) (v : Nat), s.running = true ∧ s.holdupOver = true) ∧
    (∃ (s : State), s.running = false) ∧
    (∃ (s : State) (dur v : Nat), s.mgr.ka = .standby ∧ s.mgr.otLatch = false) ∧
    (∃ (s : State) (dur v : Nat), s.mgr.ka = .standby ∧ s.mgr.otLatch = true) ∧
    (∃ (s : State) (dur v : Nat), s.mgr.ka = .running ∧ s.domOn 1 = true) ∧
    (∃ (s : State) (dur v : Nat), s.mgr.ka = .waitSupply) ∧
    (∃ (s : State) (dur v : Nat), s.mgr.ka = .standby ∧ s.mgr.otLatch = false ∧ s.mgr.powerOn = false ∧ s.mgr.stby = 1 ∧
      s.mgr.alarm ≠ 0 ∧ s.mgr.alarm * 60000000000 ≤ dur) ∧
    (∃ (s : State) (v : Nat), s.mgr.ka = .waitSupply) ∧
    (∃ (s : State), s.startReady = true) ∧
    (∃ (s : State) (key : Nat), s.open SYS_PWRCMD_CMD.addr = true ∧ key % 65536 = 0xA77A ∧ s.rd SYS_PWRSTAT_STEP = 5 ∧
      s.domOn 3 = true) ∧
    (∃ (s : State) (key : Nat), s.open SYS_PWRCMD_CMD.addr = true ∧ key % 65536 ≠ 0xA77A) :=
  ⟨⟨wOn [], 13, by decide⟩,
    ⟨wOn [], by decide⟩,
    ⟨{ wOn [] with mgr := { (wOn []).mgr with on := 3, swOn := 7 } }, 2, by decide⟩,
    ⟨{ wOn [] with mgr := { (wOn []).mgr with on := 3, swOn := 7 } }, 2, by decide⟩,
    ⟨wOn [], 600, by decide⟩,
    ⟨wOn [], 3201, by decide⟩,
    ⟨wOn [(SYS_PWRSTAT_SUPPLY, 2)], by decide⟩,
    ⟨wOn [], 599, by decide⟩,
    ⟨wOn [], 600, by decide⟩,
    ⟨{ wOn [] with mgr := { (wOn []).mgr with failAt := some 5 } }, 899, by decide⟩,
    ⟨{ wOn [] with mgr := { (wOn []).mgr with ka := .standby } }, by decide⟩,
    ⟨{ wOn [] with mgr := { (wOn []).mgr with ka := .standby } }, 5, 899, by decide⟩,
    ⟨{ wOn [] with mgr := { (wOn []).mgr with ka := .standby, otLatch := true } }, 5, 1200, by decide⟩,
    ⟨wOn [], 5, 1200, by decide⟩,
    ⟨{ wOn [] with mgr := { (wOn []).mgr with ka := .waitSupply, wakeSrc := 2 } }, 5, 800, by decide⟩,
    ⟨{ wOn [] with mgr := { (wOn []).mgr with ka := .standby, alarm := 1 } }, 60000000000, 1200, by decide⟩,
    ⟨{ wOn [] with mgr := { (wOn []).mgr with ka := .waitSupply, wakeSrc := 1 } }, 900, by decide⟩,
    ⟨State.reset, by decide⟩,
    ⟨wOn [(SYS_PWRSTAT_STEP, 5)], 0xA77A, by decide⟩,
    ⟨wOn [(SYS_PWRSTAT_STEP, 5)], 0xA77B, by decide⟩⟩

/-- The hypotheses of KeyOffActs can be met. -/
theorem test_witness_KeyOffActs :
    (∃ (s : State), s.mgr.ka = .waitSupply ∧ s.mgr.wakeSrc = 1) ∧
    (∃ (s : State), s.running = true) ∧
    (∃ (s : State), s.running = true ∧ s.mayStart = true ∧ s.slevel = 3 ∧ s.rd SYS_PWRSTAT_STEP = 8) ∧
    (∃ (s : State), s.mayStart = true ∧ s.domOn 1 = true ∧ s.on SYS_PWRSTAT_IGN = false) ∧
    (∃ (s : State) (key : Nat), s.open SYS_PWRCMD_CMD.addr = true ∧ key % 65536 = 0xA77A ∧ s.rd SYS_PWRSTAT_STEP = 8 ∧
      s.on SYS_PWRSTAT_IGN = false) ∧
    (∃ (s : State) (key : Nat), s.open SYS_PWRCMD_CMD.addr = true ∧ s.on SYS_PWRSTAT_IGN = true) ∧
    (∃ (s : State), s.running = true ∧ s.mgr.failAt = none ∧ s.rd SYS_PWRSTAT_STEP = 8 ∧ s.mgr.runEnd ≤ s.now) ∧
    (∃ (s : State), s.mgr.ka = .waitSupply ∧ s.mgr.wakeSrc ≠ 1) ∧
    (∃ (s : State) (v : Nat), s.running = true ∧ s.mgr.failAt = none ∧ s.sd.ix = some 0) ∧
    (∃ (s : State) (v : Nat), s.running = true ∧ s.mgr.failAt = none ∧ s.sd.ix = some 1) ∧
    (∃ (s : State) (v : Nat), s.running = true ∧ s.mgr.failAt = none ∧ s.sd.ix = some 2 ∧ s.domOn 10 = true) ∧
    (∃ (s : State) (v : Nat), s.running = true ∧ s.mgr.failAt = none ∧ s.sd.ix = some 3 ∧ s.sdDspDone = true) ∧
    (∃ (s : State) (v : Nat), s.running = true ∧ s.mgr.failAt = none ∧ s.sd.ix = some 4) ∧
    (∃ (s : State) (v : Nat), s.running = true ∧ s.mgr.failAt = none ∧ s.sd.ix = some 5 ∧ s.rd PDS_STAT_STSTATE = 0) ∧
    (∃ (s : State) (v : Nat), s.running = true ∧ s.mgr.failAt = none ∧ s.sd.ix = some 6) ∧
    (∃ (s : State), s.running = true ∧ s.mgr.failAt = none ∧ (s.rd SYS_PWRSTAT_STEP = 8 ∨ s.sd.ix = some 0)) ∧
    (∃ (s : State), (s.running = false ∨ s.mgr.failAt.isSome = true)) :=
  ⟨⟨{ wOn [] with mgr := { (wOn []).mgr with ka := .waitSupply, wakeSrc := 1 } }, by decide⟩,
    ⟨wOn [(SYS_PWRSTAT_IGN, 1), (SYS_PWRSTAT_STEP, 7)], by decide⟩,
    ⟨wOn [(SYS_PWRSTAT_STEP, 8), (TSV_STAT_SLEVEL, 3)], by decide⟩,
    ⟨wOn [(SYS_PWRSTAT_STEP, 8), (TSV_STAT_SLEVEL, 3)], by decide⟩,
    ⟨wOn [(SYS_PWRSTAT_STEP, 8)], 0xA77A, by decide⟩,
    ⟨wOn [(SYS_PWRSTAT_STEP, 8), (SYS_PWRSTAT_IGN, 1)], 0xA77A, by decide⟩,
    ⟨wOn [(SYS_PWRSTAT_STEP, 8)], by decide⟩,
    ⟨{ wOn [] with mgr := { (wOn []).mgr with ka := .waitSupply, wakeSrc := 2, ignUp := true } }, by decide⟩,
    ⟨{ wOn [] with sd := { ix := some 0 } }, 1200, by decide⟩,
    ⟨{ wOn [] with sd := { ix := some 1 } }, 1200, by decide⟩,
    ⟨{ wOn [] with sd := { ix := some 2 } }, 1200, by decide⟩,
    ⟨{ wOn [] with sd := { ix := some 3 } }, 1200, by decide⟩,
    ⟨{ wOn [] with sd := { ix := some 4 } }, 1200, by decide⟩,
    ⟨{ wOn [] with sd := { ix := some 5 } }, 1200, by decide⟩,
    ⟨{ wOn [] with sd := { ix := some 6 } }, 1200, by decide⟩,
    ⟨wOn [(SYS_PWRSTAT_STEP, 8)], by decide⟩,
    ⟨{ wOn [] with mgr := { (wOn []).mgr with ka := .standby } }, by decide⟩⟩
end

section
/-!
PROOF. The statements of spec/00_scope.md and what they rest on: bits and phases, access codes, register accesses, how every command is
answered, ticks and steps, what every step keeps, and reset.
-/
namespace Sys2Proof.Machine

/-! ## Bits -/

@[simp] theorem bit_setBit_same (x i : Nat) : bit (setBit x i) i = true := by
  simp [bit, setBit, Nat.one_shiftLeft]

theorem bit_setBit_of {x i : Nat} (n : Nat) (h : bit x i = true) : bit (setBit x n) i = true := by
  simp only [bit, setBit, Nat.testBit_or, Bool.or_eq_true] at h ⊢
  exact .inl h

/-- Clearing a bit that is set takes it away and leaves the others. -/
theorem testBit_sub_two_pow {x i : Nat} (h : x.testBit i = true) (j : Nat) :
    (x - 2 ^ i).testBit j = (x.testBit j && !decide (i = j)) := by
  obtain ⟨k, hk⟩ : ∃ k, x / 2 ^ i = 2 * k + 1 := by
    rw [Nat.testBit_eq_decide_div_mod_eq, decide_eq_true_eq] at h
    exact ⟨x / 2 ^ i / 2, by omega⟩
  have hx : x = 2 ^ i * (2 * k + 1) + x % 2 ^ i := by rw [← hk, Nat.div_add_mod]
  have hy : x - 2 ^ i = 2 ^ i * (2 * k) + x % 2 ^ i := by
    rw [Nat.mul_add] at hx; omega
  have hr : x % 2 ^ i < 2 ^ i := Nat.mod_lt _ (Nat.two_pow_pos i)
  conv_rhs => rw [hx]
  rw [hy, Nat.testBit_two_pow_mul_add _ hr, Nat.testBit_two_pow_mul_add _ hr]
  rcases Nat.lt_trichotomy j i with hj | rfl | hj
  · simp [hj, Nat.ne_of_gt hj]
  · simp
  · obtain ⟨m, rfl⟩ := Nat.exists_eq_add_of_lt hj
    have : i + m + 1 - i = m + 1 := by omega
    have h2 : (2 * k + 1) / 2 = k := by omega
    simp [this, h2, Nat.testBit_add_one, show ¬ i + m + 1 < i by omega, show i ≠ i + m + 1 by omega]

theorem bit_clrBit (x i j : Nat) : bit (clrBit x i) j = (bit x j && !decide (i = j)) := by
  simp only [bit, clrBit, Nat.one_shiftLeft]
  split
  next h => exact testBit_sub_two_pow h j
  next h =>
    by_cases e : i = j
    · subst e; simpa using h
    · simp [e]

theorem bit_foldl_clrBit (l : List Nat) (x j : Nat) : bit (l.foldl clrBit x) j = (bit x j && !decide (j ∈ l)) := by
  induction l generalizing x with
  | nil => simp
  | cons i r ih => 
    simp [ih, bit_clrBit, Bool.and_assoc, eq_comm (a := i)]

theorem bit_mod_two_pow {i n : Nat} (x : Nat) (h : i < n) : bit (x % 2 ^ n) i = bit x i := by
  simp [bit, Nat.testBit_mod_two_pow, h]

/-! ## Phases (R13) -/

/-- The phase difference is the balanced remainder of the difference modulo 2^32. -/
theorem phaseDiff_eq_bmod (a b : Nat) : phaseDiff a b = ((a : Int) - b).bmod (2 ^ 32) := by
  have h := Int.emod_lt_of_pos ((a : Int) - b) (by decide : (0 : Int) < 2 ^ 32)
  have h0 := Int.emod_nonneg ((a : Int) - b) (by decide : (2 ^ 32 : Int) ≠ 0)
  simp only [phaseDiff, sx, tc, Int.bmod_def]
  omega

/-- Settles O8: the model's difference is the balanced remainder, whose laws are the library's. -/
theorem phasesCompareModulo : Obligations.PhasesCompareModulo := by
  refine ⟨fun a b => ?_, fun a b k => ?_, fun a d hd => ?_⟩
  · rw [phaseDiff_eq_bmod]
    exact ⟨Int.le_bmod (by decide), Int.bmod_lt (by decide), Int.dvd_bmod_sub_self⟩
  · simp only [phaseDiff_eq_bmod, Int.natCast_emod]
    rw [Int.bmod_def, Int.bmod_def]
    push_cast
    omega
  · rw [phaseDiff_eq_bmod, Int.bmod_def]
    push_cast
    omega

/-! ## Fields by access code (R6, R8, Table 0.4) -/

theorem State.writeFld_of_rw {f : Fld} (h : f.acc = .rw) (w : Nat) (s : State) : s.writeFld w f = s.wr f (fldOf f w) := by
  simp [State.writeFld, h]

theorem State.writeFld_of_w1c {f : Fld} (h : f.acc = .w1c) (w : Nat) (s : State) : s.writeFld w f = s.clearFlags f w := by
  simp [State.writeFld, h]

theorem State.writeFld_of_other {f : Fld} (h : f.acc ≠ .rw) (h' : f.acc ≠ .w1c) (w : Nat) (s : State) : s.writeFld w f = s := by
  unfold State.writeFld
  split
  next e => exact absurd e h
  next e => exact absurd e h'
  next => rfl

theorem State.readFld_nil_of_rws {f : Fld} (h : f.acc = .rws) (s : State) : s.readFld [] f = s.stagedVal f := by
  simp [State.readFld, h]

theorem State.readFld_nil_of_wo_or_ws {f : Fld} (h : f.acc = .wo ∨ f.acc = .ws) (s : State) : s.readFld [] f = 0 := by
  rcases h with h | h <;> simp [State.readFld, h]

theorem State.readFld_nil_of_current {f : Fld} (h : f.acc = .rw ∨ f.acc = .ro ∨ f.acc = .w1c) (s : State) :
    s.readFld [] f = s.rd f := by
  rcases h with h | h | h <;> simp [State.readFld, h]

/-- A write of a field writes that field in effect, or nothing. -/
theorem State.writeFld_eq_wr_or_self (w : Nat) (f : Fld) (s : State) : (∃ v, s.writeFld w f = s.wr f v) ∨ s.writeFld w f = s := by
  by_cases h : f.acc = .rw
  · exact .inl ⟨_, State.writeFld_of_rw h w s⟩
  · by_cases h' : f.acc = .w1c
    · exact .inl ⟨_, State.writeFld_of_w1c h' w s⟩
    · exact .inr (State.writeFld_of_other h h' w s)

theorem State.rd_writeFld_other {f g : Fld} (h : f.key ≠ g.key) (w : Nat) (s : State) : (s.writeFld w f).rd g = s.rd g := by
  obtain ⟨v, hv⟩ | hs := s.writeFld_eq_wr_or_self w f
  · rw [hv, State.rd_wr_other h]
  · rw [hs]

theorem State.stagedVal_stage_same (f : Fld) (v : Nat) (s : State) : (s.stage f v).stagedVal f = v % 2 ^ f.wid := by
  simp [State.stagedVal, State.stage, tabFind_tabPut_same]

theorem State.stagedVal_stage_other {f g : Fld} (h : f.key ≠ g.key) (v : Nat) (s : State) :
    (s.stage f v).stagedVal g = s.stagedVal g := by
  simp [State.stagedVal, State.stage, tabFind_tabPut_other _ _ h, State.rd]

theorem State.mem_cleared (s : State) (f : Fld) (w i : Nat) :
    i ∈ s.cleared f w ↔ i < f.wid ∧ bit w (f.lo + i) = true ∧ tabGet 0 s.flagAt (f.key + i) ≠ s.now + 1 := by
  simp [State.cleared]

theorem State.bit_rd_clearFlags {f : Fld} {i : Nat} (hi : i < f.wid) (w : Nat) (s : State) :
    bit ((s.clearFlags f w).rd f) i =
      (bit (s.rd f) i && !(bit w (f.lo + i) && decide (tabGet 0 s.flagAt (f.key + i) ≠ s.now + 1))) := by
  rw [State.clearFlags, State.rd_wr_same, bit_mod_two_pow _ hi, bit_foldl_clrBit]
  simp [State.mem_cleared, hi]

/-- Settles O10: by the access code, what a write of the field does and what a read of it answers. -/
theorem accessCodesRule : Obligations.AccessCodesRule := by
  refine ⟨fun s f w h => ⟨?_, ?_⟩, fun s f w h => ?_, fun s f w h _ i hi => ?_, fun s f v h => ⟨?_, ?_⟩, fun s f h => ?_,
    fun s f h => ?_, fun s f g w h => ⟨?_, ?_⟩⟩
  · rw [State.writeFld_of_rw h, State.rd_wr_same, fldOf, bits, Nat.mod_mod, Nat.shiftRight_eq_div_pow]
  · exact State.readFld_nil_of_current (.inl h) s
  · exact State.writeFld_of_other (by rcases h with h | h | h <;> simp [h]) (by rcases h with h | h | h <;> simp [h]) w s
  · rw [State.writeFld_of_w1c h, State.bit_rd_clearFlags hi, bit_mod_two_pow _ hi]
  · rw [State.readFld_nil_of_rws h, State.stagedVal_stage_same]
  · simp
  · exact State.readFld_nil_of_wo_or_ws h s
  · exact State.readFld_nil_of_current (.inr h) s
  · exact State.rd_writeFld_other h w s
  · exact State.stagedVal_stage_other h w s

/-! ## Register accesses (R4, R5, R20, R28, R33) -/

theorem State.hostRead_off {a : Nat} {s : State} (h : s.windowOn a = false) (f : State → Nat × State) :
    s.hostRead a f = { s.emit 0x0010 [addrBlock a, addrOff a, 0] with bus := { done := true } } := by
  rw [State.hostRead, if_pos (by rw [h]; rfl)]

/-- `State.hostRead_open` with what the read gives as a value of its own: a proof by `rfl` then compares it whole, not field by field. -/
theorem State.hostRead_of_eq {a : Nat} {s : State} (h : s.windowOn a = true) {f : State → Nat × State} {r : Nat × State}
    (hr : f s = r) : s.hostRead a f = { r.2 with bus := { done := true, data := r.1 } } := by
  subst hr
  exact State.hostRead_open h f

theorem State.fencedWrite_first {b : Nat} {s : State} (h : bit s.fenceEv b = false) (off : Nat) :
    s.fencedWrite b off = State.emit 0x0011 [b, off] { s with fenceEv := setBit s.fenceEv b } := by simp [State.fencedWrite, h]

theorem State.fencedWrite_again {b : Nat} {s : State} (h : bit s.fenceEv b = true) (off : Nat) : s.fencedWrite b off = s := by
  simp [State.fencedWrite, h]

theorem State.open_of {a : Nat} {s : State} (h : s.windowOn a = true) (hf : s.fencing (addrBlock a) = false) : s.open a = true := by
  simp [State.open, h, hf]

@[simp] theorem State.busWrite_host (a v : Nat) (s : State) :
    s.busWrite .host a v = s.hostWrite a (State.writeReg .host a v) := if_pos rfl

theorem State.busWrite_tsv {a : Nat} {s : State} (h : s.windowOn a = true) (v : Nat) :
    s.busWrite .tsv a v = s.writeReg .tsv a v := by simp [State.busWrite, State.tsvWrite, h]

/-- An access that is performed: a 32-bit aligned one inside the windows. -/
def performed (a size : Nat) : Prop := aboveWindows a = false ∧ inWindows a = true ∧ aligned32 a size = true

theorem execRegisterWrite_above {a : Nat} (h : aboveWindows a = true) (agent : Agent) (acc : Access) (size v : Nat) (s : State) :
    execRegisterWrite agent acc a size v s = s.ok s.busError := by simp [execRegisterWrite, h]

theorem execRegisterWrite_unaligned {a size : Nat} (h : aboveWindows a = false) (hw : inWindows a = true)
    (hl : aligned32 a size = false) (agent : Agent) (acc : Access) (v : Nat) (s : State) :
    execRegisterWrite agent acc a size v s = s.ok s.busError := by simp [execRegisterWrite, h, hw, hl]

section
variable {a size : Nat} (hp : performed a size)
include hp

theorem execRegisterWrite_read (agent : Agent) (v : Nat) (s : State) :
    execRegisterWrite agent .read a size v s = s.ok (s.hostRead a (fun s => s.readWord a)) := by
  obtain ⟨h, hw, hl⟩ := hp
  simp [execRegisterWrite, h, hw, hl]

theorem execRegisterWrite_barred {agent : Agent} {s : State} (hb : s.tsvBarred agent a = true) (v : Nat) :
    execRegisterWrite agent .write a size v s = s.ok (s.tsvIgnore (addrOff a)).busWritten := by
  obtain ⟨h, hw, hl⟩ := hp
  simp [execRegisterWrite, h, hw, hl, hb]

theorem execRegisterWrite_row {agent : Agent} {s t : State} {v : Nat} (hb : s.tsvBarred agent a = false)
    (hr : (s.busOf agent).rowWrite a v = some (.next t)) :
    execRegisterWrite agent .write a size v s = .next t.busWritten := by
  obtain ⟨h, hw, hl⟩ := hp
  simp [execRegisterWrite, h, hw, hl, hb, hr]

theorem execRegisterWrite_direct {agent : Agent} {s : State} {v : Nat} (hb : s.tsvBarred agent a = false)
    (hr : (s.busOf agent).rowWrite a v = none) :
    execRegisterWrite agent .write a size v s = s.ok (s.busWrite agent a v).busWritten := by
  obtain ⟨h, hw, hl⟩ := hp
  simp [execRegisterWrite, h, hw, hl, hb, hr]

end

theorem State.not_tsvBarred_of_off {a : Nat} {s : State} (h : s.windowOn a = false) (agent : Agent) :
    s.tsvBarred agent a = false := by simp [State.tsvBarred, h]

theorem State.not_tsvBarred_of {a : Nat} {agent : Agent} (h : addrBlock a ≠ 1 ∨ agent = .tsv) (s : State) :
    s.tsvBarred agent a = false := by
  rcases h with h | rfl
  · simp [State.tsvBarred, h]
  · rfl

/-- Settles O16: each way in which an access is answered, by what the address, the domain and the fence say. -/
theorem registerAccessesAnswer : Obligations.RegisterAccessesAnswer := by
  refine ⟨?above, ?unaligned, ?readOff, ?read, ?off, ?fenced, ?fencedAgain, ?barred, ?direct, ?row, ?tsv⟩
  case above =>
    intro s agent acc a size v h
    rw [exec, execRegisterWrite_above h, State.ok_eq, State.busError]
  case unaligned =>
    intro s agent acc a size v h hw hl
    rw [exec, execRegisterWrite_unaligned h hw hl, State.ok_eq, State.busError]
  case readOff =>
    intro s agent a size v h hw hl ho
    rw [exec, execRegisterWrite_read ⟨h, hw, hl⟩, State.hostRead_off ho, State.ok_eq]
  case read =>
    intro s agent a size v h hw hl ho
    rw [exec, execRegisterWrite_read ⟨h, hw, hl⟩, State.hostRead_of_eq ho rfl, State.ok_eq]
  case off =>
    intro s a size v h hw hl ho hr
    rw [exec, execRegisterWrite_direct ⟨h, hw, hl⟩ (State.not_tsvBarred_of_off ho _) hr, State.busWrite_host,
      State.hostWrite_off ho, State.ok_eq, State.busWritten]
  case fenced =>
    intro s a size v h hw hl ho hf ht hb he hr
    rw [exec, execRegisterWrite_direct ⟨h, hw, hl⟩ (State.not_tsvBarred_of (.inl hb) s) hr, State.busWrite_host,
      State.hostWrite_fenced ho hf ht, State.fencedWrite_first he, State.ok_eq, State.busWritten]
  case fencedAgain =>
    intro s a size v h hw hl ho hf ht hb he hr
    rw [exec, execRegisterWrite_direct ⟨h, hw, hl⟩ (State.not_tsvBarred_of (.inl hb) s) hr, State.busWrite_host,
      State.hostWrite_fenced ho hf ht, State.fencedWrite_again he, State.ok_eq, State.busWritten]
  case barred =>
    intro s a size v h hw hl ho hb hc
    have hbar : s.tsvBarred .host a = true := by rw [State.tsvBarred, ho, hb, hc]; rfl
    rw [exec, execRegisterWrite_barred ⟨h, hw, hl⟩ hbar, State.ok_eq, State.busWritten, State.tsvIgnore]
  case direct =>
    intro s a size v h hw hl ho hf hb hr
    rw [exec, execRegisterWrite_direct ⟨h, hw, hl⟩ (State.not_tsvBarred_of (.inl hb) s) hr, State.busWrite_host,
      State.hostWrite_open (State.open_of ho hf), State.ok_eq, State.busWritten]
  case row =>
    intro s agent a size v t h hw hl hb hr
    rw [exec, execRegisterWrite_row ⟨h, hw, hl⟩ (State.not_tsvBarred_of hb s) hr, State.busWritten]
  case tsv =>
    intro s a size v h hw hl ho hr
    rw [exec, execRegisterWrite_direct ⟨h, hw, hl⟩ (State.not_tsvBarred_of (.inr rfl) s) hr, State.busWrite_tsv ho,
      State.ok_eq, State.busWritten]

/-! ## Domains and those that they require (R26, Table 1.2) -/

/-- Every domain of the mask has the domains that it requires in the mask. -/
def domsClosed (on : Nat) : Prop := ∀ d, bit on d = true → ∀ r ∈ domRequires d, bit on r = true

theorem State.domsOk_of_closed {s : State} (h : domsClosed s.mgr.on) : s.domsOk = true := by
  simp only [State.domsOk, List.all_eq_true, Bool.or_eq_true, Bool.not_eq_true']
  intro d _
  cases hd : s.domOn d
  · exact .inl rfl
  · exact .inr (h d hd)

/-- A domain whose required domains are all in the mask may join it. -/
theorem domsClosed_setBit {on d : Nat} (h : domsClosed on) (hd : (domRequires d).all (bit on) = true) :
    domsClosed (setBit on d) := by
  rw [List.all_eq_true] at hd
  intro e he r hr
  refine bit_setBit_of d ?_
  by_cases hed : e = d
  · exact hd r (hed ▸ hr)
  · exact h e (by rwa [bit_setBit_other _ hed] at he) r hr

theorem domsClosed_closeOn (on : Nat) : domsClosed (closeOn on) := by
  refine List.foldlRecOn (motive := domsClosed) _ _ (fun d h => by simp [bit] at h) (fun acc h d _ => ?_)
  split
  next hd => exact domsClosed_setBit h (Bool.and_eq_true_iff.mp hd).2
  next => exact h

/-! ## How a command is answered (R23, R24) -/

/-- An answer is a next state that the queue, module time, the signals and R26 allow after `s`. -/
def State.Completes (s : State) (r : Answered) : Prop :=
  ∃ t, r = .next t ∧ t.pending = s.pending ∧ (t.now = s.now ∨ t.now = 0) ∧ t.sigs = [] ∧ (s.domsOk = true → t.domsOk = true)

theorem State.domsOk_congr {s t : State} (h : t.mgr.on = s.mgr.on) : t.domsOk = s.domsOk := by
  simp only [State.domsOk, State.domOn, h]

theorem State.fin_frame (s t : State) :
    (s.fin t).now = s.now ∧ (s.fin t).pending = s.pending ∧ (s.fin t).mgr = s.mgr ∧ (s.fin t).sigs = [] :=
  ⟨rfl, rfl, rfl, rfl⟩

theorem State.after_frame (s t : State) :
    (s.after t).now = s.now ∧ (s.after t).pending = s.pending ∧ (s.after t).mgr = s.mgr ∧ (s.after t).sigs = [] := by
  rw [State.after]; exact s.fin_frame _

theorem State.finMgr_frame (s t : State) : (s.finMgr t).pending = s.pending ∧ (s.finMgr t).sigs = [] := ⟨rfl, rfl⟩

theorem State.finMgr_now (s t : State) : (s.finMgr t).now = s.now ∨ (s.finMgr t).now = 0 := by
  rw [State.finMgr]
  split
  · exact .inr rfl
  · exact .inl rfl

theorem State.finMgr_domsOk (s t : State) : (s.finMgr t).domsOk = true := State.domsOk_of_closed (domsClosed_closeOn _)

theorem State.completes_ok (s u : State) : s.Completes (s.ok u) := by
  obtain ⟨hnow, hpending, hmgr, hsigs⟩ := s.after_frame u
  rw [State.ok_eq]
  generalize s.after u = t at *
  exact ⟨t, rfl, hpending, .inl hnow, hsigs, (State.domsOk_congr (congrArg Mgr.on hmgr)).trans⟩

theorem State.completes_okMgr (s u : State) : s.Completes (s.okMgr u) := by
  rw [State.okMgr, State.doneMgr]
  obtain ⟨hpending, hsigs⟩ := s.finMgr_frame (State.settle s u)
  exact ⟨_, rfl, hpending, s.finMgr_now _, hsigs, fun _ => s.finMgr_domsOk _⟩

/-- A write of the bus leaves its own answer in the state. -/
theorem State.Completes.busWritten {s t : State} (h : s.Completes (.next t)) : s.Completes (.next t.busWritten) := by
  obtain ⟨u, hu, h⟩ := h
  cases hu
  exact ⟨t.busWritten, rfl, h⟩

/-- A free value taken first is no part of what `Completes` speaks of. -/
theorem State.Completes.of_takeFree {s : State} {w : Nat} {r : Answered} (h : (s.takeFree w).2.Completes r) : s.Completes r := h

theorem State.Completes.of_busOf {s : State} {agent : Agent} {r : Answered} (h : (s.busOf agent).Completes r) : s.Completes r := h

/-! ### Register writes that are commands of their own -/

section
variable {off v : Nat} {s : State} {r : Answered}

/-- SLEEP and BOOTOK are the power commands among the rows. -/
theorem State.completes_rowSys (h : s.rowSys off v = some r) : s.Completes r := by
  unfold State.rowSys at h
  repeat' split at h
  all_goals cases h
  exacts [s.completes_okMgr _, s.completes_okMgr _, s.completes_ok _, s.completes_ok _]

theorem State.completes_rowSv {n : Nat} (h : s.rowSv n v = some r) : s.Completes r := by
  unfold State.rowSv at h
  split at h <;> cases h
  exacts [s.completes_ok _, s.completes_ok _, .of_takeFree (w := 2) (State.completes_ok _ _)]

theorem State.completes_rowLs {n : Nat} (h : s.rowLs n v = some r) : s.Completes r := by
  unfold State.rowLs at h
  split at h <;> cases h
  exacts [s.completes_ok _, s.completes_ok _, .of_takeFree (w := 2) (State.completes_ok _ _)]

theorem State.completes_rowSlot {n : Nat} (h : s.rowSlot n v = some r) : s.Completes r := by
  unfold State.rowSlot at h
  split at h <;> cases h
  all_goals exact s.completes_ok _

theorem State.completes_rowCen (h : s.rowCen off v = some r) : s.Completes r := by
  unfold State.rowCen at h
  repeat' split at h
  case isFalse.isFalse.isFalse.isTrue => exact State.completes_rowSlot h
  all_goals cases h
  all_goals exact s.completes_ok _

theorem State.completes_rowSol (h : s.rowSol off v = some r) : s.Completes r := by
  unfold State.rowSol at h
  repeat' split at h
  case h_3 => exact State.completes_rowSv h
  all_goals cases h
  all_goals exact s.completes_ok _

theorem State.completes_rowLsw (h : s.rowLsw off v = some r) : s.Completes r := by
  unfold State.rowLsw at h
  repeat' split at h
  case h_1 => exact State.completes_rowLs h
  all_goals cases h
  all_goals exact s.completes_ok _

/-- A row answers as its command does; those of SYS may switch domains, and those of CEN, SOL and LSW name a slot or a channel first. -/
theorem State.completes_rowWrite {a : Nat} (h : s.rowWrite a v = some r) : s.Completes r := by
  unfold State.rowWrite at h
  split at h
  case h_1 => exact State.completes_rowSys h
  case h_5 => exact State.completes_rowCen h
  case h_11 => exact State.completes_rowSol h
  case h_12 => exact State.completes_rowLsw h
  all_goals
    simp only [State.rowTsv, State.rowCar, State.rowTbs, State.rowHsn, State.rowVis, State.rowGns, State.rowFus, State.rowSec,
      State.rowCan, State.rowEth, State.rowFlt, State.rowThm, State.rowDsp, State.rowEvr, State.rowPds] at h
    repeat' split at h
    all_goals cases h
    all_goals exact s.completes_ok _

end

/-! ### Every command -/

theorem execRegisterWrite_completes (agent : Agent) (acc : Access) (a size v : Nat) (s : State) :
    s.Completes (execRegisterWrite agent acc a size v s) := by
  unfold execRegisterWrite
  split
  · exact s.completes_ok _
  split
  · exact s.completes_ok _
  split
  · exact s.completes_ok _
  split
  · exact s.completes_ok _
  split
  · exact s.completes_ok _
  split
  next t ht => exact (State.Completes.of_busOf (State.completes_rowWrite ht)).busWritten
  next r _ hr => exact .of_busOf (State.completes_rowWrite hr)
  next => exact s.completes_ok _

/-- What the domain managers and KA do is answered as a power command; a register write as its row, or as a direct access; every
other command as one of the data hierarchy. -/
theorem exec_completes (c : Instr) (s : State) : s.Completes (exec c s) := by
  cases c
  case registerWrite agent acc a size v => exact execRegisterWrite_completes agent acc a size v s
  case powerGoodLost | domainPowerGood | domainPowerFail | parameterLoad | reset | rollbackComplete | supplyLow | supplyHigh |
      powerFail | holdupEnd | ignWake | rtcAlarm | startStep | bootok | ignOff | sleep | runOnEnd | shutdownStep | shutdownCancel |
      housekeepingRound | kaSupplyLoss | logpwrRecheck | supplyNormal => exact s.completes_okMgr _
  all_goals exact s.completes_ok _

/-- Settles O5: each command is answered in one of the two forms of an answer, and both are next states of that kind. -/
theorem everyCommandCompletes : Obligations.EveryCommandCompletes := fun s c => exec_completes c s

/-! ## Steps and ticks -/

theorem step_of_nil {s : State} (h : s.pending = []) : step s = .next s.tick := by rw [step, h]

theorem step_of_cons {s : State} {c : Instr} {q : List Instr} (h : s.pending = c :: q) : step s = exec c { s with pending := q } := by
  rw [step, h]

/-- Settles O1: the front command leaves the queue and is carried out. -/
theorem stepRunsFrontCommand : Obligations.StepRunsFrontCommand := fun _ _ _ => step_of_cons rfl

/-- Module time 5 ns on, at which bases that a structure commit has put in LOST enter SEEK (Table 2.2). -/
def State.advance (s : State) : State :=
  if s.tbs.seek = [] then { s with now := s.now + 5 }
  else State.after { s with now := s.now + 5 } (State.tbSeekAll { s with now := s.now + 5 })

theorem State.tick_eq (s : State) :
    s.tick = if s.domOn 1 then (if s.tsv.attaches.isEmpty && !s.thm.due then s else s.after s.lastly).advance else s := by
  simp only [State.tick, State.advance, List.isEmpty_iff]

theorem State.tick_of_off {s : State} (h : s.domOn 1 = false) : s.tick = s := by
  rw [State.tick_eq, if_neg (by simp [h])]

theorem State.tick_of_idle {s : State} (h : s.domOn 1 = true) (ha : s.tsv.attaches = []) (hd : s.thm.due = false) :
    s.tick = s.advance := by
  rw [State.tick_eq, if_pos h, if_pos (by simp [ha, hd])]

theorem State.tick_of_waiting {s : State} (h : s.domOn 1 = true) (hw : s.tsv.attaches ≠ [] ∨ s.thm.due = true) :
    s.tick = (s.after s.lastly).advance := by
  rw [State.tick_eq, if_pos h, if_neg]
  rcases hw with hw | hw <;> simp [hw]

/-- Settles O2: the tick with AON on, with and without what is taken at the end of the cycle, and with AON off. -/
theorem emptyQueueIsATick : Obligations.EmptyQueueIsATick := by
  refine ⟨?plain, ?seek, ?waiting, ?off⟩
  case plain =>
    intro s hq h hs ha hd
    rw [step_of_nil hq, State.tick_of_idle h ha hd, State.advance, if_pos hs]
  case seek =>
    intro s hq h hs ha hd
    rw [step_of_nil hq, State.tick_of_idle h ha hd, State.advance, if_neg hs]
  case waiting =>
    intro s u hq h hw hu
    rw [step_of_nil hq, State.tick_of_waiting h hw, ← hu, State.advance]
  case off =>
    intro s hq h
    rw [step_of_nil hq, State.tick_of_off h]

/-! ## The invariant (R9, R26, R23) -/

theorem State.inv_after {s : State} (h : s.inv) (t : State) : (s.after t).inv := by
  obtain ⟨htime, hdoms, -⟩ := h
  obtain ⟨hnow, -, hmgr, hsigs⟩ := s.after_frame t
  generalize s.after t = u at *
  refine ⟨?_, ?_, hsigs⟩
  · rwa [State.timeOk, hnow]
  · rwa [State.domsOk_congr (congrArg Mgr.on hmgr)]

theorem State.inv_advance {s : State} (h : s.inv) : s.advance.inv := by
  have hn : State.inv { s with now := s.now + 5 } := by
    obtain ⟨htime, hdoms, hsigs⟩ := h
    exact ⟨by simpa [State.timeOk] using htime, hdoms, hsigs⟩
  unfold State.advance
  split
  · exact hn
  · exact State.inv_after hn _

theorem State.inv_tick {s : State} (h : s.inv) : s.tick.inv := by
  cases hon : s.domOn 1
  · rwa [State.tick_of_off hon]
  · by_cases hw : s.tsv.attaches ≠ [] ∨ s.thm.due = true
    · rw [State.tick_of_waiting hon hw]
      exact State.inv_advance (State.inv_after h _)
    · simp only [ne_eq, not_or, not_not, Bool.not_eq_true] at hw
      rw [State.tick_of_idle hon hw.1 hw.2]
      exact State.inv_advance h

/-- What a command that completes answers meets the invariant. -/
theorem State.Completes.inv {s t : State} (h : s.Completes (.next t)) (hi : s.inv) : t.inv := by
  obtain ⟨u, hu, -, hnow, hsigs, hdoms⟩ := h
  cases hu
  refine ⟨?_, hdoms hi.2.1, hsigs⟩
  rcases hnow with hnow | hnow
  · rw [State.timeOk, hnow]; exact hi.1
  · simp [State.timeOk, hnow]

/-- Settles O4: a tick keeps the invariant, and so does every command, since it completes. -/
theorem everyStepKeepsInvariant : Obligations.EveryStepKeepsInvariant := by
  intro s t hi hst
  cases hq : s.pending with
  | nil =>
    rw [step_of_nil hq] at hst
    cases hst
    exact State.inv_tick hi
  | cons c q =>
    rw [step_of_cons hq] at hst
    have hc := exec_completes c { s with pending := q }
    rw [hst] at hc
    exact hc.inv hi

/-! ## Reset -/

theorem State.reset_rd (f : Fld) : State.reset.rd f = f.rst := rfl

theorem State.reset_stagedVal (f : Fld) : State.reset.stagedVal f = f.rst := rfl

theorem State.reset_inv : State.reset.inv := ⟨by decide, by decide, rfl⟩

/-- Settles O3: nothing is listed in the tables of the state after reset, so every field reads its reset value. -/
theorem resetState : Obligations.ResetState :=
  ⟨⟨State.reset_inv, rfl, rfl, by decide⟩, ⟨rfl, rfl, rfl, rfl, rfl⟩, fun f => ⟨State.reset_rd f, State.reset_stagedVal f⟩,
    ⟨by decide, State.reset_rd _, State.reset_rd _, State.reset_rd _⟩⟩

end Sys2Proof.Machine
end

section
/-!
PROOF. The statements of spec/01_module_in_the_machine.md, both refuted: a reset that has waited for a rollback goes on with ROLLBACK_COMPLETE
(R393), and a fault that its block's own event has recorded gets no second record (R25). First what stays quiet, and what the two commands
answer.
-/
namespace Sys2Proof.Machine

/-! ## What keeps a state quiet -/

/-- The three registers that `State.quiet` reads. -/
def quietFlds : List Fld := [TSV_MPAR6_FCA, TSV_MPAR6_FCB, SEC_STAT_STATE]

theorem State.quiet_of_rd {s t : State} (h : s.quiet = true) (hsigs : t.sigs = s.sigs) (hpds : t.pds = s.pds)
    (hrd : ∀ g ∈ quietFlds, t.rd g = s.rd g) : t.quiet = true :=
  State.quiet_of h hsigs hpds (hrd _ (by simp [quietFlds])) (hrd _ (by simp [quietFlds])) (hrd _ (by simp [quietFlds]))

theorem State.quiet_wr {s : State} (h : s.quiet = true) {f : Fld} (hf : ∀ g ∈ quietFlds, f.key ≠ g.key) (v : Nat) :
    (s.wr f v).quiet = true :=
  State.quiet_of_rd h rfl rfl fun g hg => State.rd_wr_other (hf g hg) v s

theorem State.quiet_setFlagBit {s : State} (h : s.quiet = true) {f : Fld} (hf : ∀ g ∈ quietFlds, f.key ≠ g.key) (i : Nat) :
    (s.setFlagBit f i).quiet = true :=
  State.quiet_of_rd h rfl rfl fun g hg => State.rd_setFlagBit_other (hf g hg) i s

theorem State.only_emit (code : Nat) (ps : List Nat) (s : State) : s.only [0x11] (s.emit code ps) :=
  State.only.emit code ps s (List.mem_singleton.mpr rfl)

theorem State.quiet_emit {s : State} (h : s.quiet = true) (code : Nat) (ps : List Nat) : (s.emit code ps).quiet = true := by
  have ho := State.only_emit code ps s
  refine State.quiet_of_rd h ho.sigs (ho.pds.resolve_left (by decide)) fun g hg => ho.regs g ?_ ?_
  all_goals
    revert g
    decide

theorem State.emit_mgr (code : Nat) (ps : List Nat) (s : State) : (s.emit code ps).mgr = s.mgr := (State.only_emit code ps s).mgr

theorem State.emit_free (code : Nat) (ps : List Nat) (s : State) : (s.emit code ps).free = s.free := by
  rw [(EvrOnly.emit s code ps).same]

/-! ## Which commands leave the domain managers alone (R18) -/

theorem State.keepsManagers_ok (s u : State) :
    ∃ t, s.ok u = .next t ∧ t.mgr = s.mgr ∧ t.now = s.now ∧ ∀ d, t.domOn d = s.domOn d := by
  obtain ⟨hnow, -, hmgr, -⟩ := s.after_frame u
  exact ⟨_, s.ok_eq u, hmgr, hnow, fun d => by rw [State.domOn, hmgr, State.domOn]⟩

/-- ROLLBACK_COMPLETE is the only command for which OnlyManagersSwitchDomains fails. -/
theorem exec_keepsManagers {c : Instr} (h : switchesDomains c = false) (hr : ∀ r, c ≠ .rollbackComplete r) (s : State) :
    ∃ t, exec c s = .next t ∧ t.mgr = s.mgr ∧ t.now = s.now ∧ ∀ d, t.domOn d = s.domOn d := by
  cases c
  case rollbackComplete r => exact absurd rfl (hr r)
  case powerGoodLost | domainPowerGood | domainPowerFail | supplyLow | supplyHigh | supplyNormal | powerFail | holdupEnd |
      kaSupplyLoss | ignWake | rtcAlarm | logpwrRecheck | startStep | bootok | ignOff | sleep | runOnEnd | shutdownStep |
      shutdownCancel | housekeepingRound | reset | parameterLoad | registerWrite => cases h
  all_goals exact s.keepsManagers_ok _

/-! ## A reset that goes on with ROLLBACK_COMPLETE (R393, R398) -/

theorem exec_rollbackComplete {r : Nat} {s : State} (hr : r < 5) (hon : s.domOn 1 = true) :
    exec (.rollbackComplete r) s = .next (s.afterMgr (s.rollbackDone r).resetGoesOn) := by
  rw [exec, execRollbackComplete, State.okMgr_eq, State.when_of (by simp [hr, hon])]

theorem State.resetGoesOn_of_waiting {s : State} {o : ResetOrder} {l : List ResetOrder} (ho : s.tsv.orders = o :: l)
    (hb : o.begun = true) (hm : s.mayStart = true) :
    s.resetGoesOn = State.doReset o (s.tsvSet (fun t => { t with orders := l })) := by
  simp only [State.resetGoesOn, ho, hb, hm, Bool.and_self, if_true]

/-- A cold start that was begun and need wait no longer switches every domain off and starts AON anew. -/
theorem State.doReset_coldStart {s : State} {o : ResetOrder} (hk : o.kind = 1) (hb : o.begun = true)
    (hw : s.resetWaits o = false) :
    s.doReset o = s.allOff.coldStart 1 o.source 3 (s.rd SYS_PWRSTAT_LASTSTBY) (s.on SYS_PWRSTAT_IGN) 0 := by
  simp [State.doReset, State.resetActs, hk, hb, hw]

section
variable (kind src wake last : Nat) (ign : Bool) (dur : Nat) (s : State)

theorem State.coldStart_on : (s.coldStart kind src wake last ign dur).mgr.on = 3 := by
  simp only [State.coldStart, State.emit_mgr]
  rfl

theorem State.coldStart_quiet : (s.coldStart kind src wake last ign dur).quiet = true := by
  unfold State.coldStart
  refine State.quiet_emit (State.quiet_emit ?_ _ _) _ _
  iterate 8 refine State.quiet_wr ?_ (by decide) _
  rfl

/-- After a cold start KA and AON are on, and no other domain. -/
theorem State.domOn_afterMgr_coldStart {d : Nat} (hd : bit (closeOn 3) d = false) (o : State) :
    (o.afterMgr (s.coldStart kind src wake last ign dur)).domOn d = false := by
  rw [State.afterMgr_quiet (State.coldStart_quiet ..), State.domOn, State.finMgr, State.coldStart_on]
  exact hd

end

/-- The cold start of the Service command P.01.00.0F1 (R393), begun. -/
def coldStartOrder : ResetOrder := { kind := 1, target := 1, source := 2, row := 0xF, begun := true }

/-- Every domain is on, and a cold start waits for the rollback of the boost converter's lease, which SOL held. -/
def State.coldStartWaits : State :=
  { State.reset with
    mgr := { State.reset.mgr with on := 0x3FFF, swOn := 0x3FFF }
    leases := [(4, { state := 2, owner := 0x0A })]
    tsv := { State.reset.tsv with orders := [coldStartOrder] } }

/-- ROLLBACK_COMPLETE of the lease for which the cold start waits switches the host's domain, APP, off. -/
theorem exec_rollbackComplete_coldStartWaits :
    ∃ t, exec (.rollbackComplete 4) State.coldStartWaits = .next t ∧ t.domOn 3 = false := by
  have horders : (State.coldStartWaits.rollbackDone 4).tsv.orders = [coldStartOrder] := rfl
  refine ⟨_, exec_rollbackComplete (by decide) (by decide), ?_⟩
  rw [State.resetGoesOn_of_waiting horders rfl (by decide), State.doReset_coldStart rfl rfl (by decide)]
  exact State.domOn_afterMgr_coldStart _ _ _ _ _ _ _ (by decide) _

/-- Refutes O6: the cold start that waited for the rollback goes on with ROLLBACK_COMPLETE and switches APP, which was on, off. -/
theorem not_onlyManagersSwitchDomains : ¬ Obligations.OnlyManagersSwitchDomains := by
  intro h
  obtain ⟨t, ht, hoff⟩ := exec_rollbackComplete_coldStartWaits
  obtain ⟨u, hu, -, -, hdom⟩ := h State.coldStartWaits (.rollbackComplete 4) rfl
  cases ht.symm.trans hu
  have hon : State.coldStartWaits.domOn 3 = true := by decide
  rw [hdom 3, hon] at hoff
  exact Bool.noConfusion hoff

/-! ## Faults that a block's own event records (R25) -/

/-- A report without a row and a resource, of a fault that the block's own event has recorded: no other record follows. -/
theorem exec_blockFaultDetected_said {b inst : Nat} {s : State} (hb : s.blockOn b = true) (hlt : b < 20)
    (hsaid : s.faultSaid b inst false = true) (groups : Nat) :
    exec (.blockFaultDetected b inst none groups none) s = .next (s.after (s.consequence b inst false).toTocsin) := by
  simp [exec, execBlockFaultDetected, State.ok_eq, hb, hlt, hsaid]

/-- The record of R25 takes a free value: the low byte of its code. -/
theorem State.faultRecord_free (b inst : Nat) (s : State) : (s.faultRecord b inst).free = s.free + 1 := by
  rw [State.faultRecord, State.emit_free]
  rfl

theorem State.quiet_faultRecord {s : State} (h : s.quiet = true) (b inst : Nat) : (s.faultRecord b inst).quiet = true := by
  have hfree : (s.takeFree 8).2.quiet = true := State.quiet_of_rd h rfl rfl fun _ _ => rfl
  exact State.quiet_emit hfree _ _

theorem State.quiet_toTocsin {s : State} (h : s.quiet = true) : s.toTocsin.quiet = true := by
  unfold State.toTocsin State.when
  split
  · exact State.quiet_setFlagBit h (by decide) _
  · exact h

theorem State.toTocsin_free (s : State) : s.toTocsin.free = s.free := by
  unfold State.toTocsin State.when
  split <;> rfl

/-- The report to Tocsin takes no free value, nor does what follows it in a quiet state. -/
theorem State.after_toTocsin_free {t : State} (h : t.quiet = true) (s : State) : (s.after t.toTocsin).free = t.free := by
  rw [State.after_quiet (State.quiet_toTocsin h)]
  exact t.toTocsin_free

/-- KA, AON, SAF and RT are on: HSN is. -/
def State.rtOn : State := { State.reset with mgr := { State.reset.mgr with on := 0x17 } }

/-- Refutes O17 by its second clause: HSN's fault of the impact plate (instance 8) is recorded by EV 0x050C, its own, and no second record
takes a free value for its code. -/
theorem not_faultsFencesAndHealthAct : ¬ Obligations.FaultsFencesAndHealthAct := by
  rintro ⟨-, hrecorded, -⟩
  have hon : State.rtOn.blockOn 0x05 = true := by decide
  have hclaim := hrecorded State.rtOn 0x05 8 0 hon (by decide)
  rw [exec_blockFaultDetected_said hon (by decide) rfl] at hclaim
  have hquiet : (State.rtOn.consequence 0x05 8 false).quiet = true := by decide
  have hfree := congrArg State.free (Host.Outcome.next.inj hclaim)
  rw [State.after_toTocsin_free hquiet, State.after_toTocsin_free (State.quiet_faultRecord hquiet _ _),
    State.faultRecord_free] at hfree
  omega

end Sys2Proof.Machine
end

section
/-!
PROOF. The statements of spec/02_time_bases.md: the phase between edges (R37), what deadlines, wire breaks, the reference check and the
return from failover do to a base (R43, R46, R48), and the host's accesses PRESET, SNAP and PHASE_READ (R44). First the equations of the
operations that the commands share, one for each case.
-/
namespace Sys2Proof.Machine

/-! ## Commands that act under a condition -/

theorem State.ok_when {c : Bool} (h : c = true) (f : State → State) (s : State) : s.ok (s.when c f) = .next (s.after (f s)) := by
  rw [State.when_of h, State.ok_eq]

/-! ## The phase between edges (R37) -/

/-- At the time of the edge, and before it, the model stands at P_e. -/
theorem tbInterp_of_le {te t : Nat} (h : t ≤ te) (pe v a : Int) (fwd : Bool) (limit : Option Int) :
    tbInterp pe te v a fwd limit t = pe := if_pos h

theorem tbInterp_forward_mem {pe l : Int} (h : pe + lsb16 ≤ l) (v a : Int) (te t : Nat) :
    pe ≤ tbInterp pe te v a true (some l) t ∧ tbInterp pe te v a true (some l) t ≤ l - lsb16 := by
  have hpe : pe ≤ l - lsb16 := Int.le_sub_right_of_add_le h
  by_cases ht : t ≤ te
  · rw [tbInterp_of_le ht]
    exact ⟨le_rfl, hpe⟩
  · rw [tbInterp, if_neg ht]
    exact ⟨le_max_left _ _, max_le hpe (min_le_right _ _)⟩

theorem tbInterp_reverse_mem {pe l : Int} (h : l + lsb16 ≤ pe) (v a : Int) (te t : Nat) :
    tbInterp pe te v a false (some l) t ≤ pe ∧ l + lsb16 ≤ tbInterp pe te v a false (some l) t := by
  by_cases ht : t ≤ te
  · rw [tbInterp_of_le ht]
    exact ⟨le_rfl, h⟩
  · rw [tbInterp, if_neg ht]
    exact ⟨min_le_left _ _, le_min h (le_max_right _ _)⟩

theorem TbBase.phaseAt_of_stands {b : TbBase} (h : tbMovingSt b.st = false) (t : Nat) : b.phaseAt t = b.pe :=
  if_neg (h ▸ Bool.false_ne_true)

/-- Without a substitute the phase is that of the base's own source. -/
theorem State.tbPhase16_own {s : State} {n : Nat} (h : (s.tb n).sub = none) (fuel t : Nat) :
    s.tbPhase16 (fuel + 1) n t = (s.tb n).phaseAt t := by
  rw [State.tbPhase16, h]

/-- Settles O26: the clamp holds the phase on either side, and a base that stands shows P_e. -/
theorem interpolatedPhaseStaysBetweenEdges : Obligations.InterpolatedPhaseStaysBetweenEdges := by
  refine ⟨fun pe v a l te t h => tbInterp_forward_mem h v a te t, fun pe v a l te t h => tbInterp_reverse_mem h v a te t,
    fun pe v a fwd lim te => tbInterp_of_le le_rfl pe v a fwd lim, fun s n t hst hsub => ?stands⟩
  case stands =>
    have hstands : tbMovingSt (s.tb n).st = false := by
      rcases hst with h | h | h <;> rw [State.tbSt] at h <;> rw [h] <;> rfl
    rw [State.tbPhase16_own hsub, TbBase.phaseAt_of_stands hstands]

/-! ## Deadlines and wire breaks (R43, R49) -/

section
variable {s : State} {n : Nat}

/-- With no wire break of its inputs in the tick, what comes first for a base is its deadline. -/
theorem State.tbFirst_of_unbroken (h : (s.tbPins n).filter (fun p => s.wireBreakWaits p) = []) : s.tbFirst n = s.tbDue n := by
  rw [State.tbFirst, State.tbBroken, h, State.each_nil]

theorem State.tbDue_early {d : Nat} (hdue : (s.tb n).dueAt = some d) (h : s.now < d) : s.tbDue n = s := by
  simp [State.tbDue, hdue, h]

theorem State.tbDue_lost {d : Nat} (hdue : (s.tb n).dueAt = some d) (h : d ≤ s.now) (hlost : (s.tb n).dueLost = true) :
    s.tbDue n = s.tbLose n 1 := by
  simp [State.tbDue, hdue, Nat.not_lt.mpr h, hlost]

theorem State.tbDue_still {d : Nat} (hdue : (s.tb n).dueAt = some d) (h : d ≤ s.now) (hlost : (s.tb n).dueLost = false)
    (hst : (s.tb n).st ≠ 4) : s.tbDue n = s.tbEnter n 3 0 := by
  simp [State.tbDue, hdue, Nat.not_lt.mpr h, hlost, hst]

theorem exec_edgeDeadline (hn : n < 8) (hon : s.blockOn 0x03 = true)
    (hpins : (s.tbPins n).filter (fun p => s.wireBreakWaits p) = []) :
    exec (.edgeDeadline n) s = .next (s.after (s.tbDue n)) := by
  rw [exec, execEdgeDeadline, State.ok_when (by simp [hn, hon]), State.tbFirst_of_unbroken hpins]

/-- Table 19.8: which condition of an input is a break depends on its mode. -/
theorem State.wireBreaks_of {pin ms : Nat} {short : Bool} (hpin : pin < 16) (hms : 1 ≤ ms) (hon : s.blockOn 0x03 = true)
    (hmode : bits (s.rd SYS_TBIMODE_MODE) (2 * pin) 2 = 2 ∨ bits (s.rd SYS_TBIMODE_MODE) (2 * pin) 2 = 0 ∧ short = false) :
    s.wireBreaks pin short ms = true := by
  rcases hmode with h | ⟨h, rfl⟩ <;> simp [State.wireBreaks, hpin, hms, hon, h]

/-! ## The reference check (R46) -/

/-- A window begins where the base moves and REF is in TRACK. -/
theorem State.tbWindow_of_may (hmove : tbMovingSt (s.tbSt n) = true) (href : s.tbSt (s.rd (TBS_PLAUS_REF n)) = 2) :
    s.tbWindow n = s.setTb n { s.tb n with win := some ⟨s.now, s.rd (TBS_PLAUS_REF n), s.tbPhase16 8 n s.now,
      s.tbPhase16 8 (s.rd (TBS_PLAUS_REF n)) s.now⟩ } := by
  simp [State.tbWindow, hmove, href]

theorem State.tbPlaus_without_window (h : (s.tb n).win = none) : s.tbPlaus n = s.tbWindow n := by
  rw [State.tbPlaus, h]

section
variable {w : TbWin} (hwin : (s.tb n).win = some w) (hend : w.from_ + 100000000 ≤ s.now) (hbase : w.base = s.rd (TBS_PLAUS_REF n))
include hwin hend hbase

/-- The travel of the base lies within TOL of REF's times RATIO. -/
theorem State.tbPlaus_within
    (h : 200 * ((s.tbPhase16 8 n s.now - w.own) * 65536 -
        (s.tbPhase16 8 w.base s.now - w.ref) * (s.rd (TBS_RATIO_RATIO n) : Int)).natAbs ≤
      s.rd (TBS_PLAUS_TOL n) * ((s.tbPhase16 8 w.base s.now - w.ref) * (s.rd (TBS_RATIO_RATIO n) : Int)).natAbs) :
    s.tbPlaus n = (s.tbWindow n).tbClear n 2 := by
  simp only [State.tbPlaus, hwin]
  rw [if_neg (Nat.not_lt.mpr hend), if_neg (by simp [hbase]), if_neg (by simpa using h)]

/-- The travel lies beyond TOL, and the check had not failed before. -/
theorem State.tbPlaus_beyond
    (h : s.rd (TBS_PLAUS_TOL n) * ((s.tbPhase16 8 w.base s.now - w.ref) * (s.rd (TBS_RATIO_RATIO n) : Int)).natAbs <
      200 * ((s.tbPhase16 8 n s.now - w.own) * 65536 -
        (s.tbPhase16 8 w.base s.now - w.ref) * (s.rd (TBS_RATIO_RATIO n) : Int)).natAbs)
    (hfirst : (s.tb n).causes.contains 2 = false) :
    s.tbPlaus n = ((((s.tbWindow n).tbFlag TBS_FLAGS_PLAUSERR n).emit 0x0309 [n, w.base,
      if s.tbPhase16 8 w.base s.now - w.ref = 0 then 0
      else tc 32 ((s.tbPhase16 8 n s.now - w.own) * 65536 / (s.tbPhase16 8 w.base s.now - w.ref))]).toTocsin).tbSuspect n 2 := by
  simp only [State.tbPlaus, hwin]
  rw [if_neg (Nat.not_lt.mpr hend), if_neg (by simp [hbase]), if_pos (by simpa using h), if_neg (by rw [hfirst]; decide)]

end

/-! ## Failover (R48) -/

/-- The own source has tracked for 1 s: the base returns to it, its edges shifted by what the phase reported is ahead. -/
theorem exec_failoverReturn {x : TbSub} {u : Nat} (hn : n < 8) (hon : s.blockOn 0x03 = true) (hsub : (s.tb n).sub = some x)
    (hsince : x.since = some u) (h : u + 1000000000 ≤ s.now) :
    exec (.failoverReturn n) s = .next (s.after (let d := s.tbPhase16 8 n s.now - (s.tb n).phaseAt s.now; ((s.setTb n
      { s.tb n with sub := none, pe := (s.tb n).pe + d, origin := (s.tb n).origin + d,
                    hist := (s.tb n).hist.map (fun e => (e.1, e.2 + d)) }).emit 0x030C [n]).tbRenewed n false)) := by
  obtain ⟨own, ref, since, base, ratio, fl⟩ := x
  subst hsince
  rw [exec, execFailoverReturn, State.ok_when (by simp [hn, hon])]
  simp only [hsub]
  rw [if_neg (Nat.not_lt.mpr h)]

end

/-- Settles O27: each happening under its condition, through the equations above. -/
theorem timeBaseEventsAct : Obligations.TimeBaseEventsAct := by
  refine ⟨?edge, ?lost, ?still, ?early, ?returns, ?wire, ?gnss, ?yulis, ?window, ?begins, ?within, ?beyond⟩
  case edge =>
    intro s n pin high hn hon hpin
    rw [exec, execEdgeAccepted, State.ok_when (by simp [hn, hon, hpin])]
  case lost =>
    intro s n d hn hon hpins hdue hd hlost
    rw [exec_edgeDeadline hn hon hpins, State.tbDue_lost hdue hd hlost]
  case still =>
    intro s n d hn hon hpins hdue hd hlost hst
    rw [exec_edgeDeadline hn hon hpins, State.tbDue_still hdue hd hlost hst]
  case early =>
    intro s n d hn hon hpins hdue hd
    rw [exec_edgeDeadline hn hon hpins, State.tbDue_early hdue hd]
  case returns =>
    intro s n u base ratio own ref fl hn hon hsub hu
    exact exec_failoverReturn hn hon hsub rfl hu
  case wire =>
    intro s pin ms short hpin hms hon hmode
    rw [exec, execTbiWireBreak, State.ok_when (State.wireBreaks_of hpin hms hon hmode)]
  case gnss =>
    intro s n hn hon hsrc hlate
    rw [exec, execGnssRecordMissing, State.ok_when (by simp [hn, hon, hsrc, hlate])]
  case yulis =>
    intro s n hn hon hsrc hlate
    rw [exec, execYulisUpdateMissing, State.ok_when (by simp [hn, hon, hsrc, hlate])]
  case window =>
    intro s n hn hon hen hfree
    have htaken : ((s.tb n).win.isSome && (s.edgeWaits n || s.edgeWaits (s.rd (TBS_PLAUS_REF n)))) = false := by
      rcases hfree with h | ⟨hown, href⟩
      · rw [h]; rfl
      · rw [hown, href, Bool.or_false, Bool.and_false]
    rw [exec, execPlausibilityWindow, State.ok_when (by simp [hn, hon, hen]), if_neg (by rw [htaken]; decide)]
  case begins =>
    intro s n hwin hmove href
    rw [State.tbPlaus_without_window hwin, State.tbWindow_of_may hmove href]
  case within =>
    intro s n w hwin hend hbase h
    exact State.tbPlaus_within hwin hend hbase h
  case beyond =>
    intro s n w hwin hend hbase h hfirst
    exact State.tbPlaus_beyond hwin hend hbase h hfirst

/-! ## Accesses of the host (R44) -/

/-- A preset of any other base is ignored. -/
theorem exec_preset_ignored {s : State} {n : Nat} (hn : n < 8) (hopen : s.open (TBS_PRESET_PRESET n).addr = true)
    (hkind : s.tbKind n ≠ 1) (hsrc : s.rd (TBS_CFG_SRC n) ≠ 7) (v : Nat) :
    exec (.preset n v) s = .next (s.after (s.emit 0x030D [n])) := by
  rw [exec, execPreset, State.ok_when (decide_eq_true hn), State.hostWrite_open hopen, if_neg (by simp [hkind, hsrc])]

/-- A preset of a distance base or a virtual one is a jump by the least difference of phase (R13); `d` is how far it moves the phase reported,
whose part below one LSB it drops. -/
theorem exec_preset_jumps {s t : State} {n v : Nat} {old d : Int} (hn : n < 8) (hopen : s.open (TBS_PRESET_PRESET n).addr = true)
    (hmay : s.tbKind n = 1 ∨ s.rd (TBS_CFG_SRC n) = 7) (hold : old = s.tbPhase16 8 n s.now)
    (hd : d = old / lsb16 * lsb16 + phaseDiff v (tc 32 (old / lsb16)) * lsb16 - old)
    (ht : t = State.tbJump n (phaseDiff v (tc 32 (old / lsb16)) * lsb16) (s.setTb n
      { s.tb n with
        pe := old + d, te := s.now, origin := (s.tb n).origin + d, hist := [],
        sub := (s.tb n).sub.map (fun u => { u with own := u.own + d, floor := u.floor.map (fun x => x + d) }) })) :
    exec (.preset n v) s = .next (s.after (t.setTb n
      { t.tb n with limit := if tbMovingSt (t.tbSt n) then t.tbNextEdge n else none })) := by
  have hp : old + d = old / lsb16 * lsb16 + phaseDiff v (tc 32 (old / lsb16)) * lsb16 := by omega
  rw [hp] at ht
  subst hd ht hold
  rw [exec, execPreset, State.ok_when (decide_eq_true hn), State.hostWrite_open hopen, if_pos (by simpa using hmay)]

/-- The least difference to a 32-bit phase leads to it from every phase (R11, R13). -/
theorem tc_add_phaseDiff {v : Nat} (hv : v < 2 ^ 32) (p : Int) : tc 32 (p + phaseDiff v (tc 32 p)) = v := by
  rw [phaseDiff_eq_bmod, tc, tc, Int.bmod_def]
  push_cast
  omega

theorem State.tbReadPhase_snap {s : State} {n : Nat} {x : TbSnap} (h : tabFind s.tbs.snap n = some x) :
    s.tbReadPhase n = (x.phase, State.tbLatch n x { s with tbs := { s.tbs with snap := tabDel s.tbs.snap n } }) := by
  rw [State.tbReadPhase, h]

theorem State.tbReadPhase_live {s : State} {n : Nat} (h : tabFind s.tbs.snap n = none) :
    s.tbReadPhase n = (s.tbPhase n, s.tbLatch n (s.tbSnapOf n)) := by
  rw [State.tbReadPhase, h, State.tbSnapOf]

/-- A read with the window on answers what TBS_PHASEn gives. -/
theorem exec_phaseRead {s t : State} {n phase : Nat} (hn : n < 8) (hon : s.windowOn (TBS_PHASE_PHASE n).addr = true)
    (hr : s.tbReadPhase n = (phase, t)) :
    exec (.phaseRead n) s = .next (s.after { t with bus := { done := true, data := phase } }) := by
  rw [exec, execPhaseRead, State.ok_when (decide_eq_true hn), State.hostRead_of_eq hon hr]

/-- Settles O28: a preset by the kind of its base, the latch of SNAP, and a read by whether a latched phase waits. -/
theorem timeBaseHostAccessesAct : Obligations.TimeBaseHostAccessesAct := by
  refine ⟨?ignored, ?jumps, ?leads, ?snap, ?live, ?latched⟩
  case ignored =>
    intro s n v hn hopen hkind hsrc
    exact exec_preset_ignored hn hopen hkind hsrc v
  case jumps =>
    intro s n v old d t hn hopen hmay hold hd ht
    exact exec_preset_jumps hn hopen hmay hold hd ht
  case leads =>
    intro v old hv
    exact tc_add_phaseDiff hv _
  case snap =>
    intro s v hopen
    rw [exec, execSnap, State.hostWrite_open hopen, State.ok_eq]
  case live =>
    intro s n hn hon hnone
    exact exec_phaseRead hn hon (State.tbReadPhase_live hnone)
  case latched =>
    intro s n x hn hon hsome
    exact exec_phaseRead hn hon (State.tbReadPhase_snap hsome)

end Sys2Proof.Machine
end

section
/-!
PROOF. The statements of spec/03_carillon_event_engine.md: posts (R61, R82) and retirement entries (R75–R77), which hold, and Carillon's
commands, refuted: a host ON that has waited for a prediction round is carried out with it (R225, R226). First what the operations on slots,
ports and the ring leave of the slots.
-/
namespace Sys2Proof.Machine

/-! ## Slots -/

@[simp] theorem State.slot_setSlot_same (k : Nat) (x : CarSlot) (s : State) : (s.setSlot k x).slot k = x :=
  tabGet_tabSet_same _ _ _ _

theorem State.slot_setSlot_other {k j : Nat} (h : j ≠ k) (x : CarSlot) (s : State) : (s.setSlot k x).slot j = s.slot j :=
  tabGet_tabSet_other _ _ _ _ h.symm

theorem State.slot_of_slots {s t : State} (h : t.car.slots = s.car.slots) (k : Nat) : t.slot k = s.slot k := by
  rw [State.slot, h, State.slot]

@[simp] theorem State.slot_wr (f : Fld) (v k : Nat) (s : State) : (s.wr f v).slot k = s.slot k := rfl

/-- Events that are emitted, at a limited rate or not, leave Carillon as it was. -/
theorem State.emit_car (code : Nat) (ps : List Nat) (s : State) : (s.emit code ps).car = s.car :=
  (State.only_emit code ps s).car.resolve_left (by decide)

theorem State.emitRate_car (code inst per : Nat) (mk : Nat → List Nat) (s : State) : (s.emitRate code inst per mk).car = s.car :=
  (State.only.emitRate (bs := [0x11]) code inst per mk s (List.mem_singleton.mpr rfl)).car.resolve_left (by decide)

/-- What a step leaves as it was, it leaves so under a condition. -/
theorem State.when_keeps {α : Type} (g : State → α) {f : State → State} (hf : ∀ s, g (f s) = g s) (c : Bool) (s : State) :
    g (s.when c f) = g s := by
  cases c
  · rw [State.when_false]
  · rw [State.when_true, hf]

theorem State.when_setFlag_car (c : Bool) (f : Fld) (s : State) : (s.when c (State.setFlag f)).car = s.car :=
  State.when_keeps State.car (f := State.setFlag f) (fun _ => rfl) c s

theorem State.when_signal_car (c : Bool) (g : Sig) (s : State) : (s.when c (State.signal g)).car = s.car :=
  State.when_keeps State.car (f := State.signal g) (fun _ => rfl) c s

/-- The lowest FREE slot is one of the 256. -/
theorem State.carFree_lt (s : State) : s.carFree < 256 := by
  rw [State.carFree]
  cases h : carSlots.find? (fun k => (s.slot k).st = 0) with
  | none => decide
  | some k => exact List.mem_range.mp (List.mem_of_find?_eq_some h)

/-! ## Retirement (R75, R77) -/

@[simp] theorem length_retIn (r : CarRet) (q : List CarRet) : (retIn r q).length = q.length + 1 := by
  induction q with
  | nil => rfl
  | cons e q ih =>
    rw [retIn]
    split
    · rfl
    · rw [List.length_cons, ih, List.length_cons]

theorem State.carDecide_car (k : Nat) (final : Bool) (words : List Nat) (s : State) :
    (s.carDecide k final words).car = { s.car with wait := retIn ⟨s.now, k, final, words⟩ s.car.wait } :=
  State.when_setFlag_car ..

theorem State.carRetire_car (k status : Nat) (collide : Bool) (s : State) :
    (s.carRetire k status collide).car = { (s.setSlot k { s.slot k with st := 3, pred := none }).car with
      wait := retIn ⟨s.now, k, true, s.carEntry k (s.slot k) status false collide⟩ s.car.wait } := by
  rw [State.carRetire, State.when_signal_car, State.carDecide_car]
  rfl

theorem State.slot_carRetire (k status j : Nat) (collide : Bool) (s : State) :
    (s.carRetire k status collide).slot j = (s.setSlot k { s.slot k with st := 3, pred := none }).slot j :=
  State.slot_of_slots (by rw [State.carRetire_car]) j

theorem State.slot_carRetire_other {k j : Nat} (h : j ≠ k) (status : Nat) (collide : Bool) (s : State) :
    (s.carRetire k status collide).slot j = s.slot j := by
  rw [State.slot_carRetire, State.slot_setSlot_other h]

theorem State.carRetire_held (k status : Nat) (collide : Bool) (s : State) : ((s.carRetire k status collide).slot k).st = 3 := by
  rw [State.slot_carRetire, State.slot_setSlot_same]

/-! ## The answer of a host port (R61) -/

section
variable {p : Nat} (hp : p < 4) (kind status handle tag : Nat) (s : State)
include hp

theorem State.carAnswer_host : s.carAnswer p kind status handle tag =
    ((s.wr (CAR_HPRES_BUSY p) 0).wr (CAR_HPRES_STATUS p) status).wr (CAR_HPRES_HANDLE p) handle :=
  if_neg (Nat.ne_of_lt hp)

theorem State.slot_carAnswer (k : Nat) : (s.carAnswer p kind status handle tag).slot k = s.slot k := by
  rw [State.carAnswer_host hp, State.slot_wr, State.slot_wr, State.slot_wr]

theorem State.carAnswer_busy : (s.carAnswer p kind status handle tag).rd (CAR_HPRES_BUSY p) = 0 := by
  rw [State.carAnswer_host hp, State.rd_wr_other (by simp [Fld.key, CAR_HPRES_HANDLE, CAR_HPRES_BUSY]),
    State.rd_wr_other (by simp [Fld.key, CAR_HPRES_STATUS, CAR_HPRES_BUSY]), State.rd_wr_same, Nat.zero_mod]

theorem State.carAnswer_status : (s.carAnswer p kind status handle tag).rd (CAR_HPRES_STATUS p) = status % 16 := by
  rw [State.carAnswer_host hp, State.rd_wr_other (by simp [Fld.key, CAR_HPRES_HANDLE, CAR_HPRES_STATUS]), State.rd_wr_same]
  rfl

theorem State.carAnswer_handle : (s.carAnswer p kind status handle tag).rd (CAR_HPRES_HANDLE p) = handle % 65536 := by
  rw [State.carAnswer_host hp, State.rd_wr_same]
  rfl

end

/-! ## Posts (R61, R82) -/

section
variable {s : State} {p : Nat} {c : CarCmd}

/-- The state after a post that passes its checks, but for R82: the slot taken and the port answered. -/
def State.carTaken (p : Nat) (c : CarCmd) (s : State) : State :=
  (s.setSlot s.carFree { st := 1, gen := (s.slot s.carFree).gen, port := p, desc := c.desc }).carAnswer p 0 0
    (carHandle s.carFree (s.slot s.carFree).gen) c.desc.tag

theorem State.carPost_open (h : s.carPostCheck p c.desc = 0) (hf : s.isFenced 0x02 = false) : s.carPost p c = s.carTaken p c := by
  rw [State.carPost, if_pos h, State.when_not hf, State.carTaken]

theorem State.carPost_fenced (h : s.carPostCheck p c.desc = 0) (hf : s.isFenced 0x02 = true) :
    s.carPost p c = (s.carTaken p c).carRetire s.carFree 9 false := by
  rw [State.carPost, if_pos h, State.when_of hf, State.carTaken]

theorem State.carPost_refused (h : s.carPostCheck p c.desc ≠ 0) : ∃ t : State, t.car = s.car ∧
    s.carPost p c = t.carAnswer p 0 (s.carPostCheck p c.desc) c.handle c.desc.tag := by
  rw [State.carPost, if_neg h]
  exact ⟨_, State.when_keeps State.car (State.emitRate_car _ _ _ _) _ s, rfl⟩

variable (hp : p < 4)
include hp

theorem State.slot_carTaken (k : Nat) : (s.carTaken p c).slot k =
    (s.setSlot s.carFree { st := 1, gen := (s.slot s.carFree).gen, port := p, desc := c.desc }).slot k :=
  State.slot_carAnswer hp ..

theorem State.slot_carTaken_other {k : Nat} (h : k ≠ s.carFree) : (s.carTaken p c).slot k = s.slot k := by
  rw [State.slot_carTaken hp, State.slot_setSlot_other h]

/-- The handle of a slot fits HANDLE. -/
theorem State.carTaken_handle (hg : (s.slot s.carFree).gen < 256) :
    (s.carTaken p c).rd (CAR_HPRES_HANDLE p) = (s.slot s.carFree).gen * 256 + s.carFree := by
  have hfree := s.carFree_lt
  rw [State.carTaken, State.carAnswer_handle hp, carHandle]
  exact Nat.mod_eq_of_lt (by omega)

end

/-- Settles O30: the slot and the port of a post that is taken, what R82 makes of its slot under a fence, and a post that is refused. -/
theorem postedEventEntersProvOrIsAnswered : Obligations.PostedEventEntersProvOrIsAnswered := by
  refine ⟨?taken, ?fenced, ?refused⟩
  case taken =>
    intro s p c hp hcheck hgen hfence
    rw [State.carPost_open hcheck hfence]
    have hslot : (s.carTaken p c).slot s.carFree = _ := (State.slot_carTaken hp _).trans (State.slot_setSlot_same ..)
    rw [hslot]
    exact ⟨rfl, rfl, rfl, State.carAnswer_busy hp .., State.carAnswer_status hp .., State.carTaken_handle hp hgen,
      fun k hk => State.slot_carTaken_other hp hk⟩
  case fenced =>
    intro s p c hp hcheck hfence
    rw [State.carPost_fenced hcheck hfence]
    refine ⟨State.carRetire_held .., fun k hk => ?_⟩
    rw [State.slot_carRetire_other hk, State.slot_carTaken_other hp hk]
  case refused =>
    intro s p c hp hcheck
    obtain ⟨t, hcar, hpost⟩ := State.carPost_refused hcheck
    rw [hpost]
    refine ⟨fun k => ?_, State.carAnswer_busy hp .., State.carAnswer_status hp ..⟩
    rw [State.slot_carAnswer hp, State.slot_of_slots (congrArg Car.slots hcar)]

/-! ## The retirement ring (R76, R77) -/

theorem State.carWriteEntry_of_nil {s : State} (h : s.car.wait = []) : s.carWriteEntry = s := by
  rw [State.carWriteEntry, h]

theorem State.carWriteEntry_of_full {s : State} (h : 512 ≤ s.carUnread) : s.carWriteEntry = s := by
  cases hw : s.car.wait with
  | nil => exact State.carWriteEntry_of_nil hw
  | cons r q => simp only [State.carWriteEntry, hw, if_pos h]

/-- The state after an entry is put into the ring and its slot freed, before the flags and the event that tell of it. -/
def State.carPut (r : CarRet) (q : List CarRet) (s : State) : State :=
  let t := { s with car := { s.car with wait := q, ring := tabPut s.car.ring (s.rd CAR_RETWR_WR % 512) r.words } }.wr
    CAR_RETWR_WR (s.rd CAR_RETWR_WR + 1)
  if r.final then t.setSlot r.slot { gen := ((t.slot r.slot).gen + 1) % 256 } else t

/-- The flags and the event that tell of a written entry. -/
def State.carPutTold (s : State) : State :=
  let t := s.when (min (s.rd CAR_RETTHR_THR) 512 != 0 && s.carUnread = min (s.rd CAR_RETTHR_THR) 512) (State.setFlag CAR_INTSTAT_RETTHR)
  (t.when (t.carUnread = 512) (fun t => t.emit 0x0206 [t.carHeld])).carFullAgain

theorem State.carWriteEntry_of_space {s : State} {r : CarRet} {q : List CarRet} (hw : s.car.wait = r :: q) (h : s.carUnread < 512) :
    s.carWriteEntry = (s.carPut r q).carPutTold := by
  simp only [State.carWriteEntry, hw]
  rw [if_neg (Nat.not_le.mpr h)]
  rfl

theorem State.carPutTold_car (s : State) : s.carPutTold.car = s.car := by
  rw [State.carPutTold, State.carFullAgain, State.when_setFlag_car, State.when_keeps State.car (fun _ => State.emit_car ..),
    State.when_setFlag_car]

theorem State.when_setFlag_rd {f g : Fld} (h : f.key ≠ g.key) (c : Bool) (s : State) : (s.when c (State.setFlag f)).rd g = s.rd g :=
  State.when_keeps (State.rd · g) (State.rd_setFlag_other h) c s

theorem State.carPutTold_wr (s : State) : s.carPutTold.rd CAR_RETWR_WR = s.rd CAR_RETWR_WR := by
  rw [State.carPutTold, State.carFullAgain, State.when_setFlag_rd (by decide),
    State.when_keeps (State.rd · CAR_RETWR_WR) (fun _ => State.rd_emit (by decide) (by decide) ..), State.when_setFlag_rd (by decide)]

section
variable (r : CarRet) (q : List CarRet) (s : State)

theorem State.carPut_wait : (s.carPut r q).car.wait = q := by
  rw [State.carPut]
  split <;> rfl

theorem State.carPut_ring : tabFind (s.carPut r q).car.ring (s.rd CAR_RETWR_WR % 512) = some r.words := by
  have hring : (s.carPut r q).car.ring = tabPut s.car.ring (s.rd CAR_RETWR_WR % 512) r.words := by
    rw [State.carPut]
    split <;> rfl
  rw [hring, tabFind_tabPut_same]

theorem State.carPut_wr : (s.carPut r q).rd CAR_RETWR_WR = (s.rd CAR_RETWR_WR + 1) % 1024 := by
  have hwr := State.rd_wr_same CAR_RETWR_WR (s.rd CAR_RETWR_WR + 1)
    { s with car := { s.car with wait := q, ring := tabPut s.car.ring (s.rd CAR_RETWR_WR % 512) r.words } }
  rw [State.carPut]
  split <;> exact hwr

theorem State.carPut_freed (h : r.final = true) : (s.carPut r q).slot r.slot = { gen := ((s.slot r.slot).gen + 1) % 256 } := by
  rw [State.carPut, if_pos h, State.slot_setSlot_same]
  rfl

end

/-- Settles O31: what retiring a slot does, what an entry that is written leaves, and the full ring. -/
theorem retirementKeepsSlotsUntilWritten : Obligations.RetirementKeepsSlotsUntilWritten := by
  refine ⟨?retired, ?written, ?full⟩
  case retired =>
    intro s k status collide
    refine ⟨State.carRetire_held .., ?_, fun j hj => State.slot_carRetire_other hj ..⟩
    rw [State.carRetire_car, length_retIn]
  case written =>
    intro s r q hwait hspace _
    rw [State.carWriteEntry_of_space hwait hspace, State.carPutTold_car, State.carPutTold_wr]
    refine ⟨State.carPut_wait .., State.carPut_ring .., State.carPut_wr .., fun hfinal => ?_⟩
    rw [State.slot_of_slots (congrArg Car.slots (State.carPutTold_car _)), State.carPut_freed r q s hfinal]
  case full =>
    intro s h
    exact State.carWriteEntry_of_full (Nat.le_of_eq h.symm)

/-! ## A host ON that waits for a round (R225, R226) -/

/-- What the model answers: what has waited for the round is carried out after it. -/
theorem exec_predictionRound {s : State} (hon : s.blockOn 0x02 = true) (htime : s.now % 1000 = 0) (hround : s.car.round ≠ s.now + 1) :
    exec .predictionRound s = .next (s.after s.carRound.svFlush) := by
  rw [exec, execPredictionRound, State.ok_when (by simp [hon, htime, hround])]

theorem State.rd_after_quiet {t : State} (h : t.quiet = true) (s : State) (f : Fld) : (s.after t).rd f = t.rd f := by
  rw [State.after_quiet h, State.fin_rd]

/-- Every domain is on, Tocsin holds no output, channel 1 of SOL is in mode PH, and an event in PROV is to switch channel 0 of its
group on, 1.5 s ahead. -/
def State.bookable : State :=
  State.wr (SOL_CHCFG_MODE 1) 1 <| State.wr TSV_STAT_SLEVEL 0 <| State.wr TSV_STAT_GRPSS 0
    { State.reset with
      mgr := { State.reset.mgr with on := 0x3FFF }
      car := { State.reset.car with slots := [(0, { st := 1, desc := { base := 8, tgt := 1500000000, typ := 2, arg := 1 } })] } }

/-- The same with a host ON of channel 1 that waits for what the round may book. -/
def State.onWaits : State := { State.bookable with sol := { State.bookable.sol with later := [{ chan := 1, kind := 0 }] } }

/-- The state comes about by a host ON with the round of its tick behind it in the queue. -/
theorem step_bookable : step { State.bookable with pending := [.solOn 1, .predictionRound] } =
    .next { State.onWaits with pending := [.predictionRound] } := rfl

/-- Refutes O32 by its clause on rounds: the host ON that has waited for the round switches its channel on in the same command. (The clause
on EVENT_FIRE leaves the same out.) -/
theorem not_carillonCommandsAct : ¬ Obligations.CarillonCommandsAct := by
  rintro ⟨-, -, -, -, -, hround, -⟩
  have hon : State.onWaits.blockOn 0x02 = true := by decide
  have hclaim := hround State.onWaits hon (by decide) (by decide)
  rw [exec_predictionRound hon (by decide) (by decide)] at hclaim
  have hquiet : State.onWaits.carRound.quiet = true := by decide
  have hquiet' : State.onWaits.carRound.svFlush.quiet = true := by decide
  have hrd := congrArg (State.rd · (SOL_CHSTAT_ON 1)) (Host.Outcome.next.inj hclaim)
  simp only [State.rd_after_quiet hquiet, State.rd_after_quiet hquiet'] at hrd
  have hwaits : State.onWaits.carRound.rd (SOL_CHSTAT_ON 1) = 0 := by decide
  have hacts : State.onWaits.carRound.svFlush.rd (SOL_CHSTAT_ON 1) = 1 := by decide
  rw [hwaits, hacts] at hrd
  exact absurd hrd (by decide)

end Sys2Proof.Machine
end

section
/-!
PROOF. The statement of spec/04_harvest_sensing.md on HSN's commands, refuted: the analog references correct what is measured before the
moisture average is taken (R421). First what the command answers, then a state in which a correction is in use.
-/
namespace Sys2Proof.Machine

/-! ## The moisture average (R105, R421) -/

theorem State.hsnEvent_of {c : Bool} {s : State} (hlive : s.live 0x05 = true) (hc : c = true) (f : State → State) :
    s.hsnEvent c f = f s := State.when_of (by rw [hlive, hc]; rfl) f s

/-- What the model answers: the averages are corrected, and held to their fields, before they are taken. -/
theorem exec_moistureAverage {s : State} (hlive : s.live 0x05 = true) (htime : s.now % 100000000 = 0)
    (hon : s.on HSN_CTL_MOIEN = true) (cap : Nat) (tg : Int) :
    exec (.moistureAverage cap tg) s = .next (s.after ((s.hsnSync.hsnAverage (satU 16 (s.hsnSync.refCorr cap))
      (clampI (-32768) 32767 (s.hsnSync.refCorr tg))).applyDue 0x05 2)) := by
  rw [exec, execMoistureAverage, State.hsnEvent_of hlive (decide_eq_true htime), State.ok_eq, State.when_of hon]

/-! ## A correction in use (R421) -/

/-- One second after start KA, AON, SAF and RT are on, HSN measures moisture, and the table of the analog references (P.0F.00.202) holds
200 ppm for every temperature. -/
def State.refsTabled : State :=
  { State.rtOn.wr HSN_CTL_MOIEN 1 with
    now := 1000000000
    blobs := [(0x00F00202, (List.replicate 32 200).flatMap wordBytes)] }

/-- The state after the compensation of a housekeeping round. -/
def State.refsInUse : State := State.refsTabled.thmCompensate

/-- Refutes O33 by its clause on moisture averages: with a correction of 200 ppm in use HSN_MCAP shows 200.04 pF where 200.00 pF were
measured. -/
theorem not_harvestSensingCommandsAct : ¬ Obligations.HarvestSensingCommandsAct := by
  rintro ⟨-, -, -, -, -, haverage, -⟩
  have hlive : State.refsInUse.live 0x05 = true := by decide
  have htime : State.refsInUse.now % 100000000 = 0 := by decide
  have hon : State.refsInUse.on HSN_CTL_MOIEN = true := by decide
  have hclaim := haverage State.refsInUse 20000 250 hlive htime hon
  rw [exec_moistureAverage hlive htime hon] at hclaim
  have hcap : satU 16 (State.refsInUse.hsnSync.refCorr (20000 : Nat)) = 20004 := by decide
  have htg : clampI (-32768) 32767 (State.refsInUse.hsnSync.refCorr 250) = 250 := by decide
  rw [hcap, htg] at hclaim
  have hquiet : ((State.refsInUse.hsnSync.hsnAverage 20004 250).applyDue 0x05 2).quiet = true := by decide
  have hquiet' : ((State.refsInUse.hsnSync.hsnAverage 20000 250).applyDue 0x05 2).quiet = true := by decide
  have hrd := congrArg (State.rd · HSN_MCAP_CAP) (Host.Outcome.next.inj hclaim)
  simp only [State.rd_after_quiet hquiet, State.rd_after_quiet hquiet'] at hrd
  have hcorrected : ((State.refsInUse.hsnSync.hsnAverage 20004 250).applyDue 0x05 2).rd HSN_MCAP_CAP = 20004 := by decide
  have hmeasured : ((State.refsInUse.hsnSync.hsnAverage 20000 250).applyDue 0x05 2).rd HSN_MCAP_CAP = 20000 := by decide
  rw [hcorrected, hmeasured] at hrd
  exact absurd hrd (by decide)

end Sys2Proof.Machine
end

section
/-!
PROOF. The statement of spec/05_grain_vision.md on the ports of VIS (Table 5.2, R119–R127). First what a command of a port answers in a
state that it names, then the loss of the pixel clock, whose effect depends on whether a frame is under way (R121, R122).
-/
namespace Sys2Proof.Machine

/-! ## What a port does (Table 5.2) -/

section
variable {s : State} {p : Nat} (hlive : s.live 0x06 = true) (hp : p < 3)
include hlive hp

theorem State.ok_visPort {sts : List Nat} {c : Bool} (hst : s.rd (VIS_PSTAT_STATE p) ∈ sts) (hc : c = true) (f : State → State) :
    s.ok (s.visPort p sts c f) = .next (s.after (f s)) := by
  have hact : (s.live 0x06 && decide (p < 3) && sts.contains (s.visSt p) && c) = true := by
    rw [hlive, decide_eq_true hp, State.visSt, List.contains_iff_mem.mpr hst, hc]
    rfl
  rw [State.visPort, State.ok_when hact]

/-! ## The pixel clock is lost (R121, R122) -/

/-- A frame under way is closed, and what waited for its end applies (R137). -/
theorem exec_pixelClockLost_inFrame (hst : s.rd (VIS_PSTAT_STATE p) = 3) (lines : List (List Nat)) :
    exec (.pixelClockLost p lines) s = .next (s.after (((((s.visTimeout p lines).wr (VIS_PSTAT_STATE p) 4).visFlag
      VIS_PFLAG_NOCLK VIS_INTSTAT_PORTERR p).emit 0x0606 [p]).applyDue 0x06 (8 + p))) := by
  have hframe : s.visSt p = 3 := hst
  rw [exec, execPixelClockLost, State.ok_visPort hlive hp (by simp [hst]) rfl, State.when_of (decide_eq_true hframe), State.setVisSt]

theorem exec_pixelClockLost_outsideFrame (hst : s.rd (VIS_PSTAT_STATE p) = 1 ∨ s.rd (VIS_PSTAT_STATE p) = 2)
    (lines : List (List Nat)) :
    exec (.pixelClockLost p lines) s = .next (s.after ((((s.visTimeout p lines).wr (VIS_PSTAT_STATE p) 4).visFlag
      VIS_PFLAG_NOCLK VIS_INTSTAT_PORTERR p).emit 0x0606 [p])) := by
  have hframe : s.visSt p ≠ 3 := by rw [State.visSt]; omega
  have hmem : s.rd (VIS_PSTAT_STATE p) ∈ [1, 2, 3] := by
    rcases hst with h | h <;> simp [h]
  rw [exec, execPixelClockLost, State.ok_visPort hlive hp hmem rfl, State.when_not (decide_eq_false hframe), State.setVisSt]

end

/-- Settles O35: each command of a port in the states that Table 5.2 names, and the trigger's two under their own times. -/
theorem visionPortsAct : Obligations.VisionPortsAct := by
  refine ⟨?synchronised, ?starts, ?ends, ?timeout, ?lostOutside, ?lostInFrame, ?returns, ?missed, ?syncError, ?pulseEnd⟩
  case synchronised =>
    intro s p hlive hp hst
    rw [exec, execPortSynchronised, State.ok_visPort hlive hp (by simp [hst]) rfl, State.setVisSt]
  case starts =>
    intro s p hlive hp hst
    rw [exec, execFrameStart, State.ok_visPort hlive hp (by simp [hst]) rfl]
  case ends =>
    intro s p lines f hlive hp hst hcur
    rw [exec, execFrameEnd, State.ok_visPort hlive hp (by simp [hst]) rfl]
    simp only [hcur]
  case timeout =>
    intro s p lines f hlive hp hst hcur hdue
    rw [exec, execFrameTimeout, State.ok_visPort hlive hp (by simp [hst]) (by simp [hcur, hdue]), State.setVisSt]
  case lostOutside => exact fun _ _ lines hlive hp hst => exec_pixelClockLost_outsideFrame hlive hp hst lines
  case lostInFrame => exact fun _ _ lines hlive hp hst => exec_pixelClockLost_inFrame hlive hp hst lines
  case returns =>
    intro s p hlive hp hst
    rw [exec, execPixelClockReturn, State.ok_visPort hlive hp (by simp [hst]) rfl, State.setVisSt]
  case missed =>
    intro s p t hlive htrig hlate
    rw [exec, execTriggerMissed, State.ok_when (by simp [hlive, htrig, hlate])]
  case syncError =>
    intro s p n hlive hp hst hn
    rw [exec, execSyncError, State.ok_visPort hlive hp (by simpa using hst) (decide_eq_true hn)]
  case pulseEnd =>
    intro s p t hon hpulse hdue
    rw [exec, execTriggerPulseEnd, State.ifOn, if_pos hon, State.ok_eq]
    simp only [hpulse]
    rw [if_pos hdue]

end Sys2Proof.Machine
end

section
/-!
PROOF. The statements of spec/06_control_engine_and_function_channels.md: the host's commands to CEN (R150, R151, R162, R169, R176), which
hold, and the control engine's cycle, refuted: a host ON that has waited for an interlock scan is carried out with it (R165, R168, R226).
-/
namespace Sys2Proof.Machine

/-! ## Commands of the host (Tables 6.3 and 6.4) -/

theorem State.ok_hostWrite {a : Nat} {s : State} (hopen : s.open a = true) (f : State → State) :
    s.ok (s.hostWrite a f) = .next (s.after (f s)) := by
  rw [State.hostWrite_open hopen, State.ok_eq]

theorem State.ok_cenCmd {f : Nat → Fld} {n count : Nat} {s : State} (hn : n < count) (hopen : s.open (f n).addr = true)
    (g : State → State) : s.ok (s.cenCmd f n count g) = .next (s.after (g s)) := by
  rw [State.cenCmd, if_pos hn, State.ok_hostWrite hopen]

section
variable {s : State} {n : Nat} (hn : n < 96) (hopen : s.open (CEN_LCMD_CMD n).addr = true)
include hn hopen

theorem exec_slotMan_enters (hfree : s.cenTaken n = false) (hst : s.rd (CEN_LSTAT_STATE n) = 0 ∨ s.rd (CEN_LSTAT_STATE n) = 2) :
    exec (.slotMan n) s = .next (s.after (s.cenEnter n 1 none)) := by
  have hmay : s.cenSt n ≠ 3 ∧ s.cenSt n ≠ 1 := by rw [State.cenSt]; omega
  rw [exec, execSlotMan, State.ok_cenCmd hn hopen, if_neg (by simp [hfree, hmay])]

theorem exec_slotAuto_enters (hfree : s.cenTaken n = false) (hst : s.rd (CEN_LSTAT_STATE n) = 0 ∨ s.rd (CEN_LSTAT_STATE n) = 1) :
    exec (.slotAuto n) s = .next (s.after (s.cenEnter n 2 none)) := by
  have hmay : s.cenSt n ≠ 3 ∧ s.cenSt n ≠ 2 := by rw [State.cenSt]; omega
  rw [exec, execSlotAuto, State.ok_cenCmd hn hopen, if_neg (by simp [hfree, hmay])]

/-- The slot of a channel that is not IDLE is left to it. -/
theorem exec_slotAuto_taken (htaken : s.cenTaken n = true) : exec (.slotAuto n) s = .next (s.after s) := by
  rw [exec, execSlotAuto, State.ok_cenCmd hn hopen, if_pos (by simp [htaken])]

theorem exec_release_unbound (hst : s.rd (CEN_LSTAT_STATE n) = 3) (hchan : s.cenChanOf n = none)
    (hcause : s.rd (CEN_LSTAT_CAUSE n) = 2 ∨ s.rd (CEN_LSTAT_CAUSE n) = 5) :
    exec (.release n) s = .next (s.after (s.cenUnhold n)) := by
  have hheld : s.cenSt n = 3 := hst
  rw [exec, execRelease, State.ok_cenCmd hn hopen, if_pos (by simp [hheld, hchan, hcause])]

end

/-- Settles O38: a command with its register open has its effect, a change of state or a release under its own conditions, and the read
index of the trace ring by whether it stays within the unread span. -/
theorem controlEngineHostCommandsAct : Obligations.ControlEngineHostCommandsAct := by
  refine ⟨?arm, ?disarm, ?off, ?man, ?auto, ?taken, ?integrator, ?release, ?feedback, ?within, ?beyond⟩
  case arm =>
    intro s k hk hopen
    rw [exec, execArm, State.ok_cenCmd hk hopen]
  case disarm =>
    intro s k hk hopen
    rw [exec, execDisarm, State.ok_cenCmd hk hopen]
  case off =>
    intro s n hn hopen
    rw [exec, execSlotOff, State.ok_cenCmd hn hopen]
  case man => exact fun s n hn hopen hfree hst => exec_slotMan_enters hn hopen hfree hst
  case auto => exact fun s n hn hopen hfree hst => exec_slotAuto_enters hn hopen hfree hst
  case taken => exact fun s n hn hopen htaken => exec_slotAuto_taken hn hopen htaken
  case integrator =>
    intro s n hn hopen
    rw [exec, execResetIntegrator, State.ok_cenCmd hn hopen]
  case release => exact fun s n hn hopen hst hchan hcause => exec_release_unbound hn hopen hst hchan hcause
  case feedback =>
    intro s n v hn hopen
    rw [exec, execXfbWrite, State.ok_cenCmd hn hopen]
  case within =>
    intro s v hopen hspan
    rw [exec, execCenRingReadWrite, State.ok_hostWrite hopen, if_pos hspan]
  case beyond =>
    intro s v hopen hspan
    rw [exec, execCenRingReadWrite, State.ok_hostWrite hopen, if_neg (Nat.not_le.mpr hspan)]

/-! ## A host ON that waits for an interlock scan (R165, R226) -/

/-- What the model answers: what has waited for the scan is carried out after it. -/
theorem exec_interlockScan {s : State} (hlive : s.live 0x04 = true) (htime : s.now % 10000 = 0) :
    exec .interlockScan s = .next (s.after (s.applyDue 0x04 0xF0).cenScan.svFlush) := by
  rw [exec, execInterlockScan, State.ok_when (by simp [hlive, htime])]

/-- A repeated step that changes nothing at each of its items leaves the state as it is. -/
theorem State.each_of_fixed {α : Type} {f : α → State → State} {s : State} : ∀ {l : List α}, (∀ x ∈ l, f x s = s) → s.each l f = s
  | [], _ => State.each_nil f s
  | x :: l, h => by
    rw [State.each_cons, h x List.mem_cons_self, State.each_of_fixed fun y hy => h y (List.mem_cons_of_mem x hy)]

/-- Where no channel is armed there is nothing to judge. -/
theorem State.cenScan_of_unarmed {s : State} (h : ∀ k ∈ s.cenOrder, (s.cenArmed k || (s.cchan k).arming) = false) : s.cenScan = s := by
  rw [State.cenScan]
  exact State.each_of_fixed fun k hk => if_neg (by rw [h k hk]; decide)

/-- Every domain is on, Tocsin holds no output, channels 0 and 1 of SOL are in mode PH, and channel 0 of CEN, IDLE, claims the former. -/
def State.claimed : State :=
  State.wr (SOL_CHCFG_MODE 0) 1 <| State.wr (SOL_CHCFG_MODE 1) 1 <| State.wr (SOL_CHSTAT_CLAIM 0) 1 <|
    State.wr (CEN_FCFG_APATH 0) 1 <| State.wr (CEN_FCFG_LOOP 0) 96 <| State.wr TSV_STAT_SLEVEL 0 <| State.wr TSV_STAT_GRPSS 0
      { State.reset with mgr := { State.reset.mgr with on := 0x3FFF } }

/-- The same with a host ON of channel 1 that waits for what the scan may book for channel 0 of its group. -/
def State.onWaitsForScan : State := { State.claimed with sol := { State.claimed.sol with later := [{ chan := 1, kind := 0 }] } }

/-- The state comes about by a host ON with the scan of its tick behind it in the queue. -/
theorem step_claimed : step { State.claimed with pending := [.solOn 1, .interlockScan] } =
    .next { State.onWaitsForScan with pending := [.interlockScan] } := rfl

/-- No group waits and no channel is armed, so the scan itself leaves the state as it is. -/
theorem State.onWaitsForScan_scan : (State.onWaitsForScan.applyDue 0x04 0xF0).cenScan = State.onWaitsForScan := by
  have happly : State.onWaitsForScan.applyDue 0x04 0xF0 = State.onWaitsForScan := rfl
  rw [happly, State.cenScan_of_unarmed (by decide)]

/-- Refutes O37 by its clause on interlock scans: the host ON that has waited for the scan switches its channel on in the same command. (The
clause on EVALUATION_OUTPUT leaves the same out.) -/
theorem not_controlEngineEvaluationActs : ¬ Obligations.ControlEngineEvaluationActs := by
  rintro ⟨-, -, -, -, -, hscan, -⟩
  have hlive : State.onWaitsForScan.live 0x04 = true := by decide
  have htime : State.onWaitsForScan.now % 10000 = 0 := by decide
  have hclaim := hscan State.onWaitsForScan hlive htime
  rw [exec_interlockScan hlive htime, State.onWaitsForScan_scan] at hclaim
  have hquiet : State.onWaitsForScan.quiet = true := by decide
  have hquiet' : State.onWaitsForScan.svFlush.quiet = true := by decide
  have hrd := congrArg (State.rd · (SOL_CHSTAT_ON 1)) (Host.Outcome.next.inj hclaim)
  simp only [State.rd_after_quiet hquiet, State.rd_after_quiet hquiet'] at hrd
  have hwaits : State.onWaitsForScan.rd (SOL_CHSTAT_ON 1) = 0 := by decide
  have hacts : State.onWaitsForScan.svFlush.rd (SOL_CHSTAT_ON 1) = 1 := by decide
  rw [hwaits, hacts] at hrd
  exact absurd hrd (by decide)

end Sys2Proof.Machine
end

section
/-!
PROOF. The statement of spec/07_section_and_row_control.md on SEC's commands (R186, R189, R190, R194, R202–R204). First the commands
that the state of SEC decides: a plan, HOLD and its release, CLRCOV and ROWCLR; the others ask only for their instant or for an open register.
-/
namespace Sys2Proof.Machine

section
variable {s : State}

/-! ## Commands of a block that is on -/

theorem State.ok_ifOn_when {b : Nat} (hon : s.blockOn b = true) {c : Bool} (hc : c = true) (f : State → State) :
    s.ok (s.ifOn b (State.when c f)) = .next (s.after (f s)) := by
  rw [State.ifOn, if_pos hon, State.ok_when hc]

/-! ## A plan (R189) -/

theorem exec_plan_starts (hlive : s.live 0x09 = true) (hmay : s.secMayPlan = true) (hasked : s.secAsked = true)
    (hstart : (s.applyDue 0x09 0).secMayStart = true) :
    exec .plan s = .next (s.after (s.applyDue 0x09 0).secStart) := by
  rw [exec, execPlan, State.ifLive, if_pos hlive, if_pos (by simp [hmay, hasked]), State.when_of hstart, State.ok_eq]

/-! ## HOLD (R202, R203) -/

theorem exec_holdEnter_inRun (hon : s.blockOn 0x09 = true) (hst : s.rd SEC_STAT_STATE = 2) (hcause : s.secCause ≠ 0) :
    exec .holdEnter s = .next (s.after (s.secHold s.secCause true)) := by
  have hrun : s.secSt = 2 := hst
  rw [exec, execHoldEnter, State.ok_ifOn_when hon (by simp [hrun, hcause])]

theorem exec_holdRelease_inHold (hon : s.blockOn 0x09 = true) (hst : s.rd SEC_STAT_STATE = 3) (hcause : s.secCause = 0)
    (hdue : s.sec.causeAt + 500000000 ≤ s.now) : exec .holdRelease s = .next (s.after (s.wr SEC_STAT_STATE 1)) := by
  have hhold : s.secSt = 3 := hst
  rw [exec, execHoldRelease, State.ok_ifOn_when hon (by simp [hhold, hcause, hdue])]

/-! ## The host's commands (R186, R194) -/

variable (hopen : s.open SEC_CMD_CMD.addr = true)
include hopen

theorem exec_clrcov_clears (hst : s.rd SEC_STAT_STATE = 0 ∨ s.rd SEC_STAT_STATE = 1) :
    exec .clrcov s = .next (s.after s.secClear) := by
  have hidle : s.secSt = 0 ∨ s.secSt = 1 := hst
  rw [exec, execClrcov, State.ok_hostWrite hopen, if_pos (by simp [hidle])]

theorem exec_clrcov_ignored (hst : s.rd SEC_STAT_STATE = 2 ∨ s.rd SEC_STAT_STATE = 3) :
    exec .clrcov s = .next (s.after (s.emit 0x0908 [3, s.rd SEC_STAT_STATE])) := by
  have hplans : ¬(s.secSt = 0 ∨ s.secSt = 1) := by rw [State.secSt]; omega
  rw [exec, execClrcov, State.ok_hostWrite hopen, if_neg (by simpa using hplans), State.secSt]

theorem exec_rowclr_inFault {row : Nat} (hrow : row < 512) (hst : s.rd (SEC_RCSTAT_STATE row) = 3) :
    exec (.rowclr row) s = .next (s.after (s.wr (SEC_RCSTAT_STATE row) 1)) := by
  have hfault : s.rcSt row = 3 := hst
  rw [exec, execRowclr, State.when_of (decide_eq_true hrow), State.ok_hostWrite hopen, State.when_of (decide_eq_true hfault)]

end

/-- Settles O39: each command of SEC under its own conditions, CLRCOV by the state that it finds. -/
theorem sectionControlCommandsAct : Obligations.SectionControlCommandsAct := by
  refine ⟨?plan, ?cutWidth, ?holdEnter, ?holdRelease, ?replan, ?alloff, ?clears, ?ignored, ?rowclr, ?sample⟩
  case plan => exact fun _ hlive hmay hasked hstart => exec_plan_starts hlive hmay hasked hstart
  case cutWidth =>
    intro s hon htime
    rw [exec, execCutWidthUpdate, State.ok_ifOn_when hon (decide_eq_true htime)]
  case holdEnter => exact fun _ hon hst hcause => exec_holdEnter_inRun hon hst hcause
  case holdRelease => exact fun _ hon hst hcause hdue => exec_holdRelease_inHold hon hst hcause hdue
  case replan =>
    intro s hopen
    rw [exec, execReplan, State.ok_hostWrite hopen]
  case alloff =>
    intro s hopen
    rw [exec, execAlloff, State.ok_hostWrite hopen]
  case clears => exact fun _ hopen hst => exec_clrcov_clears hopen hst
  case ignored => exact fun _ hopen hst => exec_clrcov_ignored hopen hst
  case rowclr => exact fun _ _ hopen hrow hst => exec_rowclr_inFault hopen hrow hst
  case sample =>
    intro s hon htime
    rw [exec, execDbaseSample, State.ok_ifOn_when hon (decide_eq_true htime)]

end Sys2Proof.Machine
end

section
/-!
PROOF. The statements of spec/08_solenoid_and_valve_drive.md: the states of the boost converter (R213, R214), which hold; the frame, the host's
commands and the nozzle cycles, refuted by a host ON that waits or is waited for (R225, R226); and the faults, refuted by the report to
Tocsin (R23). First what SOL's commands answer where requests of a tick wait for each other.
-/
namespace Sys2Proof.Machine

/-! ## The boost converter (R213, R214) -/

theorem State.ok_ifLive {b : Nat} {s : State} (hlive : s.live b = true) (f : State → State) :
    s.ok (s.ifLive b f) = .next (s.after (f s)) := by
  rw [State.ifLive, if_pos hlive, State.ok_eq]

section
variable {s : State} (hlive : s.live 0x0A = true)
include hlive

theorem exec_boostTimeout_start (hst : s.rd SOL_STAT_BSTATE = 2) (hdue : s.sol.since + 20000000 ≤ s.now) :
    exec .boostTimeout s = .next (s.after (s.boostFault 2)) := by
  rw [exec, execBoostTimeout, State.ok_ifLive hlive, if_pos (by simp [hst, hdue])]

theorem exec_boostTimeout_low (hst : s.rd SOL_STAT_BSTATE = 4) (hdue : s.sol.since + 5000000 ≤ s.now) :
    exec .boostTimeout s = .next (s.after (s.boostFault 3)) := by
  rw [exec, execBoostTimeout, State.ok_ifLive hlive, if_neg (by simp [hst]), if_pos (by simp [hst, hdue])]

/-- Without its lease a converter that runs stops and asks for it anew. -/
theorem exec_boostLeaseRevoked_running (hst : s.rd SOL_STAT_BSTATE = 2 ∨ s.rd SOL_STAT_BSTATE = 3 ∨ s.rd SOL_STAT_BSTATE = 4)
    (hlost : s.holds 4 0x0A = false) : exec .boostLeaseRevoked s = .next (s.after (s.boostStop 1 true)) := by
  have hnotWaiting : s.rd SOL_STAT_BSTATE ≠ 1 := by omega
  rw [exec, execBoostLeaseRevoked, State.ok_ifLive hlive, if_neg (by simp [hlost]), if_neg hnotWaiting,
    State.when_of (by simpa [or_assoc] using hst)]

end

/-- Settles O24: each command in the states of the converter that R214 names, BOOST_TIMEOUT by which of them it finds. -/
theorem boostConverterActs : Obligations.BoostConverterActs := by
  refine ⟨?granted, ?ready, ?low, ?startLate, ?lowLate, ?fault, ?revoked⟩
  case granted =>
    intro s hlive hst hholds hben
    rw [exec, execBoostLeaseGrant, State.ok_ifLive hlive, if_pos (by simp [hst, hholds, hben])]
  case ready =>
    intro s v hlive hst hv
    rw [exec, execBoostReady, State.ok_ifLive hlive, if_pos (by simp [hst, hv])]
  case low =>
    intro s v hlive hst hv
    rw [exec, execBoostLow, State.ok_ifLive hlive, if_pos (by simp [hst, hv])]
    rfl
  case startLate => exact fun _ hlive hst hdue => exec_boostTimeout_start hlive hst hdue
  case lowLate => exact fun _ hlive hst hdue => exec_boostTimeout_low hlive hst hdue
  case fault =>
    intro s ov hlive hst
    rw [exec, execBoostFault, State.ok_ifLive hlive, if_pos (by simp [hst])]
  case revoked => exact fun _ hlive hst hlost => exec_boostLeaseRevoked_running hlive hst hlost

/-! ## Requests of a tick that wait for each other (R225, R226) -/

/-- A host command of a channel waits for what comes before it, and what has waited is carried out after it. -/
theorem State.ok_svHost {x : SvAsk} {s : State} (hchan : x.chan < 24) (hopen : s.open (SOL_CHCMD_CMD x.chan).addr = true) :
    s.ok (s.svHost x) = .next (s.after (s.svDefer x (State.svRun x)).svFlush) := by
  rw [State.svHost, State.ok_when (decide_eq_true hchan), State.hostWrite_open hopen]

theorem exec_solOff {n : Nat} {s : State} (hn : n < 24) (hopen : s.open (SOL_CHCMD_CMD n).addr = true) :
    exec (.solOff n) s = .next (s.after (s.svDefer { chan := n, kind := 1 } (State.svHostOff n)).svFlush) := by
  rw [exec, execSolOff, State.ok_svHost (x := { chan := n, kind := 1 }) hn hopen]
  rfl

/-- A state in which a host ON of channel 1 waits and nothing that it could wait for is left comes about: the cycle start of channel 0, for
which it waited, books nothing, since that channel is off, and an OFF of channel 2 is next. -/
theorem step_bookable_onWaits :
    step { State.bookable with pending := [.solOn 1, .nozzleCycleStart 0, .solOff 2] } =
      .next { State.onWaits with pending := [.nozzleCycleStart 0, .solOff 2] } ∧
    step { State.onWaits with pending := [.nozzleCycleStart 0, .solOff 2] } = .next { State.onWaits with pending := [.solOff 2] } :=
  ⟨rfl, rfl⟩

/-- Refutes O12 by its clause on SOL_OFF: the host ON of channel 1 that has waited is carried out with the OFF of channel 2, and its peak
without boost is reported to Tocsin. -/
theorem not_solenoidCommandsStayInTheirBlock : ¬ Obligations.SolenoidCommandsStayInTheirBlock := by
  rintro ⟨-, hoff, -⟩
  have hkept := (hoff State.onWaits 2 _ (by decide) (exec_solOff (by decide) (by decide))).regs TSV_INTSTAT_FLAGS
    (by decide) (by decide)
  have hquiet : (State.onWaits.svDefer { chan := 2, kind := 1 } (State.svHostOff 2)).svFlush.quiet = true := by decide
  rw [State.rd_after_quiet hquiet] at hkept
  have hbefore : State.onWaits.rd TSV_INTSTAT_FLAGS = 0 := by decide
  have hreported : (State.onWaits.svDefer { chan := 2, kind := 1 } (State.svHostOff 2)).svFlush.rd TSV_INTSTAT_FLAGS = 1 := by decide
  rw [hbefore, hreported] at hkept
  exact absurd hkept (by decide)

/-- A prediction round that stands behind in the queue, and may book a peak for channel 0. -/
def State.roundComes : State := { State.bookable with pending := [.predictionRound] }

/-- What the model answers to an ON of channel 1: it waits for the round. -/
theorem exec_solOn_roundComes : exec (.solOn 1) State.roundComes = .next { State.onWaits with pending := [.predictionRound] } :=
  step_bookable

/-- Refutes O22 by its first clause: a host ON before the round of its tick books no peak yet and leaves its channel off. -/
theorem not_solenoidHostCommandsAct : ¬ Obligations.SolenoidHostCommandsAct := by
  rintro ⟨hon, -⟩
  have hclaim := hon State.roundComes 1 (by decide) (by decide) (by decide) (by decide) (by decide) (by decide) (by decide)
  rw [exec_solOn_roundComes] at hclaim
  have hquiet : ((State.roundComes.svBookOn 1 2).2.svTook 1 4).quiet = true := by decide
  have hrd := congrArg (State.rd · (SOL_CHSTAT_ON 1)) (Host.Outcome.next.inj hclaim)
  simp only [State.rd_after_quiet hquiet] at hrd
  have hbooked : ((State.roundComes.svBookOn 1 2).2.svTook 1 4).rd (SOL_CHSTAT_ON 1) = 1 := by decide
  have hwaits : ({ State.onWaits with pending := [.predictionRound] } : State).rd (SOL_CHSTAT_ON 1) = 0 := by decide
  rw [hbooked, hwaits] at hrd
  exact absurd hrd (by decide)

/-! ## A nozzle cycle whose booking waits (R219, R226) -/

/-- 4.9 ms after start, 100 µs before a cycle start of channel 1, which is in PWMN with a duty of half; a host ON of channel 0, of its
group, stands in the queue. -/
def State.cycleComes : State :=
  State.wr (SOL_CHCFG_MODE 1) 3 <| State.wr (SOL_CHSTAT_ON 1) 1 <| State.wr (SOL_CHSTAT_STATE 1) 4 <|
    State.wr (SOL_CHDUTY_DUTY 1) 500 { State.bookable with now := 4900000, pending := [.solOn 0] }

/-- The same with the booking, which waits for the ON. -/
def State.bookingWaits : State := { State.cycleComes with sol := { State.cycleComes.sol with later := [{ chan := 1, kind := 4 }] } }

/-- What the model answers: the booking of channel 1 waits for the request of the lower channel. -/
theorem exec_nozzleCycleStart_cycleComes : exec (.nozzleCycleStart 1) State.cycleComes = .next State.bookingWaits := rfl

theorem State.sv_after_quiet {t : State} (h : t.quiet = true) (s : State) (n : Nat) : (s.after t).sv n = t.sv n := by
  rw [State.after_quiet h]
  rfl

/-- The peak of the next on-period of channel 1 is booked, for 5 ms after start. -/
def State.nozzleBooked (s : State) : State :=
  (s.bookPeak 1 (s.now + 100000) 4 0).2.setSv 1 { (s.bookPeak 1 (s.now + 100000) 4 0).2.sv 1 with nozzle := 5000001 }

/-- Refutes O23 by its clause on the booking of a cycle's peak: with a host ON of a lower channel of the group behind it in the queue the
booking waits. -/
theorem not_solenoidPeaksAndCyclesAct : ¬ Obligations.SolenoidPeaksAndCyclesAct := by
  rintro ⟨-, -, -, -, -, -, hbook, -⟩
  have hclaim : exec (.nozzleCycleStart 1) State.cycleComes = .next (State.cycleComes.after State.cycleComes.nozzleBooked) :=
    hbook State.cycleComes 1 5000000 (by decide) (by decide) (by decide) (by decide) (by decide) (by decide) (by decide) (by decide)
      (by decide) (by decide) (by decide)
  rw [exec_nozzleCycleStart_cycleComes] at hclaim
  have hquiet : State.cycleComes.nozzleBooked.quiet = true := by decide
  have hsv := congrArg (State.sv · 1) (Host.Outcome.next.inj hclaim)
  simp only [State.sv_after_quiet hquiet] at hsv
  have hbooked : (State.cycleComes.nozzleBooked.sv 1).nozzle = 5000001 := by decide
  have hwaits : (State.bookingWaits.sv 1).nozzle = 0 := by decide
  rw [← hsv, hwaits] at hbooked
  exact absurd hbooked (by decide)

/-! ## The report of an undervoltage (R23, R229) -/

/-- R229: OUTB is found below 8.0 V: the measurement is shown, and CLR is withheld from here on (R230). -/
def State.outbLow (v : Nat) (s : State) : State :=
  { (s.supplyIs 1 (v * 10)).wr SOL_STAT_UV 1 with sol := { s.sol with low := true, above := false } }

/-- R229: each channel that is neither OFF, in FAULT nor a slave enters FAULT. -/
def State.outbLost (v : Nat) (s : State) : State :=
  (s.outbLow v).each (List.range 24) (fun n t => t.when (t.svSeen n != 0 && t.svState n != 6 && t.svState n != 7) (fun t =>
    (t.svFault n 6).setFlag (SOL_CHFLAG_UV n)))

/-- Where every channel is OFF none enters FAULT. -/
theorem State.outbLost_of_off {v : Nat} {s : State} (h : ∀ n ∈ List.range 24, (s.outbLow v).svSeen n = 0) :
    s.outbLost v = s.outbLow v :=
  State.each_of_fixed fun n hn => State.when_not (by simp [h n hn]) _ _

/-- The undervoltage is flagged and recorded. -/
def State.outbTold (v : Nat) (s : State) : State := (s.setFlag SOL_INTSTAT_UV).emit 0x0A0B [v]

/-- What the model answers with the converter in none of START, READY and LOW: the undervoltage itself is reported to Tocsin. -/
theorem exec_outbUndervoltage_boostStopped {v : Nat} {s : State} (hon : s.blockOn 0x0A = true) (hv : v < 80)
    (hst : (s.outbLost v).rd SOL_STAT_BSTATE ∉ [2, 3, 4]) :
    exec (.outbUndervoltage v) s = .next (s.after ((s.outbLost v).outbTold v).toTocsin) := by
  have hstopped : ((s.outbLost v).rd SOL_STAT_BSTATE = 2 || (s.outbLost v).rd SOL_STAT_BSTATE = 3 ||
      (s.outbLost v).rd SOL_STAT_BSTATE = 4 : Bool) = false := by simpa [and_assoc] using hst
  rw [exec, execOutbUndervoltage, State.ok_when (by simp [hon, hv])]
  exact congrArg (fun t : State => Host.Outcome.next (s.after (t.outbTold v).toTocsin))
    (State.when_not hstopped (State.boostStop 1 true) (s.outbLost v))

/-- Every domain is on, and every channel of SOL is OFF. -/
def State.solIdle : State := { State.reset with mgr := { State.reset.mgr with on := 0x3FFF } }

/-- Refutes O25 by its clause on an undervoltage with the converter stopped: with every channel OFF none enters FAULT, and the undervoltage
alone is reported to Tocsin, which the clause leaves out. (The clause on GROUP_SHORT leaves the same out.) -/
theorem not_solenoidFaultsAct : ¬ Obligations.SolenoidFaultsAct := by
  rintro ⟨-, -, -, -, -, -, hlow, -⟩
  have hon : State.solIdle.blockOn 0x0A = true := by decide
  have hoff : State.solIdle.outbLost 79 = State.solIdle.outbLow 79 := State.outbLost_of_off (by decide)
  have hst : (State.solIdle.outbLost 79).rd SOL_STAT_BSTATE ∉ [2, 3, 4] := by rw [hoff]; decide
  have hclaim : exec (.outbUndervoltage 79) State.solIdle = .next (State.solIdle.after ((State.solIdle.outbLost 79).outbTold 79)) :=
    hlow State.solIdle 79 hon (by decide) hst
  rw [exec_outbUndervoltage_boostStopped hon (by decide) hst, hoff] at hclaim
  have hquiet : ((State.solIdle.outbLow 79).outbTold 79).quiet = true := by decide
  have hrd := congrArg (State.rd · TSV_INTSTAT_FLAGS) (Host.Outcome.next.inj hclaim)
  simp only [State.rd_after_quiet hquiet, State.rd_after_quiet (State.quiet_toTocsin hquiet)] at hrd
  have hreported : ((State.solIdle.outbLow 79).outbTold 79).toTocsin.rd TSV_INTSTAT_FLAGS = 1 := by decide
  have hclaimed : ((State.solIdle.outbLow 79).outbTold 79).rd TSV_INTSTAT_FLAGS = 0 := by decide
  rw [hreported, hclaimed] at hrd
  exact absurd hrd (by decide)

end Sys2Proof.Machine
end

section
/-!
PROOF. The statements of spec/09_load_switch_banks.md, both refuted: the frame of the load-switch commands, since a measurement of bank B
is shown by SOL too (R253, R419), and the switching operations, for a note that STATE cannot show (R243). What the operations write and
show is proved first, and with it the clauses of the latter for every note that STATE can show.
-/
namespace Sys2Proof.Machine

/-! ## The supply of bank B is OUTB (R253, R419) -/

/-- What the model answers to a bank that has recovered: UV clears, and the measurement is shown by all that read it. -/
theorem exec_bankRecovered {b v : Nat} {s : State} (hb : b < 2) (hon : s.domOn (lsBankDom b) = true)
    (huv : s.on (LSW_BSTAT_UV b) = true) (hv : 700 < v) :
    exec (.bankRecovered b v) s = .next (s.after (((s.wr (LSW_BSTAT_UV b) 0).supplyIs b v).emit 0x0B02 [b, v])) := by
  rw [exec, execBankRecovered, State.ok_when (by simp [hb, hon, huv, hv])]

/-- Every domain is on, and bank B is in undervoltage. -/
def State.bankBLow : State := State.solIdle.wr (LSW_BSTAT_UV 1) 1

/-- The state that BANK_RECOVERED at 7.01 V answers, before the end of its step. -/
def State.bankBBack : State := ((State.bankBLow.wr (LSW_BSTAT_UV 1) 0).supplyIs 1 701).emit 0x0B02 [1, 701]

/-- Refutes O11 by its clause on BANK_RECOVERED: the supply of bank B is OUTB, whose measurement SOL shows in SOL_STAT (0x400A0004) as VOUTB. -/
theorem not_loadSwitchCommandsStayInTheirBlock : ¬ Obligations.LoadSwitchCommandsStayInTheirBlock := by
  rintro ⟨-, -, -, -, -, -, hrecovered, -⟩
  have hexec : exec (.bankRecovered 1 701) State.bankBLow = .next (State.bankBLow.after State.bankBBack) :=
    exec_bankRecovered (by decide) (by decide) (by decide) (by decide)
  have hkept := (hrecovered State.bankBLow 1 701 _ (by decide) hexec).regs SOL_STAT_VOUTB (by decide) (by decide)
  have hquiet : State.bankBBack.quiet = true := by decide
  rw [State.rd_after_quiet hquiet] at hkept
  have hbefore : State.bankBLow.rd SOL_STAT_VOUTB = 0 := by decide
  have hshown : State.bankBBack.rd SOL_STAT_VOUTB = 70 := by decide
  rw [hbefore, hshown] at hkept
  exact absurd hkept (by decide)


/-! ## Which fields an operation writes -/

/-- Between `s` and `t` no field other than those of `l` has changed, and no byte of memory. -/
structure State.Writes (l : List Fld) (s t : State) : Prop where
  rd  : ∀ f : Fld, (∀ g ∈ l, g.key ≠ f.key) → t.rd f = s.rd f
  mem : t.mem = s.mem

section
variable {l : List Fld} {s t u : State}

theorem State.Writes.of_regs (hregs : t.regs = s.regs) (hmem : t.mem = s.mem) : s.Writes l t :=
  ⟨fun _ _ => by rw [State.rd, hregs, State.rd], hmem⟩

theorem State.Writes.refl (l : List Fld) (s : State) : s.Writes l s := .of_regs rfl rfl

theorem State.Writes.trans (h : s.Writes l t) (k : t.Writes l u) : s.Writes l u :=
  ⟨fun f hf => (k.rd f hf).trans (h.rd f hf), k.mem.trans h.mem⟩

theorem State.Writes.mono {m : List Fld} (h : s.Writes l t) (hlm : l ⊆ m) : s.Writes m t :=
  ⟨fun f hf => h.rd f fun g hg => hf g (hlm hg), h.mem⟩

theorem State.Writes.wr (h : s.Writes l t) {g : Fld} (hg : g ∈ l) (v : Nat) : s.Writes l (t.wr g v) :=
  h.trans ⟨fun _ hf => State.rd_wr_other (hf g hg) v t, rfl⟩

theorem State.Writes.setLs (h : s.Writes l t) (n : Nat) (c : LsChan) : s.Writes l (t.setLs n c) := h.trans (.of_regs rfl rfl)

theorem State.Writes.when (h : s.Writes l t) {f : State → State} (hf : t.Writes l (f t)) (c : Bool) : s.Writes l (t.when c f) := by
  cases c
  · exact h
  · exact h.trans hf

/-- What is written in the windows of some blocks keeps the registers outside them and memory. -/
theorem State.Writes.kept {bs : List Nat} (h : s.Writes l t) (hl : ∀ g ∈ l, g.lo < 32 ∧ addrBlock g.addr ∈ bs) :
    s.regsKept bs t ∧ s.memKept t := by
  refine ⟨fun f hf hb => h.rd f fun g hg => Fld.key_ne (hl g hg).1 hf fun e => hb (e ▸ (hl g hg).2), fun a => ?_⟩
  rw [State.ldb, h.mem, State.ldb]

end

/-! ## The fields that switching a channel writes (R250, Table 9.4) -/

def lsSwitched (n : Nat) : List Fld := [LSW_CHDUTY_DUTY n, LSW_CHSTAT_STATE n, LSW_CHSTAT_ON n, LSW_CHSTAT_CAUSE n]

/-- What the report of a fault writes (R23, R259). -/
def lsReported (n : Nat) : List Fld := [LSW_CHCNT_TRIPCNT n, TSV_INTSTAT_FLAGS]

section
variable {n : Nat}

theorem lsSwitched_window (hn : n < 48) : ∀ g ∈ lsSwitched n, g.lo < 32 ∧ addrBlock g.addr ∈ [0x0B] := by
  simp only [lsSwitched, List.forall_mem_cons, addrBlock, LSW_CHSTAT_STATE, LSW_CHSTAT_ON, LSW_CHSTAT_CAUSE, LSW_CHDUTY_DUTY]
  simp
  omega

theorem lsReported_window (hn : n < 48) : ∀ g ∈ lsReported n, g.lo < 32 ∧ addrBlock g.addr ∈ [0x01, 0x0B] := by
  simp only [lsReported, List.forall_mem_cons, addrBlock, LSW_CHCNT_TRIPCNT, TSV_INTSTAT_FLAGS]
  simp
  omega

theorem lsReported_key_ne : ∀ g ∈ lsReported n, ∀ f ∈ lsSwitched n, g.key ≠ f.key := by
  simp only [lsReported, lsSwitched, List.forall_mem_cons, Fld.key, LSW_CHSTAT_STATE, LSW_CHSTAT_ON, LSW_CHSTAT_CAUSE,
    LSW_CHDUTY_DUTY, LSW_CHCNT_TRIPCNT, TSV_INTSTAT_FLAGS]
  simp
  omega

theorem flags_key_ne_tripcnt : TSV_INTSTAT_FLAGS.key ≠ (LSW_CHCNT_TRIPCNT n).key := by
  simp only [Fld.key, LSW_CHCNT_TRIPCNT, TSV_INTSTAT_FLAGS]
  omega

/-- DUTY, STATE, ON and CAUSE are fields of their own. -/
theorem lsSwitched_keys (n : Nat) :
    ((LSW_CHDUTY_DUTY n).key ≠ (LSW_CHSTAT_STATE n).key ∧ (LSW_CHDUTY_DUTY n).key ≠ (LSW_CHSTAT_ON n).key ∧
      (LSW_CHDUTY_DUTY n).key ≠ (LSW_CHSTAT_CAUSE n).key) ∧
    (LSW_CHSTAT_STATE n).key ≠ (LSW_CHSTAT_ON n).key ∧ (LSW_CHSTAT_STATE n).key ≠ (LSW_CHSTAT_CAUSE n).key ∧
    (LSW_CHSTAT_ON n).key ≠ (LSW_CHSTAT_CAUSE n).key := by
  simp only [Fld.key, LSW_CHSTAT_STATE, LSW_CHSTAT_ON, LSW_CHSTAT_CAUSE, LSW_CHDUTY_DUTY]
  omega

end

section
variable (n v o c : Nat) (s : State)

theorem State.rd_switched :
    (((s.wr (LSW_CHSTAT_STATE n) v).wr (LSW_CHSTAT_ON n) o).wr (LSW_CHSTAT_CAUSE n) c).rd (LSW_CHSTAT_STATE n) = v % 8 ∧
    (((s.wr (LSW_CHSTAT_STATE n) v).wr (LSW_CHSTAT_ON n) o).wr (LSW_CHSTAT_CAUSE n) c).rd (LSW_CHSTAT_ON n) = o % 2 ∧
    (((s.wr (LSW_CHSTAT_STATE n) v).wr (LSW_CHSTAT_ON n) o).wr (LSW_CHSTAT_CAUSE n) c).rd (LSW_CHSTAT_CAUSE n) = c % 16 := by
  obtain ⟨-, hso, hsc, hoc⟩ := lsSwitched_keys n
  refine ⟨?_, ?_, State.rd_wr_same _ _ _⟩
  · rw [State.rd_wr_other hsc.symm, State.rd_wr_other hso.symm, State.rd_wr_same]; rfl
  · rw [State.rd_wr_other hoc.symm, State.rd_wr_same]; rfl

end

/-! ## Switching (R244, R250) -/

theorem State.lsPeriodStart_writes (n : Nat) (s : State) : s.Writes [LSW_CHDUTY_DUTY n] (s.lsPeriodStart n) := by
  simp only [State.lsPeriodStart]
  cases (s.ls n).dutyNext with
  | none => exact (State.Writes.refl _ s).setLs n _
  | some d => exact ((State.Writes.refl _ s).wr List.mem_cons_self d).setLs n _

/-- With no transaction waiting nothing is taken. -/
theorem State.takeFlds_of_no_txns {s : State} (h : s.pds.txns = []) (g : Grp) (sel : Fld → Bool) : s.takeFlds g sel = s := by
  simp [State.takeFlds, h]

theorem duty_subset_lsSwitched (n : Nat) : [LSW_CHDUTY_DUTY n] ⊆ lsSwitched n := by simp [lsSwitched]

theorem State.Writes.duty {s t : State} {n : Nat} (h : s.Writes [LSW_CHDUTY_DUTY n] t) :
    t.rd (LSW_CHSTAT_STATE n) = s.rd (LSW_CHSTAT_STATE n) ∧ t.rd (LSW_CHSTAT_ON n) = s.rd (LSW_CHSTAT_ON n) ∧
      t.rd (LSW_CHSTAT_CAUSE n) = s.rd (LSW_CHSTAT_CAUSE n) := by
  obtain ⟨⟨hds, hdo, hdc⟩, -⟩ := lsSwitched_keys n
  exact ⟨h.rd _ (by simpa using hds), h.rd _ (by simpa using hdo), h.rd _ (by simpa using hdc)⟩

section
variable (n : Nat) (s : State)

/-- Switching on writes STATE, ON and CAUSE; in MODE 2 a period starts with it. -/
theorem State.lsTurnOn_eq (h : s.pds.txns = []) : ∃ c, ((((s.setLs n c).wr (LSW_CHSTAT_STATE n)
    (if s.rd (LSW_PTIM_TWIN (s.rd (LSW_CHCFG_PROF n))) = 0 then 2 else 1)).wr (LSW_CHSTAT_ON n) 1).wr
      (LSW_CHSTAT_CAUSE n) 0).Writes [LSW_CHDUTY_DUTY n] (s.lsTurnOn n) := by
  simp only [State.lsTurnOn, State.takeFlds_of_no_txns h]
  exact ⟨_, .when (.refl _ _) (State.lsPeriodStart_writes n _) _⟩

theorem State.lsTurnOn_writes (h : s.pds.txns = []) : s.Writes (lsSwitched n) (s.lsTurnOn n) := by
  obtain ⟨c, hperiod⟩ := s.lsTurnOn_eq n h
  have hset : s.Writes (lsSwitched n) (s.setLs n c) := (State.Writes.refl _ s).setLs n c
  exact (((hset.wr (by simp [lsSwitched]) _).wr (by simp [lsSwitched]) _).wr (by simp [lsSwitched]) _).trans
    (hperiod.mono (duty_subset_lsSwitched n))

theorem State.lsTurnOn_shows (h : s.pds.txns = []) :
    (s.lsTurnOn n).rd (LSW_CHSTAT_STATE n) = (if s.rd (LSW_PTIM_TWIN (s.rd (LSW_CHCFG_PROF n))) = 0 then 2 else 1) ∧
    (s.lsTurnOn n).rd (LSW_CHSTAT_ON n) = 1 ∧ (s.lsTurnOn n).rd (LSW_CHSTAT_CAUSE n) = 0 := by
  obtain ⟨c, hperiod⟩ := s.lsTurnOn_eq n h
  obtain ⟨hst, hon, hcause⟩ := hperiod.duty
  rw [hst, hon, hcause]
  obtain ⟨hst, hon, hcause⟩ := (s.setLs n c).rd_switched n
    (if s.rd (LSW_PTIM_TWIN (s.rd (LSW_CHCFG_PROF n))) = 0 then 2 else 1) 1 0
  rw [hst, hon, hcause]
  refine ⟨?_, rfl, rfl⟩
  split <;> rfl

/-- Switching off writes STATE and ON after a duty that waits. -/
theorem State.lsTurnOff_eq : ∃ t c, s.Writes [LSW_CHDUTY_DUTY n] t ∧
    s.lsTurnOff n = ((t.wr (LSW_CHSTAT_STATE n) 0).wr (LSW_CHSTAT_ON n) 0).setLs n c := by
  simp only [State.lsTurnOff]
  cases (s.ls n).dutyNext with
  | none => exact ⟨s, _, .refl _ s, rfl⟩
  | some d => exact ⟨s.wr (LSW_CHDUTY_DUTY n) d, _, (State.Writes.refl _ s).wr List.mem_cons_self d, rfl⟩

theorem State.lsTurnOff_writes : s.Writes (lsSwitched n) (s.lsTurnOff n) := by
  obtain ⟨t, c, hduty, hoff⟩ := s.lsTurnOff_eq n
  rw [hoff]
  exact (((hduty.mono (duty_subset_lsSwitched n)).wr (by simp [lsSwitched]) _).wr (by simp [lsSwitched]) _).setLs n c

theorem State.lsTurnOff_shows : (s.lsTurnOff n).rd (LSW_CHSTAT_STATE n) = 0 ∧ (s.lsTurnOff n).rd (LSW_CHSTAT_ON n) = 0 := by
  obtain ⟨t, c, -, hoff⟩ := s.lsTurnOff_eq n
  obtain ⟨-, hso, -⟩ := lsSwitched_keys n
  simp [hoff, State.rd_wr_other hso.symm]

end

/-! ## Faults (R243, R259) -/

/-- A channel switches off into FAULT. -/
def State.lsEnterFault (n cause : Nat) (s : State) : State :=
  (((s.lsTurnOff n).wr (LSW_CHSTAT_STATE n) 3).wr (LSW_CHSTAT_CAUSE n) cause).lsTook n 2

/-- A fault is counted and reported. -/
def State.lsReport (n cause : Nat) (s : State) : State :=
  let t := s.when (decide (1 ≤ cause) && decide (cause ≤ 3)) (State.inc (LSW_CHCNT_TRIPCNT n))
  (t.when (t.on (LSW_CHSTAT_CLAIM n)) (State.signal (.actFault true n cause))).toTocsin

section
variable {n cause : Nat} {s : State}

theorem State.lsFault_outside (h : (s.lsUndo n).lsState n ≠ 3) :
    s.lsFault n cause = ((s.lsUndo n).lsEnterFault n cause).lsReport n cause := if_neg h

theorem State.lsFault_inFault (h : (s.lsUndo n).lsState n = 3) : s.lsFault n cause = (s.lsUndo n).lsTook n 2 := if_pos h

theorem State.lsUndo_writes : s.Writes (lsSwitched n) (s.lsUndo n) := by
  have hsame : s.Writes (lsSwitched n) s := .refl _ s
  refine .trans (State.Writes.when hsame ?_ _) (.of_regs rfl rfl)
  exact (((hsame.wr (by simp [lsSwitched]) _).wr (by simp [lsSwitched]) _).wr (by simp [lsSwitched]) _).wr (by simp [lsSwitched]) _
    |>.setLs _ _

/-- What STATE reads as once the commands of the tick are undone. -/
theorem State.lsUndo_state : (s.lsUndo n).lsState n =
    if s.lsNoted n && s.lsState n != 3 then (s.lsBack n).st % 8 else s.lsState n := by
  unfold State.lsUndo
  cases hundo : s.lsNoted n && s.lsState n != 3 with
  | false => rfl
  | true =>
    exact ((State.Writes.refl [LSW_CHDUTY_DUTY n] _).wr List.mem_cons_self _).duty.1.trans (s.rd_switched n _ _ _).1

theorem State.lsUndo_of_fault (h : s.lsState n = 3) : (s.lsUndo n).regs = s.regs := by
  simp [State.lsUndo, h]

theorem State.lsEnterFault_writes : s.Writes (lsSwitched n) (s.lsEnterFault n cause) :=
  (((s.lsTurnOff_writes n).wr (by simp [lsSwitched]) _).wr (by simp [lsSwitched]) _).setLs _ _

theorem State.lsReport_writes : s.Writes (lsReported n) (s.lsReport n cause) := by
  have hsame : s.Writes (lsReported n) s := .refl _ s
  unfold State.lsReport State.toTocsin
  refine .when (.when (.when hsame ?_ _) (.of_regs rfl rfl) _) ?_ _
  · exact (State.Writes.refl _ s).wr (by simp [lsReported]) _
  · exact .trans (.wr (.refl _ _) (by simp [lsReported]) _) (.of_regs rfl rfl)

theorem State.lsFault_writes : s.Writes (lsReported n ++ lsSwitched n) (s.lsFault n cause) := by
  have hundo : s.Writes (lsReported n ++ lsSwitched n) (s.lsUndo n) := State.lsUndo_writes.mono (List.subset_append_right _ _)
  by_cases h : (s.lsUndo n).lsState n = 3
  · rw [State.lsFault_inFault h]
    exact hundo.setLs n _
  · rw [State.lsFault_outside h]
    exact (hundo.trans (State.lsEnterFault_writes.mono (List.subset_append_right _ _))).trans
      (State.lsReport_writes.mono (List.subset_append_left _ _))

theorem State.lsEnterFault_shows (hcause : cause < 16) : (s.lsEnterFault n cause).rd (LSW_CHSTAT_STATE n) = 3 ∧
    (s.lsEnterFault n cause).rd (LSW_CHSTAT_CAUSE n) = cause ∧ (s.lsEnterFault n cause).rd (LSW_CHSTAT_ON n) = 0 := by
  obtain ⟨-, hso, hsc, hoc⟩ := lsSwitched_keys n
  obtain ⟨-, hoff⟩ := s.lsTurnOff_shows n
  simp only [State.lsEnterFault, State.lsTook, State.setLs_frame, State.rd_wr_other hsc.symm, State.rd_wr_other hoc.symm,
    State.rd_wr_other hso, State.rd_wr_same]
  exact ⟨rfl, Nat.mod_eq_of_lt hcause, hoff⟩

theorem incSat_sixteen (x : Nat) : incSat 16 x = min (x + 1) 65535 := by
  simp only [incSat]
  split <;> omega

theorem State.lsReport_tripcnt : (s.lsReport n cause).rd (LSW_CHCNT_TRIPCNT n) =
    if 1 ≤ cause ∧ cause ≤ 3 then min (s.rd (LSW_CHCNT_TRIPCNT n) + 1) 65535 else s.rd (LSW_CHCNT_TRIPCNT n) := by
  have htocsin (t : State) : t.toTocsin.rd (LSW_CHCNT_TRIPCNT n) = t.rd (LSW_CHCNT_TRIPCNT n) := by
    unfold State.toTocsin State.when
    split
    · exact State.rd_setFlagBit_other flags_key_ne_tripcnt 0 t
    · rfl
  have hsignal (t : State) (c : Bool) (g : Sig) : (t.when c (State.signal g)).rd (LSW_CHCNT_TRIPCNT n) = t.rd (LSW_CHCNT_TRIPCNT n) := by
    cases c <;> rfl
  rw [State.lsReport, htocsin, hsignal]
  by_cases h : 1 ≤ cause ∧ cause ≤ 3
  · rw [if_pos h, State.when_of (by simpa using h), State.inc, State.rd_wr_same]
    have hwid : (LSW_CHCNT_TRIPCNT n).wid = 16 := rfl
    rw [hwid, incSat_sixteen, Nat.mod_eq_of_lt (by omega)]
  · rw [if_neg h, State.when_not (by simpa using h)]

/-- The commands of the tick once undone, a fault finds a channel that was not in FAULT before them outside it. -/
theorem State.lsUndo_outside (hst : s.rd (LSW_CHSTAT_STATE n) ≠ 3) (hseen : s.lsSeen n ≠ 3) (hnote : (s.lsBack n).st < 8) :
    (s.lsUndo n).lsState n ≠ 3 := by
  rw [State.lsUndo_state]
  split
  case isTrue hundone =>
    have hnoted : s.lsNoted n = true := (Bool.and_eq_true_iff.mp hundone).1
    rw [State.lsSeen, if_pos hnoted] at hseen
    omega
  case isFalse => exact hst

theorem State.lsFault_shows (hcause : cause < 16) (hst : s.rd (LSW_CHSTAT_STATE n) ≠ 3) (hseen : s.lsSeen n ≠ 3)
    (hnote : (s.lsBack n).st < 8) :
    (s.lsFault n cause).rd (LSW_CHSTAT_STATE n) = 3 ∧ (s.lsFault n cause).rd (LSW_CHSTAT_CAUSE n) = cause ∧
    (s.lsFault n cause).rd (LSW_CHSTAT_ON n) = 0 ∧ (s.lsFault n cause).rd (LSW_CHCNT_TRIPCNT n) =
      (if 1 ≤ cause ∧ cause ≤ 3 then min (s.rd (LSW_CHCNT_TRIPCNT n) + 1) 65535 else s.rd (LSW_CHCNT_TRIPCNT n)) := by
  rw [State.lsFault_outside (State.lsUndo_outside hst hseen hnote)]
  have hreport (t : State) (f : Fld) (hf : f ∈ lsSwitched n) : (t.lsReport n cause).rd f = t.rd f :=
    State.lsReport_writes.rd f fun g hg => lsReported_key_ne g hg f hf
  obtain ⟨hstate, hcauseShown, hon⟩ := (s.lsUndo n).lsEnterFault_shows (n := n) hcause
  have htrips : ((s.lsUndo n).lsEnterFault n cause).rd (LSW_CHCNT_TRIPCNT n) = s.rd (LSW_CHCNT_TRIPCNT n) :=
    (State.lsUndo_writes.trans State.lsEnterFault_writes).rd _ fun g hg => (lsReported_key_ne _ (by simp [lsReported]) g hg).symm
  rw [State.lsReport_tripcnt, htrips, hreport _ _ (by simp [lsSwitched]), hreport _ _ (by simp [lsSwitched]),
    hreport _ _ (by simp [lsSwitched])]
  exact ⟨hstate, hcauseShown, hon, rfl⟩

/-- A channel in FAULT keeps its cause and everything else that is shown. -/
theorem State.lsFault_regs_of_fault (h : s.rd (LSW_CHSTAT_STATE n) = 3) : (s.lsFault n cause).regs = s.regs := by
  have hundone : (s.lsUndo n).lsState n = 3 := by rw [State.lsState, State.rd, State.lsUndo_of_fault h]; exact h
  rw [State.lsFault_inFault hundone]
  exact State.lsUndo_of_fault h

end

section
variable {n : Nat} (hn : n < 48) (s : State)
include hn

theorem State.lsTurnOn_kept (h : s.pds.txns = []) : s.regsKept [0x0B] (s.lsTurnOn n) ∧ s.memKept (s.lsTurnOn n) :=
  (s.lsTurnOn_writes n h).kept (lsSwitched_window hn)

theorem State.lsTurnOff_kept : s.regsKept [0x0B] (s.lsTurnOff n) ∧ s.memKept (s.lsTurnOff n) :=
  (s.lsTurnOff_writes n).kept (lsSwitched_window hn)

theorem State.lsFault_kept (cause : Nat) :
    s.regsKept [0x01, 0x0B] (s.lsFault n cause) ∧ s.memKept (s.lsFault n cause) := by
  refine State.lsFault_writes.kept fun g hg => ?_
  rcases List.mem_append.mp hg with hg | hg
  · exact lsReported_window hn g hg
  · obtain ⟨hlo, hblock⟩ := lsSwitched_window hn g hg
    exact ⟨hlo, by simp [hblock]⟩

end

/-! ## The statement, with and without a note that STATE can show (R243) -/

/-- The clauses on switching (R250) and on faults (R259), the latter for a note of R243 below 8, as every value of STATE is. -/
theorem lswSwitching_of_noted :
    (∀ (s : State) (n : Nat), n < 48 → s.pds.txns = [] →
      ((s.lsTurnOn n).rd (LSW_CHSTAT_STATE n) = (if s.rd (LSW_PTIM_TWIN (s.rd (LSW_CHCFG_PROF n))) = 0 then 2 else 1) ∧
        (s.lsTurnOn n).rd (LSW_CHSTAT_ON n) = 1 ∧ (s.lsTurnOn n).rd (LSW_CHSTAT_CAUSE n) = 0) ∧
      s.regsKept [0x0B] (s.lsTurnOn n) ∧ s.memKept (s.lsTurnOn n)) ∧
    (∀ (s : State) (n : Nat), n < 48 →
      ((s.lsTurnOff n).rd (LSW_CHSTAT_STATE n) = 0 ∧ (s.lsTurnOff n).rd (LSW_CHSTAT_ON n) = 0) ∧
      s.regsKept [0x0B] (s.lsTurnOff n) ∧ s.memKept (s.lsTurnOff n)) ∧
    (∀ (s : State) (n cause : Nat), n < 48 → cause < 16 → s.rd (LSW_CHSTAT_STATE n) ≠ 3 → s.lsSeen n ≠ 3 → (s.lsBack n).st < 8 →
      ((s.lsFault n cause).rd (LSW_CHSTAT_STATE n) = 3 ∧ (s.lsFault n cause).rd (LSW_CHSTAT_CAUSE n) = cause ∧
        (s.lsFault n cause).rd (LSW_CHSTAT_ON n) = 0 ∧ (s.lsFault n cause).rd (LSW_CHCNT_TRIPCNT n) =
          (if 1 ≤ cause ∧ cause ≤ 3 then min (s.rd (LSW_CHCNT_TRIPCNT n) + 1) 65535 else s.rd (LSW_CHCNT_TRIPCNT n))) ∧
      s.regsKept [0x01, 0x0B] (s.lsFault n cause) ∧ s.memKept (s.lsFault n cause)) ∧
    (∀ (s : State) (n cause : Nat), s.rd (LSW_CHSTAT_STATE n) = 3 → (s.lsFault n cause).regs = s.regs) :=
  ⟨fun s n hn htxns => ⟨s.lsTurnOn_shows n htxns, s.lsTurnOn_kept hn htxns⟩,
    fun s n hn => ⟨s.lsTurnOff_shows n, s.lsTurnOff_kept hn⟩,
    fun s _ cause hn hcause hst hseen hnote => ⟨State.lsFault_shows hcause hst hseen hnote, s.lsFault_kept hn cause⟩,
    fun _ _ _ hst => State.lsFault_regs_of_fault hst⟩

/-- After start, with channel 0 noted in this tick with 11, which is no value of a field of three bits. -/
def State.notedBeyond : State := { State.reset with lsw := { State.reset.lsw with back := [(0, { at_ := 1, st := 11 })] } }

/-- Refutes O18 by its clause on faults, in a state that no run reaches: of the note of R243 the clause asks only that it is not 3, but once
undone to a noted 11 the three bits of STATE read 3, and a fault that finds its channel in FAULT leaves CAUSE. With a note that STATE can
show every clause holds (lswSwitching_of_noted). -/
theorem not_lswSwitchingOperations : ¬ Obligations.LswSwitchingOperations := by
  rintro ⟨-, -, hfault, -⟩
  obtain ⟨-, hclaim, -⟩ := hfault State.notedBeyond 0 1 (by decide) (by decide) (by decide) (by decide)
  have hundone : (State.notedBeyond.lsUndo 0).lsState 0 = 3 := by rw [State.lsUndo_state]; decide
  rw [State.lsFault_inFault hundone] at hclaim
  have hcause : ((State.notedBeyond.lsUndo 0).lsTook 0 2).rd (LSW_CHSTAT_CAUSE 0) = 0 := by decide
  rw [hcause] at hclaim
  exact absurd hclaim (by decide)

end Sys2Proof.Machine
end

section
/-!
PROOF. The frame of the commands of the receiver's channels and antennas (spec/10_gnss_baseband_and_time_pulse.md) and of the event recorder
(spec/17_event_recorder.md). First what a command keeps that reports to Tocsin (R23), then what each operation of GNS and of EVR keeps.
-/
namespace Sys2Proof.Machine

/-! ## Frames of whole commands -/

section
variable {bs cs : List Nat} {s t u : State}

theorem State.only.mono (h : s.only bs t) (hsub : bs ⊆ cs) : s.only cs t where
  regs := fun f hf hb => h.regs f hf fun e => hb (hsub e)
  staged := fun f hf hb => h.staged f hf fun e => hb (hsub e)
  mem := h.mem
  now := h.now
  pending := h.pending
  sigs := h.sigs
  mgr := h.mgr
  sd := h.sd
  fenced := h.fenced
  fenceEv := fun b hb => h.fenceEv b fun e => hb (hsub e)
  params := h.params
  ka := h.ka
  io := h.io
  leases := fun r hr => h.leases r fun x hx e => hr x hx (hsub e)
  tsv := h.tsv.imp_left (@hsub _)
  car := h.car.imp_left (@hsub _)
  tbs := h.tbs.imp_left (@hsub _)
  cen := h.cen.imp_left (@hsub _)
  hsn := h.hsn.imp_left (@hsub _)
  vis := h.vis.imp_left (@hsub _)
  gns := h.gns.imp_left (@hsub _)
  fus := h.fus.imp_left (@hsub _)
  sec := h.sec.imp_left (@hsub _)
  sol := h.sol.imp_left (@hsub _)
  lsw := h.lsw.imp_left (@hsub _)
  can := h.can.imp_left (@hsub _)
  eth := h.eth.imp_left (@hsub _)
  flt := h.flt.imp_left (@hsub _)
  thm := h.thm.imp_left (@hsub _)
  dsp := h.dsp.imp_left (@hsub _)
  evr := h.evr.imp_left (@hsub _)
  pds := h.pds.imp_left (@hsub _)
  yul := h.yul.imp_left (@hsub _)

/-- What writes no register of Tocsin and SEC, and hands no transaction over, leaves a quiet state quiet. -/
theorem State.only.quiet (h : s.only bs t) (hq : s.quiet = true) (htsv : 0x01 ∉ bs) (hsec : 0x09 ∉ bs) (hpds : 0x12 ∉ bs) :
    t.quiet = true :=
  State.quiet_of hq h.sigs (h.pds.resolve_left hpds) (h.regs TSV_MPAR6_FCA (by decide) htsv)
    (h.regs TSV_MPAR6_FCB (by decide) htsv) (h.regs SEC_STAT_STATE (by decide) hsec)

theorem State.only.ok (h : s.only bs u) (hq : s.quiet = true) (htsv : 0x01 ∉ bs) (hsec : 0x09 ∉ bs) (hpds : 0x12 ∉ bs)
    (ht : s.ok u = .next t) : s.only bs t := by
  rw [State.ok_eq] at ht
  cases ht
  exact h.after hq htsv hsec hpds

/-- `State.only.wr` after what came before it. -/
theorem State.only.andWr (h : s.only bs t) (f : Fld) (v : Nat) (hf : f.lo < 32 ∧ addrBlock f.addr ∈ bs) : s.only bs (t.wr f v) :=
  h.trans (State.only.wr f v t hf.1 hf.2)

end

/-- Between `s` and `t` GNS has acted, and what it found it may have reported to Tocsin (R23). -/
structure State.GnsTold (s t : State) : Prop where
  only  : s.only [0x01, 0x07, 0x11] t
  quiet : s.quiet = true → t.quiet = true

section
variable {s t u : State}

theorem State.GnsTold.of_only (h : s.only [0x07, 0x11] t) : s.GnsTold t :=
  ⟨h.mono (by decide), fun hq => h.quiet hq (by decide) (by decide) (by decide)⟩

theorem State.GnsTold.refl (s : State) : s.GnsTold s := .of_only (.refl _ s)

theorem State.GnsTold.trans (h : s.GnsTold t) (k : t.GnsTold u) : s.GnsTold u :=
  ⟨h.only.trans k.only, fun hq => k.quiet (h.quiet hq)⟩

theorem State.GnsTold.toTocsin (h : s.GnsTold t) : s.GnsTold t.toTocsin :=
  ⟨h.only.trans (State.only.when _ t fun _ => State.only.setFlagBit _ _ t (by decide) (by decide)),
    fun hq => State.quiet_toTocsin (h.quiet hq)⟩

theorem State.GnsTold.ok (h : s.GnsTold u) (hq : s.quiet = true) (ht : s.ok u = .next t) : s.only [0x01, 0x07, 0x11] t := by
  rw [State.ok_eq, State.after_quiet (h.quiet hq)] at ht
  cases ht
  have hsigs : s.sigs = [] := ((State.quiet_iff s).mp hq).1
  exact { h.only with now := rfl, pending := rfl, mgr := rfl, sigs := hsigs.symm }

end

/-! ## What the operations of GNS keep -/

section
variable {bs : List Nat} (s : State)

theorem State.only.setGns (g : Gns) (hb : 0x07 ∈ bs) : s.only bs { s with gns := g } :=
  { State.only.refl bs s with gns := .inl hb }

theorem State.only.gnsEvent {c : Bool} {f : State → State} (h : c = true → s.only bs (f s)) : s.only bs (s.gnsEvent c f) :=
  State.only.when _ s fun hc => h (Bool.and_eq_true_iff.mp hc).2

theorem State.GnsTold.gnsEvent {c : Bool} {f : State → State} (h : c = true → s.GnsTold (f s)) : s.GnsTold (s.gnsEvent c f) := by
  unfold State.gnsEvent State.when
  split
  case isTrue hc => exact h (Bool.and_eq_true_iff.mp hc).2
  case isFalse => exact .refl s

variable {c : Nat}

theorem chstat_window (hc : c < 184) : (GNS_CHSTAT_STATE c).lo < 32 ∧ addrBlock (GNS_CHSTAT_STATE c).addr ∈ [0x07, 0x11] := by
  have hlo : (GNS_CHSTAT_STATE c).lo = 29 := rfl
  have hblock : addrBlock (GNS_CHSTAT_STATE c).addr = 0x07 := by
    simp only [addrBlock, GNS_CHSTAT_STATE]
    omega
  simp [hlo, hblock]

theorem State.gnsEnter_only (hc : c < 184) (st : Nat) : s.only [0x07, 0x11] (s.gnsEnter c st) :=
  (((State.only.refl _ s).andWr _ _ (chstat_window hc)).trans (State.only.setGns _ _ (by decide))).andWr _ _ (by decide)

/-- A channel's change of state (Table 10.2), on whatever condition. -/
theorem State.gnsChan_only (sts : List Nat) (cond : Bool) (st : Nat) :
    s.only [0x07, 0x11] (s.gnsChan c sts cond (State.gnsEnter c st)) :=
  State.only.gnsEvent s fun h => by
    simp only [Bool.and_eq_true, decide_eq_true_eq] at h
    obtain ⟨⟨hc, -⟩, -⟩ := h
    exact s.gnsEnter_only hc st

theorem antFld_window (a : Nat) : (antFld a).lo < 32 ∧ addrBlock (antFld a).addr ∈ [0x07, 0x11] := by
  unfold antFld
  split <;> decide

theorem State.gnsRaise_only (f : Fld) (hf : f.lo < 32 ∧ addrBlock f.addr ∈ [0x07, 0x11]) (code : Nat) (ps : List Nat) :
    s.only [0x07, 0x11] ((s.setFlag f).emit code ps) :=
  (State.only.setFlag f s hf.1 hf.2).trans (State.only.emit code ps _ (by decide))

end

/-! ## Antennas and interference (Table 10.7) -/

section
variable {s t : State} (hq : s.quiet = true)
include hq

theorem exec_antennaOpen_only {a i : Nat} (ht : exec (.antennaOpen a i) s = .next t) : s.only [0x01, 0x07, 0x11] t := by
  have hwr (v : Nat) : s.only [0x07, 0x11] (s.wr (antFld a) v) := (State.only.refl _ s).andWr _ _ (antFld_window a)
  refine State.GnsTold.ok (.gnsEvent s fun _ => ?_) hq ht
  split
  · split
    · exact (State.GnsTold.of_only ((hwr 1).trans (State.gnsRaise_only _ _ (by decide) _ _))).toTocsin
    · exact .refl s
  · split
    · exact .of_only (hwr 0)
    · exact .refl s

theorem exec_antennaShort_only {a i : Nat} (ht : exec (.antennaShort a i) s = .next t) : s.only [0x01, 0x07, 0x11] t := by
  have hwr : s.only [0x07, 0x11] (s.wr (antFld a) 2) := (State.only.refl _ s).andWr _ _ (antFld_window a)
  refine State.GnsTold.ok (.gnsEvent s fun _ => ?_) hq ht
  exact (State.GnsTold.of_only (hwr.trans (State.gnsRaise_only _ _ (by decide) _ _))).toTocsin.trans
    (.of_only (State.only.setGns _ _ (by decide)))

theorem exec_antennaRetry_only {a i : Nat} (ht : exec (.antennaRetry a i) s = .next t) : s.only [0x01, 0x07, 0x11] t := by
  refine State.GnsTold.ok (.gnsEvent s fun _ => ?_) hq ht
  dsimp only
  split
  · exact (State.GnsTold.of_only ((State.only.setGns s _ (by decide)).trans (State.gnsRaise_only _ _ (by decide) _ _))).toTocsin
  · exact .of_only (((State.only.refl _ s).andWr _ 0 (antFld_window a)).trans (State.only.setGns _ _ (by decide)))

theorem exec_interference_only {band : Nat} {out : Bool} (ht : exec (.interference band out) s = .next t) :
    s.only [0x01, 0x07, 0x11] t := by
  refine State.GnsTold.ok (.gnsEvent s fun _ => ?_) hq ht
  have hshown (g : Gns) (v : Nat) : s.GnsTold (State.wr GNS_STAT_INTF v { s with gns := g }) :=
    .of_only ((State.only.setGns s g (by decide)).andWr _ _ (by decide))
  dsimp only
  unfold State.when
  split
  · exact ((hshown _ _).trans (.of_only (State.gnsRaise_only _ _ (by decide) _ _))).toTocsin
  · exact hshown _ _

end

/-! ## What the operations of EVR keep (R457–R467) -/

/-- The write port of the NVM (Table 14.4) is one that EVR asks for. -/
theorem evr_writePort : ∃ h ∈ leaseHolders 0, h ∈ [0x11] := ⟨0x11, by decide, by decide⟩

section
variable (s : State)

theorem State.evrLease_only : s.only [0x11] s.evrLease := by
  unfold State.evrLease
  split
  · exact .refl _ s
  · split
    · exact .requestLease 0 0x11 s evr_writePort
    · exact .returnLease 0 0x11 s evr_writePort

theorem State.saveOptime_only : s.only [0x11] s.saveOptime := by
  have hasked : s.only [0x11] (s.requestLease 0 0x11) := .requestLease 0 0x11 s evr_writePort
  unfold State.saveOptime
  dsimp only
  split
  · exact (hasked.trans (.setEvr _ _ (by decide))).trans (State.evrLease_only _)
  · exact hasked.trans (.setEvr _ _ (by decide))

theorem State.stageSummary_only : s.only [0x11] s.stageSummary := by
  unfold State.stageSummary
  split
  · split
    · exact .setEvr s _ (by decide)
    · exact .refl _ s
  · exact .refl _ s

theorem State.takeFreed_only (a : EvAcc) (r : EvRec) : s.only [0x11] (s.takeFreed a r) :=
  ((State.only.setEvr s _ (by decide)).andWr _ _ (by decide)).trans (State.only.when _ _ fun _ => .wr _ _ _ (by decide) (by decide))

theorem State.placeFreed_only : s.only [0x11] s.placeFreed := by
  unfold State.placeFreed
  split
  · split
    · split
      · exact s.takeFreed_only _ _
      · exact s.stageSummary_only
    · exact s.stageSummary_only
  · exact .refl _ s

theorem State.dropRecord_only : s.only [0x11] s.dropRecord := by
  unfold State.dropRecord
  split <;> exact .setEvr s _ (by decide)

theorem State.takePlace_only (p : Place) : s.only [0x11] (s.takePlace p) := (State.only.setEvr s _ (by decide)).andWr _ _ (by decide)

theorem State.closeLog_only : s.only [0x11] s.closeLog :=
  ((((State.only.refl _ s).andWr _ _ (by decide)).andWr _ _ (by decide)).trans (State.only.setFlagBit _ _ _ (by decide) (by decide))).trans
    (.setEvr _ _ (by decide))

theorem State.closeIfFull_only : s.only [0x11] s.closeIfFull := by
  unfold State.closeIfFull
  split
  · exact s.closeLog_only
  · exact .refl _ s

theorem State.recordWritten_only : s.only [0x11] s.recordWritten := by
  unfold State.recordWritten
  split
  · exact s.saveOptime_only
  · split
    · exact .refl _ s
    · split
      · exact .refl _ s
      · exact (((((s.takePlace_only _).trans (State.dropRecord_only _)).trans (.setFlagBit _ _ _ (by decide) (by decide))).trans
          (State.placeFreed_only _)).trans (State.closeIfFull_only _)).trans (State.evrLease_only _)

theorem State.logClear_only (role : Nat) : s.only [0x11] (s.logClear role) := by
  unfold State.logClear
  split
  · exact .refl _ s
  · exact (((State.only.refl _ s).andWr _ _ (by decide)).trans (.setEvr _ _ (by decide))).trans
      (.requestLease _ _ _ evr_writePort)

theorem State.sectorErased_only : s.only [0x11] s.sectorErased := by
  unfold State.sectorErased
  split
  · exact .refl _ s
  · have herased (e : Evr) : s.only [0x11] (State.returnLease 0 0x11 { s with evr := e }) :=
      (State.only.setEvr s e (by decide)).trans (.returnLease _ _ _ evr_writePort)
    dsimp only
    split
    · exact (herased _).trans (.requestLease _ _ _ evr_writePort)
    · have hended (u : State) : u.only [0x11] ((((u.wr EVR_STAT_CLEARING 0).wr EVR_STAT_FULL 0).wr EVR_CNT_BAD 0).wr EVR_STAT_NEXT 0) :=
        ((((State.only.refl _ u).andWr _ _ (by decide)).andWr _ _ (by decide)).andWr _ _ (by decide)).andWr _ _ (by decide)
      exact (((((herased _).trans (hended _)).trans (.setFlagBit _ _ _ (by decide) (by decide))).trans (.setEvr _ _ (by decide))).trans
        (State.stageSummary_only _)).trans (State.evrLease_only _)

theorem State.logSearch_only : s.only [0x11] s.logSearch := by
  unfold State.logSearch
  split
  · exact .refl _ s
  · have hfound (e : Evr) (n : Nat) : s.only [0x11] (State.wr EVR_STAT_NEXT n { s with evr := e }) :=
      (State.only.setEvr s e (by decide)).andWr _ _ (by decide)
    refine ((((hfound _ _).trans (.when _ _ fun _ => ?bad)).trans (.when _ _ fun _ => ?full)).trans (State.closeIfFull_only _)).trans
      (State.evrLease_only _)
    case bad =>
      exact (((State.only.refl _ _).andWr _ _ (by decide)).trans (.setFlagBit _ _ _ (by decide) (by decide))).trans
        (.emit _ _ _ (by decide))
    case full => exact .wr _ _ _ (by decide) (by decide)

theorem rddata_window {w : Nat} (hw : w < 8) : (EVR_RDDATA_DATA w).lo < 32 ∧ addrBlock (EVR_RDDATA_DATA w).addr ∈ [0x11] := by
  have hlo : (EVR_RDDATA_DATA w).lo = 0 := rfl
  have hblock : addrBlock (EVR_RDDATA_DATA w).addr = 0x11 := by
    simp only [addrBlock, EVR_RDDATA_DATA]
    omega
  simp [hlo, hblock]

theorem State.latchPlace_only (i : Nat) : s.only [0x11] (s.latchPlace i) := by
  have hstatus (v e : Nat) : s.only [0x11] ((s.wr EVR_RDST_VALID v).wr EVR_RDST_ERASED e) :=
    ((State.only.refl _ s).andWr _ _ (by decide)).andWr _ _ (by decide)
  exact (hstatus _ _).trans (.foldl _ _ fun u w hw _ =>
    (State.only.refl _ u).andWr _ _ (rddata_window (List.mem_range.mp hw)))

end

section
variable {s u t : State}

/-- The frame of a command of EVR. -/
theorem State.only.okEvr (hq : s.quiet = true) (ht : s.ok u = .next t) (h : s.only [0x11] u) : s.only [0x11] t :=
  h.ok hq (by decide) (by decide) (by decide) ht

/-- The frame of a command of GNS that reports nothing. -/
theorem State.only.okGns (hq : s.quiet = true) (ht : s.ok u = .next t) (h : s.only [0x07, 0x11] u) : s.only [0x07, 0x11] t :=
  h.ok hq (by decide) (by decide) (by decide) ht

theorem State.only.ifOn {b : Nat} {bs : List Nat} {f : State → State} (s : State) (h : s.only bs (f s)) : s.only bs (s.ifOn b f) := by
  unfold State.ifOn
  split
  · exact h
  · exact .refl bs s

end

/-- Settles O15: every command's own effect keeps what lies outside its block, the antennas' with their report to Tocsin, and in a quiet
state nothing else follows in the step. -/
theorem receiverAndRecorderCommandsStayInTheirBlock : Obligations.ReceiverAndRecorderCommandsStayInTheirBlock := by
  refine ⟨?detected, ?lock, ?pullin, ?reacq, ?loss, ?tp1, ?antOpen, ?antShort, ?antRetry, ?interference, ?ring, ?pulseEnd, ?emit,
    ?written, ?search, ?erased, ?optime, ?rdidx, ?hevgo, ?clear⟩
  case detected | lock | pullin | reacq => exact fun s _ _ hq ht => .okGns hq ht (s.gnsChan_only _ _ _)
  case loss => exact fun s _ _ _ _ hq ht => .okGns hq ht (s.gnsChan_only _ _ _)
  case tp1 => exact fun s _ _ hq ht => .okGns hq ht (.gnsEvent s fun _ => .setGns s _ (by decide))
  case antOpen => exact fun _ _ _ _ hq ht => exec_antennaOpen_only hq ht
  case antShort => exact fun _ _ _ _ hq ht => exec_antennaShort_only hq ht
  case antRetry => exact fun _ _ _ _ hq ht => exec_antennaRetry_only hq ht
  case interference => exact fun _ _ _ _ hq ht => exec_interference_only hq ht
  case ring =>
    intro s v t hq ht
    refine .okGns hq ht (.hostWrite s (by decide) (by decide) fun _ => ?_)
    dsimp only
    split
    · exact .wr _ _ s (by decide) (by decide)
    · exact .emit _ _ s (by decide)
  case pulseEnd => exact fun s _ _ hq ht => .okGns hq ht (.gnsEvent s fun _ => .setGns s _ (by decide))
  case emit => exact fun s _ _ _ hq ht => .okEvr hq ht (.when _ s fun _ => .emit _ _ s (by decide))
  case written => exact fun s _ hq ht => .okEvr hq ht (.ifOn s s.recordWritten_only)
  case search => exact fun s _ hq ht => .okEvr hq ht (.ifOn s s.logSearch_only)
  case erased => exact fun s _ hq ht => .okEvr hq ht (.ifOn s s.sectorErased_only)
  case optime =>
    exact fun s _ hq ht => .okEvr hq ht (.when _ s fun _ => (State.only.setEvr s _ (by decide)).trans (State.saveOptime_only _))
  case rdidx =>
    exact fun s _ _ hq ht => .okEvr hq ht (.hostWrite s (by decide) (by decide) fun _ =>
      ((State.only.refl _ s).andWr _ _ (by decide)).trans (State.latchPlace_only _ _))
  case hevgo =>
    intro s v t hq ht
    refine .okEvr hq ht (.hostWrite s (by decide) (by decide) fun _ => ?_)
    dsimp only
    split
    · exact .refl _ s
    · exact .stageEvent _ s (by decide)
  case clear => exact fun s _ role _ hq ht => .okEvr hq ht (.when _ s fun _ => s.logClear_only role)

end Sys2Proof.Machine
end

section
/-!
PROOF. What the commands of spec/10_gnss_baseband_and_time_pulse.md do: the receiver's channels and epochs (R270–R273, R287, R288), and the
time pulse and the antennas (R277–R283, Table 10.7). First the form that they share: they act only while the domain is on.
-/
namespace Sys2Proof.Machine

/-! ## While the domain is on -/

section
variable {s : State} (hon : s.blockOn 0x07 = true)
include hon

theorem State.ok_gnsEvent {c : Bool} (hc : c = true) (f : State → State) : s.ok (s.gnsEvent c f) = .next (s.after (f s)) := by
  rw [State.gnsEvent, State.ok_when (by simp [hon, hc])]

theorem State.ok_gnsChan {c : Nat} (hlt : c < 184) {sts : List Nat} (hst : s.rd (GNS_CHSTAT_STATE c) ∈ sts) {cond : Bool}
    (hcond : cond = true) (f : State → State) : s.ok (s.gnsChan c sts cond f) = .next (s.after (f s)) := by
  have hstate : s.gchSt c ∈ sts := hst
  rw [State.gnsChan, State.ok_gnsEvent hon (by simp [hlt, hstate, hcond])]

/-! ## Epochs (R272) -/

variable {sats : List GnsSat} {meas : List GnsMeas} {e : GnsEpoch} (hper : e.tow % s.gnsPeriod = 0)
include hper

theorem exec_measurementEpoch_within (hsec : e.tow % 1000000000 ≠ 0) (hen : (s.applyDue 0x07 0).on GNS_CTL_EN = true) :
    exec (.measurementEpoch sats meas e) s = .next (s.after ((s.applyDue 0x07 0).gnsEpoch sats meas e)) := by
  rw [exec, execMeasurementEpoch, State.ok_gnsEvent hon (decide_eq_true hper), State.when_not (decide_eq_false hsec), State.when_of hen]

theorem exec_measurementEpoch_second (hsec : e.tow % 1000000000 = 0)
    (hen : ((s.applyDue 0x07 0).applyDue 0x07 2).on GNS_CTL_EN = true) : exec (.measurementEpoch sats meas e) s =
      .next (s.after (((s.applyDue 0x07 0).applyDue 0x07 2).gnsEpoch sats meas e)) := by
  rw [exec, execMeasurementEpoch, State.ok_gnsEvent hon (decide_eq_true hper), State.when_of (decide_eq_true hsec), State.when_of hen]

end

/-- Settles O40: an epoch by whether it lies on a full second, each channel in the states that Table 10.2 leaves by the command, the
read index by its span, and the host's commands with their register open. -/
theorem receiverChannelsAndEpochsAct : Obligations.ReceiverChannelsAndEpochsAct := by
  refine ⟨?within, ?second, ?detected, ?lock, ?pullin, ?loss, ?reacq, ?inSpan, ?beyond, ?retain, ?save, ?unlocked, ?clear, ?cold⟩
  case within => exact fun _ _ _ _ hon hper hsec hen => exec_measurementEpoch_within hon hper hsec hen
  case second => exact fun _ _ _ _ hon hper hsec hen => exec_measurementEpoch_second hon hper hsec hen
  case detected =>
    intro s c hon hlt hst
    rw [exec, execSignalDetected, State.ok_gnsChan hon hlt (by simpa using hst) rfl]
  case lock =>
    intro s c hon hlt hst
    rw [exec, execPhaseLock, State.ok_gnsChan hon hlt (by simpa using hst) rfl]
  case pullin =>
    intro s c hon hlt hst hdue
    rw [exec, execPullinTimeout, State.ok_gnsChan hon hlt (by simpa using hst) (decide_eq_true hdue)]
  case loss =>
    intro s c cn0 ms hon hlt hst hlost
    rw [exec, execTrackLoss, State.ok_gnsChan hon hlt (by simpa using hst) (by simpa using hlost)]
  case reacq =>
    intro s c hon hlt hst hdue
    rw [exec, execReacqTimeout, State.ok_gnsChan hon hlt (by simpa using hst) (decide_eq_true hdue)]
  case inSpan =>
    intro s v hopen hspan
    rw [exec, execGnsRingReadWrite, State.ok_hostWrite hopen]
    dsimp only
    rw [if_pos (show _ ≤ s.gnsUnread from hspan)]
  case beyond =>
    intro s v hopen hspan
    rw [exec, execGnsRingReadWrite, State.ok_hostWrite hopen]
    dsimp only
    rw [if_neg (show ¬_ ≤ s.gnsUnread from Nat.not_le.mpr hspan)]
  case retain =>
    intro s hon hst hdue
    have hlocked : s.tst = 1 := hst
    rw [exec, execRetentionSave, State.ok_gnsEvent hon (by simp [hlocked, hdue])]
  case save =>
    intro s hopen hst
    rw [exec, execSave, State.ok_hostWrite hopen, State.when_of (decide_eq_true (show s.tst = 1 from hst))]
  case unlocked =>
    intro s hopen hst
    rw [exec, execSave, State.ok_hostWrite hopen, State.when_not (decide_eq_false (show ¬s.tst = 1 from hst))]
  case clear =>
    intro s hopen
    rw [exec, execClearRetention, State.ok_hostWrite hopen]
  case cold =>
    intro s hopen
    rw [exec, execColdRestart, State.ok_hostWrite hopen]

/-! ## The time pulse (R277–R283) -/

section
variable {s : State} (hon : s.blockOn 0x07 = true)
include hon

theorem exec_tp0Pulse_due {m : TimeqMsg} (hnext : s.gns.next = some m) (hdue : m.due s.now = true)
    (hclock : s.on GNS_STAT_TCXOFLT = false) : exec .tp0Pulse s = .next (s.after ((s.applyBy 0x07 1 m.wrote).gnsPulse m)) := by
  rw [exec, execTp0Pulse, hnext]
  exact State.ok_gnsEvent hon (by simp [hdue, hclock]) _

theorem exec_timeqWrite_pulses {q : Int} (hnext : s.gns.next = none) (hpulses : (s.applyDue 0x07 1).gnsPulses = true)
    (htime : s.gnsOnTime = true) : exec (.timeqWrite q) s = .next (s.after (State.gnsTimeq (s.applyDue 0x07 1) q s)) := by
  rw [exec, execTimeqWrite, State.ok_gnsEvent hon (by simp [hnext])]
  dsimp only
  rw [if_pos hpulses, State.when_of htime]

theorem exec_timeqWrite_noPulses {q : Int} (hnext : s.gns.next = none) (hpulses : (s.applyDue 0x07 1).gnsPulses = false) :
    exec (.timeqWrite q) s = .next (s.after (s.applyDue 0x07 1)) := by
  rw [exec, execTimeqWrite, State.ok_gnsEvent hon (by simp [hnext])]
  dsimp only
  rw [if_neg (Bool.not_eq_true _ ▸ hpulses)]

theorem exec_timePulseEnd_due {p t : Nat} (hpulse : tabFind s.gns.tp p = some t) (hdue : t ≤ s.now) :
    exec (.timePulseEnd p) s = .next (s.after { s with gns := { s.gns with tp := tabDel s.gns.tp p } }) := by
  rw [exec, execTimePulseEnd, hpulse]
  exact State.ok_gnsEvent hon (decide_eq_true hdue) _

end

/-! ## Antennas, interference and the oscillator (Table 10.7) -/

/-- The report of a short leaves the time and the receiver's notes, from which the next try is timed. -/
theorem State.shortReport_gns (s : State) (f : Fld) (a : Nat) :
    (((s.wr f 2).setFlag GNS_INTSTAT_ANT).emit 0x0706 [a, 2]).toTocsin.gns = s.gns ∧
      (((s.wr f 2).setFlag GNS_INTSTAT_ANT).emit 0x0706 [a, 2]).toTocsin.now = s.now := by
  have hemit := State.only_emit 0x0706 [a, 2] ((s.wr f 2).setFlag GNS_INTSTAT_ANT)
  have htold (t : State) : t.toTocsin.gns = t.gns ∧ t.toTocsin.now = t.now := by
    unfold State.toTocsin State.when
    split <;> exact ⟨rfl, rfl⟩
  exact ⟨(htold _).1.trans (hemit.gns.resolve_left (by decide)), (htold _).2.trans hemit.now⟩

/-- A band has left its window or is back in it: INTF shows whether any band is out. -/
def State.gnsBand (band : Nat) (out : Bool) (s : State) : State :=
  State.wr GNS_STAT_INTF (b2n (putBit s.gns.bands band out != 0)) { s with gns := { s.gns with bands := putBit s.gns.bands band out } }

/-- Without a trustworthy clock the receiver is in NOTIME, with no train of pulses. -/
def State.gnsTcxoLost (s : State) : State :=
  let t := ((s.wr GNS_STAT_TCXOFLT 1).setFlag GNS_INTSTAT_TCXO).gnsTstate 0
  { t with gns := { t.gns with next := none, labelled := false, tp := [], offs := [], resid := 0 } }

section
variable {s : State} (hon : s.blockOn 0x07 = true)
include hon

variable {a i : Nat} (ha : a < 2)

section
include ha

theorem exec_antennaOpen_opens (hi : i < 2000) (hst : s.rd (antFld a) = 0) : exec (.antennaOpen a i) s =
    .next (s.after (((s.wr (antFld a) 1).setFlag GNS_INTSTAT_ANT).emit 0x0706 [a, 1]).toTocsin) := by
  rw [exec, execAntennaOpen, State.ok_gnsEvent hon (decide_eq_true ha), if_pos hi, if_pos hst]

theorem exec_antennaOpen_recovers (hi : 2000 ≤ i) (hst : s.rd (antFld a) = 1) :
    exec (.antennaOpen a i) s = .next (s.after (s.wr (antFld a) 0)) := by
  rw [exec, execAntennaOpen, State.ok_gnsEvent hon (decide_eq_true ha), if_neg (Nat.not_lt.mpr hi), if_pos hst]

theorem exec_antennaShort_shorts (hi : 100000 < i) (hst : s.rd (antFld a) ≠ 2) : exec (.antennaShort a i) s =
    .next (s.after { (((s.wr (antFld a) 2).setFlag GNS_INTSTAT_ANT).emit 0x0706 [a, 2]).toTocsin with
      gns := { s.gns with shortAt := tabPut s.gns.shortAt a s.now } }) := by
  obtain ⟨hgns, hnow⟩ := s.shortReport_gns (antFld a) a
  rw [exec, execAntennaShort, State.ok_gnsEvent hon (by simp [ha, hi, hst])]
  dsimp only
  rw [hgns, hnow]

theorem exec_antennaRetry_recovers (hst : s.rd (antFld a) = 2) (hdue : tabGet 0 s.gns.shortAt a + 10000000000 ≤ s.now)
    (hi : i ≤ 100000) : exec (.antennaRetry a i) s =
    .next (s.after { s.wr (antFld a) 0 with gns := { s.gns with shortAt := tabDel s.gns.shortAt a } }) := by
  rw [exec, execAntennaRetry, State.ok_gnsEvent hon (by simp [ha, hst, hdue]), if_neg (Nat.not_lt.mpr hi)]

theorem exec_antennaRetry_shorts (hst : s.rd (antFld a) = 2) (hdue : tabGet 0 s.gns.shortAt a + 10000000000 ≤ s.now)
    (hi : 100000 < i) : exec (.antennaRetry a i) s =
    .next (s.after ((State.setFlag GNS_INTSTAT_ANT { s with gns := { s.gns with shortAt := tabPut s.gns.shortAt a s.now } }).emit
      0x0706 [a, 2]).toTocsin) := by
  rw [exec, execAntennaRetry, State.ok_gnsEvent hon (by simp [ha, hst, hdue]), if_pos hi]

end

theorem exec_interference_out {band : Nat} (hband : band < 4) (hin : bit s.gns.bands band = false) :
    exec (.interference band true) s =
      .next (s.after (((s.gnsBand band true).setFlag GNS_INTSTAT_INTF).emit 0x0707 [band]).toTocsin) := by
  rw [exec, execInterference, State.ok_gnsEvent hon (decide_eq_true hband)]
  dsimp only
  rw [State.when_of (by simp [hin])]
  rfl

theorem exec_interference_in {band : Nat} (hband : band < 4) :
    exec (.interference band false) s = .next (s.after (s.gnsBand band false)) := by
  rw [exec, execInterference, State.ok_gnsEvent hon (decide_eq_true hband)]
  dsimp only
  rw [State.when_not (Bool.false_and _)]
  rfl

theorem exec_tcxoFault_within {dev : Int} (hdev : dev.natAbs ≤ 10000) :
    exec (.tcxoFault dev) s = .next (s.after (s.wr GNS_STAT_TCXOFLT 0)) := by
  rw [exec, execTcxoFault, State.ok_gnsEvent hon rfl, if_neg (Nat.not_lt.mpr hdev)]

theorem exec_tcxoFault_beyond {dev : Int} (hdev : 10000 < dev.natAbs) (hclock : s.on GNS_STAT_TCXOFLT = false) :
    exec (.tcxoFault dev) s = .next (s.after (s.gnsTcxoLost.emit 0x0708 [tc 32 dev]).toTocsin) := by
  rw [exec, execTcxoFault, State.ok_gnsEvent hon rfl, if_pos hdev]
  dsimp only
  rw [State.when_of (by simp [hclock])]
  rfl

end

/-- Settles O41: each command under its own conditions, the message of a pulse by whether the group that waits lets pulses run, and the
faults of Table 10.7 by whether they come, stay or go. -/
theorem timePulseAndAntennasAct : Obligations.TimePulseAndAntennasAct := by
  refine ⟨?tp0, ?tp1, ?message, ?noPulses, ?tqwk, ?solution, ?invalid, ?doldrums, ?pulseEnd, ?opens, ?openEnds, ?shorts, ?shortEnds,
    ?stillShort, ?bandOut, ?bandIn, ?tcxo, ?tcxoEnds⟩
  case tp0 => exact fun _ _ hon hnext hdue hclock => exec_tp0Pulse_due hon hnext hdue hclock
  case tp1 =>
    intro s t hon hen hnow hgrid
    rw [exec, execTp1Pulse, State.ok_gnsEvent hon (by simp [hen, hnow, hgrid])]
  case message => exact fun _ _ hon hnext hpulses htime => exec_timeqWrite_pulses hon hnext hpulses htime
  case noPulses => exact fun _ _ hon hnext hpulses => exec_timeqWrite_noPulses hon hnext hpulses
  case tqwk =>
    intro s hwin
    rw [exec, execTqwkRead, State.hostRead_of_eq hwin rfl, State.ok_eq]
  case solution =>
    intro s nsat pdop err off week tow ns rate leap lweek ltow hon hen hsat hpdop
    rw [exec, execTimeSolution, State.ok_gnsEvent hon (by simp [hen, hsat, hpdop])]
  case invalid =>
    intro s nsat pdop err off week tow ns rate leap lweek ltow hbad
    have hno : (s.blockOn 0x07 && (s.on GNS_CTL_EN && decide (4 ≤ nsat) && decide (pdop ≤ 100))) = false := by
      rcases hbad with hsat | hpdop
      · simp [Nat.not_le.mpr hsat]
      · simp [Nat.not_le.mpr hpdop]
    rw [exec, execTimeSolution, State.gnsEvent, State.when_not hno, State.ok_eq]
  case doldrums =>
    intro s hon hdue
    rw [exec, execDoldrumsEntry, State.ok_gnsEvent hon (decide_eq_true hdue)]
  case pulseEnd => exact fun _ _ _ hon hpulse hdue => exec_timePulseEnd_due hon hpulse hdue
  case opens => exact fun _ _ _ hon ha hi hst => exec_antennaOpen_opens hon ha hi hst
  case openEnds => exact fun _ _ _ hon ha hi hst => exec_antennaOpen_recovers hon ha hi hst
  case shorts => exact fun _ _ _ hon ha hi hst => exec_antennaShort_shorts hon ha hi hst
  case shortEnds => exact fun _ _ _ hon ha hst hdue hi => exec_antennaRetry_recovers hon ha hst hdue hi
  case stillShort => exact fun _ _ _ hon ha hst hdue hi => exec_antennaRetry_shorts hon ha hst hdue hi
  case bandOut =>
    intro s band hon hband hin hsome
    rw [exec_interference_out hon hband hin, State.gnsBand, bne_iff_ne.mpr hsome]
    rfl
  case bandIn => exact fun _ _ hon hband => exec_interference_in hon hband
  case tcxo => exact fun _ _ hon hdev hclock => exec_tcxoFault_beyond hon hdev hclock
  case tcxoEnds => exact fun _ _ hon hdev => exec_tcxoFault_within hon hdev

end Sys2Proof.Machine
end

section
/-! PROOF. What the commands of the fusion engine do (spec/11_fusion_engine.md). -/
namespace Sys2Proof.Machine

section
variable {s : State} (hlive : s.live 0x08 = true) (hen : s.on FUS_CTL_EN = true)
include hlive hen

/-- While FUS acts and is enabled, an event of the estimator whose condition holds has its effect. -/
theorem State.ok_fusEvent {c : Bool} (hc : c = true) (f : State → State) : s.ok (s.fusEvent c f) = .next (s.after (f s)) := by
  rw [State.fusEvent, State.ok_when (by simp [hlive, hen, hc])]

section
variable {k : Nat} (hk : k < 16) (hon : s.on (FUS_SCFG_EN k) = true)
include hk hon

theorem exec_imuSample_own (htype : s.rd (FUS_SCFG_TYPE k) = 1) (hdue : s.now % 1000000 = 0) (sat : Bool) (w : List Nat) :
    exec (.imuSample k sat w) s = .next (s.after (s.fusOwnImu
      { strm := k, tm := s.now, words := (List.range 6).map (fun i => w.getD i 0) ++ [b2n sat] })) := by
  have hown : s.fusType k = 1 := htype
  rw [exec, execImuSample, State.ok_fusEvent hlive hen (by simp [hk, hon]), if_pos hown, State.when_of (decide_eq_true hdue)]

/-- A pushed sample at the head of the queue is for the estimator once its time has come. -/
theorem exec_imuSample_pushed {x : FusSamp} {q : List FusSamp} (htype : s.rd (FUS_SCFG_TYPE k) = 2) (hq : s.fus.queue = x :: q)
    (hx : x.strm = k) (htm : x.tm ≤ s.now) (sat : Bool) (w : List Nat) :
    exec (.imuSample k sat w) s = .next (s.after (if s.fusPrim = k then s.fusPushedImu x else s.fusMeasure x)) := by
  have hpushed : s.fusType k = 2 := htype
  rw [exec, execImuSample, State.ok_fusEvent hlive hen (by simp [hk, hon]), if_neg (by simp [hpushed]), hq]
  dsimp only
  rw [State.when_of (by simp [hx, hpushed, htm])]

end

end

theorem State.fusPushedImu_of_queue {s : State} {x : FusSamp} {q : List FusSamp} (hq : s.fus.queue = x :: q) (y : FusSamp) :
    s.fusPushedImu y = if (State.fusDepth { s with fus := { s.fus with queue := q } }).fusOld y.tm
      then (State.fusDepth { s with fus := { s.fus with queue := q } }).fusLate
      else (State.fusDepth { s with fus := { s.fus with queue := q } }).fusImu y := by
  rw [State.fusPushedImu, hq, List.tail_cons]

/-- Settles O42: each event under its own conditions, a pushed sample of the primary IMU by whether it is older than the window. -/
theorem fusionSamplesAndResultsAct : Obligations.FusionSamplesAndResultsAct := by
  refine ⟨?own, ?inTime, ?late, ?other, ?internal, ?push, ?measurement, ?issue, ?revision, ?replayEnd⟩
  case own => exact fun _ _ sat w hlive hen hk hon htype hdue => exec_imuSample_own hlive hen hk hon htype hdue sat w
  case inTime =>
    intro s k sat w x q hlive hen hk hon htype hq hx htm hprim hold
    have hprimary : s.fusPrim = k := hprim
    rw [exec_imuSample_pushed hlive hen hk hon htype hq hx htm, if_pos hprimary, State.fusPushedImu_of_queue hq, if_neg (by simp [hold])]
  case late =>
    intro s k sat w x q hlive hen hk hon htype hq hx htm hprim hold
    have hprimary : s.fusPrim = k := hprim
    rw [exec_imuSample_pushed hlive hen hk hon htype hq hx htm, if_pos hprimary, State.fusPushedImu_of_queue hq, if_pos hold]
  case other =>
    intro s k sat w x q hlive hen hk hon htype hq hx htm hprim
    have hother : s.fusPrim ≠ k := hprim
    rw [exec_imuSample_pushed hlive hen hk hon htype hq hx htm, if_neg hother]
  case internal =>
    intro s k hlive hen hk hon hinst
    rw [exec, execInternalSample, State.ok_fusEvent hlive hen (by simp [hk, hon, hinst])]
  case push =>
    intro s p hp hopen
    rw [exec, execPush, State.ok_when (decide_eq_true hp), State.hostWrite_open hopen]
  case measurement =>
    intro s x q hlive hen hq htm hprim
    have hother : s.fusPrim ≠ x.strm := hprim
    rw [exec, execMeasurementUpdate, State.ok_fusEvent hlive hen rfl, hq]
    dsimp only
    rw [if_pos (by simp [htm, hother])]
  case issue =>
    intro s hlive hen hready
    rw [exec, execResultIssue, State.ok_fusEvent hlive hen hready]
  case revision =>
    intro s r i hlive hen hrp hnext hdue
    rw [exec, execRevisionIssue, State.ok_fusEvent hlive hen rfl, hrp]
    dsimp only
    rw [hnext]
    dsimp only
    rw [if_pos hdue]
  case replayEnd =>
    intro s r hlive hen hrp hnext
    rw [exec, execReplayEnd, State.ok_fusEvent hlive hen rfl, hrp]
    dsimp only
    rw [hnext, Option.isNone_none, if_pos rfl]

/-- An estimator in another state goes to `st`, with its flag and EV 0x0801. -/
theorem State.fusEstate_of_ne {s : State} {st : Nat} (h : s.fusEst ≠ st) :
    s.fusEstate st = ((s.wr FUS_STAT_ESTATE st).setFlag FUS_INTSTAT_ESTATE).emit 0x0801 [st] := if_neg h

/-- Settles O43: each command under its own conditions, the two causes of an estimator fault and the two ranges of the read index apart. -/
theorem fusionSupervisionAndCommandsAct : Obligations.FusionSupervisionAndCommandsAct := by
  refine ⟨?stale, ?position, ?focus, ?restart, ?restartOff, ?calsnap, ?calreset, ?variance, ?memory, ?lastRead, ?index, ?indexOut⟩
  case stale =>
    intro s k hlive hen hk hused hdue
    have hst : s.fusSt k = 2 := hused
    rw [exec, execStreamStale, State.ok_fusEvent hlive hen (by simp [hk, hst, hdue])]
  case position =>
    intro s hlive hen hnav hdue
    have hest : s.fusEst = 3 := hnav
    rw [exec, execPositionTimeout, State.ok_fusEvent hlive hen (by simp [hest, hdue]), State.fusEstate_of_ne (by simp [hest])]
  case focus =>
    intro s hlive hen hdue
    rw [exec, execCalibrationFocus, State.ok_fusEvent hlive hen hdue]
  case restart =>
    intro s hopen hen
    rw [exec, execRestart, State.ok_hostWrite hopen, State.when_of hen]
  case restartOff =>
    intro s hopen hen
    rw [exec, execRestart, State.ok_hostWrite hopen, State.when_not hen]
  case calsnap =>
    intro s mask hopen
    rw [exec, execCalsnap, State.ok_hostWrite hopen]
  case calreset =>
    intro s mask hopen
    rw [exec, execCalreset, State.ok_hostWrite hopen]
  case variance =>
    rintro s _ hlive hen rfl
    rw [exec, execEstimatorFault, State.ok_fusEvent hlive hen (by decide), State.when_not (by decide)]
  case memory =>
    rintro s _ hlive hen rfl
    rw [exec, execEstimatorFault, State.ok_fusEvent hlive hen (by decide), State.when_of (by decide)]
  case lastRead =>
    intro s hwin
    rw [exec, execFusLastRead, State.hostRead_of_eq hwin rfl, State.ok_eq, State.fusReadLast]
  case index =>
    intro s v hopen hspan
    rw [exec, execFusRingReadWrite, State.ok_hostWrite hopen, if_pos hspan]
  case indexOut =>
    intro s v hopen hspan
    rw [exec, execFusRingReadWrite, State.ok_hostWrite hopen, if_neg (Nat.not_le.mpr hspan)]

end Sys2Proof.Machine
end

section
/-! PROOF. What the CAN controllers, the Ethernet switch and the fleet engine do (spec/12_field_buses_and_fleet_link.md). -/
namespace Sys2Proof.Machine

/-- What a block does while its domain is on. -/
theorem State.ok_ifOn {s : State} {b : Nat} (hon : s.blockOn b = true) (f : State → State) : s.ok (s.ifOn b f) = .next (s.after (f s)) := by
  rw [State.ifOn, if_pos hon, State.ok_eq]

/-! ## CAN reception (R331–R339) -/

/-- A message timeout before it is asked who supervises the message: TMOUT, flag 7 and EV 0x0C07. -/
def State.canTimedOut (n k : Nat) (s : State) : State :=
  ((s.wr (CAN_FCFG_TMOUT n k) 1).setFlagBit (CAN_INTSTAT_FLAGS n) 7).emit 0x0C07 [n, k]

section
variable {s : State} {n : Nat} (hn : n < 6)
include hn

/-- What happens at a powered controller under its condition has its effect. -/
theorem State.atCan_of (hon : s.blockOn 0x0C = true) {c : Bool} (hc : c = true) (f : State → State) :
    s.atCan n c f = .next (s.after (f s)) := by
  rw [State.atCan, State.ok_when (by simp [hn, hon, hc])]

omit hn in
theorem State.canReceives_of (hen : s.on (CAN_CTL_EN n) = true) (hbus : s.rd (CAN_STAT_ESTATE n) ≠ 2) (hjoined : s.canJoined n = true) :
    s.canReceives n = true := by
  have hst : s.canEst n ≠ 2 := hbus
  simp [State.canReceives, hen, hst, hjoined]

theorem exec_canRxFrame_good {f : CanFrame} (hon : s.blockOn 0x0C = true) (hrx : s.canReceives n = true)
    (hgood : f.fdf = false ∨ s.on (CAN_CTL_FDEN n) = true ∧ f.rtr = false) (esi : Bool) (age : Nat) :
    exec (.canRxFrame n f esi age) s =
      .next (s.after (((s.when (s.canCounts n) (State.canRecDown n)).canFilters n f esi age).bpeFrame n f)) := by
  have hframe : (!f.fdf || (s.on (CAN_CTL_FDEN n) && !f.rtr)) = true := by
    rcases hgood with hclassic | ⟨hfd, hdata⟩
    · simp [hclassic]
    · simp [hfd, hdata]
  rw [exec, execCanRxFrame, State.atCan_of hn hon (by rw [hrx, hframe]; rfl)]

omit hn in
theorem State.rd_canTimedOut {k : Nat} {f : Fld} (hlo : f.lo < 32) (hblock : addrBlock f.addr ≠ 0x11)
    (htmout : (CAN_FCFG_TMOUT n k).key ≠ f.key) (hflags : (CAN_INTSTAT_FLAGS n).key ≠ f.key) : (s.canTimedOut n k).rd f = s.rd f := by
  rw [State.canTimedOut, State.rd_emit hlo hblock, State.rd_setFlagBit_other hflags, State.rd_wr_other htmout]

/-- A message timeout is reported where the message is supervised, with row 9 where the controller is Tocsin's: both as they stood before. -/
theorem State.canTimeout_eq {k : Nat} (hk : k < 128) : s.canTimeout n k = (s.canTimedOut n k).when (s.on (CAN_FCFG_TSUP n k))
    (fun t => t.toTocsin.when (bit (s.rd TSV_MPAR9_CF) n) (State.signal (.rowFires 9 0))) := by
  have hsup : (s.canTimedOut n k).on (CAN_FCFG_TSUP n k) = s.on (CAN_FCFG_TSUP n k) := by
    rw [State.on, State.rd_canTimedOut (show 28 < 32 by decide) (by simp only [addrBlock, CAN_FCFG_TSUP]; omega)
      (by simp only [Fld.key, CAN_FCFG_TMOUT, CAN_FCFG_TSUP]; omega)
      (by simp only [Fld.key, CAN_INTSTAT_FLAGS, CAN_FCFG_TSUP]; omega)]
    rfl
  have hgroup : (s.canTimedOut n k).rd TSV_MPAR9_CF = s.rd TSV_MPAR9_CF :=
    State.rd_canTimedOut (by decide) (by decide) (by simp only [Fld.key, CAN_FCFG_TMOUT, TSV_MPAR9_CF]; omega)
      (by simp only [Fld.key, CAN_INTSTAT_FLAGS, TSV_MPAR9_CF]; omega)
  have htold : s.canTimeout n k = (s.canTimedOut n k).when ((s.canTimedOut n k).on (CAN_FCFG_TSUP n k))
      (fun t => t.toTocsin.when (bit (t.rd TSV_MPAR9_CF) n) (State.signal (.rowFires 9 0))) := rfl
  rw [htold, hsup]
  cases s.on (CAN_FCFG_TSUP n k)
  case false => rfl
  case true => rw [State.when_true, State.when_true, hgroup]

theorem exec_messageTimeout_due {k : Nat} (hon : s.blockOn 0x0C = true) (hk : k < 128) (hdue : s.canTmoDue n k = true) :
    exec (.messageTimeout n k) s = .next (s.after ((s.canTimedOut n k).when (s.on (CAN_FCFG_TSUP n k))
      (fun t => t.toTocsin.when (bit (s.rd TSV_MPAR9_CF) n) (State.signal (.rowFires 9 0))))) := by
  rw [exec, execMessageTimeout, State.atCan_of hn hon (by simp [hk, hdue]), State.canTimeout_eq hn hk]

omit hn in
theorem State.canRxError_eq (lec : Nat) (eight : Bool) : s.canRxError n lec eight = ((s.wr (CAN_STAT_LEC n) lec).wr (CAN_STAT_REC n)
    (min (s.rd (CAN_STAT_REC n) + if eight then 8 else 1) 255)).canErrors n := by
  rw [State.canRxError]
  rw [State.rd_wr_other (by simp only [Fld.key, CAN_STAT_LEC, CAN_STAT_REC]; omega)]

end

/-- Settles O45: each happening under its own conditions, a frame by whether REC counts, a message timeout by TSUP and its row. -/
theorem canReceptionActs : Obligations.CanReceptionActs := by
  refine ⟨?counted, ?uncounted, ?error, ?pop, ?plain, ?row9, ?noRow9, ?claim, ?long, ?index, ?indexOut⟩
  case counted =>
    intro s n f esi age hn hon hen hbus hjoined hgood hcounts
    rw [exec_canRxFrame_good hn hon (State.canReceives_of hen hbus hjoined) hgood, State.when_of hcounts]
  case uncounted =>
    intro s n f esi age hn hon hen hbus hjoined hgood hcounts
    rw [exec_canRxFrame_good hn hon (State.canReceives_of hen hbus hjoined) hgood, State.when_not hcounts]
  case error =>
    intro s n lec eight hn hon hen hcounts hpos hlec
    rw [exec, execCanRxError, State.atCan_of hn hon (by simp [hen, hcounts, hpos, hlec]), State.canRxError_eq]
  case pop =>
    intro s n q hn hq hopen
    rw [exec, execRxpop, State.ok_when (by simp [hn, hq]), State.hostWrite_open hopen, State.canPop]
  case plain =>
    intro s n f hn hon hf hdue hplain
    rw [exec_messageTimeout_due hn hon hf hdue, State.when_not hplain, State.canTimedOut]
  case row9 =>
    intro s n f hn hon hf hdue hsup hrow
    rw [exec_messageTimeout_due hn hon hf hdue, State.when_of hsup, State.when_of hrow, State.canTimedOut]
  case noRow9 =>
    intro s n f hn hon hf hdue hsup hrow
    rw [exec_messageTimeout_due hn hon hf hdue, State.when_of hsup, State.when_not hrow, State.canTimedOut]
  case claim =>
    intro s n hn hon hstate hdue
    rw [exec, execAddressClaim, State.atCan_of hn hon (by simp [hstate, hdue]), State.bpeClaimed]
    rfl
  case long =>
    intro s n m hn hon hen hbus hjoined hiso
    rw [exec, execLongMessageRx, State.atCan_of hn hon (by rw [hiso, State.canReceives_of hen hbus hjoined]; rfl)]
  case index =>
    intro s n v hn hopen hspan
    rw [exec, execCanRingReadWrite, State.ok_when (decide_eq_true hn), State.hostWrite_open hopen]
    exact congrArg (fun t => Host.Outcome.next (s.after t)) (if_pos hspan)
  case indexOut =>
    intro s n v hn hopen hspan
    rw [exec, execCanRingReadWrite, State.ok_when (decide_eq_true hn), State.hostWrite_open hopen]
    exact congrArg (fun t => Host.Outcome.next (s.after t)) (if_neg (Nat.not_le.mpr hspan))

/-! ## The Ethernet switch (R340–R343) -/

section
variable {s : State} {p : Nat} (hp : p < 6) (hon : s.blockOn 0x0D = true)
include hp hon

theorem exec_ethFrameRx_on (bytes : List Nat) (err : Bool) :
    exec (.ethFrameRx p bytes err) s = .next (s.after ((s.ethNone.ethRx p bytes err).fltAnswers p bytes)) := by
  rw [exec, execEthFrameRx, State.ok_when (by simp [hp, hon])]

section
variable (hen : s.on (ETH_PCTL_EN p) = true) (hlink : s.ethLink p = true)
include hen hlink

omit hp hon in
theorem State.ethRx_linked (bytes : List Nat) (err : Bool) : s.ethNone.ethRx p bytes err =
    if err then (s.ethNone.inc (ETH_PCNT_RXERR p)).when (decide (64 ≤ bytes.length) && decide (bytes.length ≤ 1522)) (State.ethBad p bytes)
    else if bytes.length < 64 || 1522 < bytes.length then s.ethNone.ethDrop p
    else s.ethNone.ethSwitch p bytes := by
  have hen' : s.ethNone.on (ETH_PCTL_EN p) = true := hen
  have hlink' : s.ethNone.ethLink p = true := hlink
  rw [State.ethRx, if_neg (by simp [hen', hlink'])]

end

omit hon in
/-- The link of the other state than it is to have: LINK shows it, with its flag and its event, and a link that is lost cuts what it was
sending. -/
theorem State.ethLinkTo_of_ne {up : Bool} (hlink : s.ethLink p ≠ up) (sqi : Nat) : s.ethLinkTo p up sqi =
    (((((s.wr (ETH_PSTAT_SQI p) sqi).wr ETH_STAT_LINK (putBit (s.rd ETH_STAT_LINK) p up)).wr (ETH_PSTAT_LINK p) (b2n up)).setFlagBit
      ETH_INTSTAT_FLAGS 2).when (!up) (State.ethCut p)).emit (if up then 0x0D01 else 0x0D02) [p, sqi] := by
  have hother : (s.wr (ETH_PSTAT_SQI p) sqi).rd ETH_STAT_LINK = s.rd ETH_STAT_LINK :=
    State.rd_wr_other (by simp only [Fld.key, ETH_PSTAT_SQI, ETH_STAT_LINK]; omega) sqi s
  have hsame : (s.wr (ETH_PSTAT_SQI p) sqi).ethLink p = s.ethLink p := by rw [State.ethLink, hother, State.ethLink]
  rw [State.ethLinkTo]
  dsimp only
  rw [hsame, if_neg hlink, hother]
  rfl

end

theorem State.ethRx_off {s : State} {p : Nat} (hoff : s.on (ETH_PCTL_EN p) = false ∨ s.ethLink p = false) (bytes : List Nat)
    (err : Bool) : s.ethNone.ethRx p bytes err = s.ethNone := by
  have hoff' : s.ethNone.on (ETH_PCTL_EN p) = false ∨ s.ethNone.ethLink p = false := hoff
  rw [State.ethRx, if_pos]
  rcases hoff' with hport | hlink
  · simp [hport]
  · simp [hlink]

/-- Settles O46: a frame by its port, its error and its length, a link by where it goes, a ring index by its ring and whether it is
valid. -/
theorem ethernetSwitchActs : Obligations.EthernetSwitchActs := by
  refine ⟨?good, ?length, ?errShort, ?errGood, ?off, ?hostTx, ?linkUp, ?linkDown, ?sync, ?rxIndex, ?txIndex, ?rxIndexOut, ?ageing⟩
  case good =>
    intro s p bytes hp hon hen hlink hmin hmax
    rw [exec_ethFrameRx_on hp hon, State.ethRx_linked hen hlink, if_neg Bool.false_ne_true,
      if_neg (by simp [Nat.not_lt.mpr hmin, Nat.not_lt.mpr hmax])]
  case length =>
    intro s p bytes hp hon hen hlink hlen
    rw [exec_ethFrameRx_on hp hon, State.ethRx_linked hen hlink, if_neg Bool.false_ne_true, if_pos (by simpa using hlen)]
  case errShort =>
    intro s p bytes hp hon hen hlink hlen
    rw [exec_ethFrameRx_on hp hon, State.ethRx_linked hen hlink, if_pos rfl, State.when_not (by simp [Nat.not_le.mpr hlen])]
  case errGood =>
    intro s p bytes hp hon hen hlink hmin hmax
    rw [exec_ethFrameRx_on hp hon, State.ethRx_linked hen hlink, if_pos rfl, State.when_of (by simp [hmin, hmax])]
  case off =>
    intro s p bytes err hp hon hoff
    rw [exec_ethFrameRx_on hp hon, State.ethRx_off hoff]
  case hostTx =>
    intro s hlive
    rw [exec, execHostTxFrame, State.ok_ifLive hlive]
  case linkUp =>
    intro s p sqi hp hon hen hlink
    rw [exec, execLinkChange, State.ok_when (by simp [hp, hon, hen]), State.ethLinkTo_of_ne hp (by simp [hlink])]
    rfl
  case linkDown =>
    intro s p sqi hp hon hlink
    rw [exec, execLinkChange, State.ok_when (by simp [hp, hon]), State.ethLinkTo_of_ne hp (by simp [hlink])]
    rfl
  case sync =>
    intro s gm delays hon hen hdue
    rw [exec, execPtpSync, State.ok_when (by simp [hon, hen, hdue])]
  case rxIndex =>
    intro s v hopen hok
    rw [exec, execEthRingIndexWrite]
    exact (State.ok_hostWrite hopen _).trans (congrArg (fun t => Host.Outcome.next (s.after t)) (if_pos hok))
  case txIndex =>
    intro s v hopen hok
    rw [exec, execEthRingIndexWrite]
    exact (State.ok_hostWrite hopen _).trans (congrArg (fun t => Host.Outcome.next (s.after t)) (if_pos hok))
  case rxIndexOut =>
    intro s v hopen hbad
    rw [exec, execEthRingIndexWrite]
    exact (State.ok_hostWrite hopen _).trans (congrArg (fun t => Host.Outcome.next (s.after t)) (if_neg (by simp [hbad])))
  case ageing =>
    intro s mac vid hon
    rw [exec, execAddressAgeing, State.ok_ifOn hon, State.ethAge]

/-! ## The fleet engine (R344–R351) -/

section
variable {s : State} (hlive : s.live 0x0E = true)
include hlive

/-- What happens at a session while FLT acts has its effect under its condition. -/
theorem State.atFlt_of {k : Nat} (hk : k < 64) {c : Bool} (hc : c = true) (f : State → State) :
    s.atFlt k c f = .next (s.after (f s)) := by
  rw [State.atFlt, State.ok_when (by simp [hk, hlive, hc])]

theorem State.fltKey_of {slot role : Nat} (hslot : slot < 8) (hrole : 1 ≤ role) (f : State → State) :
    s.fltKey slot role f = .next (s.after (f s)) := by
  rw [State.fltKey, State.ok_when (by simp [hslot, hrole, hlive])]

omit hlive in
theorem State.flSt_eq {k st : Nat} (hst : s.rd (FLT_SSTAT_STATE k) = st) : decide (s.flSt k = st) = true := decide_eq_true hst

theorem State.fltTalks_of {k : Nat} (hup : s.flSt k = 2) (happ : s.domOn 3 = true) : s.fltTalks k = true := by
  simp [State.fltTalks, hlive, hup, happ]

end

/-- A peer that is not refused has offered the profile of R345. -/
theorem State.profile_of_fltRefuses {s : State} {k : Nat} {o : DtlsOffer} (h : s.fltRefuses k o = none) :
    o.suite = 0x1301 ∧ o.group = 0x17 ∧ o.sig = 0x0403 ∧ o.plain = true ∧ o.shown = true ∧ 0 < o.depth ∧ o.depth ≤ 3 ∧
      o.anchor = s.rd (FLT_SCFG_ANCHOR k) ∧ (o.dated = true ∨ s.rd GNS_STAT_TSTATE = 0) := by
  rw [State.fltRefuses] at h
  split at h
  · exact absurd h (by simp)
  next hcrypto =>
    split at h
    · exact absurd h (by simp)
    · split at h
      · exact absurd h (by simp)
      next hanchor =>
        split at h
        · exact absurd h (by simp)
        · split at h
          · exact absurd h (by simp)
          next hdate =>
            simp only [Bool.or_eq_true, bne_iff_ne, Bool.not_eq_true', not_or, Bool.not_eq_false, Decidable.not_not, Bool.and_eq_true,
              not_and] at hcrypto hanchor hdate
            obtain ⟨⟨⟨⟨hsuite, hgroup⟩, hsig⟩, hplain⟩, hshown⟩ := hcrypto
            refine ⟨hsuite, hgroup, hsig, hplain, hshown, by omega, by omega, hanchor, ?_⟩
            cases hdated : o.dated with
            | true => exact .inl rfl
            | false => exact .inr (hdate hdated)

/-- Taking free values leaves what does not depend on their count. -/
theorem State.takeFrees_keeps {α : Type} (g : State → α) (hg : ∀ (n : Nat) (s : State), g { s with free := n } = g s) (w : Nat) :
    ∀ (k : Nat) (s : State), g (s.takeFrees w k).2 = g s := by
  intro k
  induction k with
  | zero => exact fun _ => rfl
  | succ k ih => exact fun s => (ih _).trans (hg _ s)

/-- Settles O47: each happening under its own conditions; the handshake by whether the peer has offered the profile. -/
theorem fleetEngineActs : Obligations.FleetEngineActs := by
  refine ⟨?subgo, ?shake, ?refused, ?profile, ?auth, ?connect, ?session, ?backoff, ?ping, ?message, ?index, ?indexOut, ?genkey, ?csr,
    ?erase⟩
  case subgo =>
    intro s hopen
    rw [exec, execSubgo, State.ok_hostWrite hopen]
  case shake =>
    intro s k o hk hlive hst hok
    rw [exec, execHandshakeComplete, State.atFlt_of hlive hk (State.flSt_eq hst), State.flShake, hok]
  case refused =>
    intro s k alert o hk hlive hst hbad
    rw [exec, execHandshakeComplete, State.atFlt_of hlive hk (State.flSt_eq hst), State.flShake, hbad]
    rfl
  case profile => exact fun _ _ _ hok => State.profile_of_fltRefuses hok
  case auth =>
    intro s k alert hk hlive hst
    rw [exec, execAuthenticationFailed, State.atFlt_of hlive hk (State.flSt_eq hst)]
    rfl
  case connect =>
    intro s k hk hlive hst hdue
    have hconnect : s.flSt k = 1 := hst
    rw [exec, execConnectTimeout, State.atFlt_of hlive hk (by simp [hconnect, hdue])]
  case session =>
    intro s k hk hlive hst hdue
    have hup : s.flSt k = 2 := hst
    rw [exec, execSessionTimeout, State.atFlt_of hlive hk (by simp [hup, hdue])]
  case backoff =>
    intro s k hk hlive hst hdue
    have hback : s.flSt k = 3 := hst
    rw [exec, execBackoffEnd, State.atFlt_of hlive hk (by simp [hback, hdue])]
  case ping =>
    intro s k hk hlive hst happ hdue
    rw [exec, execPing, State.atFlt_of hlive hk (by simp [State.fltTalks_of hlive hst happ, hdue])]
  case message =>
    intro s k typ prio seq payload hk hlive hst
    rw [exec, execFleetMessageRx, State.atFlt_of hlive hk (State.flSt_eq hst)]
  case index =>
    intro s v hopen hspan
    rw [exec, execFltRingReadWrite, State.ok_hostWrite hopen]
    exact congrArg (fun t => Host.Outcome.next (s.after t)) (if_pos hspan)
  case indexOut =>
    intro s v hopen hspan
    rw [exec, execFltRingReadWrite, State.ok_hostWrite hopen]
    exact congrArg (fun t => Host.Outcome.next (s.after t)) (if_neg (Nat.not_le.mpr hspan))
  case genkey =>
    intro s slot role hslot hrole hlive
    rw [exec, execGenkey, State.fltKey_of hlive hslot hrole]
    rfl
  case csr =>
    intro s slot role hslot hrole hlive hkey
    rw [exec, execCsr, State.fltKey_of hlive hslot hrole, State.fltCsr, if_neg (by simpa [Option.isSome_iff_ne_none] using hkey)]
    dsimp only
    rw [State.takeFrees_keeps State.blobs (fun _ _ => rfl)]
  case erase =>
    intro s slot role hslot hrole hlive
    rw [exec, execErase, State.fltKey_of hlive hslot hrole, State.fltErase]

/-! ## A message that FLT sends is switched by ETH (R344) -/

/-- With no valid VLAN entry no frame is switched. -/
theorem State.ethSwitch_noVlan {s : State} (hvlan : ∀ v ∈ List.range 16, s.on (ETH_VLAN_VALID v) = false) (p : Nat) (b : List Nat) :
    s.ethSwitch p b = { s with eth := { s.eth with out := [], toFlt := false } }.ethDrop p := by
  have hentry (e : Eth) : ({ s with eth := e } : State).ethEntry p b = none := by
    have hnone : ({ s with eth := e } : State).ethVlan (({ s with eth := e } : State).ethVid p b) = none := by
      rw [State.ethVlan, List.find?_eq_none]
      intro v hv
      have hoff : ({ s with eth := e } : State).on (ETH_VLAN_VALID v) = false := hvlan v hv
      simp [hoff]
    rw [State.ethEntry, hnone]
    rfl
  rw [State.ethSwitch, hentry]

/-- A datagram whose next hop ARP has not found waits, and ARP asks with a frame of FLT's. -/
theorem State.fltIpOut_asks {s : State} (harp : s.flt.arp = []) (hop : Nat) (d : List Nat) :
    ∃ b, s.fltIpOut hop d = State.ethFromFlt (s.rd FLT_NET_VID) b { s with flt := { s.flt with wait := s.flt.wait ++ [(hop, d)] } } := by
  rw [State.fltIpOut, harp]
  exact ⟨_, rfl⟩

/-- A message to a session whose next hop ARP has not found is a frame of FLT's that ETH switches. -/
theorem State.fltSend_asks {s : State} (harp : s.flt.arp = []) (k : Nat) (m : FltMsg) :
    ∃ (flt : Flt) (free vid : Nat) (b : List Nat), s.fltSend k m = State.ethFromFlt vid b { s with flt := flt, free := free } := by
  obtain ⟨u, hop, d, hsend, hfree⟩ : ∃ (u : State) (hop : Nat) (d : List Nat), s.fltSend k m = u.fltIpOut hop d ∧
      u = { s.setFls k { s.fls k with tx := s.now, sent := some m } with free := s.free + 1 + 1 } := ⟨_, _, _, rfl, rfl⟩
  have harp' : u.flt.arp = [] := by
    rw [hfree]
    exact harp
  obtain ⟨b, hasks⟩ := State.fltIpOut_asks harp' hop d
  rw [hsend, hasks, hfree]
  exact ⟨_, _, _, b, rfl⟩

/-- A session in UP that has not sent for 15 s, with the host port on and no VLAN in the switch. -/
def State.pingDue : State :=
  State.wr (FLT_SSTAT_STATE 0) 2 <| State.wr (ETH_PCTL_EN 6) 1 <| State.wr (ETH_VLAN_VALID 0) 0 { State.solIdle with now := 15000000000 }

/-- What the message of `State.pingDue` leaves: no signal, no transaction, and of the registers only the count of frames dropped at the host
port. -/
theorem State.pingDue_fltSend (m : FltMsg) :
    (State.pingDue.fltSend 0 m).sigs = State.pingDue.sigs ∧ (State.pingDue.fltSend 0 m).pds = State.pingDue.pds ∧
      ∀ f, (State.pingDue.fltSend 0 m).rd f = (State.pingDue.inc (ETH_PCNT_RXDROP 6)).rd f := by
  obtain ⟨flt, free, vid, b, hsend⟩ := State.fltSend_asks (show State.pingDue.flt.arp = [] by decide) 0 m
  have hswitch := State.ethSwitch_noVlan (s := { State.pingDue with flt := flt, free := free })
    (show ∀ v ∈ List.range 16, State.pingDue.on (ETH_VLAN_VALID v) = false by decide) 6 (ethSeal (ethRetag vid b))
  have hopen : ¬ ((State.pingDue.isFenced 0x0D || !State.pingDue.on (ETH_PCTL_EN 6)) = true) := by decide
  have hframe : State.ethFromFlt vid b { State.pingDue with flt := flt, free := free } =
      (fun t : State => { t with eth := { t.eth with
        out := State.pingDue.eth.out, toFlt := State.pingDue.eth.toFlt, reply := ethSeal (ethRetag vid b), replyOut := t.eth.out } })
      (State.ethSwitch 6 (ethSeal (ethRetag vid b)) { State.pingDue with flt := flt, free := free }) := if_neg hopen
  rw [hsend, hframe, hswitch]
  exact ⟨rfl, rfl, fun _ => rfl⟩

/-- Refutes O13 by its clause on PING: the message that FLT sends is a frame of its own that ETH switches from the host port, and with no
VLAN for it ETH counts it as dropped, in a register outside FLT and EVR. -/
theorem not_networkCommandsStayInTheirBlock : ¬ Obligations.NetworkCommandsStayInTheirBlock := by
  rintro ⟨-, -, -, -, -, -, -, -, -, -, -, -, -, -, -, -, -, -, -, hping, -⟩
  have hexec : exec (.ping 0) State.pingDue = .next (State.pingDue.after (State.pingDue.fltSend 0 ⟨3, 0, 0, []⟩)) := by
    rw [exec, execPing, State.atFlt_of (by decide) (by decide) (by decide)]
  have hstart : State.pingDue.quiet = true := by decide
  obtain ⟨hsigs, hpds, hrd⟩ := State.pingDue_fltSend ⟨3, 0, 0, []⟩
  have hquiet : (State.pingDue.fltSend 0 ⟨3, 0, 0, []⟩).quiet = true :=
    State.quiet_of_rd hstart hsigs hpds fun g hg => (hrd g).trans
      (State.rd_wr_other (show (ETH_PCNT_RXDROP 6).key ≠ g.key by revert g; decide) _ _)
  have hkept := (hping State.pingDue 0 _ hstart hexec).regs (ETH_PCNT_RXDROP 6) (by decide) (by decide)
  rw [State.rd_after_quiet hquiet, hrd] at hkept
  exact absurd hkept (by decide)

end Sys2Proof.Machine
end

section
/-! PROOF. What the operations of the dictionary, its transactions and the store do (spec/13_parameter_dictionary_and_store.md). -/
namespace Sys2Proof.Machine

/-! ## Operations through a host mailbox (R363) -/

section
variable {s : State} {k : Nat} (hk : k < 4) (hon : s.domOn 1 = true) (hopen : s.open (PDS_HGO_OP k).addr = true)
include hk hon hopen

/-- A request at an open mailbox is the mailbox's operation. -/
theorem State.request_host (op c : Nat) (m : DictMsg) : s.request op 0 k c none m = s.hostOp op k := by
  rw [State.request, if_neg (by simp [hon, State.pathOpen])]
  rw [if_pos rfl, State.hostWrite_open hopen, Nat.mod_eq_of_lt hk]

variable (hidle : s.on (PDS_HRES_BUSY k) = false)
include hidle

omit hk hon hopen in
/-- An operation but STORE at a mailbox that is not BUSY acts for the host's party and puts its result there. -/
theorem State.hostOp_performs {op : Nat} (hop : op ∈ [1, 2, 3, 4, 5, 7, 8, 9, 12]) : s.hostOp op k =
    (s.perform hostParty op k (s.hostMsg k op)).2.hostResult k op (s.rd (PDS_HLEN_LEN k)) (s.perform hostParty op k (s.hostMsg k op)).1 := by
  simp only [List.mem_cons, List.not_mem_nil, or_false] at hop
  rw [State.hostOp]
  dsimp only
  rw [if_neg (by simp [hidle]; omega), if_neg (by omega)]
  rfl

omit hk hon hopen in
theorem State.hostOp_store : s.hostOp 6 k = (s.wr (PDS_HRES_BUSY k) 1).storeAsk ⟨0, k, s.hostMsg k 6⟩ := by
  rw [State.hostOp]
  dsimp only
  rw [if_neg (by simp [hidle]), if_pos rfl]

end

theorem State.hostOp_busy {s : State} {k : Nat} (hbusy : s.on (PDS_HRES_BUSY k) = true) (op : Nat) : s.hostOp op k = s := by
  rw [State.hostOp]
  dsimp only
  rw [if_pos (by simp [hbusy])]

theorem leBytes_length (n v : Nat) : (leBytes n v).length = n := by
  induction n generalizing v with
  | zero => rfl
  | succ n ih => simp [leBytes, ih]

/-- A WRITE of up to 4 bytes at a mailbox writes the value of HDATA. -/
theorem State.perform_hostWrite {s : State} {k : Nat} (hlen : s.rd (PDS_HLEN_LEN k) ≤ 4) : s.perform hostParty 3 k (s.hostMsg k 3) =
    s.parWrite hostParty (s.rd (PDS_HPID_PID k)) (s.rd (PDS_HOFS_OFS k)) (leBytes (s.rd (PDS_HLEN_LEN k)) (s.rd (PDS_HDATA_DATA k))) := by
  have hdata : (s.hostMsg k 3).data = leBytes (s.rd (PDS_HLEN_LEN k)) (s.rd (PDS_HDATA_DATA k)) := if_pos hlen
  have hwhole : (s.hostMsg k 3).data.length = (s.hostMsg k 3).len := by rw [hdata, leBytes_length]; rfl
  rw [State.perform, if_neg (by simp [hwhole, hostParty]), hdata]
  rfl

/-- Settles O53: each operation is `State.perform` of its number on the mailbox's message, STORE apart. -/
theorem dictionaryOperationsOfTheHostAct : Obligations.DictionaryOperationsOfTheHostAct := by
  refine ⟨?read, ?readeff, ?write, ?commit, ?abort, ?store, ?info, ?restore, ?savedef, ?list, ?busy⟩
  case read =>
    intro s k c m hk hon hopen hidle
    rw [exec, execReadParam, State.request_host hk hon hopen, State.hostOp_performs hidle (by decide), State.ok_eq]
    rfl
  case readeff =>
    intro s k c m hk hon hopen hidle
    rw [exec, execReadeff, State.request_host hk hon hopen, State.hostOp_performs hidle (by decide), State.ok_eq]
    rfl
  case write =>
    intro s k c m hk hon hopen hidle hlen
    rw [exec, execWriteParam, State.request_host hk hon hopen, State.hostOp_performs hidle (by decide), State.perform_hostWrite hlen,
      State.ok_eq]
  case commit =>
    intro s k c m hk hon hopen hidle
    rw [exec, execCommit, State.request_host hk hon hopen, State.hostOp_performs hidle (by decide), State.ok_eq]
    rfl
  case abort =>
    intro s k c m hk hon hopen hidle
    rw [exec, execAbortGroup, State.request_host hk hon hopen, State.hostOp_performs hidle (by decide), State.ok_eq]
    rfl
  case store =>
    intro s k c m hk hon hopen hidle
    rw [exec, execStoreParams, State.request_host hk hon hopen, State.hostOp_store hidle, State.ok_eq]
  case info =>
    intro s k c m hk hon hopen hidle
    rw [exec, execInfo, State.request_host hk hon hopen, State.hostOp_performs hidle (by decide), State.ok_eq]
    rfl
  case restore =>
    intro s k c m hk hon hopen hidle
    rw [exec, execRestoreDefaults, State.request_host hk hon hopen, State.hostOp_performs hidle (by decide), State.ok_eq]
    rfl
  case savedef =>
    intro s k c m hk hon hopen hidle
    rw [exec, execSavedef, State.request_host hk hon hopen, State.hostOp_performs hidle (by decide), State.ok_eq]
    rfl
  case list =>
    intro s k c m hk hon hopen hidle
    rw [exec, execListParams, State.request_host hk hon hopen, State.hostOp_performs hidle (by decide), State.ok_eq]
    rfl
  case busy =>
    intro s k c m hk hon hopen hbusy
    rw [exec, execReadParam, State.request_host hk hon hopen, State.hostOp_busy hbusy, State.ok_eq]

/-! ## Messages of remote clients (R361–R363) -/

section
variable {s : State} {path k c : Nat} (hmin : 1 ≤ path) (hmax : path ≤ 4)
include hmin hmax

/-- A request on an open remote path is a message of its client. -/
theorem State.request_remote (hon : s.domOn 1 = true) (hopen : s.pathOpen path k c = true) (op : Nat) (m : DictMsg) :
    s.request op path k c none m = s.remoteOp op path c { m with op := op } := by
  rw [State.request, if_neg (by simp [hon, hopen])]
  rw [if_neg (by omega)]

section
variable {m : DictMsg} (hnew : (s.touch path c m).awaited path c m = false)
include hnew

theorem State.remoteOp_repeated {r : PdsReply} (hrep : (s.touch path c m).repeated path c m = some r) (op : Nat) :
    s.remoteOp op path c m = (s.touch path c m).reply path c r.msg := by
  rw [State.remoteOp]
  dsimp only
  rw [if_neg (by simp [hnew]), if_neg (by omega), hrep]

variable (hrep : (s.touch path c m).repeated path c m = none)
include hrep

theorem State.remoteOp_login : s.remoteOp 10 path c m = ((s.touch path c m).login path c m).2.reply path c
    { ((s.touch path c m).login path c m).1.msg m with
      sess := if m.data.isEmpty then ((s.touch path c m).login path c m).1.detail else m.sess } := by
  have hremote : path ≠ 6 := by omega
  rw [State.remoteOp]
  dsimp only
  rw [if_neg (by simp [hnew]), if_neg hremote, hrep]
  dsimp only
  rw [if_pos (by simp [hremote])]

theorem State.remoteOp_unknown {op : Nat} (hop : op = 0 ∨ 12 < op) :
    s.remoteOp op path c m = (s.touch path c m).reply path c (Answer.msg { status := 3 } m) := by
  rw [State.remoteOp]
  dsimp only
  rw [if_neg (by simp [hnew]), if_neg (by omega), hrep]
  dsimp only
  rw [if_neg (by simp; omega), if_pos (by simpa using hop)]

theorem State.remoteOp_logout (hsess : ((s.touch path c m).sessOf path c m).isSome = true) :
    s.remoteOp 11 path c m = ((s.touch path c m).endSess m.sess).reply path c (Answer.msg {} m) := by
  rw [State.remoteOp]
  dsimp only
  rw [if_neg (by simp [hnew]), if_neg (by omega), hrep]
  dsimp only
  rw [if_neg (by simp), if_neg (by simp), if_pos (by simp [hsess])]

theorem State.remoteOp_noParty {op : Nat} (hop : 1 ≤ op ∧ op ≤ 9) (hparty : (s.touch path c m).partyOf path c m = none) :
    s.remoteOp op path c m = (s.touch path c m).reply path c (Answer.msg { status := 14 } m) := by
  rw [State.remoteOp]
  dsimp only
  rw [if_neg (by simp [hnew]), if_neg (by omega), hrep]
  dsimp only
  rw [if_neg (by simp; omega), if_neg (by simp; omega), if_neg (by simp; omega), hparty]

theorem State.remoteOp_performs {op : Nat} (hop : 1 ≤ op ∧ op ≤ 5) {who : Party}
    (hparty : (s.touch path c m).partyOf path c m = some who) : s.remoteOp op path c m =
      ((s.touch path c m).perform who op 0 m).2.reply path c (((s.touch path c m).perform who op 0 m).1.msg m) := by
  rw [State.remoteOp]
  dsimp only
  rw [if_neg (by simp [hnew]), if_neg (by omega), hrep]
  dsimp only
  rw [if_neg (by simp; omega), if_neg (by simp; omega), if_neg (by simp; omega), hparty]
  dsimp only
  rw [if_neg (by omega), if_neg (by omega)]

end

end

/-- Settles O54: each operation as a message of its client, by whether it is a repetition and whose party it is. -/
theorem dictionaryOperationsOfClientsAct : Obligations.DictionaryOperationsOfClientsAct := by
  refine ⟨?login, ?logout, ?unknown, ?unknownHost, ?noParty, ?read, ?repeated⟩
  case login =>
    intro s path k c m hmin hmax hon hopen hnew hrep
    rw [exec, execLogin, State.request_remote hmin hmax hon hopen, State.remoteOp_login hmin hmax hnew hrep, State.ok_eq]
  case logout =>
    intro s path k c m hmin hmax hon hopen hnew hrep hsess
    rw [exec, execLogout, State.request_remote hmin hmax hon hopen, State.remoteOp_logout hmin hmax hnew hrep hsess, State.ok_eq]
  case unknown =>
    intro s path k c m hop hmin hmax hon hopen hnew hrep
    rw [exec, execUnknownOp, State.ok_when (by simpa using hop), State.request_remote hmin hmax hon hopen,
      State.remoteOp_unknown hmin hmax hnew hrep hop]
  case unknownHost =>
    intro s k c m hop hk hon hopen
    have hignored : s.hostOp m.op k = s := by
      rw [State.hostOp]
      dsimp only
      rw [if_pos (by simp; omega)]
    rw [exec, execUnknownOp, State.ok_when (by simpa using hop), State.request_host hk hon hopen, hignored]
  case noParty =>
    intro s path k c m hmin hmax hon hopen hnew hrep hparty
    rw [exec, execReadParam, State.request_remote hmin hmax hon hopen,
      State.remoteOp_noParty hmin hmax hnew hrep (by decide) hparty, State.ok_eq]
  case read =>
    intro s path k c m who hmin hmax hon hopen hnew hrep hparty hpath
    rw [exec, execReadParam, State.request_remote hmin hmax hon hopen,
      State.remoteOp_performs hmin hmax hnew hrep (by decide) hparty, State.ok_eq, State.perform, hpath]
  case repeated =>
    intro s path k c m r hmin hmax hon hopen hnew hrep
    rw [exec, execWriteParam, State.request_remote hmin hmax hon hopen, State.remoteOp_repeated hmin hmax hnew hrep, State.ok_eq]

/-! ## Transactions and the store (R364–R372, R529) -/

/-- A store that has started keeps its records. -/
theorem Pds.started_again {p : Pds} (h : p.started = true) : { p with started := true, snap := p.snap } = p := by
  cases p
  cases h
  rfl

section
variable {s : State} (hst : s.rd PDS_STAT_STSTATE = 1) (hheld : s.holds 0 0x12 = true)
include hst hheld

theorem State.storeGrant_first (hnew : s.pds.started = false) : s.storeGrant =
    ((({ s with pds := { s.pds with started := true, snap := s.persistent } }).setBank (storeBank s.storeSeq
      s.persistent)).showBanks.wr PDS_STAT_STSTATE 2) := by
  rw [State.storeGrant, if_pos (by simp [hst, hheld]), hnew]
  rfl

theorem State.storeGrant_again (hold : s.pds.started = true) : s.storeGrant =
    ((s.setBank (storeBank (if s.pds.bank then s.pds.bankB.seq else s.pds.bankA.seq) s.pds.snap)).showBanks.wr PDS_STAT_STSTATE 2) := by
  have hsame : s.setPds (fun p => { p with started := true, snap := s.pds.snap }) = s :=
    congrArg (fun p => { s with pds := p }) (Pds.started_again hold)
  rw [State.storeGrant, if_pos (by simp [hst, hheld])]
  simp only [hold, Bool.not_true, Bool.false_eq_true, if_false, hsame]

end

section
variable {s : State} (hst : s.rd PDS_STAT_STSTATE = 3) (hheld : s.holds 0 0x12 = true)
include hst hheld

theorem State.storeVerify_good (hsound : s.storeNow.spoilt = false) (hfits : s.storeNow.len ≤ 3145728) :
    s.storeVerify true = s.storeDone := by
  rw [State.storeVerify, if_neg (by simp [hst, hheld]), if_pos (by simp [hsound, hfits])]

theorem State.storeVerify_bad {good : Bool} (hbad : good = false ∨ s.storeNow.spoilt = true ∨ 3145728 < s.storeNow.len) :
    s.storeVerify good = if !s.pds.rewrote then ({ s with pds := { s.pds with rewrote := true } }).wr PDS_STAT_STSTATE 2
      else s.storeFail 2 := by
  have hnot : ¬ ((good && !s.storeNow.spoilt && decide (s.storeNow.len ≤ 3145728)) = true) := by
    rcases hbad with hread | hspoilt | hlong
    · simp [hread]
    · simp [hspoilt]
    · simp [Nat.not_le.mpr hlong]
  rw [State.storeVerify, if_neg (by simp [hst, hheld]), if_neg hnot]
  rfl

end

/-- A store whose lease is gone in WRITE or VERIFY asks anew once, then fails. -/
theorem State.storeRevoked_of {s : State} (hst : s.rd PDS_STAT_STSTATE = 2 ∨ s.rd PDS_STAT_STSTATE = 3) (hgone : s.holds 0 0x12 = false) :
    s.storeRevoked = if s.pds.revoked != 0 then s.storeFail 1
      else ((({ s with pds := { s.pds with revoked := 1, leaseAt := s.now } }).wr PDS_STAT_STSTATE 1).requestLease 0 0x12) := by
  rw [State.storeRevoked]
  dsimp only
  rw [if_neg (by simp [hgone]; omega)]
  rfl

/-- Settles O55: the operation of each command while PDS is powered, a step of the store by its state and its lease. -/
theorem transactionsLocksAndTheStoreAct : Obligations.TransactionsLocksAndTheStoreAct := by
  refine ⟨?handOver, ?apply, ?withdraw, ?lock, ?session, ?block, ?copy, ?grant, ?grantAgain, ?timeout, ?written, ?verified, ?rewrite, ?failed,
    ?revoked, ?revokedAgain, ?load⟩
  case handOver =>
    intro s hon
    rw [exec, execGroupHandover, State.ok_ifOn hon]
  case apply =>
    intro s hon
    rw [exec, execGroupApply, State.ok_ifOn hon]
  case withdraw =>
    intro s hon
    rw [exec, execTransactionWithdraw, State.ok_ifOn hon]
  case lock =>
    intro s hon
    rw [exec, execLockExpiry, State.ok_ifOn hon]
  case session =>
    intro s hon
    rw [exec, execSessionExpiry, State.ok_ifOn hon]
  case block =>
    intro s hon
    rw [exec, execLoginBlockEnd, State.ok_ifOn hon, State.setPds]
  case copy =>
    intro s hon
    rw [exec, execBankCopyDone, State.ok_ifOn hon, State.setPds]
  case grant =>
    intro s hon hst hheld hnew
    rw [exec, execStoreLeaseGrant, State.ok_ifOn hon, State.storeGrant_first hst hheld hnew]
  case grantAgain =>
    intro s hon hst hheld hold
    rw [exec, execStoreLeaseGrant, State.ok_ifOn hon, State.storeGrant_again hst hheld hold]
  case timeout =>
    intro s hon hst hnot hdue
    rw [exec, execStoreLeaseTimeout, State.ok_when (by simp [hon, hst, hnot, hdue])]
  case written =>
    intro s hon hst hheld
    rw [exec, execStoreWriteDone, State.ok_when (by simp [hon, hst, hheld])]
  case verified =>
    intro s hon hst hheld hsound hfits
    rw [exec, execStoreVerifyDone, State.ok_ifOn hon, State.storeVerify_good hst hheld hsound hfits]
  case rewrite =>
    intro s good hon hst hheld hbad hfirst
    rw [exec, execStoreVerifyDone, State.ok_ifOn hon, State.storeVerify_bad hst hheld hbad, if_pos (by simp [hfirst])]
  case failed =>
    intro s good hon hst hheld hbad hsecond
    rw [exec, execStoreVerifyDone, State.ok_ifOn hon, State.storeVerify_bad hst hheld hbad, if_neg (by simp [hsecond])]
  case revoked =>
    intro s hon hst hgone hfirst
    rw [exec, execStoreLeaseRevoked, State.ok_ifOn hon, State.storeRevoked_of hst hgone, if_neg (by simp [hfirst])]
  case revokedAgain =>
    intro s hon hst hgone hsecond
    rw [exec, execStoreLeaseRevoked, State.ok_ifOn hon, State.storeRevoked_of hst hgone, if_pos (by simp [hsecond])]
  case load =>
    intro s hon hmay hstep hboot hnew
    have hsix : s.pwrStep = 6 := hstep
    rw [exec, execParameterLoad, State.okMgr_eq, State.when_of (by simp [hon, hmay, hsix, hboot, hnew])]

/-! ## Staging (R364, R365) -/

/-- What staging leaves as it was: every register field, every table in effect, memory, and the locks. -/
structure State.Staged (s t : State) : Prop where
  rd    : ∀ f : Fld, t.rd f = s.rd f
  blobs : t.blobs = s.blobs
  mem   : t.mem = s.mem

theorem State.Staged.refl (s : State) : s.Staged s := ⟨fun _ => rfl, rfl, rfl⟩

theorem State.Staged.trans {s t u : State} (h : s.Staged t) (k : t.Staged u) : s.Staged u :=
  ⟨fun f => (k.rd f).trans (h.rd f), k.blobs.trans h.blobs, k.mem.trans h.mem⟩

theorem State.Staged.foldl {α : Type} {g : State → α → State} (hg : ∀ t a, State.Staged t (g t a)) (l : List α) (s : State) :
    s.Staged (l.foldl g s) := by
  induction l generalizing s with
  | nil => exact .refl s
  | cons a l ih => exact (hg s a).trans (ih _)

theorem State.unlock_staged (g : Grp) (s : State) : s.Staged (s.unlock g) := by
  have hfields : (s.setPds (fun p => { p with locks := p.locks.filter (fun l => l.grp != g) })).Staged
      (g.flds.foldl (fun t f => t.unstage f) (s.setPds (fun p => { p with locks := p.locks.filter (fun l => l.grp != g) }))) :=
    State.Staged.foldl (g := fun t f => t.unstage f) (fun _ _ => ⟨fun _ => rfl, rfl, rfl⟩) _ _
  exact ⟨hfields.rd, hfields.blobs, hfields.mem⟩

theorem State.takeLock_staged (g : Grp) (party : Nat) (s : State) : s.Staged (s.takeLock g party) := by
  have hfreed : s.Staged (s.when (s.lockedFor g party) (State.unlock g)) := by
    cases s.lockedFor g party with
    | false => exact .refl s
    | true => exact s.unlock_staged g
  exact ⟨hfreed.rd, hfreed.blobs, hfreed.mem⟩

/-- A party that takes a group's lock has it. -/
theorem State.takeLock_lockOf (g : Grp) (party : Nat) (s : State) : ((s.takeLock g party).lockOf g).map (·.party) = some party := by
  rw [State.lockOf, State.takeLock]
  dsimp only [State.setPds]
  rw [List.find?_append, List.find?_eq_none.mpr (by simp)]
  simp

/-- Staging fields changes no lock. -/
theorem State.lockOf_stages (g : Grp) (h : Fld → Nat) (l : List Fld) (s : State) :
    (l.foldl (fun t f => t.stage f (h f)) s).lockOf g = s.lockOf g := by
  induction l generalizing s with
  | nil => rfl
  | cons f l ih => exact ih _

section
variable {p : PDef} {g : Grp} {l : List Fld} (hgrp : p.grp = some g) (hkind : p.kind = .flds l)
include hgrp hkind

/-- A value of a group's registers that passes the last checks is staged under the group's lock; else nothing changes. -/
theorem State.parStore_flds (who : Party) (pid ofs : Nat) (d : List Nat) (s : State) :
    ((s.parStore who pid ofs d p).1.status ≠ 0 ∧ (s.parStore who pid ofs d p).2 = s) ∨
      ∃ h : Fld → Nat, s.parStore who pid ofs d p = ({}, (PDef.open_ l).foldl (fun t f => t.stage f (h f)) (s.takeLock g who.id)) := by
  have hfixed : p.varies = false := by rw [PDef.varies, hkind]
  rw [State.parStore, hfixed, if_neg Bool.false_ne_true]
  dsimp only
  split
  · exact .inl ⟨Nat.succ_ne_zero _, rfl⟩
  · split
    · exact .inl ⟨Nat.succ_ne_zero _, rfl⟩
    · rw [hkind, hgrp]
      dsimp only
      split
      · exact .inl ⟨Nat.succ_ne_zero _, rfl⟩
      · exact .inr ⟨_, rfl⟩

/-- A WRITE to registers of a group either fails and changes nothing, or stages under the group's lock. -/
theorem State.parWrite_flds {pid : Nat} (hdict : dictFind pid = some p) (who : Party) (ofs : Nat) (d : List Nat) (s : State) :
    ((s.parWrite who pid ofs d).1.status ≠ 0 ∧ (s.parWrite who pid ofs d).2 = s) ∨
      ∃ h : Fld → Nat, s.parWrite who pid ofs d = ({}, (PDef.open_ l).foldl (fun t f => t.stage f (h f)) (s.takeLock g who.id)) := by
  rw [State.parWrite, hdict]
  dsimp only
  rw [hgrp]
  dsimp only
  split
  · exact .inl ⟨Nat.succ_ne_zero _, rfl⟩
  · split
    · exact .inl ⟨Nat.succ_ne_zero _, rfl⟩
    · split
      · exact .inl ⟨Nat.succ_ne_zero _, rfl⟩
      · split
        · exact .inl ⟨Nat.succ_ne_zero _, rfl⟩
        · split
          · exact .inl ⟨Nat.succ_ne_zero _, rfl⟩
          · split
            · exact .inl ⟨Nat.succ_ne_zero _, rfl⟩
            · exact State.parStore_flds hgrp hkind who pid ofs d s

end

/-- A WRITE to a group that another party has locked is refused. -/
theorem State.parWrite_locked {s : State} {who : Party} {pid : Nat} {p : PDef} {g : Grp} {d : List Nat} (hdict : dictFind pid = some p)
    (hmay : p.mayWrite who.role = true) (hwr : p.wr ≠ 4) (hd : d ≠ []) (hgrp : p.grp = some g) (htsv : who.id ≠ 0xFFFF)
    (hlock : s.lockedFor g who.id = true) (ofs : Nat) : s.parWrite who pid ofs d = ({ status := 5 }, s) := by
  rw [State.parWrite, hdict]
  dsimp only
  rw [if_neg hwr, if_neg (by simp [hmay]), if_neg (by simpa using hd), if_pos (by simp [hgrp, htsv, hlock])]

/-- Settles O56: a refused WRITE by the lock's check, any other by whether it fails or stages. -/
theorem stagingLeavesWhatIsInEffect : Obligations.StagingLeavesWhatIsInEffect := by
  refine ⟨?locked, ?stages⟩
  case locked =>
    intro s who pid ofs d p g hdict hmay hwr hd hgrp htsv hlock
    rw [State.parWrite_locked hdict hmay hwr hd hgrp htsv hlock]
    exact ⟨rfl, rfl⟩
  case stages =>
    intro s who pid ofs d p g l hdict hgrp hkind
    rcases State.parWrite_flds hgrp hkind hdict who ofs d s with ⟨hfails, hsame⟩ | ⟨h, hstages⟩
    · rw [hsame]
      exact ⟨fun _ => rfl, rfl, fun _ => rfl, fun hok => absurd hok hfails⟩
    · have hkept : s.Staged ((PDef.open_ l).foldl (fun t f => t.stage f (h f)) (s.takeLock g who.id)) :=
        (s.takeLock_staged g who.id).trans (State.Staged.foldl (g := fun t f => t.stage f (h f)) (fun _ _ => ⟨fun _ => rfl, rfl, rfl⟩) _ _)
      rw [hstages]
      refine ⟨hkept.rd, hkept.blobs, fun a => ?_, fun _ => ?_⟩
      · rw [State.ldb, hkept.mem, State.ldb]
      · rw [State.lockOf_stages, State.takeLock_lockOf]

end Sys2Proof.Machine
end

section
/-! PROOF. What Tocsin's detection, its requests and the lease commands do (spec/14_safety_supervision_and_reset.md). -/
namespace Sys2Proof.Machine

/-! ## Requests of resets (R394) -/

/-- The blocks that the host may reset are those of Table 0.3 but SYS, TSV, THM, PDS and EVR. -/
theorem resetBlock_iff (b : Nat) : [0x02, 0x03, 0x04, 0x05, 0x06, 0x07, 0x08, 0x09, 0x0A, 0x0B, 0x0C, 0x0D, 0x0E, 0x10, 0x13].contains b = true ↔
    b < 20 ∧ b ∉ [0x00, 0x01, 0x0F, 0x12, 0x11] := by
  simp only [List.contains_iff_mem, List.mem_cons, List.not_mem_nil, or_false]
  omega

/-- The fields of a word written to TSV_RSTREQ. -/
theorem bits_key (v : Nat) : bits v 0 16 = v % 65536 := by simp [bits]
theorem bits_target (v : Nat) : bits v 16 8 = v / 2 ^ 16 % 256 := by simp [bits, Nat.shiftRight_eq_div_pow]
theorem bits_kind (v : Nat) : bits v 28 4 = v / 2 ^ 28 % 16 := by simp [bits, Nat.shiftRight_eq_div_pow]

section
variable {v : Nat} (hkey : v % 65536 = 0xA77A)
include hkey

theorem resetRequest_block (hkind : v / 2 ^ 28 % 16 = 1) (hrange : v / 2 ^ 16 % 256 < 20)
    (hblock : v / 2 ^ 16 % 256 ∉ [0x00, 0x01, 0x0F, 0x12, 0x11]) : resetRequest v = some ⟨4, v / 2 ^ 16 % 256, 1, 0xF, false⟩ := by
  rw [resetRequest]
  rw [bits_key, bits_kind, bits_target, if_neg (by simp [hkey]), if_pos hkind, if_pos ((resetBlock_iff _).mpr ⟨hrange, hblock⟩)]

theorem resetRequest_domain (hkind : v / 2 ^ 28 % 16 = 2) (hdom : v / 2 ^ 16 % 256 ∈ [4, 5, 6, 7, 8, 9, 10, 13]) :
    resetRequest v = some ⟨3, v / 2 ^ 16 % 256, 1, 0xF, false⟩ := by
  rw [resetRequest]
  rw [bits_key, bits_kind, bits_target, if_neg (by simp [hkey]), if_neg (by omega), if_pos hkind, if_pos (List.contains_iff_mem.mpr hdom)]

theorem resetRequest_app (hkind : v / 2 ^ 28 % 16 = 3) : resetRequest v = some ⟨3, 3, 1, 0xF, false⟩ := by
  rw [resetRequest]
  rw [bits_key, bits_kind, if_neg (by simp [hkey]), if_neg (by omega), if_neg (by omega), if_pos hkind]

end

/-- No other value asks for a reset. -/
theorem resetRequest_none {v : Nat}
    (hbad : ¬ (v % 65536 = 0xA77A ∧ (v / 2 ^ 28 % 16 = 1 ∧ v / 2 ^ 16 % 256 < 20 ∧ v / 2 ^ 16 % 256 ∉ [0x00, 0x01, 0x0F, 0x12, 0x11]
      ∨ v / 2 ^ 28 % 16 = 2 ∧ v / 2 ^ 16 % 256 ∈ [4, 5, 6, 7, 8, 9, 10, 13] ∨ v / 2 ^ 28 % 16 = 3))) : resetRequest v = none := by
  rw [resetRequest]
  rw [bits_key, bits_kind, bits_target]
  by_cases hkey : v % 65536 = 0xA77A
  case neg => exact if_pos (by simp [hkey])
  case pos =>
    rw [if_neg (by simp [hkey])]
    have hno := fun h => hbad ⟨hkey, h⟩
    split
    next hkind => exact if_neg fun h => hno (.inl ⟨hkind, (resetBlock_iff _).mp h⟩)
    next =>
      split
      next hkind => exact if_neg fun h => hno (.inr (.inl ⟨hkind, List.contains_iff_mem.mp h⟩))
      next => exact if_neg fun h => hno (.inr (.inr h))

/-- A reset of a domain that the host may ask for is one of RT, CEN, FUS, VIS, GNS, NET, DSP, SOL or APP. -/
theorem resetRequest_domain_mem {v : Nat} {o : ResetOrder} (ho : resetRequest v = some o) (hkind : o.kind = 3) :
    o.target ∈ [3, 4, 5, 6, 7, 8, 9, 10, 13] := by
  rw [resetRequest] at ho
  split at ho
  · exact absurd ho (by simp)
  · split at ho
    · split at ho
      · cases ho
        exact absurd hkind (Nat.succ_ne_self 3)
      · exact absurd ho (by simp)
    · split at ho
      · split at ho
        next hdom =>
          cases ho
          exact List.mem_cons_of_mem _ (List.contains_iff_mem.mp hdom)
        next => exact absurd ho (by simp)
      · split at ho
        · cases ho
          exact List.mem_cons_self
        · exact absurd ho (by simp)

theorem exec_rstreq_order {s : State} {v : Nat} {o : ResetOrder} (hopen : s.open TSV_RSTREQ_KEY.addr = true)
    (ho : resetRequest v = some o) : exec (.rstreq v) s = .next (s.after (s.orderReset o)) := by
  rw [exec, execRstreq, State.ok_hostWrite hopen, ho]

theorem exec_rstreq_ignored {s : State} {v : Nat} (hopen : s.open TSV_RSTREQ_KEY.addr = true) (ho : resetRequest v = none) :
    exec (.rstreq v) s = .next (s.after (s.emitSec 0x0111 0 (fun _ => [addrOff TSV_RSTREQ_KEY.addr]))) := by
  rw [exec, execRstreq, State.ok_hostWrite hopen, ho]
  rfl

/-- An order that waits already is not queued again. -/
theorem State.orderReset_new {s : State} {o : ResetOrder} (h : s.tsv.orders.contains o = false) :
    s.orderReset o = { s with tsv := { s.tsv with orders := s.tsv.orders ++ [o] } } := by
  rw [State.orderReset, if_neg (by simpa using h)]
  rfl

/-- Settles O9: what `resetRequest` makes of each kind of value, and that an order is queued in Tocsin alone. -/
theorem resetRequestsAreKeyedAndLimited : Obligations.ResetRequestsAreKeyedAndLimited := by
  refine ⟨?block, ?domain, ?app, ?ignored, ?queued, ?never⟩
  case block => exact fun _ _ hopen hkey hkind hrange hblock => exec_rstreq_order hopen (resetRequest_block hkey hkind hrange hblock)
  case domain => exact fun _ _ hopen hkey hkind hdom => exec_rstreq_order hopen (resetRequest_domain hkey hkind hdom)
  case app => exact fun _ _ hopen hkey hkind => exec_rstreq_order hopen (resetRequest_app hkey hkind)
  case ignored =>
    intro s v hopen hbad
    rw [exec_rstreq_ignored hopen (resetRequest_none hbad)]
    rfl
  case queued =>
    intro s o hnew
    rw [State.orderReset_new hnew]
    exact ⟨rfl, { State.only.refl _ s with tsv := .inl (List.mem_singleton.mpr rfl) }⟩
  case never =>
    intro v o ho hkind
    have hmem := resetRequest_domain_mem ho hkind
    simp only [List.mem_cons, List.not_mem_nil, or_false] at hmem ⊢
    omega

/-! ## Detection (R375–R382, R390–R392) -/

/-- The lockstep mismatches of the last 10 s, with the one of now (R382). -/
def State.mismatches (s : State) : List Nat := s.now :: s.tsv.mismatch.filter (fun t => decide (s.now < t + 10000000000))

/-- A lockstep mismatch is kept, and told by EV 0x010D. -/
def State.mismatchTold (s : State) : State :=
  ({ s with tsv := { s.tsv with mismatch := s.mismatches } }).emit 0x010D [s.mismatches.length]

section
variable {s : State} (hon : s.blockOn 0x01 = true)
include hon

/-- While SAF is on, what Tocsin does under its condition has its effect. -/
theorem State.tocsin_of {c : Bool} (hc : c = true) (f : State → State) : s.tocsin c f = .next (s.after (f s)) := by
  rw [State.tocsin, State.ok_when (by simp [hon, hc])]

theorem exec_eccError_lost (who mem addr : Nat) : exec (.eccError who mem addr true) s = .next (s.after (s.eccLost who mem addr)) := by
  rw [exec, execEccError, State.tocsin_of hon rfl, if_pos rfl]

theorem exec_lockstepMismatch_on : exec .lockstepMismatch s = .next (s.after (if 3 ≤ s.mismatches.length
    then (s.mismatchTold.rowReport 1 0xFF).tsvHold 0xFF 3 1 true else s.mismatchTold.tsvFire 1 0)) := by
  rw [exec, execLockstepMismatch, State.tocsin_of hon rfl]
  rfl

/-- The self-test of a start of SAF ends once, at STEP 2. -/
theorem State.tocsin_selfTest (hrun : s.on TSV_STAT_STDONE = false) (hstep : s.rd SYS_PWRSTAT_STEP = 2) (f : State → State) :
    s.tocsin (!s.on TSV_STAT_STDONE && s.pwrStep = 2) f = .next (s.after (f s)) := by
  have hsaf : s.pwrStep = 2 := hstep
  rw [State.tocsin_of hon (by simp [hrun, hsaf])]

end

/-- The hour of the corrected errors does not move module time. -/
theorem State.eccHour_now (s : State) : s.eccHour.now = s.now := by
  rw [State.eccHour]
  split
  · rfl
  · rfl

theorem State.slevel_emit (code : Nat) (ps : List Nat) (s : State) : (s.emit code ps).slevel = s.slevel :=
  State.rd_emit (by decide) (by decide) code ps s

/-- Settles O57: each detection under its own conditions; an uncorrectable error by whose it is. -/
theorem tocsinDetectionActs : Obligations.TocsinDetectionActs := by
  refine ⟨?clock, ?mismatch, ?third, ?heartbeat, ?corrected, ?lost, ?lostFus, ?lostTsv, ?lostCore, ?scrubSram, ?scrubDram, ?kick, ?expiry,
    ?bootExpiry, ?stuck, ?steering, ?speed, ?passes, ?fails⟩
  case clock =>
    intro s c hon
    rw [exec, execClockFault, State.tocsin_of hon rfl]
  case mismatch =>
    intro s hon hfew
    have hbelow : s.mismatches.length < 3 := hfew
    rw [exec_lockstepMismatch_on hon, if_neg (Nat.not_le.mpr hbelow)]
    rfl
  case third =>
    intro s hon hmany
    have hthird : 3 ≤ s.mismatches.length := hmany
    rw [exec_lockstepMismatch_on hon, if_pos hthird]
    rfl
  case heartbeat =>
    intro s hon
    rw [exec, execHeartbeatLost, State.tocsin_of hon rfl]
  case corrected =>
    intro s who mem addr hon
    rw [exec, execEccError, State.tocsin_of hon rfl, if_neg Bool.false_ne_true]
  case lost =>
    intro s who mem addr hon hcore htsv hfus
    rw [exec_eccError_lost hon, State.eccLost]
    rw [if_neg (by simp only [Bool.and_eq_true, decide_eq_true_eq]; omega), if_neg htsv, if_neg hfus]
    rfl
  case lostFus =>
    intro s mem addr hon
    rw [exec_eccError_lost hon]
    rfl
  case lostTsv =>
    intro s mem addr hon
    rw [exec_eccError_lost hon]
    rfl
  case lostCore =>
    intro s who mem addr hon hmin hmax
    rw [exec_eccError_lost hon, State.eccLost]
    rw [if_pos (by simp [hmin, hmax])]
    rfl
  case scrubSram =>
    intro s hon hdue
    rw [exec, execMemoryScrub, State.tocsin_of hon (by simp [hdue]), s.eccHour_now]
    rfl
  case scrubDram =>
    intro s hon happ hdue
    rw [exec, execMemoryScrub, State.tocsin_of hon (by simp [hdue, happ]), s.eccHour_now]
    rfl
  case kick =>
    intro s k v hk hopen
    rw [exec, execWdkick, State.ok_when (decide_eq_true hk), State.hostWrite_open hopen]
  case expiry =>
    intro s k hon hk hrun hdue
    rw [exec, execWatchdogExpiry, State.tocsin_of hon (by simp [hk, hrun, hdue])]
    rfl
  case bootExpiry =>
    intro s hon hrun hdue
    rw [exec, execBootWatchdogExpiry, State.tocsin_of hon (by simp [hrun, hdue])]
    rfl
  case stuck =>
    intro s hon hsol hgrid
    rw [exec, execStuckCheck, State.tocsin_of hon (by simp [hsol, hgrid])]
  case steering =>
    rintro s _ hon hgrid rfl
    rw [exec, execSteeringCheck, State.tocsin_of hon (decide_eq_true hgrid)]
    rfl
  case speed =>
    rintro s _ hon hgrid rfl
    rw [exec, execGroundSpeedCheck, State.tocsin_of hon (decide_eq_true hgrid)]
    rfl
  case passes =>
    intro s hon hrun hstep
    rw [exec, execSelfTestDone]
    exact State.tocsin_selfTest hon hrun hstep _
  case fails =>
    intro s n hon hrun hstep hlevel
    rw [State.slevel_emit] at hlevel
    rw [exec, execSelfTestDone]
    exact (State.tocsin_selfTest hon hrun hstep _).trans
      (congrArg (fun t => Host.Outcome.next (s.after t)) (State.when_of (bne_iff_ne.mpr hlevel) _ _))

/-! ## Requests and leases (R388, R393–R403) -/

/-- What RESET answers with AON on and no power fail or shut-down under way. -/
theorem exec_reset_may {s : State} (hmay : s.mayStart = true) (hon : s.domOn 1 = true) (own : Option (Nat × Nat × Nat)) :
    exec (.reset own) s = .next (s.afterMgr (match own with
      | some (k, t, src) => if ownReset k t src then s.doReset ⟨k, t, src, 0xF, false⟩ else s
      | none =>
        match s.tsv.orders with
        | o :: r => State.doReset o { s with tsv := { s.tsv with orders := r } }
        | [] => s)) := by
  rw [exec, execReset, State.okMgr_eq, State.when_of (by simp [hmay, hon])]
  rfl

/-- A reset that is not begun yet, of a block that is on or of more than one: the level and the revocations first. -/
theorem State.doReset_begins {s : State} {o : ResetOrder} (hscope : o.kind ≠ 4 ∨ s.blockOn o.target = true) (hnew : o.begun = false) :
    s.doReset o = if (s.resetBegin o).resetWaits o
      then { s.resetBegin o with tsv := { (s.resetBegin o).tsv with orders := { o with begun := true } :: (s.resetBegin o).tsv.orders } }
      else (s.resetBegin o).resetActs o := by
  have hacts : ¬ ((o.kind = 4 && !s.blockOn o.target) = true) := by
    rcases hscope with hkind | hon
    · simp [hkind]
    · simp [hon]
  rw [State.doReset, if_neg hacts]
  dsimp only
  simp only [hnew, Bool.false_eq_true, if_false]
  rfl

/-- Settles O58: each request by its key, a reset by whether an order waits and whether a lease in its scope is being rolled back. -/
theorem tocsinRequestsAndLeaseCommandsAct : Obligations.TocsinRequestsAndLeaseCommandsAct := by
  refine ⟨?attach, ?attachNoKey, ?lastly, ?ssreq, ?ssreqNoKey, ?order, ?ignored, ?resetNext, ?resetOwn, ?resetActs, ?resetWaits, ?resetNone,
    ?supervisor, ?coldStart, ?orphan, ?managers, ?request, ?return_, ?renew, ?expiry, ?revoke, ?rollback⟩
  case attach =>
    intro s v hopen hkey
    rw [exec, execAttach, State.ok_hostWrite hopen, State.when_of (decide_eq_true hkey), State.attachAsk]
  case attachNoKey =>
    intro s v hopen hkey
    rw [exec, execAttach, State.ok_hostWrite hopen, State.when_not (decide_eq_false hkey)]
  case lastly =>
    intro s a hask hdue
    rw [State.lastly, State.when_not (by simp [hdue]), State.when_of (by simp [hask]), State.attachAll, hask]
    rfl
  case ssreq =>
    intro s v hopen hkey
    rw [exec, execSsreq, State.ok_hostWrite hopen, State.when_of (decide_eq_true hkey)]
  case ssreqNoKey =>
    intro s v hopen hkey
    rw [exec, execSsreq, State.ok_hostWrite hopen, State.when_not (decide_eq_false hkey)]
  case order => exact fun _ _ _ hopen ho => exec_rstreq_order hopen ho
  case ignored => exact fun _ _ hopen ho => exec_rstreq_ignored hopen ho
  case resetNext =>
    intro s o r hmay hon horders
    rw [exec_reset_may hmay hon]
    dsimp only
    rw [horders]
  case resetOwn =>
    intro s k t src hmay hon hown
    rw [exec_reset_may hmay hon]
    dsimp only
    rw [if_pos hown]
  case resetActs =>
    intro s o hscope hnew hfree
    rw [State.doReset_begins hscope hnew, if_neg (by simp [hfree])]
  case resetWaits =>
    rintro s o _ hscope hnew rfl hwaits
    rw [State.doReset_begins hscope hnew, if_pos hwaits]
  case resetNone =>
    intro s hmay hon horders
    rw [exec_reset_may hmay hon]
    dsimp only
    rw [horders]
  case supervisor =>
    intro s v role hon
    rw [exec, execSupervisorResetCommand, State.ok_ifOn hon]
  case coldStart =>
    intro s v role hon
    rw [exec, execColdStartCommand, State.ok_ifOn hon]
  case orphan =>
    intro s g e hon hg hrunning hdue
    have hover : s.orphanDue g = true := by
      rw [State.orphanDue, hrunning]
      exact decide_eq_true hdue
    rw [exec, execOrphanExpiry, State.ok_when (by simp [hon, hg, hover])]
  case managers =>
    intro s hon hout
    rw [exec, execTsvUnavailable, State.ok_when (by simp [hon, hout])]
  case request =>
    intro s r h hr hlive
    rw [exec, execLeaseRequest, State.ok_when (by simp [hr, hlive])]
  case return_ =>
    intro s r h hr hlive hheld
    rw [exec, execLeaseReturn, State.ok_when (by simp [hr, hlive, hheld]), if_neg Bool.false_ne_true]
  case renew =>
    intro s r h hr hlive hheld
    rw [exec, execLeaseReturn, State.ok_when (by simp [hr, hlive, hheld]), if_pos rfl]
  case expiry =>
    intro s r hr hon hst hlimited hdue
    rw [exec, execLeaseExpiry]
    rw [State.ok_when (by simp [hr, hon, hst, hlimited, hdue])]
  case revoke =>
    intro s r cause party hr hon hmay
    rw [exec, execLeaseRevoke, State.ok_when (by simp [hr, hon, hmay])]
  case rollback =>
    intro s r hr hon hst
    rw [exec, execRollbackComplete, State.okMgr_eq, State.when_of (by simp [hr, hon]), State.rollbackDone]
    dsimp only
    rw [if_neg (by simp [hst])]

end Sys2Proof.Machine
end

section
/-! PROOF. Run-on and shut-down (spec/15_power_thermal_and_cooling.md, R413–R416). -/
namespace Sys2Proof.Machine

/-- What a step of Table 15.3 answers while the module runs and no power fail is under way. -/
theorem exec_shutdownStep_runs {s : State} (hrun : s.running = true) (hfail : s.mgr.failAt = none) (v : Nat) :
    exec (.shutdownStep v) s = .next (s.afterMgr (s.sdNext v)) := by
  rw [exec, execShutdownStep, State.okMgr_eq, State.when_of (by simp [hrun, hfail])]

/-- With IGN low under SHUTDOWN, run-on (STEP 8) ends at once. -/
theorem State.ignLow_shutdown {s : State} (hmay : s.mayStart = true) (hlevel : s.slevel = 3) (hstep : s.rd SYS_PWRSTAT_STEP = 8) :
    s.ignLow = (s.wr SYS_PWRSTAT_IGN 0).offAtOnce := by
  have hmay' : (s.wr SYS_PWRSTAT_IGN 0).mayStart = true := hmay
  have hlevel' : (s.wr SYS_PWRSTAT_IGN 0).slevel = 3 := (State.rd_wr_other (by decide) 0 s).trans hlevel
  have hstep' : (s.wr SYS_PWRSTAT_IGN 0).pwrStep = 8 := (State.rd_wr_other (by decide) 0 s).trans hstep
  rw [State.ignLow]
  rw [if_neg (by simp [hmay', hstep', hlevel']), if_neg (by simp [hstep']), if_neg (by simp [hlevel'])]

theorem State.offAtOnce_sd (s : State) : s.offAtOnce.sd = { ix := some 0, left := if s.pwrStep = 8 then 7 else s.pwrStep, atOnce := true } := by
  rw [State.offAtOnce, (State.only_emit _ _ _).sd]
  rfl

/-- Settles O60: each event under its own conditions, the steps of Table 15.3 by the index of the next one. -/
theorem keyOffActs : Obligations.KeyOffActs := by
  refine ⟨?ignWait, ?ignRuns, ?ignShutdown, ?shutdown, ?sleep, ?sleepIgn, ?runOn, ?ignOtherWait, ?s0, ?s1, ?s2, ?s3, ?s4, ?s5, ?last, ?cancel,
    ?noCancel⟩
  case ignWait =>
    intro s hwait hsrc
    rw [exec, execIgnOff, State.okMgr_eq, hwait]
    dsimp only [State.setMgr]
    rw [if_pos hsrc]
  case ignRuns =>
    intro s hrun
    have hka : s.mgr.ka = .running := of_decide_eq_true hrun
    rw [exec, execIgnOff, State.okMgr_eq, hka]
  case ignShutdown =>
    intro s hrun hmay hlevel hstep
    have hka : s.mgr.ka = .running := of_decide_eq_true hrun
    rw [exec, execIgnOff, State.okMgr_eq, hka]
    dsimp only
    rw [State.ignLow_shutdown hmay hlevel hstep]
  case shutdown =>
    intro s hmay hon hign
    rw [s.offAtOnce_sd]
    exact ⟨State.when_of (by simp [hmay, hon, hign]) _ s, rfl, rfl⟩
  case sleep =>
    intro s key hopen hkey hstep hign
    have hrunOn : s.pwrStep = 8 := hstep
    rw [exec, execSleep, State.okMgr_eq, State.hostWrite_open hopen, State.when_of (by simp [hkey, hrunOn, hign])]
  case sleepIgn =>
    intro s key hopen hign
    rw [exec, execSleep, State.okMgr_eq, State.hostWrite_open hopen, State.when_not (by simp [hign])]
  case runOn =>
    intro s hrun hfail hstep hend
    have hrunOn : s.pwrStep = 8 := hstep
    rw [exec, execRunOnEnd, State.okMgr_eq, State.when_of (by simp [hrun, hfail, hrunOn, hend])]
  case ignOtherWait =>
    intro s hwait hsrc
    rw [exec, execIgnOff, State.okMgr_eq, hwait]
    dsimp only [State.setMgr]
    rw [if_neg hsrc]
  case s0 =>
    intro s v hrun hfail hix
    simp only [exec_shutdownStep_runs hrun hfail, State.sdNext, hix]
  case s1 =>
    intro s v hrun hfail hix
    simp only [exec_shutdownStep_runs hrun hfail, State.sdNext, hix]
  case s2 =>
    intro s v hrun hfail hix hdsp
    simp only [exec_shutdownStep_runs hrun hfail, State.sdNext, hix, State.when_of hdsp]
  case s3 =>
    intro s v hrun hfail hix hdone
    simp only [exec_shutdownStep_runs hrun hfail, State.sdNext, hix, if_pos hdone]
  case s4 =>
    intro s v hrun hfail hix
    simp only [exec_shutdownStep_runs hrun hfail, State.sdNext, hix]
  case s5 =>
    intro s v hrun hfail hix hstore
    simp only [exec_shutdownStep_runs hrun hfail, State.sdNext, hix, if_pos hstore]
  case last =>
    intro s v hrun hfail hix
    simp only [exec_shutdownStep_runs hrun hfail, State.sdNext, hix]
  case cancel =>
    intro s hrun hfail hwhere
    have hmay : s.pwrStep = 8 ∨ s.sd.ix = some 0 := hwhere
    rw [exec, execShutdownCancel, State.okMgr_eq, State.when_of (by simp [hrun, hfail]), State.sdCancel]
    exact congrArg (fun t => Host.Outcome.next (s.afterMgr t)) (if_pos (by simpa using hmay))
  case noCancel =>
    intro s hnot
    have hno : (s.running && s.mgr.failAt.isNone) = false := by
      rcases hnot with hstopped | hfail
      · simp [hstopped]
      · rw [Option.isNone_eq_false_iff.mpr hfail, Bool.and_false]
    rw [exec, execShutdownCancel, State.okMgr_eq, State.when_not hno]

end Sys2Proof.Machine
end

section
/-! PROOF. What the displays do (spec/16_displays.md). -/
namespace Sys2Proof.Machine

/-- The panel is ON and a frame is due, and a waiting panel group holds a value for FLIPPEND. -/
def State.flipWaits : State :=
  State.wr DSP_STAT_PSTATE 2
    { State.solIdle with
      now := 1000000000
      pds := { State.solIdle.pds with
        txns := [{ num := 1, party := 1, path := 0, at_ := 0,
                   groups := [{ grp := .dspPanel, vals := [(DSP_STAT_FLIPPEND, 1)], blobs := [], handed := 1 }] }] } }

/-- What a frame start does to the panel's state `s`, once the waiting groups have applied and given `t`. -/
def State.frameStarted (s : State) (v i : Nat) (t : State) : State :=
  let t := t.when (t.rd DSP_PTIM_VPANEL != s.rd DSP_PTIM_VPANEL) (State.dspSupplyFrom s.dspSupply)
  let t := t.when (t.on DSP_STAT_FLIPPEND) State.dspFlip
  ((t.wr DSP_PMEAS_VPAN (min v 0xFFFF)).wr DSP_PMEAS_IPAN (min i 0xFFFF)).dspFlag 0

theorem exec_panelFrameStart {s : State} (hon : s.blockOn 0x10 = true) (hscans : s.panelScans = true)
    (hdue : s.dsp.frame + s.dspFrame ≤ s.now) (v i : Nat) : exec (.panelFrameStart v i) s =
      .next (s.after (s.frameStarted v i ({ s with dsp := { s.dsp with frame := s.now } }.applyDue 0x10 0))) := by
  rw [exec, execPanelFrameStart, State.ok_when (by simp [hon, hscans, hdue]), State.frameStarted]

/-- Refutes O48 by its clause on a frame start: it asks for FLIPPEND before the frame, and the model after the waiting panel groups have
applied. In `State.flipWaits` such a group sets FLIPPEND, the buffers exchange and flag 1 is set. (No dictionary parameter is FLIPPEND, so
no run stages it: the clause lacks that hypothesis.) -/
theorem not_displaysAct : ¬ Obligations.DisplaysAct := by
  rintro ⟨-, -, -, -, -, hframe, -⟩
  have hclaim := hframe State.flipWaits 0 0 (by decide) (by decide) (by decide) (by decide) (by decide)
  rw [exec_panelFrameStart (by decide) (by decide) (by decide)] at hclaim
  have hrd := congrArg (State.rd · DSP_INTSTAT_FLAGS) (Host.Outcome.next.inj hclaim)
  exact absurd hrd (by decide)

end Sys2Proof.Machine
end

section
/-! PROOF. What the event recorder does with a record, and what its commands do (spec/17_event_recorder.md). -/
namespace Sys2Proof.Machine

/-! ## Leases (R396, R397) -/

/-- Serving a resource changes leases only. -/
theorem State.serveLease_eq (r : Nat) (s : State) : s.serveLease r = { s with leases := (s.serveLease r).leases } := by
  unfold State.serveLease
  dsimp only
  split
  · split
    · rfl
    · rfl
  · rfl

/-- A request changes leases only. -/
theorem State.requestLease_eq (r h : Nat) (s : State) : s.requestLease r h = { s with leases := (s.requestLease r h).leases } := by
  unfold State.requestLease
  dsimp only
  split
  · rfl
  · split
    · rfl
    · split
      · rfl
      · rw [State.serveLease_eq]
        rfl

/-- A return changes leases only. -/
theorem State.returnLease_eq (r h : Nat) (s : State) : s.returnLease r h = { s with leases := (s.returnLease r h).leases } := by
  unfold State.returnLease
  dsimp only
  split
  · rw [State.serveLease_eq]
    rfl
  · rfl

@[simp] theorem State.requestLease_evr (r h : Nat) (s : State) : (s.requestLease r h).evr = s.evr := by rw [State.requestLease_eq]
@[simp] theorem State.requestLease_now (r h : Nat) (s : State) : (s.requestLease r h).now = s.now := by rw [State.requestLease_eq]
@[simp] theorem State.requestLease_rd (r h : Nat) (s : State) (f : Fld) : (s.requestLease r h).rd f = s.rd f := by
  rw [State.requestLease_eq]
  rfl
@[simp] theorem State.returnLease_evr (r h : Nat) (s : State) : (s.returnLease r h).evr = s.evr := by rw [State.returnLease_eq]

/-! ## An event without a place (R460) -/

theorem State.loseEvent_evr (r : EvRec) (s : State) : (s.loseEvent r).evr = { s.evr with acc := some (match s.evr.acc with
    | none => EvAcc.of s.now (bit (s.rd EVR_INTSTAT_FLAGS) 1) r
    | some a => a.more s.now r) } := rfl

/-- The accumulator's count is one more, saturating. -/
theorem State.loseEvent_count (r : EvRec) (s : State) :
    (s.loseEvent r).evr.acc.map (·.count) = some (s.evr.acc.elim 1 (fun a => min (a.count + 1) 0xFFFFFFFF)) := by
  rw [State.loseEvent_evr]
  cases s.evr.acc with
  | none => rfl
  | some a => rfl

/-- The accumulator's last code; events of one cycle count in the order of CODE. -/
theorem State.loseEvent_last (r : EvRec) (s : State) : (s.loseEvent r).evr.acc.map (·.last) =
    some (s.evr.acc.elim r.code (fun a => if a.lastAt = s.now + 1 then max a.last r.code else r.code)) := by
  rw [State.loseEvent_evr]
  cases s.evr.acc with
  | none => rfl
  | some a => rfl

theorem State.loseEvent_lostev (r : EvRec) (s : State) :
    (s.loseEvent r).rd EVR_CNT_LOSTEV = min (s.rd EVR_CNT_LOSTEV + 1) (2 ^ EVR_CNT_LOSTEV.wid - 1) := by
  rw [State.loseEvent, State.rd_setFlagBit_other (by decide), State.inc, State.rd_wr_same]
  have hcount : incSat EVR_CNT_LOSTEV.wid (State.rd s EVR_CNT_LOSTEV) = min (s.rd EVR_CNT_LOSTEV + 1) 65535 := incSat_sixteen _
  show incSat EVR_CNT_LOSTEV.wid (State.rd s EVR_CNT_LOSTEV) % 65536 = min (s.rd EVR_CNT_LOSTEV + 1) 65535
  omega

theorem State.loseEvent_flag (r : EvRec) (s : State) : bit ((s.loseEvent r).rd EVR_INTSTAT_FLAGS) 1 = true := by
  rw [State.loseEvent, State.rd_setFlagBit_same, bit_mod_two_pow _ (by decide), bit_setBit_same]

/-! ## The order of the queue (R459) -/

theorem stageIn_perm (now : Nat) (r : EvRec) (q : List StagedRec) : (stageIn now r q).Perm (⟨now + 1, r⟩ :: q) := by
  induction q with
  | nil => exact .refl _
  | cons e q ih =>
    rw [stageIn]
    split
    · exact .refl _
    · exact (ih.cons e).trans (List.Perm.swap _ _ _)

theorem stageIn_head {now : Nat} {r : EvRec} {e : StagedRec} (h : e.at_ ≠ now + 1 ∨ e.ent.code ≤ r.code) (q : List StagedRec) :
    (stageIn now r (e :: q)).head? = some e := by
  have hbehind : ¬ ((e.at_ = now + 1 && r.code < e.ent.code) = true) := by
    simp only [Bool.and_eq_true, decide_eq_true_eq]
    omega
  rw [stageIn, if_neg hbehind]
  rfl

/-! ## Emitting a record (R459–R464) -/

section
variable {s : State} {r : EvRec} (hon : s.domOn 1 = true)
include hon

theorem State.stageEvent_filtered (hsev : r.sev < s.minSev) :
    s.stageEvent r = s.wr EVR_FILTERED_COUNT (min (s.rd EVR_FILTERED_COUNT + 1) 0xFFFFFFFF) := by
  rw [State.stageEvent, if_neg (by simp [hon]), if_pos hsev]

variable (hsev : s.minSev ≤ r.sev)
include hsev

theorem State.stageEvent_discarded (hfull : s.on EVR_STAT_FULL = true) (hclear : s.on EVR_STAT_CLEARING = false) :
    s.stageEvent r = s.wr EVR_DISCARD_COUNT (min (s.rd EVR_DISCARD_COUNT + 1) 0xFFFFFFFF) := by
  rw [State.stageEvent, if_neg (by simp [hon]), if_neg (Nat.not_lt.mpr hsev), if_pos (by simp [hfull, hclear])]

variable (hlog : s.on EVR_STAT_FULL = false ∨ s.on EVR_STAT_CLEARING = true)
include hlog

theorem State.stageEvent_kept : s.stageEvent r = if s.accOld then s.loseEvent r else if s.evrCrowded then s.crowdOut r
    else (fun t : State => if t.on EVR_STAT_CLEARING then t else t.requestLease 0 0x11)
      { s with evr := { s.evr with queue := stageIn s.now r s.evr.queue } } := by
  have hopen : ¬ ((s.on EVR_STAT_FULL && !s.on EVR_STAT_CLEARING) = true) := by
    rcases hlog with hnot | hclear
    · simp [hnot]
    · simp [hclear]
  rw [State.stageEvent, if_neg (by simp [hon]), if_neg (Nat.not_lt.mpr hsev), if_neg hopen]

/-- An event without a place that no event of a higher code has taken in its cycle is lost. -/
theorem State.stageEvent_lost (hcrowded : s.evrCrowded = true)
    (hlast : s.evr.queue.getLast?.all (fun e => decide (e.at_ ≠ s.now + 1 ∨ e.ent.code ≤ r.code)) = true) :
    s.stageEvent r = s.loseEvent r := by
  have hcrowd : s.crowdOut r = s.loseEvent r := by
    rw [State.crowdOut]
    cases hq : s.evr.queue.getLast? with
    | none => rfl
    | some e =>
      rw [hq, Option.all_some, decide_eq_true_eq] at hlast
      refine if_neg ?_
      simp only [Bool.and_eq_true, decide_eq_true_eq]
      omega
  rw [State.stageEvent_kept hon hsev hlog, if_pos hcrowded, hcrowd, ite_self]

/-- An event of a lower code than the one that took the last place in the same cycle takes that place. -/
theorem State.stageEvent_crowds {e : StagedRec} (hacc : s.accOld = false) (hcrowded : s.evrCrowded = true)
    (hlast : s.evr.queue.getLast? = some e) (hat : e.at_ = s.now + 1) (hcode : r.code < e.ent.code) : s.stageEvent r =
      State.loseEvent e.ent { s with evr := { s.evr with queue := stageIn s.now r s.evr.queue.dropLast } } := by
  rw [State.stageEvent_kept hon hsev hlog, if_neg (by simp [hacc]), if_pos hcrowded, State.crowdOut, hlast]
  exact if_pos (by simp [hat, hcode])

/-- An event that finds a place is staged. -/
theorem State.stageEvent_staged (hacc : s.evr.acc = none) (hroom : s.evr.queue.length < 64) : s.stageEvent r =
    (fun t : State => if t.on EVR_STAT_CLEARING then t else t.requestLease 0 0x11)
      { s with evr := { s.evr with queue := stageIn s.now r s.evr.queue } } := by
  have hold : s.accOld = false := by rw [State.accOld, hacc]
  rw [State.stageEvent_kept hon hsev hlog, if_neg (by simp [hold]), if_neg (by simp [State.evrCrowded, hacc, hroom])]

theorem State.stageEvent_staged_queue (hacc : s.evr.acc = none) (hroom : s.evr.queue.length < 64) :
    (s.stageEvent r).evr.queue = stageIn s.now r s.evr.queue := by
  rw [State.stageEvent_staged hon hsev hlog hacc hroom]
  dsimp only
  split
  · rfl
  · rw [State.requestLease_evr]

theorem State.stageEvent_staged_rd (hacc : s.evr.acc = none) (hroom : s.evr.queue.length < 64) (f : Fld) :
    (s.stageEvent r).rd f = s.rd f := by
  rw [State.stageEvent_staged hon hsev hlog hacc hroom]
  dsimp only
  split
  · rfl
  · rw [State.requestLease_rd]
    rfl

end

theorem State.stageEvent_regsKept (r : EvRec) (s : State) : s.regsKept [0x11] (s.stageEvent r) :=
  (State.only.stageEvent r s (List.mem_singleton.mpr rfl)).regs

theorem State.stageEvent_memKept (r : EvRec) (s : State) : s.memKept (s.stageEvent r) :=
  (State.only.stageEvent r s (List.mem_singleton.mpr rfl)).mem

/-- The summary of an accumulator that opened in an earlier cycle takes a free place. -/
theorem State.placeFreed_old {s : State} {a : EvAcc} (hacc : s.evr.acc = some a) (hat : a.at_ ≠ s.now + 1)
    (hroom : s.evr.queue.length < 64) : s.placeFreed = { s with evr := { s.evr with
      queue := s.evr.queue.map (fun e => { e with at_ := 0 }) ++ [⟨0, a.summary s.evr.pcyc⟩], acc := none } } := by
  rw [State.placeFreed, hacc]
  dsimp only
  rw [if_neg hat, State.stageSummary, hacc]
  exact if_pos hroom

/-- Settles O50: each of the ways that a record can go, by the equation of `State.stageEvent` for it. -/
theorem eventsAreStagedFilteredOrLost : Obligations.EventsAreStagedFilteredOrLost := by
  have hcrowd (s : State) (h : s.evr.acc.isSome = true ∨ 64 ≤ s.evr.queue.length) : s.evrCrowded = true := by
    simpa [State.evrCrowded] using h
  refine ⟨?filtered, ?discarded, ?lost, ?staged, ?crowds, ?freed⟩
  case filtered =>
    exact fun s r hon hsev => ⟨State.stageEvent_filtered hon hsev, s.stageEvent_regsKept r, s.stageEvent_memKept r⟩
  case discarded =>
    exact fun s r hon hsev hfull hclear =>
      ⟨State.stageEvent_discarded hon hsev hfull hclear, s.stageEvent_regsKept r, s.stageEvent_memKept r⟩
  case lost =>
    intro s r hon hsev hlog hfull hlast
    refine ⟨?_, ?_, ?_, ?_, ?_, s.stageEvent_regsKept r, s.stageEvent_memKept r⟩
    all_goals rw [State.stageEvent_lost hon hsev hlog (hcrowd s hfull) hlast]
    · rfl
    · exact s.loseEvent_last r
    · exact s.loseEvent_count r
    · exact s.loseEvent_lostev r
    · exact s.loseEvent_flag r
  case staged =>
    intro s r hon hsev hlog hacc hroom
    have hrd := State.stageEvent_staged_rd hon hsev hlog hacc hroom
    have hqueue := State.stageEvent_staged_queue hon hsev hlog hacc hroom
    refine ⟨?_, ?_, hrd _, hrd _, hrd _, s.stageEvent_regsKept r, s.stageEvent_memKept r⟩
    · rw [hqueue]
      exact stageIn_perm _ _ _
    · intro e q hq hfirst
      rw [hqueue, hq]
      exact stageIn_head hfirst q
  case crowds =>
    intro s r e hon hsev hlog hold hfull hlast hat hcode
    refine ⟨?_, ?_, ?_, ?_, s.stageEvent_regsKept r, s.stageEvent_memKept r⟩
    all_goals rw [State.stageEvent_crowds hon hsev hlog hold (hcrowd s hfull) hlast hat hcode]
    · exact stageIn_perm _ _ _
    · exact State.loseEvent_count _ _
    · exact State.loseEvent_lostev _ _
    · exact State.loseEvent_flag _ _
  case freed =>
    intro s a hacc hat hroom
    rw [State.placeFreed_old hacc hat hroom]
    exact ⟨rfl, by simp⟩

/-! ## The commands -/

theorem State.evrLease_evr (s : State) : s.evrLease.evr = s.evr := by
  unfold State.evrLease
  split
  · rfl
  · split
    · exact s.requestLease_evr _ _
    · exact s.returnLease_evr _ _

/-- OPTIME is saved under the lease. -/
theorem State.saveOptime_held {s : State} (h : (s.requestLease 0 0x11).holds 0 0x11 = true) :
    s.saveOptime.evr = { s.evr with nvOptime := s.optime, optDue := false } := by
  rw [State.saveOptime]
  dsimp only
  rw [if_pos h, State.evrLease_evr]
  dsimp only [State.optime]
  rw [State.requestLease_evr, State.requestLease_now]

/-- OPTIME waits for the lease. -/
theorem State.saveOptime_waits {s : State} (h : (s.requestLease 0 0x11).holds 0 0x11 = false) :
    s.saveOptime.evr = { s.evr with optDue := true } := by
  rw [State.saveOptime]
  dsimp only
  rw [if_neg (by simp [h])]
  dsimp only
  rw [State.requestLease_evr]

/-- Settles O51: each command under its own conditions; a save of OPTIME by whether EVR has its lease. -/
theorem eventRecorderCommandsAct : Obligations.EventRecorderCommandsAct := by
  refine ⟨?emit, ?written, ?optimeFirst, ?revoked, ?search, ?rdidx, ?clear, ?noClear, ?erased, ?hevgo, ?noHevgo, ?save, ?saved, ?waits⟩
  case emit =>
    intro s code ps hon hblock hmin hmax hlost hfull
    rw [exec, execEventEmit, State.ok_when (by simp [evListed, hon, hblock, hmin, hmax, hlost, hfull]), State.emit]
  case written =>
    intro s r hon hnext hwrites hopt
    rw [exec, execRecordWritten, State.ok_ifOn hon, State.recordWritten, if_neg (by simp [hopt]), hnext]
    dsimp only
    rw [if_neg (by simp [hwrites])]
  case optimeFirst =>
    intro s hon hopt hheld
    rw [exec, execRecordWritten, State.ok_ifOn hon, State.recordWritten, if_pos (by simp [hopt, hheld])]
  case revoked =>
    intro s cause hon hheld hwrites hnext
    rw [exec, execRecordWriteRevoked, State.ok_when (by simp [hon, hheld, hwrites, hnext])]
  case search =>
    intro s hon
    rw [exec, execLogSearch, State.ok_ifOn hon]
  case rdidx =>
    intro s i hopen
    rw [exec, execRdidx, State.ok_hostWrite hopen]
  case clear =>
    intro s role hon hrole hstill
    rw [exec, execLogClear, State.ok_when (by simpa [hon, hstill] using hrole)]
  case noClear =>
    intro s key role hbad
    have hno : (s.blockOn 0x11 && key = 0xA77A && (role = 2 || role = 3) && s.standstill) = false := by
      rcases hbad with hkey | hmoves
      · simp [hkey]
      · simp [hmoves]
    rw [exec, execLogClear, State.when_not hno, State.ok_eq]
  case erased =>
    intro s hon
    rw [exec, execSectorErased, State.ok_ifOn hon]
  case hevgo =>
    intro s v hopen hxx hsev
    rw [exec, execHevgo, State.ok_hostWrite hopen]
    exact congrArg (fun t => Host.Outcome.next (s.after t)) (if_neg (by simp; omega))
  case noHevgo =>
    intro s v hopen hbad
    rw [exec, execHevgo, State.ok_hostWrite hopen]
    exact congrArg (fun t => Host.Outcome.next (s.after t)) (if_pos (by simpa using hbad))
  case save =>
    intro s hon hdue
    rw [exec, execOptimeSave, State.ok_when (by simp [hon, hdue])]
  case saved =>
    intro s hheld
    rw [State.saveOptime_held hheld]
    exact ⟨rfl, rfl⟩
  case waits =>
    intro s hnot
    rw [State.saveOptime_waits hnot]
    exact ⟨rfl, rfl⟩

end Sys2Proof.Machine
end

section
/-! PROOF. What the commands of the Yulis cascade link do (spec/18_yulis_cascade_link.md). -/
namespace Sys2Proof.Machine

/-- A node with another ID than 0 is no master. -/
theorem State.yulMaster_of_ne {s : State} (h : s.yul.id ≠ 0) : s.yulMaster = false := decide_eq_false h

theorem State.yulMaster_of_eq {s : State} (h : s.yul.id = 0) : s.yulMaster = true := decide_eq_true h

theorem exec_strapChange (v : Nat) (s : State) : exec (.strapChange v) s = .next (s.after (s.yulStraps v)) := by
  rw [exec, execStrapChange, State.ok_eq]

/-- Settles O49: each event under its own conditions, those of a link that passes frames by whether the node is the master. -/
theorem yulisLinkActs : Obligations.YulisLinkActs := by
  refine ⟨?cycle, ?arrival, ?entry, ?return_, ?frameEnd, ?slaveMiss, ?returnMiss, ?swap, ?swapPends, ?trained, ?straps, ?sameStraps⟩
  case cycle =>
    intro s hsends hgrid hnew hstill
    rw [exec, execCycleStart, State.ok_when (by simp [hsends, hgrid, hnew])]
    dsimp only
    rw [State.when_of hstill]
  case arrival =>
    intro s frame hpass hid
    rw [exec, execFrameArrival, State.ok_when (by simp [hpass, State.yulMaster_of_ne hid])]
  case entry =>
    intro s f hpass hid hinc hnew hdue
    rw [exec, execMasterEntryReceived, State.ok_when (by simp [hpass, State.yulMaster_of_ne hid]), hinc]
    dsimp only
    rw [State.when_of (by simp [hnew, hdue])]
  case return_ =>
    intro s frame hpass hid
    rw [exec, execFrameReturn, State.ok_when (by simp [hpass, State.yulMaster_of_eq hid])]
  case frameEnd =>
    intro s hpass
    rw [exec, execNodeFrameEnd, State.ok_when hpass]
  case slaveMiss =>
    intro s d hpass hid hst hdue hpast
    have hlinked : s.yulSt ≠ 5 := hst
    rw [exec, execSlaveMiss, hdue]
    dsimp only
    rw [State.ok_when (by simp [hpass, State.yulMaster_of_ne hid, hlinked, hpast]), State.yulSet]
  case returnMiss =>
    intro s l hsends hsoc hpast hhome hmissed
    rw [exec, execReturnMiss, hsoc]
    dsimp only
    rw [State.ok_when (by simp [hsends, hpast, hhome, hmissed])]
  case swap =>
    intro s v hopen hidle
    rw [exec, execTxswap, State.ok_hostWrite hopen, State.yulTxSwap, if_neg (by simp [hidle])]
    rfl
  case swapPends =>
    intro s v hopen hpends
    rw [exec, execTxswap, State.ok_hostWrite hopen, State.yulTxSwap, if_pos hpends]
  case trained =>
    intro s hon hen hst
    have hlink : s.yulSt = 1 := hst
    rw [exec, execLinkTrained, State.ok_when (by simp [hon, hen, hlink])]
  case straps =>
    intro s v hon hnew
    rw [exec_strapChange, State.yulStraps]
    dsimp only
    rw [if_pos (by simp [hon, hnew]), State.yulSet]
  case sameStraps =>
    intro s v hsame
    rw [exec_strapChange, State.yulStraps]
    dsimp only
    rw [if_neg (by simp [hsame]), State.yulSet]

end Sys2Proof.Machine
end

section
/-! PROOF. What SYS's inputs, outputs and supplies do (spec/19_connectors_electrical_and_mechanical.md). -/
namespace Sys2Proof.Machine

@[simp] theorem bit_putBit_same (x i : Nat) (b : Bool) : bit (putBit x i b) i = b := by
  cases b with
  | true => exact bit_setBit_same x i
  | false => rw [putBit, if_neg Bool.false_ne_true, bit_clrBit]; simp

/-! ## The DQ outputs (R509) -/

section
variable {s : State} {n : Nat} (hn : n < 16)
include hn

/-- An output put to a level that no happening of higher rank bars shows it. -/
theorem State.bit_level_dqPut {r : Nat} (hmay : s.dqMay n r = true) (on : Bool) : bit ((s.dqPut n r on).rd SYS_DQSTAT_LEVEL) n = on := by
  rw [State.dqPut, if_pos hmay, State.rd_wr_same, bit_mod_two_pow _ (show n < SYS_DQSTAT_LEVEL.wid from hn), bit_putBit_same]

/-- An output that trips, no host write of its tick having come before, is switched off and in fault. -/
theorem State.dqTrip_of_dqMay (hmay : s.dqMay n 1 = true) : bit ((s.dqTrip n).rd SYS_DQSTAT_LEVEL) n = false ∧
    bit ((s.dqTrip n).rd SYS_DQSTAT_FLT) n = true := by
  have hfirst : ¬ ((tabGet (0, 0) s.io.dqTick n = (s.now + 1, 3) && !bit (s.rd SYS_DQSTAT_LEVEL) n) = true) := by
    intro h
    have hlast : tabGet (0, 0) s.io.dqTick n = (s.now + 1, 3) := by simpa using (Bool.and_eq_true_iff.mp h).1
    rw [State.dqMay, hlast] at hmay
    exact absurd hmay (by simp)
  rw [State.dqTrip]
  dsimp only
  rw [if_neg hfirst]
  constructor
  · rw [State.rd_wr_other (by decide), State.rd_wr_same, bit_mod_two_pow _ (show n < SYS_DQSTAT_LEVEL.wid from hn), bit_clrBit]
    simp
  · rw [State.rd_wr_same, bit_mod_two_pow _ (show n < SYS_DQSTAT_FLT.wid from hn), bit_setBit_same]

end

/-! ## The supplies (R511) and the digital inputs (Table 19.8) -/

section
variable {s : State} {b i : Nat} (hb : b < 10) (hon : s.domOn 1 = true)
include hb hon

theorem exec_supplyLimit_at (hlim : 125 * vsRated b ≤ 100 * i) (hoff : bit (s.rd SYS_VSSTAT_OFF) b = false) (ms : Nat) :
    exec (.supplyLimit b i ms) s = .next (s.after (if ms < 10 then s.wr SYS_VSSTAT_LIM (setBit (s.rd SYS_VSSTAT_LIM) b) else
      State.emit 0x0030 [b, i] { (s.wr SYS_VSSTAT_LIM (setBit (s.rd SYS_VSSTAT_LIM) b)).wr SYS_VSSTAT_OFF
        (setBit ((s.wr SYS_VSSTAT_LIM (setBit (s.rd SYS_VSSTAT_LIM) b)).rd SYS_VSSTAT_OFF) b) with
          io := { s.io with vsAt := tabSet 0 s.io.vsAt b s.now } })) := by
  rw [exec, execSupplyLimit, State.ok_when (by simp [hb, hon, hlim, hoff])]
  rfl

theorem exec_supplyRetry_due (hoff : bit (s.rd SYS_VSSTAT_OFF) b = true) (hdue : tabGet 0 s.io.vsAt b + 1000000000 ≤ s.now) (ms : Nat) :
    exec (.supplyRetry b i ms) s = .next (s.after (if i < vsRated b ∧ 100 ≤ ms then
      { (s.wr SYS_VSSTAT_LIM (clrBit (s.rd SYS_VSSTAT_LIM) b)).wr SYS_VSSTAT_OFF (clrBit (s.rd SYS_VSSTAT_OFF) b) with
        io := { s.io with vsAt := tabSet 0 s.io.vsAt b 0 } }
      else { s with io := { s.io with vsAt := tabSet 0 s.io.vsAt b s.now } })) := by
  rw [exec, execSupplyRetry, State.ok_when (by simp [hb, hon, hoff, hdue])]
  rfl

end

/-- An input that has stayed at a level for its filter time takes it. -/
theorem exec_diLevelChange_held {s : State} {n held : Nat} (hn : n < 32) (hon : s.domOn 1 = true)
    (hheld : s.diFilter n ≤ if tabGet 0 s.io.filtAt n = 0 then held else min held (s.now + 1 - tabGet 0 s.io.filtAt n)) (high : Bool) :
    exec (.diLevelChange n high held) s = .next (s.after (s.wr SYS_DILVL_LEVEL (putBit (s.rd SYS_DILVL_LEVEL) n high))) := by
  rw [exec, execDiLevelChange]
  rw [State.ok_when (by simp [hn, hon, hheld])]

/-- Settles O29: each command under its own conditions; the outputs by the rank of what happens in the tick, the supplies by their times. -/
theorem inputsOutputsAndSuppliesAct : Obligations.InputsOutputsAndSuppliesAct := by
  refine ⟨?dqset, ?dqsetHeld, ?dqclr, ?dqShows, ?dqBarred, ?trip, ?tripShows, ?limit, ?limitOff, ?retry, ?retryFails, ?analog, ?input,
    ?inputSince⟩
  case dqset =>
    intro s v hopen hfree
    rw [exec, execDqset, State.ok_hostWrite hopen, if_neg (by simp [hfree])]
  case dqsetHeld =>
    intro s v hopen hheld
    rw [exec, execDqset, State.ok_hostWrite hopen, if_pos hheld]
  case dqclr =>
    intro s v hopen
    rw [exec, execDqclr, State.ok_hostWrite hopen]
  case dqShows => exact fun _ _ _ on hn hmay => State.bit_level_dqPut hn hmay on
  case dqBarred =>
    intro s n r on hbarred
    rw [State.dqPut, if_neg (by simp [hbarred])]
  case trip =>
    intro s n i hn hi hwasOn hgood hon
    rw [exec, execDqTrip, State.ok_when (by rcases hwasOn with h | h <;> simp [hn, hi, h, hgood, hon])]
  case tripShows => exact fun _ _ hn hmay => State.dqTrip_of_dqMay hn hmay
  case limit =>
    intro s b i ms hb hon hlim hoff hms
    rw [exec_supplyLimit_at hb hon hlim hoff, if_pos hms]
  case limitOff =>
    intro s b i ms hb hon hlim hoff hms
    rw [exec_supplyLimit_at hb hon hlim hoff, if_neg (Nat.not_lt.mpr hms)]
  case retry =>
    intro s b i ms hb hon hoff hdue hi hms
    rw [exec_supplyRetry_due hb hon hoff hdue, if_pos ⟨hi, hms⟩]
  case retryFails =>
    intro s b i ms hb hon hoff hdue hbad
    rw [exec_supplyRetry_due hb hon hoff hdue, if_neg (by omega)]
  case analog =>
    intro s n val hn hon
    rw [exec, execAnalogFlag, State.ok_when (by simp [hn, hon])]
  case input =>
    intro s n held high hn hon hsince hheld
    exact exec_diLevelChange_held hn hon (by rwa [if_pos hsince]) high
  case inputSince =>
    intro s n held high hn hon hsince hheld hran
    exact exec_diLevelChange_held hn hon (by rw [if_neg hsince]; exact le_min hheld hran) high

end Sys2Proof.Machine
end
